-- ==== Sys2Proof/Word.lean ====
section
/-! DEFINITION. The word types of the NX1664: a byte of a packet, image or ledger entry, and a 32-bit parameter value (spec/00_scope.md R6, spec/15_parameter_map.md). -/

namespace Sys2Proof

/-- One byte of a packet, an image, flash or a ledger entry; bit 0 is the least significant (R6). -/
abbrev Byte := BitVec 8

/-- One parameter value: every parameter has 32 bits (15_parameter_map.md). -/
abbrev Word := BitVec 32

end Sys2Proof
end

