-- ==== Sys2Proof/Syntax.lean ====
section
/-! DEFINITION. The commands and events of the NX1664: one constructor of `Instr` for each row of spec/opcode_table.json, with the operands the spec gives the row. A row that names a command packet (Table 03-6) takes the packet's header fields and its parameter bytes p0, p1, … raw, so that every packet the spec speaks of has a term, the ones of the wrong length included (R51). -/

namespace Sys2Proof

/-- The external clients (Table 03-3). C2, the trigger lists, sends no packet from outside (R60). -/
inductive ExtClient where
  | c0 | c1 | c3
  deriving DecidableEq, Repr

/-- The header of a command packet as a row gives it (Table 03-1): the sender, TAG, the three flags, and
COND_LSN when COND is set. -/
structure CmdHeader where
  client : ExtClient
  tag : BitVec 16
  cond : Option (BitVec 64) := none
  allowProvisional : Bool := false
  quiet : Bool := false
  deriving DecidableEq, Repr

/-- The eight bytes of a USB control request's setup packet. -/
structure Setup where
  requestType : Byte
  request : Byte
  value : BitVec 16
  index : BitVec 16
  length : BitVec 16
  deriving DecidableEq, Repr

/-- The three events of R179 that discard a partly received OUT packet. -/
inductive FunctionReset where
  | busReset | setConfiguration0 | clearHaltOut
  deriving DecidableEq, Repr

/-- A host's request to one of the two hubs (R162, R163, R167, R172, R182): a descriptor by type, index and wLength, the
class descriptor of the hub, and LPM L1 on a downstream port, entered or left. -/
inductive HubRequest where
  | setConfiguration (value : Byte)
  | setRemoteWake
  | clearRemoteWake
  | getDescriptor (type index : Byte) (length : BitVec 16)
  | getHubDescriptor (length : BitVec 16)
  | portL1 (port : Nat) (enter : Bool)
  | other
  deriving DecidableEq, Repr

/-- The swap messages of Table 09-2. -/
inductive Swap where
  | drSwap | prSwap | vconnSwap
  deriving DecidableEq, Repr

/-- A PD message that has no row of its own (R189, R203, R212): an Alert, a message the device does not
support, or a supported message that the port's present state does not expect. `msgType` and `objects`
are d2 and d3 of the violation (R212). -/
inductive OtherMessage where
  | alert
  | unsupported (msgType : Byte) (objects : Nat)
  | unexpected (msgType : Byte) (objects : Nat)
  deriving DecidableEq, Repr

/-- One difference that a die's full state record shows (R123). -/
inductive StateDiff where
  /-- Forge shows the channel on where Hive's policy says off. -/
  | chanOn (ch : Nat)
  /-- Forge shows the channel off where Hive's copy has it on. -/
  | chanOff (ch : Nat)
  /-- A Comb die shows the port attached where Hive's copy does not. -/
  | attached (port pin : Nat) (ra : Bool)
  /-- A Comb die shows the port unattached where Hive's copy has it attached. -/
  | detached (port : Nat)
  /-- Forge shows a trip that Hive has not recorded: its cause as `CHAN_TRIP` d0, current and voltage. -/
  | tripped (ch cause : Nat) (ma mv : BitVec 16)
  /-- Forge shows the channel locked where Hive's copy does not, or free where Hive's copy has it locked. -/
  | locked (ch reason : Nat)
  | unlocked (ch : Nat)
  /-- A Comb die shows a port's data link at a speed that Hive's copy does not have. -/
  | linkSpeed (port speed : Nat)
  /-- A Comb die shows a port's data link suspended, or awake, where Hive's copy does not. -/
  | linkSuspended (port : Nat)
  | linkAwake (port : Nat)
  /-- A Comb die shows no device on a port's data link where Hive's copy has one. -/
  | linkGone (port : Nat)
  /-- The die's copy of Hive's policy differed; the die adopts Hive's view. -/
  | policy
  deriving DecidableEq, Repr

/-- How the bus ended a two-wire transfer (R255, R256, Table 12-2). -/
inductive BusEnd where
  /-- STOP was sent; the bytes read on the bus, read-ahead bytes included. -/
  | stop (bytes : List Byte)
  /-- Reason 1. -/
  | addressNack
  /-- Reason 2; the write bytes that the target ACKed. -/
  | byteNack (acked : Nat)
  deriving DecidableEq, Repr

/-- What a split transaction belongs to (R106, R174, R175): periodic traffic is isochronous or interrupt traffic. -/
inductive SplitKind where
  | isochronous | interrupt | asynchronous
  deriving DecidableEq, Repr

/-- What a Forager slice found (R278 to R282): the test and item, a result of Table 13-3
(0 pass, 1 fail, 2 skipped, 3 aborted), the finding's own detail, and whether the test has items left. -/
structure SliceResult where
  test : Nat
  item : Word
  result : Nat
  detail : BitVec 16
  last : Bool
  deriving DecidableEq, Repr

/-- What the samples of an entry to a sleep state find (R141, R142): the abort point whose sample finds it, and a wake
source of Table 07-4, or a vote that has become set. -/
inductive Latched where
  | source (ap code : Nat)
  | vote (ap bit : Nat)
  deriving DecidableEq, Repr

/-- An entry to a sleep state (R141, R143, R149): what its samples find, and the lanes that fail if a link is trained again. -/
structure SleepEntry where
  latched : List Latched
  failed : BitVec 10
  deriving DecidableEq, Repr

/-- A Spine frame (R12, R102): its sequence number, whether its acknowledgement reaches the sender, and the credits that it
returns. -/
structure SpineFrame where
  seq : BitVec 16
  acked : Bool
  credits : Nat
  deriving DecidableEq, Repr

/-- A training of the upstream link (R165, R166): the SuperSpeed lanes that train, and whether a warm reset preceded it. -/
structure Training where
  lanes : Nat
  warm : Bool
  deriving DecidableEq, Repr

/-- A split transaction of a Transaction Translator (R174): its kind and the number of its pair of splits. -/
structure Split where
  kind : SplitKind
  id : Nat
  deriving DecidableEq, Repr

/-- A value written to `RESET.FUSE_BURN`, and whether the power fails while the bank is being programmed (R80, R81). -/
structure FuseWrite where
  value : Word
  cut : Bool
  deriving DecidableEq, Repr

/-- The rows of spec/opcode_table.json, in the table's order. -/
inductive Instr where
  /-- ECHO (R67). -/
  | echo (h : CmdHeader) (p : List Byte)
  /-- IDENTIFY (R67). -/
  | identify (h : CmdHeader) (p : List Byte)
  /-- RESET (R95). -/
  | reset (h : CmdHeader) (p : List Byte)
  /-- MODE_REQUEST (R284). -/
  | modeRequest (h : CmdHeader) (p : List Byte)
  /-- QUEUE_STATUS (R18). -/
  | queueStatus (h : CmdHeader) (p : List Byte)
  /-- SERVICE_ENTER (R67). -/
  | serviceEnter (h : CmdHeader) (p : List Byte)
  /-- PARAM_GET (R300). -/
  | paramGet (h : CmdHeader) (p : List Byte)
  /-- PARAM_SET (R294). -/
  | paramSet (h : CmdHeader) (p : List Byte)
  /-- PARAM_GET_BLOCK (R293). -/
  | paramGetBlock (h : CmdHeader) (p : List Byte)
  /-- PARAM_STAGE (R297). -/
  | paramStage (h : CmdHeader) (p : List Byte)
  /-- PARAM_COMMIT (R298). -/
  | paramCommit (h : CmdHeader) (p : List Byte)
  /-- PORT_ENABLE (R170). -/
  | portEnable (h : CmdHeader) (p : List Byte)
  /-- PORT_DISABLE (R170). -/
  | portDisable (h : CmdHeader) (p : List Byte)
  /-- PORT_RESET (R171). -/
  | portReset (h : CmdHeader) (p : List Byte)
  /-- PORT_SUSPEND (R172). -/
  | portSuspend (h : CmdHeader) (p : List Byte)
  /-- PORT_RESUME (R172). -/
  | portResume (h : CmdHeader) (p : List Byte)
  /-- PORT_STATUS (R67). -/
  | portStatus (h : CmdHeader) (p : List Byte)
  /-- CHAN_ON (R226). -/
  | chanOn (h : CmdHeader) (p : List Byte)
  /-- CHAN_OFF (R226). -/
  | chanOff (h : CmdHeader) (p : List Byte)
  /-- CHAN_CLEAR_TRIP (R226). -/
  | chanClearTrip (h : CmdHeader) (p : List Byte)
  /-- CHAN_MEASURE (R231). -/
  | chanMeasure (h : CmdHeader) (p : List Byte)
  /-- PD_STATUS (R67). -/
  | pdStatus (h : CmdHeader) (p : List Byte)
  /-- PD_RENEGOTIATE (R197). -/
  | pdRenegotiate (h : CmdHeader) (p : List Byte)
  /-- PD_HARD_RESET (R204). -/
  | pdHardReset (h : CmdHeader) (p : List Byte)
  /-- PD_VDM_SEND (R206). -/
  | pdVdmSend (h : CmdHeader) (p : List Byte)
  /-- PD_MODE_ENTER (R208). -/
  | pdModeEnter (h : CmdHeader) (p : List Byte)
  /-- PD_MODE_EXIT (R211). -/
  | pdModeExit (h : CmdHeader) (p : List Byte)
  /-- TWI_XFER (R254). -/
  | twiXfer (h : CmdHeader) (p : List Byte)
  /-- TWI_RECOVER (R268). -/
  | twiRecover (h : CmdHeader) (p : List Byte)
  /-- TWI_ATTN_READ (R256). -/
  | twiAttnRead (h : CmdHeader) (p : List Byte)
  /-- LEDGER_READ (R329). -/
  | ledgerRead (h : CmdHeader) (p : List Byte)
  /-- LEDGER_MARK (R44). -/
  | ledgerMark (h : CmdHeader) (p : List Byte)
  /-- LEDGER_HEAD (R67). -/
  | ledgerHead (h : CmdHeader) (p : List Byte)
  /-- VOTE_SET (R139). -/
  | voteSet (h : CmdHeader) (p : List Byte)
  /-- VOTE_CLEAR (R139). -/
  | voteClear (h : CmdHeader) (p : List Byte)
  /-- PSTATE_STATUS (R140). -/
  | pstateStatus (h : CmdHeader) (p : List Byte)
  /-- PL_SET (R157). -/
  | plSet (h : CmdHeader) (p : List Byte)
  /-- PAD_RELEASE (R154). -/
  | padRelease (h : CmdHeader) (p : List Byte)
  /-- CFG_READ (R134). -/
  | cfgRead (h : CmdHeader) (p : List Byte)
  /-- CFG_WRITE_BEGIN (R132). -/
  | cfgWriteBegin (h : CmdHeader) (p : List Byte)
  /-- CFG_WRITE_DATA (R132). -/
  | cfgWriteData (h : CmdHeader) (p : List Byte)
  /-- CFG_WRITE_COMMIT (R132). -/
  | cfgWriteCommit (h : CmdHeader) (p : List Byte)
  /-- CFG_APPLY (R135). -/
  | cfgApply (h : CmdHeader) (p : List Byte)
  /-- TEST_RUN (R285). -/
  | testRun (h : CmdHeader) (p : List Byte)
  /-- TEST_STATUS (R285). -/
  | testStatus (h : CmdHeader) (p : List Byte)
  /-- HEALTH_READ (R283). -/
  | healthRead (h : CmdHeader) (p : List Byte)
  /-- HOLD_STATUS (R67). -/
  | holdStatus (h : CmdHeader) (p : List Byte)
  /-- HOLD_TAP_TEST (R241). -/
  | holdTapTest (h : CmdHeader) (p : List Byte)
  /-- TRIG_LOAD (R73). -/
  | trigLoad (h : CmdHeader) (p : List Byte)
  /-- TRIG_ARM (R73). -/
  | trigArm (h : CmdHeader) (p : List Byte)
  /-- TRIG_DISARM (R73). -/
  | trigDisarm (h : CmdHeader) (p : List Byte)
  /-- RESET_CAUSE_CLEAR (R84). -/
  | resetCauseClear (h : CmdHeader) (v : Word)
  /-- RESET_BLOCK_RST_WRITE (R95). -/
  | resetBlockRstWrite (h : CmdHeader) (v : Word)
  /-- FUSE_BURN (R80). -/
  | fuseBurn (h : CmdHeader) (v : FuseWrite)
  /-- SPINE_STAT_CLEAR (R125). -/
  | spineStatClear (h : CmdHeader) (v : Word)
  /-- FORAGER_LOG_CLEAR (R283). -/
  | foragerLogClear (h : CmdHeader) (v : Word)
  /-- TRIG_ENABLE_WRITE (R302). -/
  | trigEnableWrite (h : CmdHeader) (v : Word)
  /-- C0_BULK_OUT_PACKET (R56). -/
  | c0BulkOutPacket (bytes : List Byte)
  /-- C0_PING (R56). -/
  | c0Ping
  /-- C0_BULK_IN (R52). -/
  | c0BulkIn
  /-- INTERRUPT_IN_POLL (R180). -/
  | interruptInPoll
  /-- CONTROL_STANDARD_REQUEST (R177). -/
  | controlStandardRequest (r : Setup)
  /-- CONTROL_CLASS_VENDOR_REQUEST (R177). -/
  | controlClassVendorRequest (r : Setup)
  /-- FUNCTION_BUS_RESET (R179). -/
  | functionBusReset (k : FunctionReset)
  /-- SVC_POINTER_WRITE (R272). -/
  | svcPointerWrite (b : Byte)
  /-- SVC_COMMAND_BYTE (R57). -/
  | svcCommandByte (b : Byte)
  /-- SVC_REPLY_READ (R53). -/
  | svcReplyRead
  /-- SVC_WINDOW_READ (R273). -/
  | svcWindowRead (n : Nat)
  /-- SVC_WINDOW_WRITE (R272). -/
  | svcWindowWrite (b : Byte)
  /-- CMD_SVC_GAP_EXPIRY (R53). -/
  | cmdSvcGapExpiry
  /-- CMD_PORT_SHIFT (R54). -/
  | cmdPortShift (dr : BitVec 10)
  /-- JTAG_IDCODE (R286). -/
  | jtagIdcode
  /-- JTAG_BYPASS (R286). -/
  | jtagBypass
  /-- JTAG_SAMPLE_PRELOAD (R286). -/
  | jtagSamplePreload
  /-- JTAG_EXTEST (R286). -/
  | jtagExtest
  /-- JTAG_INTEST (R286). -/
  | jtagIntest
  /-- JTAG_EXTEST_EXIT (R286). -/
  | jtagExtestExit
  /-- POR (R315). -/
  | por
  /-- POR_RELEASE (R315). -/
  | porRelease (bootSel clkMode : BitVec 2) (testEn : Bool)
  /-- PLL_LOCK (R14). -/
  | pllLock
  /-- PLL_LOCK_RETRY (R90). -/
  | pllLockRetry
  /-- FIRMWARE_AUTH (R77). -/
  | firmwareAuth (ok : Bool) (version : BitVec 16) (badHeader : Bool)
  /-- SPINE_TRAINING (R112). -/
  | spineTraining (lanes : BitVec 10) (rails : BitVec 4)
  /-- DFU_DNLOAD (R78). -/
  | dfuDnload (block : List Byte)
  /-- DFU_GETSTATUS (R78). -/
  | dfuGetstatus
  /-- DFU_CLRSTATUS (R78). -/
  | dfuClrstatus
  /-- DFU_GETSTATE (R78). -/
  | dfuGetstate
  /-- DFU_ABORT (R78). -/
  | dfuAbort
  /-- DFU_UPLOAD (R78). -/
  | dfuUpload
  /-- SVC_IMAGE_DOWNLOAD (R78). -/
  | svcImageDownload (bytes : List Byte)
  /-- DOWNLOAD_AUTH (R78). -/
  | downloadAuth (ok : Bool) (version : BitVec 16)
  /-- BOR (R316). -/
  | bor (supply : Nat)
  /-- PIN_RESET (R91). -/
  | pinReset
  /-- PIN_RESET_RELEASE (R91). -/
  | pinResetRelease
  /-- WDT_EXPIRY (R84). -/
  | wdtExpiry (opcode : BitVec 16)
  /-- ECC_RESET (R85). -/
  | eccReset (addr : BitVec 24)
  /-- ECC_ERROR_NONCRITICAL (R85). -/
  | eccErrorNoncritical (addr : Word)
  /-- PARITY_RESET (R31). -/
  | parityReset (die : Nat) (param : BitVec 16)
  /-- RESET_STRETCH_EXPIRY (R92). -/
  | resetStretchExpiry
  /-- DEVICE_RESET_DELAY (R67). -/
  | deviceResetDelay
  /-- BLOCK_READY (R98). -/
  | blockReady (die : Nat) (block : Option Nat)
  /-- CLOCK_DEAD_TIMEOUT (R90). -/
  | clockDeadTimeout (die block : Nat)
  /-- FRAME_RECEIVED (R102). -/
  | frameReceived (link : Nat) (toHive : Bool) (frame : SpineFrame) (crcOk : Bool)
  /-- LANE_DROP (R105). -/
  | laneDrop (link : Nat) (lanes : BitVec 4) (frames : Word)
  /-- LANE_RETRAIN_ATTEMPT (R107). -/
  | laneRetrainAttempt (link lane : Nat)
  /-- LANE_REJOIN (R107). -/
  | laneRejoin (link lane : Nat)
  /-- RETRAIN_INTERVAL_RESET (R107). -/
  | retrainIntervalReset (link lane : Nat)
  /-- FORGE_LOSS_TIMEOUT (R13). -/
  | forgeLossTimeout
  /-- SB_TICK (R115). -/
  | sbTick (skew : Word)
  /-- TICK_FRAME (R116). -/
  | tickFrame (die : Nat) (skew : Word) (replayed : Bool)
  /-- STATE_DIGEST_EXCHANGE (R123). -/
  | stateDigestExchange (die : Nat) (digest : Word) (diffs : List StateDiff)
  /-- ANSWER (R120). -/
  | answer (die : Nat) (stepping microcode : Byte) (digest : BitVec 64)
  /-- ANSWER_TIMEOUT (R120). -/
  | answerTimeout (die : Nat)
  /-- HOLD_ENTER (R246). -/
  | holdEnter (vveh vstore : BitVec 16)
  /-- GATE_HOLD_CHECK (R246). -/
  | gateHoldCheck (node vstore : BitVec 16)
  /-- RETAINED_WRITE_DONE (R46). -/
  | retainedWriteDone
  /-- FLASH_TAIL_DONE (R46). -/
  | flashTailDone
  /-- HOLD_NODE_COLLAPSE (R250). -/
  | holdNodeCollapse
  /-- WAKE_OFF_START (R249). -/
  | wakeOffStart
  /-- CRANK_ENTER (R159). -/
  | crankEnter
  /-- CRANK_DEEP_SHED (R160). -/
  | crankDeepShed
  /-- CRANK_EXIT (R161). -/
  | crankExit
  /-- UPSTREAM_VBUS_ARRIVAL (R164). -/
  | upstreamVbusArrival
  /-- UPSTREAM_VBUS_LOSS (R164). -/
  | upstreamVbusLoss
  /-- PSTATE_ENTER (R140). -/
  | pstateEnter (entry : SleepEntry)
  /-- WAKE (R149). -/
  | wake (source : Nat) (failed : BitVec 10)
  /-- REENTRY_HOLDOFF_EXPIRY (R145). -/
  | reentryHoldoffExpiry
  /-- PSTATE_ALARM (R147). -/
  | pstateAlarm
  /-- HUB_SUSPEND (R181). -/
  | hubSuspend
  /-- UP_LINK (R165). -/
  | upLink (state speed : Nat) (training : Training)
  /-- UP_LANE_RECOVERY (R166). -/
  | upLaneRecovery (lane : Nat)
  /-- LPM_L1_REQUEST (R167). -/
  | lpmL1Request
  /-- HOST_PORT_POWER (R168). -/
  | hostPortPower (port : Nat) (on : Bool)
  /-- HOST_PORT_RESET (R171). -/
  | hostPortReset (port : Nat)
  /-- HOST_SELECTIVE_SUSPEND (R181). -/
  | hostSelectiveSuspend (port : Nat)
  /-- HOST_PORT_RESUME (R181). -/
  | hostPortResume (port : Nat)
  /-- PORT_RESUME_COMPLETE (R172). -/
  | portResumeComplete (port : Nat)
  /-- DOWNSTREAM_REMOTE_WAKE (R182). -/
  | downstreamRemoteWake (port : Nat)
  /-- PORT_RESET_COMPLETE (R171). -/
  | portResetComplete (port : Nat) (speed : Option Nat)
  /-- SS_LINK_U0 (R173). -/
  | ssLinkU0 (port speed : Nat)
  /-- BABBLE (R184). -/
  | babble (port speed : Nat)
  /-- CONNECT_CHATTER (R184). -/
  | connectChatter (port changes : Nat)
  /-- SS_TRAINING_FAIL (R184). -/
  | ssTrainingFail (port : Nat)
  /-- SS_INACTIVE (R184). -/
  | ssInactive (port : Nat)
  /-- SUSPEND_CURRENT_CHECK (R183). -/
  | suspendCurrentCheck (port : Nat) (average : BitVec 16)
  /-- CYCLE_OFF_EXPIRY (R183). -/
  | cycleOffExpiry (port : Nat)
  /-- TT_START_SPLIT (R174). -/
  | ttStartSplit (port : Nat) (split : Split) (bytes : Nat)
  /-- TT_COMPLETE_SPLIT (R174). -/
  | ttCompleteSplit (port : Nat) (split : Split)
  /-- TT_RESULT_EXPIRY (R174). -/
  | ttResultExpiry (port : Nat)
  /-- CLEAR_TT_BUFFER (R176). -/
  | clearTtBuffer (port : Nat)
  /-- RESET_TT (R176). -/
  | resetTt (port : Nat)
  /-- GET_TT_STATE (R176). -/
  | getTtState (port : Nat)
  /-- STOP_TT (R176). -/
  | stopTt (port : Nat)
  /-- PORT_ATTACH (R186). -/
  | portAttach (port pin : Nat) (ra : Bool)
  /-- PORT_DETACH (R188). -/
  | portDetach (port : Nat)
  /-- VCONN_OVERLOAD (R187). -/
  | vconnOverload (port : Nat) (ma : BitVec 16)
  /-- CABLE_DISCOVERY (R187). -/
  | cableDiscovery (port : Nat)
  /-- RAMP_COMPLETE (R218). -/
  | rampComplete (ch : Nat)
  /-- RESERVATION_ARRIVAL (R199). -/
  | reservationArrival (port : Nat)
  /-- SRC_CAPS_REPEAT (R189). -/
  | srcCapsRepeat (port : Nat)
  /-- REQUEST (R193). -/
  | request (port pos op max : Nat) (rev2 : Bool)
  /-- SAME_RAIL_PS_RDY (R193). -/
  | sameRailPsRdy (port : Nat)
  /-- TRANSITION_START (R200). -/
  | transitionStart (port : Nat) (railOk : Bool)
  /-- VBUS_IN_BAND (R201). -/
  | vbusInBand (port : Nat)
  /-- RAIL_TRANSITION (R201). -/
  | railTransition (port : Nat) (elapsed : BitVec 16)
  /-- PD_CONTRACT (R194). -/
  | pdContract (port : Nat)
  /-- TRANS_MAX_EXPIRY (R202). -/
  | transMaxExpiry (port : Nat) (elapsed : BitVec 16)
  /-- SETTLE_MAX_EXPIRY (R202). -/
  | settleMaxExpiry (port : Nat) (elapsed : BitVec 16)
  /-- HARD_RESET_RECEIVED (R204). -/
  | hardResetReceived (port : Nat)
  /-- HARD_RESET_RESTORE (R204). -/
  | hardResetRestore (port : Nat)
  /-- SOFT_RESET (R189). -/
  | softReset (port : Nat)
  /-- GET_SOURCE_CAP (R189). -/
  | getSourceCap (port : Nat)
  /-- GET_REVISION (R189). -/
  | getRevision (port : Nat)
  /-- SWAP_REQUEST (R189). -/
  | swapRequest (port : Nat) (k : Swap)
  /-- UNSUPPORTED_MESSAGE (R189). -/
  | unsupportedMessage (port : Nat) (k : OtherMessage)
  /-- BIST (R189). -/
  | bist (port : Nat) (carrier : Bool)
  /-- REQUEST_TIMEOUT (R212). -/
  | requestTimeout (port : Nat)
  /-- VDM_RECEIVED (R207). -/
  | vdmReceived (port sop : Nat) (objects : List Word)
  /-- VDM_RESPONSE_TIMEOUT (R206). -/
  | vdmResponseTimeout (port : Nat)
  /-- VDM_SEND_DONE (R206). -/
  | vdmSendDone (port : Nat) (ok : Bool)
  /-- SBU_SWITCH_CLOSE (R210). -/
  | sbuSwitchClose (port : Nat)
  /-- SBU_OVERVOLTAGE (R210). -/
  | sbuOvervoltage (port : Nat) (mv : BitVec 16)
  /-- HARD_SHORT (R216). -/
  | hardShort (ch : Nat) (ma mv : BitVec 16)
  /-- CURRENT_LIMIT_REACHED (R217). -/
  | currentLimitReached (ch : Nat)
  /-- OVERLOAD_TIMEOUT (R217). -/
  | overloadTimeout (ch : Nat) (ma mv : BitVec 16)
  /-- OVER_TEMPERATURE (R217). -/
  | overTemperature (ch : Nat) (ma mv : BitVec 16)
  /-- RAMP_FAULT (R218). -/
  | rampFault (ch : Nat) (ma mv : BitVec 16)
  /-- RETRY_DELAY_EXPIRY (R221). -/
  | retryDelayExpiry (ch : Nat)
  /-- GATE_CHECK_TIMEOUT (R224). -/
  | gateCheckTimeout (ch : Nat) (mv : BitVec 16)
  /-- DISCHARGE_END (R225). -/
  | dischargeEnd (ch : Nat)
  /-- OFF_CHECK_TIMEOUT (R225). -/
  | offCheckTimeout (ch : Nat) (mv : BitVec 16)
  /-- BACKDRIVE (R225). -/
  | backdrive (ch : Nat) (ms : BitVec 16)
  /-- LEG_LEAK (R225). -/
  | legLeak (ch : Nat) (suspect : Byte) (mv : BitVec 16)
  /-- RAIL_LOW (R227). -/
  | railLow (rail : Nat)
  /-- RAIL_HIGH (R227). -/
  | railHigh (rail : Nat)
  /-- RAIL_BACK_IN_BAND (R227). -/
  | railBackInBand (rail : Nat)
  /-- CHARGER_START (R236). -/
  | chargerStart
  /-- CHARGER_STOP (R236). -/
  | chargerStop
  /-- CHARGER_FAULT (R236). -/
  | chargerFault (overvoltage : Bool)
  /-- CELL_BLEED (R237). -/
  | cellBleed (cell : Nat) (on : Bool)
  /-- REFILL_WAKE (R238). -/
  | refillWake
  /-- CELL_SUM_MISMATCH (R240). -/
  | cellSumMismatch (storeTop : Bool) (mv : BitVec 16)
  /-- CELL_DEVIATION (R240). -/
  | cellDeviation (tap : Nat)
  /-- TAP_TEST (R241). -/
  | tapTest (tap : Nat) (mv : BitVec 16)
  /-- HOLD_CELL (R242). -/
  | holdCell (cell signature : Nat)
  /-- CAPACITANCE_ESTIMATE (R243). -/
  | capacitanceEstimate (cell dropMv : Nat)
  /-- ENERGY_THRESHOLD (R244). -/
  | energyThreshold (below : Bool) (energy : BitVec 16)
  /-- TRANSFER_START (R255). -/
  | transferStart (seg : Nat) (sdaLow : Bool)
  /-- TRANSFER_COMPLETE (R255). -/
  | transferComplete (seg : Nat) (e : BusEnd)
  /-- ARBITRATION_LOST (R257). -/
  | arbitrationLost (seg : Nat)
  /-- STRETCH_TIMEOUT (R258). -/
  | stretchTimeout (seg : Nat) (us : Word)
  /-- STRETCH_INSIDE_BYTE (R258). -/
  | stretchInsideByte (seg : Nat)
  /-- STRETCH_HOLD_TIMEOUT (R258). -/
  | stretchHoldTimeout (seg : Nat)
  /-- IN_BAND_REQUEST (R262). -/
  | inBandRequest (seg : Nat) (released : Bool)
  /-- TW_ATTN (R263). -/
  | twAttn (seg : Nat) (status : Nat) (bytes : List Byte)
  /-- MAILBOX_WRITE (R264). -/
  | mailboxWrite (seg : Nat) (bytes : List Byte)
  /-- MAILBOX_OVERFLOW (R264). -/
  | mailboxOverflow (seg : Nat)
  /-- RECOVERY_PULSES (R266). -/
  | recoveryPulses (seg : Nat) (pulses : Nat) (released : Bool)
  /-- POWER_LINK_OFF_EXPIRY (R267). -/
  | powerLinkOffExpiry (seg : Nat)
  /-- POWER_LINK_SETTLE (R267). -/
  | powerLinkSettle (seg : Nat)
  /-- RECOVER_BUS_FREE_WAIT (R268). -/
  | recoverBusFreeWait (seg : Nat) (sdaHigh : Bool)
  /-- FORAGER_CYCLE_START (R279). -/
  | foragerCycleStart
  /-- FORAGER_SLICE (R278). -/
  | foragerSlice (r : SliceResult)
  /-- CFG_ERASE_DONE (R132). -/
  | cfgEraseDone
  /-- CFG_TRAILER_READBACK (R132). -/
  | cfgTrailerReadback (ok : Bool)
  /-- CFG_SESSION_END (R134). -/
  | cfgSessionEnd
  /-- POR_ASSERT (R315). -/
  | porAssert
  /-- RETENTION_LOSS (R94). -/
  | retentionLoss
  /-- REGULATION_END (R217). -/
  | regulationEnd (ch : Nat)
  /-- GATE_CHECK_PASS (R224). -/
  | gateCheckPass (ch : Nat)
  /-- GOODCRC_RECEIVED (R200). -/
  | goodcrcReceived (port : Nat)
  /-- SOFT_RESET_ACCEPTED (R212). -/
  | softResetAccepted (port : Nat)
  /-- DOWNSTREAM_CONNECT_CHANGE (R184). -/
  | downstreamConnectChange (port : Nat) (connected superSpeed : Bool)
  /-- HUB_CONTROL_REQUEST (R182). -/
  | hubControlRequest (ss : Bool) (r : HubRequest)
  /-- TEST_COMPLETE (R285). -/
  | testComplete (passed : Bool) (item : Word)
  /-- PORT_SUSPEND_COMPLETE (R172). -/
  | portSuspendComplete (port : Nat)
  /-- SBU_SWITCH_OPEN (R211). -/
  | sbuSwitchOpen (port : Nat)
  /-- VIO33_LOW (R305). -/
  | vio33Low
  /-- VIO33_RESTORED (R305). -/
  | vio33Restored
  deriving DecidableEq, Repr

end Sys2Proof
end

