-- ==== Sys2Proof/WellFormed.lean ====
section
/-! DEFINITION. Well-formedness of a command or event: each number names something that the device has (Tables 01-1, 01-2, 01-5), and a packet's parameter bytes fit a packet (R49). A meaning meets an ill-formed event by leaving the state as it is. -/

namespace Sys2Proof

/-- PORT1 to PORT16. -/
def portNo (n : Nat) : Bool := decide (1 ≤ n) && decide (n ≤ 16)

/-- CH1 to CH24. -/
def chanNo (n : Nat) : Bool := decide (1 ≤ n) && decide (n ≤ 24)

/-- Cells 1 to 6 of the Honeystore. -/
def cellNo (n : Nat) : Bool := decide (1 ≤ n) && decide (n ≤ 6)

/-- PLEN, the COND_LSN field included, is at most 1012 (R49). -/
def packetFits (h : CmdHeader) (p : List Byte) : Bool :=
  decide (p.length + (if h.cond.isSome then 8 else 0) ≤ 1012)

/-- The number ranges of a row's operands. -/
def Instr.wf (i : Instr) : Bool :=
  match i with
  | .echo h p => packetFits h p
  | .identify h p => packetFits h p
  | .reset h p => packetFits h p
  | .modeRequest h p => packetFits h p
  | .queueStatus h p => packetFits h p
  | .serviceEnter h p => packetFits h p
  | .paramGet h p => packetFits h p
  | .paramSet h p => packetFits h p
  | .paramGetBlock h p => packetFits h p
  | .paramStage h p => packetFits h p
  | .paramCommit h p => packetFits h p
  | .portEnable h p => packetFits h p
  | .portDisable h p => packetFits h p
  | .portReset h p => packetFits h p
  | .portSuspend h p => packetFits h p
  | .portResume h p => packetFits h p
  | .portStatus h p => packetFits h p
  | .chanOn h p => packetFits h p
  | .chanOff h p => packetFits h p
  | .chanClearTrip h p => packetFits h p
  | .chanMeasure h p => packetFits h p
  | .pdStatus h p => packetFits h p
  | .pdRenegotiate h p => packetFits h p
  | .pdHardReset h p => packetFits h p
  | .pdVdmSend h p => packetFits h p
  | .pdModeEnter h p => packetFits h p
  | .pdModeExit h p => packetFits h p
  | .twiXfer h p => packetFits h p
  | .twiRecover h p => packetFits h p
  | .twiAttnRead h p => packetFits h p
  | .ledgerRead h p => packetFits h p
  | .ledgerMark h p => packetFits h p
  | .ledgerHead h p => packetFits h p
  | .voteSet h p => packetFits h p
  | .voteClear h p => packetFits h p
  | .pstateStatus h p => packetFits h p
  | .plSet h p => packetFits h p
  | .padRelease h p => packetFits h p
  | .cfgRead h p => packetFits h p
  | .cfgWriteBegin h p => packetFits h p
  | .cfgWriteData h p => packetFits h p
  | .cfgWriteCommit h p => packetFits h p
  | .cfgApply h p => packetFits h p
  | .testRun h p => packetFits h p
  | .testStatus h p => packetFits h p
  | .healthRead h p => packetFits h p
  | .holdStatus h p => packetFits h p
  | .holdTapTest h p => packetFits h p
  | .trigLoad h p => packetFits h p
  | .trigArm h p => packetFits h p
  | .trigDisarm h p => packetFits h p
  | .resetCauseClear _ _ => true
  | .resetBlockRstWrite _ _ => true
  | .fuseBurn _ _ => true
  | .spineStatClear _ _ => true
  | .foragerLogClear _ _ => true
  | .trigEnableWrite _ _ => true
  | .c0BulkOutPacket bytes => decide (bytes.length ≤ 512)
  | .c0Ping => true
  | .c0BulkIn => true
  | .interruptInPoll => true
  | .controlStandardRequest _ => true
  | .controlClassVendorRequest _ => true
  | .functionBusReset _ => true
  | .svcPointerWrite _ => true
  | .svcCommandByte _ => true
  | .svcReplyRead => true
  | .svcWindowRead _ => true
  | .svcWindowWrite _ => true
  | .cmdSvcGapExpiry => true
  | .cmdPortShift _ => true
  | .jtagIdcode => true
  | .jtagBypass => true
  | .jtagSamplePreload => true
  | .jtagExtest => true
  | .jtagIntest => true
  | .jtagExtestExit => true
  | .por => true
  | .porRelease _ _ _ => true
  | .pllLock => true
  | .pllLockRetry => true
  | .firmwareAuth _ _ _ => true
  | .spineTraining _ _ => true
  | .dfuDnload _ => true
  | .dfuGetstatus => true
  | .dfuClrstatus => true
  | .dfuGetstate => true
  | .dfuAbort => true
  | .dfuUpload => true
  | .svcImageDownload _ => true
  | .downloadAuth _ _ => true
  | .bor supply => decide (supply ≤ 1)
  | .pinReset => true
  | .pinResetRelease => true
  | .wdtExpiry _ => true
  | .eccReset _ => true
  | .eccErrorNoncritical _ => true
  | .parityReset die _ => decide (die ≤ 3)
  | .resetStretchExpiry => true
  | .deviceResetDelay => true
  | .blockReady die _ => decide (die ≤ 3)
  | .clockDeadTimeout die block => decide (die ≤ 3) && decide (block ≤ 17)
  | .frameReceived link _ _ _ => decide (link ≤ 2)
  | .laneDrop link _ _ => decide (link ≤ 2)
  | .laneRetrainAttempt link lane => decide (link ≤ 2) && decide (lane ≤ 3)
  | .laneRejoin link lane => decide (link ≤ 2) && decide (lane ≤ 3)
  | .retrainIntervalReset link lane => decide (link ≤ 2) && decide (lane ≤ 3)
  | .forgeLossTimeout => true
  | .sbTick _ => true
  | .tickFrame die _ _ => decide (die ≤ 3)
  | .stateDigestExchange die _ _ => decide (die ≤ 3)
  | .answer die _ _ _ => decide (die ≤ 3)
  | .answerTimeout die => decide (die ≤ 3)
  | .holdEnter _ _ => true
  | .gateHoldCheck _ _ => true
  | .retainedWriteDone => true
  | .flashTailDone => true
  | .holdNodeCollapse => true
  | .wakeOffStart => true
  | .crankEnter => true
  | .crankDeepShed => true
  | .crankExit => true
  | .upstreamVbusArrival => true
  | .upstreamVbusLoss => true
  | .pstateEnter _ => true
  | .wake source _ => (decide (1 ≤ source) && decide (source ≤ 9))
  | .reentryHoldoffExpiry => true
  | .pstateAlarm => true
  | .hubSuspend => true
  | .upLink _ _ training => decide (training.lanes ≤ 2)
  | .upLaneRecovery lane => decide (lane ≤ 1)
  | .lpmL1Request => true
  | .hostPortPower port _ => portNo port
  | .hostPortReset port => portNo port
  | .hostSelectiveSuspend port => portNo port
  | .hostPortResume port => portNo port
  | .portResumeComplete port => portNo port
  | .downstreamRemoteWake port => portNo port
  | .portResetComplete port _ => portNo port
  | .ssLinkU0 port _ => portNo port
  | .babble port _ => portNo port
  | .connectChatter port _ => portNo port
  | .ssTrainingFail port => portNo port
  | .ssInactive port => portNo port
  | .suspendCurrentCheck port _ => portNo port
  | .cycleOffExpiry port => portNo port
  | .ttStartSplit port _ _ => portNo port
  | .ttCompleteSplit port _ => portNo port
  | .ttResultExpiry port => portNo port
  | .clearTtBuffer port => portNo port
  | .resetTt port => portNo port
  | .getTtState port => portNo port
  | .stopTt port => portNo port
  | .portAttach port pin _ => portNo port && (pin == 1 || pin == 2)
  | .portDetach port => portNo port
  | .vconnOverload port _ => portNo port
  | .cableDiscovery port => portNo port
  | .rampComplete ch => chanNo ch
  | .reservationArrival port => portNo port
  | .srcCapsRepeat port => portNo port
  | .request port pos _ _ _ => portNo port && decide (pos ≤ 15)
  | .sameRailPsRdy port => portNo port
  | .transitionStart port _ => portNo port
  | .vbusInBand port => portNo port
  | .railTransition port _ => portNo port
  | .pdContract port => portNo port
  | .transMaxExpiry port _ => portNo port
  | .settleMaxExpiry port _ => portNo port
  | .hardResetReceived port => portNo port
  | .hardResetRestore port => portNo port
  | .softReset port => portNo port
  | .getSourceCap port => portNo port
  | .getRevision port => portNo port
  | .swapRequest port _ => portNo port
  | .unsupportedMessage port _ => portNo port
  | .bist port _ => portNo port
  | .requestTimeout port => portNo port
  | .vdmReceived port sop _ => portNo port && decide (sop ≤ 2)
  | .vdmResponseTimeout port => portNo port
  | .vdmSendDone port _ => portNo port
  | .sbuSwitchClose port => portNo port
  | .sbuOvervoltage port _ => portNo port
  | .hardShort ch _ _ => chanNo ch
  | .currentLimitReached ch => chanNo ch
  | .overloadTimeout ch _ _ => chanNo ch
  | .overTemperature ch _ _ => chanNo ch
  | .rampFault ch _ _ => chanNo ch
  | .retryDelayExpiry ch => chanNo ch
  | .gateCheckTimeout ch _ => chanNo ch
  | .dischargeEnd ch => chanNo ch
  | .offCheckTimeout ch _ => chanNo ch
  | .backdrive ch _ => chanNo ch
  | .legLeak ch _ _ => chanNo ch
  | .railLow rail => decide (rail ≤ 3)
  | .railHigh rail => decide (rail ≤ 3)
  | .railBackInBand rail => decide (rail ≤ 3)
  | .chargerStart => true
  | .chargerStop => true
  | .chargerFault _ => true
  | .cellBleed cell _ => cellNo cell
  | .refillWake => true
  | .cellSumMismatch _ _ => true
  | .cellDeviation tap => decide (tap ≤ 6)
  | .tapTest tap _ => decide (tap ≤ 6)
  | .holdCell cell signature => cellNo cell && (decide (1 ≤ signature) && decide (signature ≤ 5))
  | .capacitanceEstimate cell _ => cellNo cell
  | .energyThreshold _ _ => true
  | .transferStart seg _ => decide (seg ≤ 4)
  | .transferComplete seg _ => decide (seg ≤ 4)
  | .arbitrationLost seg => decide (seg ≤ 4)
  | .stretchTimeout seg _ => decide (seg ≤ 4)
  | .stretchInsideByte seg => decide (seg ≤ 4)
  | .stretchHoldTimeout seg => decide (seg ≤ 4)
  | .inBandRequest seg _ => decide (seg ≤ 4)
  | .twAttn seg status _ => decide (seg ≤ 4) && decide (status ≤ 2)
  | .mailboxWrite seg _ => decide (seg ≤ 4)
  | .mailboxOverflow seg => decide (seg ≤ 4)
  | .recoveryPulses seg _ _ => decide (seg ≤ 4)
  | .powerLinkOffExpiry seg => decide (seg ≤ 4)
  | .powerLinkSettle seg => decide (seg ≤ 4)
  | .recoverBusFreeWait seg _ => decide (seg ≤ 4)
  | .foragerCycleStart => true
  | .foragerSlice _ => true
  | .cfgEraseDone => true
  | .cfgTrailerReadback _ => true
  | .cfgSessionEnd => true
  | .porAssert => true
  | .retentionLoss => true
  | .regulationEnd ch => chanNo ch
  | .gateCheckPass ch => chanNo ch
  | .goodcrcReceived port => portNo port
  | .softResetAccepted port => portNo port
  | .downstreamConnectChange port _ _ => portNo port
  | .hubControlRequest _ _ => true
  | .testComplete _ _ => true
  | .portSuspendComplete port => portNo port
  | .sbuSwitchOpen port => portNo port
  | .vio33Low => true
  | .vio33Restored => true

end Sys2Proof
end

