-- ==== Sys2Proof/Decode.lean ====
section
/-! DEFINITION. Decoding of table words: no row of spec/opcode_table.json gives bits, so that no word spells a command. -/

namespace Sys2Proof

/-- The command that a word spells by the table's bits: none, for the table gives no row bits
(spec/opcode_table.json, every row's `fields` is empty). -/
def decodeTableWord (_nbits _w : Nat) : Option Instr := none

end Sys2Proof
end

