-- ==== Sys2Proof/Config.lean ====
section
/-! DEFINITION. The free values: constants without a body, so that no proof can see a value the spec leaves open (assumption log 1 and 2). -/

namespace Sys2Proof.Config

/-- A fresh analog measurement or other value outside the promise (R39, R300), one for each value of
the state's counter `free`. DESIGN CHOICE, log 1: the spec gives no value; safe. -/
opaque measured : Nat → Word

/-- The microseconds that pass between two ledger appends, one for each value of the counter `free`
(R33: sampled when the entry is appended). DESIGN CHOICE, log 2; safe. -/
opaque elapsed : Nat → Nat

/-- Whether a power of so many 0.01 W, no whole number of 0.1 W, is written as the upper neighbour (log 21): the same for one
power always, so that entries stay a function of the external ones (R38). -/
opaque roundsUp : Nat → Bool

/-- The content of the descriptors of the DFU device of the ROM, by type and index (R78; log 89). -/
opaque dfuDescriptor : Nat → Nat → List Byte

/-- The Forager's health-record measured value in a test's own unit (Table 13-3), where the spec names
no unit's value; log 1. -/
opaque healthValue : Nat → Word

/-- The JTAG IDCODE, which the spec does not give (R286); log 1. -/
opaque idcode : Word

end Sys2Proof.Config
end

