-- ==== Sys2Proof/Machine/State.lean ====
section
/-! DEFINITION. The state of the NX1664 as plain data: every register, queue, buffer, counter, mode and latch that spec/ gives the device, and the queue of commands that are waiting; the two stop reasons; the state right after reset. Fields that are the model's own are named so in their docstrings. -/

namespace Sys2Proof.Machine

/-- The model stops with no fault: the spec gives every row an effect (assumption log 3). -/
inductive Fault where
  /-- Raised by nobody; kept so that the interface has a reason type with a name. Safe. -/
  | none
  deriving DecidableEq, Repr

/-- Why a row has no meaning. -/
inductive Refusal where
  /-- Raised by an arm of Dispatch.lean whose row has no meaning yet. Safe: the model stops. -/
  | notModelled (mnemonic : String)
  deriving DecidableEq, Repr

/-- The twelve modes of Table 01-6. IDLE is never recorded and never reported (R24): the field `mode` keeps the mode that it was
entered from, and `State.modeNow` tells when the device is in it (assumption log 108). -/
inductive Mode where
  | off | boot | safe | run | idle | sleep | deepSleep | busSuspend | standalone | banked | service | crank
  deriving DecidableEq, Repr

/-- The command clients of Table 03-3, C2 (the trigger lists) among them. -/
inductive Client where
  | c0 | c1 | c2 | c3
  deriving DecidableEq, Repr

/-- The reply statuses of Table 03-4. -/
inductive Status where
  | done | pending | doneWithSurplus | formatError | crcError | unknownOpcode | badParameter | badIndex
  | stale | wrongMode | busySubject | locked | refusedBudget | refusedPolicy | fault | dieAbsent | resetting
  deriving DecidableEq, Repr

/-- The opcodes of Table 03-6. -/
inductive Opcode where
  | echo | identify | reset | modeRequest | queueStatus | serviceEnter
  | paramGet | paramSet | paramGetBlock | paramStage | paramCommit
  | portEnable | portDisable | portReset | portSuspend | portResume | portStatus
  | chanOn | chanOff | chanClearTrip | chanMeasure
  | pdStatus | pdRenegotiate | pdHardReset | pdVdmSend | pdModeEnter | pdModeExit
  | twiXfer | twiRecover | twiAttnRead
  | ledgerRead | ledgerMark | ledgerHead
  | voteSet | voteClear | pstateStatus | plSet | padRelease
  | cfgRead | cfgWriteBegin | cfgWriteData | cfgWriteCommit | cfgApply
  | testRun | testStatus | healthRead
  | holdStatus | holdTapTest
  | trigLoad | trigArm | trigDisarm
  deriving DecidableEq, Repr

/-- The ledger kinds of Table 02-3. -/
inductive Kind where
  | boot | modeChange | resetBlock | agreeRound | agreeFail | dieQuarantine | laneDrop | laneRejoin
  | skewResync | cfgApplied | cfgReverted | cfgSessionEnd | cmdApplied | cmdComplete | trigFired
  | portAttach | portDetach | portEnabled | portDisabled | portSuspend | portResume | portSpeed
  | upLink | upLanes | pdContract | pdHardreset | pdVdm | pdMode | provIssued | provConfirmed
  | provWithdrawn | railTransition | chanOn | chanOff | chanTrip | chanRetry | chanLocked | gateFail
  | legLeak | allotChange | holdEnter | holdCell | holdTapOpen | holdShed | twAttn | twMbox | twHeld
  | twRecovered | twSurplus | pstateEnter | pstateAbandon | wake | padRelease | plChange | violation
  | fault | foragerFail
  deriving DecidableEq, Repr

/-- One ledger entry of the current boot (Table 02-1). The CRC is computed when the entry is written
out as bytes. -/
structure Entry where
  count : Nat
  uptime : Nat
  external : Bool
  die : Nat
  block : Nat
  kind : Kind
  subject : Nat
  tag : BitVec 16
  /-- d0 to d9. -/
  data : List Byte
  deriving DecidableEq, Repr

/-- A record of Q61 (Table 02-5) with the slot it took (R330). -/
structure LossRecord where
  slot : Nat
  first : Nat
  last : Nat
  lost : Nat
  /-- Losses per kind group, six numbers. -/
  groups : List Nat
  deriving DecidableEq, Repr

/-- A message of Q62 (Table 09-7) with its slot and the count of its `PD_VDM` entry (R68, R330). -/
structure VdmMessage where
  slot : Nat
  entry : Nat
  port : Nat
  sop : Nat
  unstructured : Bool
  response : Bool
  objects : List Word
  deriving DecidableEq, Repr

/-- A latched fault that is outstanding (R290): its code, subject, and d3 where that tells two of them
apart. -/
structure OpenFault where
  code : Nat
  subject : Nat
  d3 : Nat
  deriving DecidableEq, Repr

/-- A well-formed command packet (Table 03-1) as the interpreter takes it. -/
structure Command where
  op : Opcode
  tag : BitVec 16
  flags : Byte
  cond : Option (BitVec 64)
  params : List Byte
  crc : BitVec 16
  /-- It waits behind a pending CFG_APPLY and answers `BUSY_SUBJECT` (R136). -/
  behind : Bool := false
  deriving DecidableEq, Repr

/-- What a malformed packet leaves behind (R65, Table 14-1): the violation code, the status, and what was
received of TAG, OPCODE and FLAGS. -/
structure Malformed where
  code : Nat
  status : Status
  tag : BitVec 16
  opcode : Option (BitVec 16)
  flags : Option Byte
  received : Nat
  /-- Its reply is delivered before the replies that wait (chapter 08, the reset of the management function). -/
  first : Bool := false
  deriving DecidableEq, Repr

/-- One input of the interpreter (R40, R59). -/
inductive Input where
  | command (c : ExtClient) (p : Command)
  | malformed (c : ExtClient) (m : Malformed)
  | event (i : Instr)
  /-- The report of detector events lost on a die (R111). -/
  | lost (die count : Nat)
  /-- A comparison of a die's copy of uptime that found excess skew while no input was taken: the consecutive count
  and the skew (R116). -/
  | skew (die count : Nat) (skew : Word)
  deriving DecidableEq, Repr

/-- A reply packet waiting in Q52, Q53 or Q55 (Table 03-2). -/
structure Reply where
  opcode : BitVec 16
  status : Status
  tag : BitVec 16
  lsn : BitVec 64
  payload : List Byte
  deriving DecidableEq, Repr

/-- The subject of a pending operation (R66, R136). Port n and channel n, n from 1 to 16, are one
subject: `port n`. -/
inductive Subject where
  | nothing
  | port (n : Nat)
  | aux (ch : Nat)
  | segment (n : Nat)
  | honeystore
  | configuration
  | session
  | die (n : Nat)
  | test
  deriving DecidableEq, Repr

/-- A pending operation: what its `CMD_COMPLETE` needs (Table 02-3, R66). -/
structure PendingOp where
  subject : Subject
  /-- SUBJECT of its entries (R36). -/
  number : Nat
  op : Opcode
  client : Client
  tag : BitVec 16
  /-- Sequence count of its `CMD_APPLIED`. -/
  count : Nat
  quiet : Bool
  deriving DecidableEq, Repr

/-- The last answer a transport, a bus partner or the JTAG port was given: what is seen on the wire, apart
from replies in their queues. A model's own field: it holds the newest answer only (assumption log 5). -/
inductive Answer where
  | nothing
  | ack | nak | nyet | stall | err | timeout
  /-- Bytes delivered to the reader. -/
  | data (bytes : List Byte)
  /-- A value captured by a JTAG data register of the given length. -/
  | capture (bits : Nat) (value : Nat)
  /-- A PD message sent on the port: its Table 09-2 name as a code of `PdMessage`. -/
  | pd (port : Nat) (msg : Nat)
  deriving DecidableEq, Repr

/-- Where the device stands between supply rise and normal running (Table 04-7). -/
inductive Phase where
  /-- POR asserted: no state outside flash, fuses and the retained memory in retention (R315). -/
  | unpowered
  /-- Step 2: Ember up, waiting for POR release (R315). -/
  | porHeld
  /-- TEST_EN was high at POR release (R311). -/
  | testHeld
  /-- CLK_MODE 0b11: no clock is started (R76). -/
  | noClock
  /-- Step 4: reference and root PLL starting (R90). -/
  | starting
  /-- Step 6 with BOOT_SEL 0b01: authentication is running (R77). -/
  | authenticating
  /-- Step 6 with BOOT_SEL 0b10 or 0b11: waiting for a download (R78). -/
  | downloading
  /-- The downloaded image is being authenticated (R78). -/
  | verifying
  /-- Step 7: Spine training (R112). -/
  | training
  /-- Step 8 onward: the interpreter exists and `BOOT` has been appended. -/
  | up
  /-- RESET_IN_N holds L1 (R91). -/
  | pinHeld
  /-- BANKED before `BOOT`: the start goes no further (R25, R246). -/
  | heldUp
  /-- OFF (Table 01-6). -/
  | off
  deriving DecidableEq, Repr

/-- The always-on domain (Table 01-4, Table 04-3). -/
structure Ember where
  /-- Whole milliseconds of uptime; SB_TICK marks each (R115). -/
  ms : Nat
  /-- Microseconds within the millisecond (R5, R15). -/
  sub : Nat
  /-- The fractional accumulator: what the LPRC has counted beyond the microsecond, in 2^-16 µs (R15). -/
  frac : Nat
  cause : BitVec 16
  detail : Word
  /-- `RESET.STRETCH`, ms. -/
  stretch : Nat
  /-- The stretch in force since the reset began (R92). -/
  stretchNow : Nat
  bkp : Vector Word 8
  /-- The 4 KiB retained memory (Table 04-5); an unlisted byte reads 0x00. -/
  retained : List Host.Cell
  /-- The retention monitor: the supply has not fallen below 2.0 V (R94). -/
  retentionHeld : Bool
  /-- `CLOCK.LPRC_TRIM` (R16). -/
  lprcTrim : Word
  bootSel : BitVec 2
  clkMode : BitVec 2
  testEn : Bool
  /-- The customer fuse bank, one code per pad (R80, R307). -/
  fuseBank : List Byte
  /-- `RESET.FUSE_BURN`: 0 unprogrammed, 1 programmed, 2 spent (R81). -/
  fuseBurn : Nat
  /-- The map the sequencer last read is the customer bank (R80). -/
  fuseInForce : Bool
  /-- The Ember pad latches are engaged (R152). -/
  latched : Bool
  /-- Staged pad writes: (channel, on), rising by channel (R153). -/
  staged : List (Nat × Bool)
  /-- RESET_OUT_N is driven low (R92). -/
  resetOutLow : Bool
  /-- RESET_IN_N is held low (R91). -/
  resetInLow : Bool
  /-- The start that runs is an L0 start (R100). -/
  cold : Bool
  /-- VIO33 is below 2.7 V (R305). -/
  vio33Low : Bool
  deriving DecidableEq, Repr

/-- What production put into the part (Table 15-3) and what the running firmware is. -/
structure Ident where
  serial : BitVec 64
  /-- Firmware version of the ROM. -/
  romVersion : BitVec 16
  /-- The running firmware is flash firmware (Table 03-6, `IDENTIFY` r6). -/
  flashFirmware : Bool
  /-- Version of the running firmware. -/
  version : BitVec 16
  /-- Hive's compatibility major and minor (Table 05-3), one byte as the microcode byte. -/
  compat : Byte
  /-- Microcode version byte of each die (`IDENTIFY` r8-11). -/
  microcode : Vector Byte 4
  /-- Stepping of each die (ASCII). -/
  stepping : Vector Byte 4
  /-- Flash authentication failed in this boot, for a bad image header or not; it is appended after `BOOT` (R77,
  R101). -/
  authFailed : Option Bool
  deriving DecidableEq, Repr

/-- A list firing that an appended entry has called for (R70, R71): the list, the entry's count and tag, and
the packets as they stood at the match. -/
structure Firing where
  list : Nat
  count : Nat
  tag : BitVec 16
  packets : List Command
  deriving DecidableEq, Repr

/-- The ledger (chapter 02). -/
structure Ledger where
  boot : BitVec 16
  /-- Count of the next entry; 0 before `BOOT`. -/
  next : Nat
  /-- Q60, newest first, at most 4096. -/
  ring : List Entry
  /-- Count of the read mark (R44). -/
  mark : Nat
  /-- Q61, oldest first, at most 64 (R45). -/
  q61 : List LossRecord
  q61Next : Nat
  /-- The newest record of Q61 takes the losses until the mark changes (R45). -/
  q61Open : Bool
  /-- Q62, oldest first, at most 32 (R22). -/
  q62 : List VdmMessage
  q62Next : Nat
  /-- `VDM.DROPS` and `VDM.ATTENTIONS`. -/
  vdmDrops : Nat
  attentions : Nat
  /-- Entries lost this boot (`LEDGER.LOST`). -/
  lost : Nat
  /-- External entries this boot (`LEDGER.EXTERNAL`). -/
  external : Nat
  /-- `SYS.VIOLATIONS`. -/
  violations : Nat
  lastViolation : Nat
  lastFault : Nat
  /-- Latched faults outstanding, oldest first (R290). -/
  openFaults : List OpenFault
  /-- `LEDGER.TAIL` and `LEDGER.RETAINED` as set at boot. -/
  tailWord : Word
  retainedWord : Word
  /-- Model's own, within a step: the tag that appended entries carry (R36, R289). -/
  tag : BitVec 16
  /-- Model's own, within a step: list firings that appended entries have called for and that have not run
  yet, in order. -/
  fires : List Firing
  deriving DecidableEq, Repr

/-- The transports of the external clients and the arbiter (chapter 03). -/
structure Transports where
  /-- Inputs waiting in stamp order (R59): Q48, Q49 and Q51 are its packets by client; events that arrive
  while no input is taken wait here too (assumption log 6). -/
  waiting : List Input
  /-- Q52, Q53, Q55, oldest first. -/
  replies0 : List Reply
  replies1 : List Reply
  replies3 : List Reply
  /-- Bytes of the packet being assembled on C0, C1 and C3. -/
  part0 : List Byte
  part1 : List Byte
  part3 : List Byte
  /-- Bytes already sent of the oldest reply on C0 and C1, C3. -/
  sent0 : Nat
  sent1 : Nat
  sent3 : Nat
  /-- The SVC window pointer (R272). -/
  svcPointer : Byte
  /-- The snapshot of window 0x00 to 0x3F that the read transaction is served from (R273). -/
  svcSnapshot : List Byte
  /-- Bytes of the image received at pointer 0x10 in the SVC download (R78). -/
  svcImage : List Byte
  /-- The result code that register 0x00 shows after a download (R78). -/
  svcDownload : Nat
  /-- C3 capture: the byte requested by the previous shift, when valid, and bit 9 as captured (R54, R58). -/
  captureByte : Option Byte
  captureRoom : Bool
  /-- The JTAG instruction in force: 0 IDCODE, 1 BYPASS, 2 SAMPLE/PRELOAD, 3 EXTEST, 4 INTEST, 5 CMD_PORT. -/
  jtag : Nat
  /-- The newest answer on a wire (assumption log 5). -/
  answer : Answer
  /-- Commands admitted from C0, C1 and C3 (`CMD.ADMITTED`) and malformed packets (`CMD.MALFORMED`). -/
  admitted : Nat
  malformed : Nat
  /-- DFU: the download state machine (0 dfuIDLE, 1 dfuDNLOAD-IDLE, 2 dfuMANIFEST, 3 dfuERROR) and its
  status byte (R78). -/
  dfuState : Nat
  dfuStatus : Nat
  dfuImage : List Byte
  deriving DecidableEq, Repr

/-- One loaded trigger list (Table 03-7). -/
structure TrigList where
  armed : Bool
  fromLoad : Bool
  kinds : BitVec 256
  subjects : BitVec 32
  packets : List Command
  bodyLen : Nat
  deriving DecidableEq, Repr

/-- What a load of an image gives (R130). -/
structure Loaded where
  /-- 0 slot A, 1 slot B, 2 ROM defaults. -/
  slot : Nat
  seq : Word
  crc : Word
  len : Nat
  /-- The parameter records that apply: (ID × 256 + index, value), in section order. -/
  values : List (Nat × Word)
  /-- The lists of the image by number. -/
  lists : List (Nat × TrigList)
  /-- PD capability records: port, mask, four currents in 50 mA (Table 09-4). -/
  caps : List (Nat × Nat × List Nat)
  /-- Allotment records: port, class, ceiling (Table 10-3). -/
  allot : List (Nat × Nat × Nat)
  /-- The pad-fuse intents, when present and well formed. -/
  intents : Option (List Byte)
  /-- Where the pad-fuse intents section lies in the image, present or not well formed (R118). -/
  intentsAt : Option (Nat × Nat)
  serviceCode : List Byte
  /-- `FAULT` entries of R73 and R130 in section order: code, subject, d3 to d5. -/
  faults : List (Nat × Nat × List Byte)
  deriving DecidableEq, Repr

/-- `CFG.STATE` (Table 06-7). -/
inductive CfgState where
  | defaults | applied | reverted
  deriving DecidableEq, Repr

/-- An open configuration write session (R132, R134). -/
structure Session where
  owner : Client
  slot : Nat
  len : Nat
  written : Nat
  /-- The erase of step 1, and the trailer's programming, run (R132). -/
  erasing : Bool
  committing : Bool
  deriving DecidableEq, Repr

/-- The configuration (chapter 06). -/
structure Cfg where
  state : CfgState
  applied : Loaded
  /-- `CFG.SLOT_VALID`. -/
  slotValid : BitVec 2
  tie : Bool
  holdend : Bool
  commitResult : Nat
  session : Option Session
  deriving DecidableEq, Repr

/-- The parameter store (chapter 15). -/
structure Params where
  /-- Values in force that differ from their after-reset values: (ID × 256 + index, value), keys rising. -/
  values : List (Nat × Word)
  /-- The staging area (R69, R297), at most 64, in staging order. -/
  staged : List (Nat × Word)
  /-- The die last written to `RESET.BLOCK_RST` (R95). -/
  blockRstDie : Nat
  deriving DecidableEq, Repr

/-- Trigger-list work that waits (R71, R72): a firing at a depth, or a packet of a firing list at its depth. -/
inductive Task where
  | fire (depth : Nat) (f : Firing)
  | packet (depth list : Nat) (p : Command)
  deriving DecidableEq, Repr

/-- The trigger lists and their counters (R70 to R74, Table 15-23). -/
structure Trig where
  lists : Vector (Option TrigList) 16
  firings : Nat
  lastList : Nat
  lastDepth : Nat
  depthDrops : Nat
  /-- Work that waits, next first: it outlasts a step only while an agreement round runs (R40, R119). -/
  work : List Task
  /-- Depth of the packet whose effects run; 0 for an input's own (R72). -/
  depth : Nat
  deriving DecidableEq, Repr

/-- One lane of a Spine link (R104, R107). -/
structure Lane where
  inService : Bool
  attempts : Nat
  /-- Retrain interval as a power of two of `SPINE.RETRAIN_INTERVAL`: 1, 2, 4, 8 or 16. -/
  factor : Nat
  /-- Millisecond of the last rejoin, when there was one. -/
  rejoined : Option Nat
  deriving DecidableEq, Repr

/-- The traffic classes of R12, the highest first. -/
inductive TrafficClass where
  | control | periodic | async
  deriving DecidableEq, Repr

/-- An agreement set (R118): the image, and every value that differs from its after-reset value. -/
structure AgreementSet where
  image : Loaded
  values : List (Nat × Word)
  deriving DecidableEq, Repr

/-- What a Spine frame carries. -/
inductive Payload where
  /-- A relayed tick with the uptime of its millisecond (R115). -/
  | tick (us : Nat)
  /-- PROPOSE (Table 05-3): the epoch, the digest, Hive's compatibility byte, and the set where it goes along. -/
  | propose (epoch : Word) (digest : BitVec 64) (compat : Byte) (set : Option AgreementSet)
  /-- A command's order to the die that its subject lies on (R10). -/
  | order (op : Opcode) (number : Nat)
  /-- Bytes of USB traffic of a port. -/
  | usb (port bytes : Nat)
  deriving DecidableEq, Repr

/-- A frame that has been sent (R102); `replayed` is set when a removed lane made the sender send it again (R105). -/
structure Frame where
  cls : TrafficClass
  seq : BitVec 16
  body : Payload
  replayed : Bool
  deriving DecidableEq, Repr

/-- The sender of one direction of a link: the frames that wait for a frame boundary (R12), the number that the next
frame takes, whether a frame is on the wire, and the replay buffer or transmit buffer of unacknowledged frames,
oldest first (R102). -/
structure Sender where
  queue : List (TrafficClass × Payload)
  nextSeq : BitVec 16
  busy : Bool
  unacked : List Frame
  /-- ASYNC frames that the receiver lets it send while the link is degraded (R106). -/
  credits : Nat
  deriving DecidableEq, Repr

/-- One Spine link (R102, R106, R109). -/
structure Link where
  lanes : Vector Lane 4
  lost : Bool
  /-- Next sequence number expected, toward Hive and toward the far die (R102). -/
  nextToHive : BitVec 16
  nextFromHive : BitVec 16
  /-- The senders: the far die's, toward Hive, and Hive's. -/
  toHive : Sender
  fromHive : Sender
  deriving DecidableEq, Repr

/-- A word of a `CRITICAL` parameter as a mirror holds it, with its parity bit (R31). -/
structure MirrorWord where
  value : Word
  parity : Bool
  deriving DecidableEq, Repr

/-- One die as Hive holds it (R109, R116, R122, R124). -/
structure Die where
  absent : Bool
  quarantined : Bool
  /-- Inside an L2 reset that has not reported ready. -/
  resetting : Bool
  /-- Blocks inside a Tongs reset, by block code (R96). -/
  blocks : BitVec 18
  /-- Blocks marked CLOCK_DEAD (R90). -/
  clockDead : BitVec 18
  /-- Blocks that a pending RESET of scope 2 still waits for (R98). -/
  awaited : BitVec 18
  skewCount : Nat
  settleCount : Nat
  /-- Detector events lost beyond 64 or by an L2 reset (R111). -/
  lostEvents : Nat
  /-- Detector events held while the link carries no frames, at most 64 (R111). -/
  heldEvents : List Instr
  /-- The die has received the set of this epoch (Table 05-3). -/
  hasEpoch : Bool
  /-- The die's own copy of the agreement set (R118), none before it has received one. -/
  set : Option AgreementSet
  /-- The die's mirror of the `CRITICAL` parameters that differ from their after-reset values (R31). -/
  mirror : List (Nat × MirrorWord)
  /-- The die's copy of uptime at its last comparison or load, ns (R116, R117). -/
  copy : Int
  /-- Relayed ticks received and not compared yet: the uptime of the millisecond and the replay flag (R115). -/
  ticks : List (Nat × Bool)
  deriving DecidableEq, Repr

/-- What an agreement round decides when it agrees (R119, R121). -/
inductive Change where
  /-- Trigger 0, or trigger 3 with no change pending. -/
  | nothing
  /-- Trigger 1: the set to apply. -/
  | apply (l : Loaded)
  /-- Trigger 2: the staged values. -/
  | commit
  deriving DecidableEq, Repr

/-- What a die's turn finds (R120): its ANSWER, or that 5 ms have passed without one. -/
inductive Response where
  | answer (stepping microcode : Byte) (digest : BitVec 64)
  | timeout
  deriving DecidableEq, Repr

/-- One die's place in a running round. -/
structure Ballot where
  die : Nat
  /-- Redistributions already made for this die (Table 05-4). -/
  tries : Nat
  /-- 0 waiting, 1 agrees, 2 quarantine for a version, 3 mismatch after three redistributions. -/
  verdict : Nat
  /-- An answer, or its time-out, that came before its turn (R120: answers are taken in die-index order). -/
  early : Option Response
  deriving DecidableEq, Repr

/-- A running agreement round (R118 to R121). -/
structure Round where
  /-- The trigger of the round that began the sequence. -/
  trigger : Nat
  change : Change
  ballots : List Ballot
  op : Option PendingOp
  /-- The tag that its entries carry: that of the command that it follows from (R36). -/
  tag : BitVec 16
  /-- The dies whose return this round decides (R98, R110, R122). -/
  returning : List Nat
  deriving DecidableEq, Repr

/-- Spine, the sidebands and agreement (chapter 05). -/
structure Spine where
  links : Vector Link 3
  dies : Vector Die 4
  epoch : Word
  /-- Forge asserts SB_OFF itself (R13, R113). -/
  forgeOff : Bool
  /-- Hive asserts SB_OFF until the first round agrees with Forge (R113). -/
  bootOff : Bool
  /-- EXTEST asserts SB_OFF (R286). -/
  extestOff : Bool
  round : Option Round
  replayed : Nat
  crcFailed : Nat
  duplicates : Nat
  skewPeak : Nat
  deriving DecidableEq, Repr

/-- Why a port's USB connections are held absent: a command, or the enable policy, which acts as one (R170, Table 15-12), or a
violation (R184). -/
inductive Hold where
  | none | command | violation
  /-- Held by a violation and by `PORT_DISABLE`. -/
  | both
  deriving DecidableEq, Repr

/-- A reset running on a USB port (R171). -/
inductive BusReset where
  | none | host | command (joined : Bool)
  deriving DecidableEq, Repr

/-- The USB side of a port (chapter 08). -/
structure Bus where
  /-- PORT_POWER as the host last set it (R168). -/
  portPower : Bool
  held : Hold
  /-- A device is present on D+/D- and on the SuperSpeed link. -/
  fsPresent : Bool
  ssPresent : Bool
  enabled : Bool
  suspended : Bool
  /-- It was the hub's own suspend that suspended the port (R181). -/
  busSuspended : Bool
  /-- The port is in LPM L1 (R167). -/
  l1 : Bool
  /-- Resume signalling is being driven (R172). -/
  resuming : Bool
  /-- PORT_SUSPEND has started and has not completed (R172). -/
  suspending : Bool
  speed : Option Nat
  reset : BusReset
  overCurrent : Bool
  cOverCurrent : Bool
  cSuspend : Bool
  cEnable : Bool
  cReset : Bool
  cLinkState : Bool
  /-- VIOLATION 0x0104 and 0x0105 recorded in this suspend (R182, R183). -/
  currentRecorded : Bool
  wakeRecorded : Bool
  /-- The LIMIT action is in force (R183). -/
  limited : Bool
  cycleUsed : Bool
  /-- A CYCLE is running: the port waits for `PORT.CYCLE_OFF` (R183). -/
  cycling : Bool
  /-- The cycle's end turns the channel on; a `CHAN_OFF` command in the meantime cancels that (R226). -/
  cyclePower : Bool
  /-- A clear PORT_POWER keeps the port's channel off, and setting it lets the policy source vSafe5V again (R168). -/
  awaitsPower : Bool
  chatter : Bool
  ssDisabled : Bool
  lastViolation : Nat
  /-- Violations this attach (`PORT.VIOLS`). -/
  violations : Nat
  /-- Port resets completed and trips of the port's channel this boot. -/
  resets : Nat
  overCurrents : Nat
  deriving DecidableEq, Repr

/-- One advertised PDO: its rail and its current in 10 mA (R191). -/
structure Pdo where
  rail : Nat
  current : Nat
  deriving DecidableEq, Repr

/-- The flags of the 5 V PDO (R191). -/
structure PdoFlags where
  dualRolePower : Bool
  usbSuspend : Bool
  unconstrained : Bool
  usbCommunications : Bool
  dualRoleData : Bool
  unchunked : Bool
  epr : Bool
  /-- Peak Current. -/
  peak : Nat
  deriving DecidableEq, Repr

/-- A contract in force (R194, R195); `pos` 0 is an implicit contract. -/
structure Contract where
  rail : Nat
  pos : Nat
  op : Nat
  max : Nat
  /-- 0.1 W units. -/
  power : Nat
  deriving DecidableEq, Repr

/-- Where a port's negotiation stands (R189 to R205). -/
inductive PdPhase where
  /-- No VBUS at vSafe5V, or nothing negotiated. -/
  | quiet
  /-- vSafe5V reached on an Ra port: 2 ms to the cable discovery (Table 09-1 step 5). -/
  | cableWait
  /-- SOP' Discover Identity sent. -/
  | cableAsked
  /-- The Comb die waits for the reservation before it sends (R192). -/
  | waitGrant
  /-- Source_Capabilities sent and not acknowledged. -/
  | offered
  /-- Source_Capabilities acknowledged; a Request is awaited (R212). -/
  | awaitRequest
  /-- Accept sent for a new rail; its GoodCRC is awaited (R200). -/
  | accepted
  /-- Accept sent for the same rail; PS_RDY follows after 28 ms (R193). -/
  | sameRail
  /-- GoodCRC of Accept received; PD.TRANS_MAX runs (R200). -/
  | transDelay
  /-- The old leg is open and VBUS slews; RAIL.SETTLE_MAX runs. -/
  | slewing
  /-- VBUS is in band for less than 1 ms. -/
  | settling
  /-- PS_RDY sent; its GoodCRC is awaited (R194). -/
  | psRdy
  /-- Capabilities have been answered and nothing runs: an explicit contract is in force, or a Request was
  answered Wait or Reject. -/
  | ready
  /-- The device sent Soft_Reset and awaits Accept (R212). -/
  | softReset
  /-- Hard Reset, until vSafe5V is restored (R204). -/
  | hardReset
  /-- Type-C current only: no PD message is sent (R195, R205). -/
  | typeC
  deriving DecidableEq, Repr

/-- A provisional action P1 (R198, R199): 0 none, 1 open, 2 confirmed, 3 withdrawn (`PD.PROV`), with d1 to d3
of its `PROV_ISSUED`. -/
structure P1 where
  state : Nat
  pdos : Nat
  highest : Nat
  deriving DecidableEq, Repr

/-- What an unfinished VDM exchange of the device waits for (R206, R209, R211). -/
inductive VdmWait where
  | none
  /-- A structured request of PD_VDM_SEND: SOP type, command and SVID. -/
  | request (sop : Nat) (cmd : Nat) (svid : Nat)
  /-- An unstructured VDM or an Attention of PD_VDM_SEND, until its GoodCRC. -/
  | plain
  /-- PD_MODE_ENTER at step 1 to 4 of R209: SVID, object position, segment or 0xFF. -/
  | enter (step : Nat) (svid : Nat) (pos : Nat) (seg : Nat)
  /-- PD_MODE_EXIT after Exit Mode was sent. -/
  | exit
  /-- PD_MODE_EXIT waiting for the segment's bus-free condition (R211). -/
  | exitOpen
  deriving DecidableEq, Repr

/-- An entered alternate mode (R208). -/
structure AltMode where
  svid : Nat
  pos : Nat
  mode : Nat
  seg : Option Nat
  deriving DecidableEq, Repr

/-- The PD engine of a port (chapter 09). -/
structure Pd where
  phase : PdPhase
  /-- The reservation a, 0.1 W, and whether it has reached the Comb die (R192, R199). -/
  reserved : Nat
  arrived : Bool
  /-- The set most recently sent (R193), by object position from 1. -/
  caps : List Pdo
  /-- The flags that its 5 V PDO went out with (R191). -/
  flags : PdoFlags
  capsProvisional : Bool
  /-- The provisional set of a P1 action that has been issued and not sent yet (R198). -/
  provCaps : Option (List Pdo)
  /-- The cable step of this turn-on has not ended (Table 09-1 step 5). -/
  cable : Bool
  /-- The first sending after this turn-on runs without P1: a restore after CRANK (R161, R198). -/
  noP1 : Bool
  /-- Sends of Source_Capabilities unacknowledged so far (R189). -/
  sends : Nat
  /-- The accepted Request: position, operating and maximum current. -/
  reqPos : Nat
  reqOp : Nat
  reqMax : Nat
  contract : Option Contract
  /-- Count of the port's last `PD_CONTRACT` (R230, R247). -/
  contractCount : Nat
  /-- The port re-advertises when the running sequence ends (R196). -/
  readvertise : Bool
  /-- Get_Source_Cap came inside a running sequence and is answered when it ends (Table 09-2). -/
  owesCaps : Bool
  /-- Revision: 0 none, 2 or 3. -/
  revision : Nat
  fallback : Bool
  /-- Milliseconds of the counted violations of this attach, newest first (R205). -/
  counted : List Nat
  /-- d4 of the newest PD violation (`PD.VIOL_COUNT`). -/
  violCount : Nat
  hardResets : Nat
  p1 : P1
  mode : Option AltMode
  /-- The SBU switches are closed; they wait to close; they wait to open. -/
  sbuClosed : Bool
  sbuClosing : Bool
  /-- Exit Mode is due after `VIOLATION` 0x0206 and waits for the running exchange (R210). -/
  exitDue : Bool
  /-- `VIOLATION` 0x0206 has been recorded in this attach: the switches stay open until detach (Table 09-8). -/
  sbuFault : Bool
  wait : VdmWait
  /-- Discovery answers held for the present contract (R209): identity, SVIDs, and the mode VDOs of each SVID. -/
  gotIdentity : Bool
  svids : Option (List Nat)
  modes : List (Nat × List Word)
  deriving DecidableEq, Repr

/-- A Type-C port (R185 to R188) with its allotment (R230). -/
structure Port where
  attached : Bool
  /-- The Rd pin, 1 or 2; 0 unattached. -/
  pin : Nat
  ra : Bool
  /-- Rp presented: 0 Default, 1 1.5 A, 2 3.0 A; and Rp removed under R225. -/
  rp : Nat
  rpRemoved : Bool
  vconn : Bool
  vconnFault : Bool
  cable5A : Bool
  /-- Count of the `PORT_ATTACH` (R230). -/
  attachCount : Nat
  /-- `PORT_ATTACH` entries this boot. -/
  attaches : Nat
  /-- 0.1 W units. -/
  grant : Nat
  claim : Nat
  waiting : Bool
  /-- Shed by CRANK (R160). -/
  shed : Bool
  bus : Bus
  pd : Pd
  deriving DecidableEq, Repr

/-- The Transaction Translator of a port (R174 to R176): bytes in its two periodic queues, its two
non-periodic buffers with the transaction of each and whether the result is ready, and its statistics. -/
structure Tt where
  ssFill : Nat
  csFill : Nat
  buffers : List (Nat × Bool)
  /-- Periodic transactions whose start-split was dropped; the matching complete-split is answered ERR (R174). -/
  dropped : List Nat
  droppedCount : Nat
  expired : Nat
  resets : Nat
  deriving DecidableEq, Repr

/-- The channel states of Table 10-2. -/
inductive ChanState where
  | off | ramping | on | regulating | retryWait | locked
  deriving DecidableEq, Repr

/-- The off check of R225 on CH1 to CH12. -/
inductive OffCheck where
  | none | discharging | window | rpOff
  deriving DecidableEq, Repr

/-- A power channel (chapter 10). -/
structure Chan where
  state : ChanState
  retries : Nat
  /-- Lock reason: 0 retries, 1 GATE_FAIL, 2 LEG_LEAK. -/
  lock : Option Nat
  /-- The rail of the leg in use, 0 to 3, as Hive's copy holds it: it changes only at entries (R5); none on AUX
  channels, while off, and from a Hard Reset to the next contract (log 88). -/
  leg : Option Nat
  /-- The leg of a port whose gate Forge drives, none while all are open (R200, R204). -/
  gate : Option Nat
  trips : Nat
  offCheck : OffCheck
  /-- VBUS at the end of `CHAN.TOFF_CHK`, mV, kept for R225's entry (M). -/
  offMv : BitVec 16
  /-- The refusal after a backdrive (R225). -/
  refused : Bool
  /-- FAULT 0x0441 is outstanding: CHAN_ON answers FAULT (Table 13-2). -/
  comparator : Bool
  /-- The gate check of R224 runs. -/
  gateCheck : Bool
  /-- A retry waits for PAD_RELEASE (R153). -/
  retryWaits : Bool
  /-- Count of the last `CHAN_ON` (R247). -/
  onCount : Nat
  /-- Forge has turned the channel off at a trip that Hive has not taken yet (R10, R155). -/
  tripped : Bool
  /-- Forge's own view when Hive last turned the channel off: whether a gate check ran, and the retries used; a report of
  Forge that crosses Hive's order is settled from it (R11). -/
  crossing : Option (Bool × Nat)
  deriving DecidableEq, Repr

/-- A two-wire transfer (R254) with its pending operation. -/
structure Transfer where
  op : PendingOp
  addr : Nat
  repeated : Bool
  write : List Byte
  read : Nat
  /-- Arbitration losses so far (R257). -/
  losses : Nat
  /-- Surplus bytes made before it started, and the read-ahead depth it runs with (R260). -/
  surplus : List Byte
  fetch : Nat
  /-- The rate that it runs at, as `TWI.RATE`: that in force when it starts (R254). -/
  rate : Nat
  deriving DecidableEq, Repr

/-- The result of a completed transfer (R256). -/
structure Result where
  tag : BitVec 16
  status : Status
  bytes : List Byte
  deriving DecidableEq, Repr

/-- Where a segment's recovery stands (R265 to R268). -/
inductive Recovery where
  | none
  /-- TWI_RECOVER waits for a free bus (R268). -/
  | waitFree
  /-- The pulses run; `linked` when the power link has been used. -/
  | pulses (linked : Bool)
  /-- The power-link channel is off, then ramping and settling (R267). -/
  | linkOff
  | linkSettle
  deriving DecidableEq, Repr

/-- A two-wire segment: TW0 to TW3, and SVC as segment 4 (chapter 12). -/
structure Seg where
  held : Bool
  midbyte : Bool
  attention : Bool
  queue : List Transfer
  running : Option Transfer
  /-- The transfer ended by a stretch violation is not yet off the bus (R258). -/
  stretched : Bool
  recovery : Recovery
  /-- Pulses already issued by an in-band request (R262). -/
  pulsesDone : Nat
  recoverOp : Option PendingOp
  results : List Result
  mailbox : Option (List Byte)
  attn : Option (Nat × List Byte)
  /-- Read-ahead bytes held, by address (R260). -/
  ahead : List (Nat × List Byte)
  /-- The port tethered to the segment, 0 none (R269). -/
  tether : Nat
  deriving DecidableEq, Repr

/-- The Honeystore monitor (chapter 11). -/
structure Store where
  charging : Bool
  /-- Cells being bled, bit k-1 for cell k. -/
  bleeding : BitVec 6
  /-- Taps recorded open, bit k for tap k. -/
  tapsOpen : BitVec 7
  /-- Taps whose test is under way and what started each: by the command, by the monitor. -/
  tapTesting : BitVec 7
  tapCommand : BitVec 7
  /-- A tapped test of the running HOLD_TAP_TEST has failed. -/
  tapFailed : Bool
  /-- Taps recorded this boot by R240 or Forager. -/
  tapRecorded : BitVec 7
  /-- Cell and signature pairs recorded this boot (R242). -/
  recorded : List (Nat × Nat)
  /-- Cells with a latched signature (shorted). -/
  latchedCells : BitVec 6
  /-- C_k estimates of this boot, in 10 mF, as a fraction: numerator and denominator; none is HOLD.CAP_RATED (R243). -/
  caps : Vector (Option (Nat × Nat)) 6
  /-- Latest E, 0.1 J, and the newest of the two 0x0430 entries says below. -/
  energy : Nat
  below : Bool
  /-- STORE_TOP is taken as open: the sum serves as VSTORE (Table 11-3). -/
  topOpen : Bool
  /-- GATE_HOLD is on (R246). -/
  gateHold : Bool
  /-- The BANKED plan: 0 full, 1 retained memory only. -/
  plan : Nat
  /-- The BANKED write that runs: 0 none, 1 retained memory, 2 flash tail. -/
  writing : Nat
  deriving DecidableEq, Repr

/-- A Forager health record (Table 13-3). -/
structure Health where
  number : Nat
  uptime : Nat
  test : Nat
  result : Nat
  cycle : Nat
  item : Word
  measured : Word
  limit : Word
  fault : Nat
  slices : Nat
  corrections : Nat
  deriving DecidableEq, Repr

/-- Forager and the SERVICE tests (chapter 13). -/
structure Forager where
  /-- The test of the running cycle, 0 none. -/
  test : Nat
  /-- An item waits in Q63. -/
  item : Bool
  cycles : Nat
  cycleTime : Nat
  cycleStart : Nat
  failed : BitVec 13
  failing : BitVec 13
  /-- The first failure of the current test in this cycle: item, fault code. -/
  firstFail : Option (Word × Nat)
  slices : Nat
  /-- Health log, oldest first, at most 256. -/
  log : List Health
  head : Nat
  /-- Test and item pairs recorded this boot (R281). -/
  recorded : List (Nat × Nat)
  spares : Nat
  /-- TEST_RUN: the newest test, its argument, its state (0 idle, 1 running, 2 passed, 3 failed), its failing item. -/
  runTest : Nat
  runArg : Word
  runState : Nat
  runItem : Word
  deriving DecidableEq, Repr

/-- Votes, sleep, performance level and crank (chapter 07). -/
structure Power where
  hostVotes : BitVec 4
  level : Nat
  /-- VCORE_SEL[1:0] as driven (R27, R156). -/
  vcoreSel : Nat
  holdoff : Bool
  /-- Mode that a sleep state was entered from (R26). -/
  left : Mode
  /-- The wake latch (R141): bit n for source n. -/
  wakeLatch : BitVec 10
  lastWake : Word
  lastEnter : Word
  entries : Nat
  wakes : Nat
  cranks : Nat
  plChanges : Nat
  heldEvents : Nat
  /-- Abandoned entries per abort point AP0 to AP4. -/
  abandons : Vector Nat 5
  /-- The CRANK condition (R159). -/
  crank : Bool
  /-- Ports shed in CRANK, newest shed first (R161). -/
  shedOrder : List Nat
  /-- The SERVICE condition (R284) and wrong codes on C1 (R67). -/
  service : Bool
  serviceTries : Nat
  /-- A RESET of scope 0 has been taken; its L1 begins 1 ms later (R67). -/
  resetTag : Option (BitVec 16)
  /-- Root PLL starts this boot. -/
  pllStarts : Nat
  /-- Milliseconds spent in sleep states this boot (`PSTATE.SLEEP_MS`). -/
  sleepMs : Nat
  deriving DecidableEq, Repr

/-- The upstream port, the hubs and the management function (chapter 08). -/
structure Hub where
  upVbus : Bool
  /-- The upstream CC pin that shows the host's Rp, 1 or 2; 0 without VBUS (R164). -/
  upPin : Nat
  /-- As `UP_LINK` d0: 0 disconnected, 1 U0, 2 U1, 3 U2, 4 U3, 5 L1. -/
  link : Nat
  speed : Nat
  lanes : Nat
  /-- Lane count of the previous `UP_LANES` of this boot. -/
  lastLanes : Option Nat
  retries : Nat
  x1 : Bool
  /-- The upstream USB 2.0 link is suspended (R181). -/
  suspended : Bool
  fullSpeed : Bool
  configured2 : Bool
  configured3 : Bool
  configuredM : Bool
  address : Nat
  wake2 : Bool
  wake3 : Bool
  /-- ENDPOINT_HALT on endpoints 0x01, 0x81 and 0x82, as the host set it. -/
  haltOut : Bool
  haltIn : Bool
  haltInt : Bool
  /-- The test mode that the host has selected, 0 none. -/
  testMode : Nat
  deriving DecidableEq, Repr

/-- What replies and the parameters without the X flag report (R5, R300): the ports, the hubs, the tethers, the count of
admitted commands and the faults outstanding as they stood at the last ledger entry (log 87). -/
structure Seen where
  /-- Count of the next entry when this was noted. -/
  next : Nat
  ports : Vector Port 16
  hub : Hub
  /-- The ports tethered to TW2 and TW3. -/
  tethers : Nat × Nat
  admitted : Nat
  /-- Latched faults outstanding: a clearing event makes no entry (R291). -/
  faults : List OpenFault
  deriving DecidableEq, Repr

/-- The whole state of the device. -/
structure State where
  /-- The commands and events that are waiting, first in, first out (the model's own queue). -/
  pending : List Instr
  /-- Model's own: how many free values have been taken (assumption log 1). -/
  free : Nat
  mode : Mode
  phase : Phase
  ember : Ember
  ident : Ident
  led : Ledger
  io : Transports
  prm : Params
  cfg : Cfg
  trig : Trig
  ops : List PendingOp
  spine : Spine
  ports : Vector Port 16
  tts : Vector Tt 16
  chans : Vector Chan 24
  /-- `RAIL.PRESENT` (R227). -/
  rails : BitVec 4
  store : Store
  segs : Vector Seg 5
  forager : Forager
  pw : Power
  hub : Hub
  seen : Seen
  /-- The quad-SPI flash below 0x0012A000 (Table 06-1); an unlisted byte reads 0xFF. -/
  flash : List Host.Cell
  deriving DecidableEq, Repr

/-! The values after reset. -/

def Ember.init : Ember where
  ms := 0
  sub := 0
  frac := 0
  cause := 0x0001
  detail := 0
  stretch := 10
  stretchNow := 10
  bkp := .replicate 8 0
  retained := []
  retentionHeld := true
  lprcTrim := 2000000
  bootSel := 0
  clkMode := 0
  testEn := false
  fuseBank := []
  fuseBurn := 0
  fuseInForce := false
  latched := false
  staged := []
  resetOutLow := true
  resetInLow := false
  cold := true
  vio33Low := false

def Ident.init : Ident where
  serial := 0
  romVersion := 0x0214
  flashFirmware := false
  version := 0x0214
  compat := 0x21
  microcode := .replicate 4 0x21
  stepping := .replicate 4 0x43
  authFailed := none

def Ledger.init : Ledger where
  boot := 0
  next := 0
  ring := []
  mark := 0
  q61 := []
  q61Next := 0
  q61Open := false
  q62 := []
  q62Next := 0
  vdmDrops := 0
  attentions := 0
  lost := 0
  external := 0
  violations := 0
  lastViolation := 0
  lastFault := 0
  openFaults := []
  tailWord := 0
  retainedWord := 0
  tag := 0xFFFF
  fires := []

def Transports.init : Transports where
  waiting := []
  replies0 := []
  replies1 := []
  replies3 := []
  part0 := []
  part1 := []
  part3 := []
  sent0 := 0
  sent1 := 0
  sent3 := 0
  svcPointer := 0
  svcSnapshot := []
  svcImage := []
  svcDownload := 0
  captureByte := none
  captureRoom := true
  jtag := 0
  answer := .nothing
  admitted := 0
  malformed := 0
  dfuState := 0
  dfuStatus := 0
  dfuImage := []

/-- The ROM defaults (R131). -/
def Loaded.defaults : Loaded where
  slot := 2
  seq := 0
  crc := 0
  len := 0
  values := []
  lists := []
  caps := []
  allot := []
  intents := none
  intentsAt := none
  serviceCode := []
  faults := []

def Cfg.init : Cfg where
  state := .defaults
  applied := Loaded.defaults
  slotValid := 0
  tie := false
  holdend := false
  commitResult := 0
  session := none

def Params.init : Params where
  values := []
  staged := []
  blockRstDie := 0

def Trig.init : Trig where
  lists := .replicate 16 none
  firings := 0
  lastList := 0xFF
  lastDepth := 0
  depthDrops := 0
  work := []
  depth := 0

def Lane.init : Lane where
  inService := true
  attempts := 0
  factor := 1
  rejoined := none

/-- A lane position that the link does not have (SPINE-F has two lanes, Table 01-2). -/
def Lane.missing : Lane where
  inService := false
  attempts := 0
  factor := 1
  rejoined := none

def Sender.init : Sender where
  queue := []
  nextSeq := 0
  busy := false
  unacked := []
  credits := 0

def Link.init : Link where
  lanes := .replicate 4 Lane.init
  lost := false
  nextToHive := 0
  nextFromHive := 0
  toHive := Sender.init
  fromHive := Sender.init

def Link.initF : Link where
  lanes := #v[Lane.init, Lane.init, Lane.missing, Lane.missing]
  lost := false
  nextToHive := 0
  nextFromHive := 0
  toHive := Sender.init
  fromHive := Sender.init

def Die.init : Die where
  absent := false
  quarantined := false
  resetting := false
  blocks := 0
  clockDead := 0
  awaited := 0
  skewCount := 0
  settleCount := 0
  lostEvents := 0
  heldEvents := []
  hasEpoch := false
  set := none
  mirror := []
  copy := 0
  ticks := []

def Spine.init : Spine where
  links := #v[Link.init, Link.init, Link.initF]
  dies := .replicate 4 Die.init
  epoch := 0
  forgeOff := false
  bootOff := true
  extestOff := false
  round := none
  replayed := 0
  crcFailed := 0
  duplicates := 0
  skewPeak := 0

def Bus.init : Bus where
  portPower := true
  held := .none
  fsPresent := false
  ssPresent := false
  enabled := false
  suspended := false
  busSuspended := false
  l1 := false
  resuming := false
  suspending := false
  speed := none
  reset := .none
  overCurrent := false
  cOverCurrent := false
  cSuspend := false
  cEnable := false
  cReset := false
  cLinkState := false
  currentRecorded := false
  wakeRecorded := false
  limited := false
  cycleUsed := false
  cycling := false
  cyclePower := false
  awaitsPower := false
  chatter := false
  ssDisabled := false
  lastViolation := 0
  violations := 0
  resets := 0
  overCurrents := 0

def PdoFlags.init : PdoFlags where
  dualRolePower := false
  usbSuspend := false
  unconstrained := false
  usbCommunications := false
  dualRoleData := false
  unchunked := false
  epr := false
  peak := 0

def Pd.init : Pd where
  phase := .quiet
  reserved := 0
  arrived := false
  caps := []
  flags := PdoFlags.init
  capsProvisional := false
  provCaps := none
  cable := false
  noP1 := false
  sends := 0
  reqPos := 0
  reqOp := 0
  reqMax := 0
  contract := none
  contractCount := 0
  readvertise := false
  owesCaps := false
  revision := 0
  fallback := false
  counted := []
  violCount := 0
  hardResets := 0
  p1 := ⟨0, 0, 0⟩
  mode := none
  sbuClosed := false
  sbuClosing := false
  exitDue := false
  sbuFault := false
  wait := .none
  gotIdentity := false
  svids := none
  modes := []

def Port.init : Port where
  attached := false
  pin := 0
  ra := false
  rp := 0
  rpRemoved := false
  vconn := false
  vconnFault := false
  cable5A := false
  attachCount := 0
  attaches := 0
  grant := 0
  claim := 0
  waiting := false
  shed := false
  bus := Bus.init
  pd := Pd.init

def Tt.init : Tt where
  ssFill := 0
  csFill := 0
  buffers := []
  dropped := []
  droppedCount := 0
  expired := 0
  resets := 0

def Chan.init : Chan where
  state := .off
  retries := 0
  lock := none
  leg := none
  gate := none
  trips := 0
  offCheck := .none
  offMv := 0
  refused := false
  comparator := false
  gateCheck := false
  retryWaits := false
  onCount := 0
  tripped := false
  crossing := none

def Store.init : Store where
  charging := false
  bleeding := 0
  tapsOpen := 0
  tapTesting := 0
  tapCommand := 0
  tapFailed := false
  tapRecorded := 0
  recorded := []
  latchedCells := 0
  caps := .replicate 6 none
  energy := 0
  below := false
  topOpen := false
  gateHold := false
  plan := 0
  writing := 0

def Seg.init : Seg where
  held := false
  midbyte := false
  attention := false
  queue := []
  running := none
  stretched := false
  recovery := .none
  pulsesDone := 0
  recoverOp := none
  results := []
  mailbox := none
  attn := none
  ahead := []
  tether := 0

def Forager.init : Forager where
  test := 0
  item := false
  cycles := 0
  cycleTime := 0
  cycleStart := 0
  failed := 0
  failing := 0
  firstFail := none
  slices := 0
  log := []
  head := 0
  recorded := []
  spares := 15
  runTest := 0
  runArg := 0
  runState := 0
  runItem := 0

def Power.init : Power where
  hostVotes := 0
  level := 1
  vcoreSel := 1
  holdoff := false
  left := .run
  wakeLatch := 0
  lastWake := 0xFF
  lastEnter := 0
  entries := 0
  wakes := 0
  cranks := 0
  plChanges := 0
  heldEvents := 0
  abandons := .replicate 5 0
  crank := false
  shedOrder := []
  service := false
  serviceTries := 0
  resetTag := none
  pllStarts := 0
  sleepMs := 0

def Hub.init : Hub where
  upVbus := false
  upPin := 0
  link := 0
  speed := 0
  lanes := 0
  lastLanes := none
  retries := 0
  x1 := false
  suspended := false
  fullSpeed := false
  configured2 := false
  configured3 := false
  configuredM := false
  address := 0
  wake2 := false
  wake3 := false
  haltOut := false
  haltIn := false
  haltInt := false
  testMode := 0

def Seen.init : Seen where
  next := 0
  ports := .replicate 16 Port.init
  hub := Hub.init
  tethers := (0, 0)
  admitted := 0
  faults := []

/-- The machine right after reset: a power-on start at the release of POR, with blank flash (step 4 of
Table 04-7; assumption log 7 says how a command comes to be taken from here). -/
def State.reset : State where
  pending := []
  free := 0
  mode := .boot
  phase := .starting
  ember := Ember.init
  ident := Ident.init
  led := Ledger.init
  io := Transports.init
  prm := Params.init
  cfg := Cfg.init
  trig := Trig.init
  ops := []
  spine := Spine.init
  ports := .replicate 16 Port.init
  tts := .replicate 16 Tt.init
  chans := .replicate 24 Chan.init
  rails := 0
  store := Store.init
  segs := .replicate 5 Seg.init
  forager := Forager.init
  pw := Power.init
  hub := Hub.init
  seen := Seen.init
  flash := []

end Sys2Proof.Machine
end

