-- ==== Sys2Proof/Machine/ParamId.lean ====
section
/-! DEFINITION. The 256 parameters of the parameter map (Tables 15-1 to 15-23): their names, IDs, access classes, flags, index ranges, after-reset values and value ranges. -/

namespace Sys2Proof.Machine

/-- The access classes of Table 15-2. -/
inductive Access where
  | ro | rwLive | rwStaged | rwOnce | w1c
  deriving DecidableEq, Repr

/-- The value ranges of the parameter map (R295). -/
inductive Range where
  | any
  /-- From lo to hi in steps counted from lo. -/
  | steps (lo hi step : Nat)
  /-- No bit outside the mask. -/
  | mask (m : Nat)
  /-- `PSTATE.HVOTE_DEPTH`: four fields of two bits, each 0 to 2. -/
  | voteDepths
  /-- `HOLD.CELLS`: 0, or 2 to 6. -/
  | cells
  /-- `HOLD.AUX_ORDER`: each AUX index in exactly one nibble. -/
  | auxOrder
  /-- `CHAN.E_RAMP`: 1 to 40 mJ on CH1 to CH12, 1 to 400 mJ above. -/
  | rampEnergy
  /-- A two-wire address 0x08 to 0x77, and 0 where the flag allows it. -/
  | address (zero : Bool)
  /-- `TWI.READ_AHEAD` (R276). -/
  | readAhead
  /-- `TWI.POWER_LINK`: 0, or channel 17 to 24. -/
  | auxChannel
  deriving DecidableEq, Repr

/-- A row of the parameter map. -/
structure ParamInfo where
  access : Access
  critical : Bool
  /-- Flag X: outside the promise (R300). -/
  measured : Bool
  /-- Index range; 0 to 0 for an unindexed parameter. -/
  lo : Nat
  hi : Nat
  /-- After-reset value when the image holds no record (R295, R130). -/
  reset : Word
  range : Range
  deriving DecidableEq, Repr

/-- The parameters, in ID order. -/
inductive Param where
  | sysMode
  | sysPart
  | sysStepping
  | sysFw
  | sysBootNumber
  | sysSerialLo
  | sysSerialHi
  | sysDies
  | sysMicrocode
  | sysFaultsOpen
  | sysViolations
  | sysUptimeLo
  | sysUptimeHi
  | sysVveh
  | sysTj
  | sysLabel
  | clockLprcTrim
  | clockRefMode
  | clockXtalDrive
  | clockPllState
  | clockCoreMhz
  | clockRefStart
  | clockTrimError
  | clockPllStarts
  | pstateVotes
  | pstateDeepest
  | pstateWakeEn
  | pstateVsettle
  | pstateReentryHoldoff
  | pstateAlarm
  | pstateAuxLatch
  | pstateHvoteDepth
  | pstateLevel
  | pstateLastWake
  | pstatePadStaged
  | crankVenter
  | pstateEntries
  | pstateAbandons
  | pstateWakes
  | pstateCranks
  | pstateShed
  | pstateLatched
  | pstateDomains
  | pstateTarget
  | pstatePlChanges
  | pstateSleepMs
  | pstateHeldEvents
  | pstateLastEnter
  | resetCause
  | resetDetail
  | resetBlockRst
  | resetClockDead
  | resetStretch
  | resetWdtTimeout
  | resetStraps
  | resetFuseBurn
  | resetBkp0
  | resetBkp1
  | resetBkp2
  | resetBkp3
  | resetBkp4
  | resetBkp5
  | resetBkp6
  | resetBkp7
  | spineForgeLossTimeout
  | spineSkewMax
  | spineRetrainInterval
  | spineMinLanes
  | spineLanes
  | spineEpoch
  | spineQuarantine
  | spineStatReplayed
  | spineStatCrc
  | spineStatDuplicate
  | spineStatSkewPeak
  | spineStatClear
  | cfgState
  | cfgSlot
  | cfgSeq
  | cfgImageCrc
  | cfgSlotValid
  | cfgCommitResult
  | cfgSession
  | cfgSessionTimeout
  | ledgerHeadCount
  | ledgerMarkCount
  | ledgerOldestCount
  | ledgerLost
  | ledgerQ61Records
  | ledgerExternal
  | ledgerTail
  | ledgerRetained
  | cmdSvcGap
  | cmdC0Families
  | cmdC1Families
  | cmdC3Families
  | cmdAdmitted
  | cmdMalformed
  | cmdServiceTries
  | cmdStaged
  | hubUpLaneRetries
  | hubUpMaxSpeed
  | hubLinkPmLog
  | hubPortPowerMode
  | hubRemovable
  | hubSsPorts
  | hubChatterLimit
  | hubUpState
  | hubConfigured
  | hubConnected
  | hubEnabled
  | hubSuspended
  | hubHeld
  | hubOvercurrent
  | hubSsLinks
  | hubRemoteWake
  | portSuspIlim
  | portSuspGrace
  | portSuspAction
  | portCycleOff
  | portState
  | portSpeed
  | portEnablePolicy
  | portLabel
  | portClass
  | portCeiling
  | portGrant
  | portClaim
  | portLastViol
  | portViols
  | portAttaches
  | portCycleUsed
  | portSuspCurrent
  | portResets
  | portOrient
  | portOvercurrents
  | ttState
  | ttSsFill
  | ttCsFill
  | ttDropped
  | ttExpired
  | ttResets
  | typecCcDebounce
  | typecPdDebounce
  | typecVconnEn
  | typecAttached
  | typecCable5a
  | typecOrient
  | typecRaSeen
  | typecVconnOn
  | typecVconnFault
  | typecRpNow
  | typecFallback
  | typecSbuClosed
  | pdEnable
  | pdRpLevel
  | pdProvisional
  | pdTransMax
  | pdViolLimit
  | pdViolWindow
  | pdContract
  | pdCurrent
  | pdRevision
  | pdViolCount
  | pdHardresets
  | pdMode
  | pdProv
  | pdCaps
  | vdmWaggleSvid
  | vdmWaggleMode
  | vdmWaggleTether
  | vdmTethers
  | vdmQ62Count
  | vdmDrops
  | vdmAttentions
  | vdmSvdmVersion
  | railCap5v
  | railCap9v
  | railCap15v
  | railCap20v
  | railSlewUp
  | railSlewDown
  | railSettleBand
  | railSettleMax
  | railMask
  | railPresent
  | railLoadLo
  | railLoadHi
  | chanIlim
  | chanVsnsLim
  | chanRsns
  | chanIshort
  | chanTovl
  | chanRamp
  | chanERamp
  | chanRetryMax
  | chanRetryDelay
  | chanVgsOk
  | chanTgate
  | chanToffChk
  | chanState
  | chanTrips
  | chanAuxAuto
  | chanMeasAvg
  | allotTotalW
  | allotReclaim
  | allotReclaimFloor
  | allotDefaultCeiling
  | allotDefaultClass
  | allotRemaining
  | allotGranted
  | allotWaiting
  | holdCells
  | holdVcellTarget
  | holdVinLoss
  | holdChgI
  | holdChgRsns
  | holdEMin
  | holdAuxOrder
  | holdCapRated
  | holdCellDev
  | holdVstore
  | holdCap
  | holdEnergy
  | holdStatus
  | holdFaults
  | twiEnable
  | twiRate
  | twiLevel
  | twiStretchMode
  | twiStretchMax
  | twiIbrMin
  | twiAttnAddr
  | twiAttnLen
  | twiMboxAddr
  | twiRecoverPulses
  | twiPowerLink
  | twiReadAhead
  | twiTargetAddr
  | twiState
  | foragerDuty
  | foragerCycle
  | foragerTestMask
  | foragerCycles
  | foragerCycleTime
  | foragerFailed
  | foragerLogHead
  | foragerLogClear
  | trigEnable
  | trigArmed
  | trigLoaded
  | trigFromLoad
  | trigFirings
  | trigLast
  | trigDepthDrops
  | trigBodyBytes
  deriving DecidableEq, Repr

/-- The fields of block SYS, in field order (Table 15-1). -/
def Param.blockSys : List Param :=
  [.sysMode, .sysPart, .sysStepping, .sysFw, .sysBootNumber, .sysSerialLo, .sysSerialHi, .sysDies,
   .sysMicrocode, .sysFaultsOpen, .sysViolations, .sysUptimeLo, .sysUptimeHi, .sysVveh, .sysTj,
   .sysLabel]

/-- The fields of block CLOCK, in field order (Table 15-1). -/
def Param.blockClock : List Param :=
  [.clockLprcTrim, .clockRefMode, .clockXtalDrive, .clockPllState, .clockCoreMhz, .clockRefStart,
   .clockTrimError, .clockPllStarts]

/-- The fields of block PSTATE, in field order (Table 15-1). -/
def Param.blockPstate : List Param :=
  [.pstateVotes, .pstateDeepest, .pstateWakeEn, .pstateVsettle, .pstateReentryHoldoff,
   .pstateAlarm, .pstateAuxLatch, .pstateHvoteDepth, .pstateLevel, .pstateLastWake,
   .pstatePadStaged, .crankVenter, .pstateEntries, .pstateAbandons, .pstateWakes, .pstateCranks,
   .pstateShed, .pstateLatched, .pstateDomains, .pstateTarget, .pstatePlChanges, .pstateSleepMs,
   .pstateHeldEvents, .pstateLastEnter]

/-- The fields of block RESET, in field order (Table 15-1). -/
def Param.blockReset : List Param :=
  [.resetCause, .resetDetail, .resetBlockRst, .resetClockDead, .resetStretch, .resetWdtTimeout,
   .resetStraps, .resetFuseBurn, .resetBkp0, .resetBkp1, .resetBkp2, .resetBkp3, .resetBkp4,
   .resetBkp5, .resetBkp6, .resetBkp7]

/-- The fields of block SPINE, in field order (Table 15-1). -/
def Param.blockSpine : List Param :=
  [.spineForgeLossTimeout, .spineSkewMax, .spineRetrainInterval, .spineMinLanes, .spineLanes,
   .spineEpoch, .spineQuarantine, .spineStatReplayed, .spineStatCrc, .spineStatDuplicate,
   .spineStatSkewPeak, .spineStatClear]

/-- The fields of block CFG, in field order (Table 15-1). -/
def Param.blockCfg : List Param :=
  [.cfgState, .cfgSlot, .cfgSeq, .cfgImageCrc, .cfgSlotValid, .cfgCommitResult, .cfgSession,
   .cfgSessionTimeout]

/-- The fields of block LEDGER, in field order (Table 15-1). -/
def Param.blockLedger : List Param :=
  [.ledgerHeadCount, .ledgerMarkCount, .ledgerOldestCount, .ledgerLost, .ledgerQ61Records,
   .ledgerExternal, .ledgerTail, .ledgerRetained]

/-- The fields of block CMD, in field order (Table 15-1). -/
def Param.blockCmd : List Param :=
  [.cmdSvcGap, .cmdC0Families, .cmdC1Families, .cmdC3Families, .cmdAdmitted, .cmdMalformed,
   .cmdServiceTries, .cmdStaged]

/-- The fields of block HUB, in field order (Table 15-1). -/
def Param.blockHub : List Param :=
  [.hubUpLaneRetries, .hubUpMaxSpeed, .hubLinkPmLog, .hubPortPowerMode, .hubRemovable, .hubSsPorts,
   .hubChatterLimit, .hubUpState, .hubConfigured, .hubConnected, .hubEnabled, .hubSuspended,
   .hubHeld, .hubOvercurrent, .hubSsLinks, .hubRemoteWake]

/-- The fields of block PORT, in field order (Table 15-1). -/
def Param.blockPort : List Param :=
  [.portSuspIlim, .portSuspGrace, .portSuspAction, .portCycleOff, .portState, .portSpeed,
   .portEnablePolicy, .portLabel, .portClass, .portCeiling, .portGrant, .portClaim, .portLastViol,
   .portViols, .portAttaches, .portCycleUsed, .portSuspCurrent, .portResets, .portOrient,
   .portOvercurrents]

/-- The fields of block TT, in field order (Table 15-1). -/
def Param.blockTt : List Param :=
  [.ttState, .ttSsFill, .ttCsFill, .ttDropped, .ttExpired, .ttResets]

/-- The fields of block TYPEC, in field order (Table 15-1). -/
def Param.blockTypec : List Param :=
  [.typecCcDebounce, .typecPdDebounce, .typecVconnEn, .typecAttached, .typecCable5a, .typecOrient,
   .typecRaSeen, .typecVconnOn, .typecVconnFault, .typecRpNow, .typecFallback, .typecSbuClosed]

/-- The fields of block PD, in field order (Table 15-1). -/
def Param.blockPd : List Param :=
  [.pdEnable, .pdRpLevel, .pdProvisional, .pdTransMax, .pdViolLimit, .pdViolWindow, .pdContract,
   .pdCurrent, .pdRevision, .pdViolCount, .pdHardresets, .pdMode, .pdProv, .pdCaps]

/-- The fields of block VDM, in field order (Table 15-1). -/
def Param.blockVdm : List Param :=
  [.vdmWaggleSvid, .vdmWaggleMode, .vdmWaggleTether, .vdmTethers, .vdmQ62Count, .vdmDrops,
   .vdmAttentions, .vdmSvdmVersion]

/-- The fields of block RAIL, in field order (Table 15-1). -/
def Param.blockRail : List Param :=
  [.railCap5v, .railCap9v, .railCap15v, .railCap20v, .railSlewUp, .railSlewDown, .railSettleBand,
   .railSettleMax, .railMask, .railPresent, .railLoadLo, .railLoadHi]

/-- The fields of block CHAN, in field order (Table 15-1). -/
def Param.blockChan : List Param :=
  [.chanIlim, .chanVsnsLim, .chanRsns, .chanIshort, .chanTovl, .chanRamp, .chanERamp,
   .chanRetryMax, .chanRetryDelay, .chanVgsOk, .chanTgate, .chanToffChk, .chanState, .chanTrips,
   .chanAuxAuto, .chanMeasAvg]

/-- The fields of block ALLOT, in field order (Table 15-1). -/
def Param.blockAllot : List Param :=
  [.allotTotalW, .allotReclaim, .allotReclaimFloor, .allotDefaultCeiling, .allotDefaultClass,
   .allotRemaining, .allotGranted, .allotWaiting]

/-- The fields of block HOLD, in field order (Table 15-1). -/
def Param.blockHold : List Param :=
  [.holdCells, .holdVcellTarget, .holdVinLoss, .holdChgI, .holdChgRsns, .holdEMin, .holdAuxOrder,
   .holdCapRated, .holdCellDev, .holdVstore, .holdCap, .holdEnergy, .holdStatus, .holdFaults]

/-- The fields of block TWI, in field order (Table 15-1). -/
def Param.blockTwi : List Param :=
  [.twiEnable, .twiRate, .twiLevel, .twiStretchMode, .twiStretchMax, .twiIbrMin, .twiAttnAddr,
   .twiAttnLen, .twiMboxAddr, .twiRecoverPulses, .twiPowerLink, .twiReadAhead, .twiTargetAddr,
   .twiState]

/-- The fields of block FORAGER, in field order (Table 15-1). -/
def Param.blockForager : List Param :=
  [.foragerDuty, .foragerCycle, .foragerTestMask, .foragerCycles, .foragerCycleTime,
   .foragerFailed, .foragerLogHead, .foragerLogClear]

/-- The fields of block TRIG, in field order (Table 15-1). -/
def Param.blockTrig : List Param :=
  [.trigEnable, .trigArmed, .trigLoaded, .trigFromLoad, .trigFirings, .trigLast, .trigDepthDrops,
   .trigBodyBytes]

/-- The fields of a block by its number, none where no block has it (R292). -/
def Param.block (b : Nat) : List Param :=
  match b with
  | 0x0 => Param.blockSys
  | 0x1 => Param.blockClock
  | 0x2 => Param.blockPstate
  | 0x3 => Param.blockReset
  | 0x4 => Param.blockSpine
  | 0x5 => Param.blockCfg
  | 0x6 => Param.blockLedger
  | 0x7 => Param.blockCmd
  | 0x10 => Param.blockHub
  | 0x11 => Param.blockPort
  | 0x12 => Param.blockTt
  | 0x20 => Param.blockTypec
  | 0x21 => Param.blockPd
  | 0x22 => Param.blockVdm
  | 0x30 => Param.blockRail
  | 0x31 => Param.blockChan
  | 0x32 => Param.blockAllot
  | 0x40 => Param.blockHold
  | 0x50 => Param.blockTwi
  | 0x60 => Param.blockForager
  | 0x70 => Param.blockTrig
  | _ => []

/-- The parameter an ID names: block in [15:8], field in [7:0] (R292). -/
def Param.ofId (id : Nat) : Option Param := (Param.block (id / 256))[id % 256]?

/-- The ID of a parameter. -/
def Param.id (p : Param) : Nat :=
  match p with
  | .sysMode => 0x0000
  | .sysPart => 0x0001
  | .sysStepping => 0x0002
  | .sysFw => 0x0003
  | .sysBootNumber => 0x0004
  | .sysSerialLo => 0x0005
  | .sysSerialHi => 0x0006
  | .sysDies => 0x0007
  | .sysMicrocode => 0x0008
  | .sysFaultsOpen => 0x0009
  | .sysViolations => 0x000A
  | .sysUptimeLo => 0x000B
  | .sysUptimeHi => 0x000C
  | .sysVveh => 0x000D
  | .sysTj => 0x000E
  | .sysLabel => 0x000F
  | .clockLprcTrim => 0x0100
  | .clockRefMode => 0x0101
  | .clockXtalDrive => 0x0102
  | .clockPllState => 0x0103
  | .clockCoreMhz => 0x0104
  | .clockRefStart => 0x0105
  | .clockTrimError => 0x0106
  | .clockPllStarts => 0x0107
  | .pstateVotes => 0x0200
  | .pstateDeepest => 0x0201
  | .pstateWakeEn => 0x0202
  | .pstateVsettle => 0x0203
  | .pstateReentryHoldoff => 0x0204
  | .pstateAlarm => 0x0205
  | .pstateAuxLatch => 0x0206
  | .pstateHvoteDepth => 0x0207
  | .pstateLevel => 0x0208
  | .pstateLastWake => 0x0209
  | .pstatePadStaged => 0x020A
  | .crankVenter => 0x020B
  | .pstateEntries => 0x020C
  | .pstateAbandons => 0x020D
  | .pstateWakes => 0x020E
  | .pstateCranks => 0x020F
  | .pstateShed => 0x0210
  | .pstateLatched => 0x0211
  | .pstateDomains => 0x0212
  | .pstateTarget => 0x0213
  | .pstatePlChanges => 0x0214
  | .pstateSleepMs => 0x0215
  | .pstateHeldEvents => 0x0216
  | .pstateLastEnter => 0x0217
  | .resetCause => 0x0300
  | .resetDetail => 0x0301
  | .resetBlockRst => 0x0302
  | .resetClockDead => 0x0303
  | .resetStretch => 0x0304
  | .resetWdtTimeout => 0x0305
  | .resetStraps => 0x0306
  | .resetFuseBurn => 0x0307
  | .resetBkp0 => 0x0308
  | .resetBkp1 => 0x0309
  | .resetBkp2 => 0x030A
  | .resetBkp3 => 0x030B
  | .resetBkp4 => 0x030C
  | .resetBkp5 => 0x030D
  | .resetBkp6 => 0x030E
  | .resetBkp7 => 0x030F
  | .spineForgeLossTimeout => 0x0400
  | .spineSkewMax => 0x0401
  | .spineRetrainInterval => 0x0402
  | .spineMinLanes => 0x0403
  | .spineLanes => 0x0404
  | .spineEpoch => 0x0405
  | .spineQuarantine => 0x0406
  | .spineStatReplayed => 0x0407
  | .spineStatCrc => 0x0408
  | .spineStatDuplicate => 0x0409
  | .spineStatSkewPeak => 0x040A
  | .spineStatClear => 0x040B
  | .cfgState => 0x0500
  | .cfgSlot => 0x0501
  | .cfgSeq => 0x0502
  | .cfgImageCrc => 0x0503
  | .cfgSlotValid => 0x0504
  | .cfgCommitResult => 0x0505
  | .cfgSession => 0x0506
  | .cfgSessionTimeout => 0x0507
  | .ledgerHeadCount => 0x0600
  | .ledgerMarkCount => 0x0601
  | .ledgerOldestCount => 0x0602
  | .ledgerLost => 0x0603
  | .ledgerQ61Records => 0x0604
  | .ledgerExternal => 0x0605
  | .ledgerTail => 0x0606
  | .ledgerRetained => 0x0607
  | .cmdSvcGap => 0x0700
  | .cmdC0Families => 0x0701
  | .cmdC1Families => 0x0702
  | .cmdC3Families => 0x0703
  | .cmdAdmitted => 0x0704
  | .cmdMalformed => 0x0705
  | .cmdServiceTries => 0x0706
  | .cmdStaged => 0x0707
  | .hubUpLaneRetries => 0x1000
  | .hubUpMaxSpeed => 0x1001
  | .hubLinkPmLog => 0x1002
  | .hubPortPowerMode => 0x1003
  | .hubRemovable => 0x1004
  | .hubSsPorts => 0x1005
  | .hubChatterLimit => 0x1006
  | .hubUpState => 0x1007
  | .hubConfigured => 0x1008
  | .hubConnected => 0x1009
  | .hubEnabled => 0x100A
  | .hubSuspended => 0x100B
  | .hubHeld => 0x100C
  | .hubOvercurrent => 0x100D
  | .hubSsLinks => 0x100E
  | .hubRemoteWake => 0x100F
  | .portSuspIlim => 0x1100
  | .portSuspGrace => 0x1101
  | .portSuspAction => 0x1102
  | .portCycleOff => 0x1103
  | .portState => 0x1104
  | .portSpeed => 0x1105
  | .portEnablePolicy => 0x1106
  | .portLabel => 0x1107
  | .portClass => 0x1108
  | .portCeiling => 0x1109
  | .portGrant => 0x110A
  | .portClaim => 0x110B
  | .portLastViol => 0x110C
  | .portViols => 0x110D
  | .portAttaches => 0x110E
  | .portCycleUsed => 0x110F
  | .portSuspCurrent => 0x1110
  | .portResets => 0x1111
  | .portOrient => 0x1112
  | .portOvercurrents => 0x1113
  | .ttState => 0x1200
  | .ttSsFill => 0x1201
  | .ttCsFill => 0x1202
  | .ttDropped => 0x1203
  | .ttExpired => 0x1204
  | .ttResets => 0x1205
  | .typecCcDebounce => 0x2000
  | .typecPdDebounce => 0x2001
  | .typecVconnEn => 0x2002
  | .typecAttached => 0x2003
  | .typecCable5a => 0x2004
  | .typecOrient => 0x2005
  | .typecRaSeen => 0x2006
  | .typecVconnOn => 0x2007
  | .typecVconnFault => 0x2008
  | .typecRpNow => 0x2009
  | .typecFallback => 0x200A
  | .typecSbuClosed => 0x200B
  | .pdEnable => 0x2100
  | .pdRpLevel => 0x2101
  | .pdProvisional => 0x2102
  | .pdTransMax => 0x2103
  | .pdViolLimit => 0x2104
  | .pdViolWindow => 0x2105
  | .pdContract => 0x2106
  | .pdCurrent => 0x2107
  | .pdRevision => 0x2108
  | .pdViolCount => 0x2109
  | .pdHardresets => 0x210A
  | .pdMode => 0x210B
  | .pdProv => 0x210C
  | .pdCaps => 0x210D
  | .vdmWaggleSvid => 0x2200
  | .vdmWaggleMode => 0x2201
  | .vdmWaggleTether => 0x2202
  | .vdmTethers => 0x2203
  | .vdmQ62Count => 0x2204
  | .vdmDrops => 0x2205
  | .vdmAttentions => 0x2206
  | .vdmSvdmVersion => 0x2207
  | .railCap5v => 0x3000
  | .railCap9v => 0x3001
  | .railCap15v => 0x3002
  | .railCap20v => 0x3003
  | .railSlewUp => 0x3004
  | .railSlewDown => 0x3005
  | .railSettleBand => 0x3006
  | .railSettleMax => 0x3007
  | .railMask => 0x3008
  | .railPresent => 0x3009
  | .railLoadLo => 0x300A
  | .railLoadHi => 0x300B
  | .chanIlim => 0x3100
  | .chanVsnsLim => 0x3101
  | .chanRsns => 0x3102
  | .chanIshort => 0x3103
  | .chanTovl => 0x3104
  | .chanRamp => 0x3105
  | .chanERamp => 0x3106
  | .chanRetryMax => 0x3107
  | .chanRetryDelay => 0x3108
  | .chanVgsOk => 0x3109
  | .chanTgate => 0x310A
  | .chanToffChk => 0x310B
  | .chanState => 0x310C
  | .chanTrips => 0x310D
  | .chanAuxAuto => 0x310E
  | .chanMeasAvg => 0x310F
  | .allotTotalW => 0x3200
  | .allotReclaim => 0x3201
  | .allotReclaimFloor => 0x3202
  | .allotDefaultCeiling => 0x3203
  | .allotDefaultClass => 0x3204
  | .allotRemaining => 0x3205
  | .allotGranted => 0x3206
  | .allotWaiting => 0x3207
  | .holdCells => 0x4000
  | .holdVcellTarget => 0x4001
  | .holdVinLoss => 0x4002
  | .holdChgI => 0x4003
  | .holdChgRsns => 0x4004
  | .holdEMin => 0x4005
  | .holdAuxOrder => 0x4006
  | .holdCapRated => 0x4007
  | .holdCellDev => 0x4008
  | .holdVstore => 0x4009
  | .holdCap => 0x400A
  | .holdEnergy => 0x400B
  | .holdStatus => 0x400C
  | .holdFaults => 0x400D
  | .twiEnable => 0x5000
  | .twiRate => 0x5001
  | .twiLevel => 0x5002
  | .twiStretchMode => 0x5003
  | .twiStretchMax => 0x5004
  | .twiIbrMin => 0x5005
  | .twiAttnAddr => 0x5006
  | .twiAttnLen => 0x5007
  | .twiMboxAddr => 0x5008
  | .twiRecoverPulses => 0x5009
  | .twiPowerLink => 0x500A
  | .twiReadAhead => 0x500B
  | .twiTargetAddr => 0x500C
  | .twiState => 0x500D
  | .foragerDuty => 0x6000
  | .foragerCycle => 0x6001
  | .foragerTestMask => 0x6002
  | .foragerCycles => 0x6003
  | .foragerCycleTime => 0x6004
  | .foragerFailed => 0x6005
  | .foragerLogHead => 0x6006
  | .foragerLogClear => 0x6007
  | .trigEnable => 0x7000
  | .trigArmed => 0x7001
  | .trigLoaded => 0x7002
  | .trigFromLoad => 0x7003
  | .trigFirings => 0x7004
  | .trigLast => 0x7005
  | .trigDepthDrops => 0x7006
  | .trigBodyBytes => 0x7007

/-- A read-only row. -/
def ParamInfo.ro (measured : Bool) (lo hi : Nat) (reset : Word) : ParamInfo :=
  ⟨.ro, false, measured, lo, hi, reset, .any⟩

/-- A row of access RW-LIVE. -/
def ParamInfo.live (critical : Bool) (lo hi : Nat) (reset : Word) (range : Range) : ParamInfo :=
  ⟨.rwLive, critical, false, lo, hi, reset, range⟩

/-- A row of access RW-STAGED. -/
def ParamInfo.staged (critical : Bool) (lo hi : Nat) (reset : Word) (range : Range) : ParamInfo :=
  ⟨.rwStaged, critical, false, lo, hi, reset, range⟩

/-- A row of access W1C. -/
def ParamInfo.w1c (mask : Nat) : ParamInfo := ⟨.w1c, false, false, 0, 0, 0, .mask mask⟩

/-- The row of a parameter in Tables 15-3 to 15-23. -/
def Param.info (p : Param) : ParamInfo :=
  match p with
  | .sysMode => .ro false 0 0 0
  | .sysPart => .ro false 0 0 0x00001664
  | .sysStepping => .ro false 0 0 0x0000B243
  | .sysFw => .ro false 0 0 0
  | .sysBootNumber => .ro false 0 0 0
  | .sysSerialLo => .ro false 0 0 0
  | .sysSerialHi => .ro false 0 0 0
  | .sysDies => .ro false 0 0 0
  | .sysMicrocode => .ro false 0 0 0
  | .sysFaultsOpen => .ro false 0 0 0
  | .sysViolations => .ro false 0 0 0
  | .sysUptimeLo => .ro true 0 0 0
  | .sysUptimeHi => .ro true 0 0 0
  | .sysVveh => .ro true 0 0 0
  | .sysTj => .ro true 0 0 0
  | .sysLabel => .staged false 0 0 0 (.any)
  | .clockLprcTrim => .ro true 0 0 2000000
  | .clockRefMode => .ro false 0 0 0
  | .clockXtalDrive => .staged false 0 0 1 (.steps 0 2 1)
  | .clockPllState => .ro true 0 0 0
  | .clockCoreMhz => .ro false 0 0 240
  | .clockRefStart => .ro true 0 0 0
  | .clockTrimError => .ro true 0 0 0
  | .clockPllStarts => .ro true 0 0 1
  | .pstateVotes => .ro true 0 0 0
  | .pstateDeepest => .live false 0 0 1 (.steps 0 2 1)
  | .pstateWakeEn => .live false 0 0 0x000003FE (.mask 0x3FE)
  | .pstateVsettle => .staged false 0 0 200 (.steps 50 2000 10)
  | .pstateReentryHoldoff => .live false 0 0 1 (.steps 1 1000 1)
  | .pstateAlarm => .live false 0 0 0 (.any)
  | .pstateAuxLatch => .live true 0 0 0 (.mask 0xFF)
  | .pstateHvoteDepth => .live false 0 0 0 (.voteDepths)
  | .pstateLevel => .ro false 0 0 1
  | .pstateLastWake => .ro false 0 0 0xFF
  | .pstatePadStaged => .ro false 0 0 0
  | .crankVenter => .live true 0 0 7000 (.steps 6000 12000 100)
  | .pstateEntries => .ro false 0 0 0
  | .pstateAbandons => .ro false 0 0 0
  | .pstateWakes => .ro false 0 0 0
  | .pstateCranks => .ro false 0 0 0
  | .pstateShed => .ro false 0 0 0
  | .pstateLatched => .ro false 0 0 0
  | .pstateDomains => .ro true 0 0 0
  | .pstateTarget => .ro true 0 0 0x3
  | .pstatePlChanges => .ro false 0 0 0
  | .pstateSleepMs => .ro true 0 0 0
  | .pstateHeldEvents => .ro false 0 0 0
  | .pstateLastEnter => .ro false 0 0 0
  | .resetCause => .w1c 0xFFF
  | .resetDetail => .ro false 0 0 0
  | .resetBlockRst => .live false 0 0 0 (.any)
  | .resetClockDead => .ro false 0 0 0
  | .resetStretch => .live false 0 0 10 (.steps 1 100 1)
  | .resetWdtTimeout => .staged false 0 0 500 (.steps 100 2000 10)
  | .resetStraps => .ro false 0 0 0
  | .resetFuseBurn => ⟨.rwOnce, false, false, 0, 0, 0, .steps 1 1 1⟩
  | .resetBkp0 => .live false 0 0 0 (.any)
  | .resetBkp1 => .live false 0 0 0 (.any)
  | .resetBkp2 => .live false 0 0 0 (.any)
  | .resetBkp3 => .live false 0 0 0 (.any)
  | .resetBkp4 => .live false 0 0 0 (.any)
  | .resetBkp5 => .live false 0 0 0 (.any)
  | .resetBkp6 => .live false 0 0 0 (.any)
  | .resetBkp7 => .live false 0 0 0 (.any)
  | .spineForgeLossTimeout => .staged true 0 0 20 (.steps 5 100 1)
  | .spineSkewMax => .staged false 0 0 2000 (.steps 500 10000 100)
  | .spineRetrainInterval => .live false 0 0 100 (.steps 10 1000 10)
  | .spineMinLanes => .staged true 0 0 1 (.steps 1 2 1)
  | .spineLanes => .ro false 0 0 0
  | .spineEpoch => .ro false 0 0 1
  | .spineQuarantine => .ro false 0 0 0
  | .spineStatReplayed => .ro true 0 0 0
  | .spineStatCrc => .ro true 0 0 0
  | .spineStatDuplicate => .ro true 0 0 0
  | .spineStatSkewPeak => .ro true 0 0 0
  | .spineStatClear => .w1c 1
  | .cfgState => .ro false 0 0 0
  | .cfgSlot => .ro false 0 0 0
  | .cfgSeq => .ro false 0 0 0
  | .cfgImageCrc => .ro false 0 0 0
  | .cfgSlotValid => .ro false 0 0 0
  | .cfgCommitResult => .ro false 0 0 0
  | .cfgSession => .ro false 0 0 0
  | .cfgSessionTimeout => .live false 0 0 10 (.steps 1 600 1)
  | .ledgerHeadCount => .ro false 0 0 0
  | .ledgerMarkCount => .ro false 0 0 0
  | .ledgerOldestCount => .ro false 0 0 0
  | .ledgerLost => .ro true 0 0 0
  | .ledgerQ61Records => .ro true 0 0 0
  | .ledgerExternal => .ro false 0 0 1
  | .ledgerTail => .ro false 0 0 0
  | .ledgerRetained => .ro false 0 0 0
  | .cmdSvcGap => .live false 0 0 50 (.steps 10 1000 1)
  | .cmdC0Families => .staged false 0 0 0x00000FFF (.mask 0xFFF)
  | .cmdC1Families => .staged false 0 0 0x00000FFF (.mask 0xFFF)
  | .cmdC3Families => .staged false 0 0 0x00000FFF (.mask 0xFFF)
  | .cmdAdmitted => .ro false 0 0 0
  | .cmdMalformed => .ro false 0 0 0
  | .cmdServiceTries => .ro false 0 0 0
  | .cmdStaged => .ro false 0 0 0
  | .hubUpLaneRetries => .staged false 0 0 3 (.steps 0 7 1)
  | .hubUpMaxSpeed => .staged false 0 0 4 (.steps 0 4 1)
  | .hubLinkPmLog => .live false 0 0 0 (.steps 0 1 1)
  | .hubPortPowerMode => .staged false 0 0 0 (.steps 0 1 1)
  | .hubRemovable => .staged false 0 0 0x0000FFFF (.mask 0xFFFF)
  | .hubSsPorts => .staged false 0 0 0xF (.mask 0xF)
  | .hubChatterLimit => .live false 0 0 8 (.steps 2 64 1)
  | .hubUpState => .ro true 0 0 0
  | .hubConfigured => .ro false 0 0 0
  | .hubConnected => .ro false 0 0 0
  | .hubEnabled => .ro false 0 0 0
  | .hubSuspended => .ro false 0 0 0
  | .hubHeld => .ro false 0 0 0
  | .hubOvercurrent => .ro false 0 0 0
  | .hubSsLinks => .ro false 0 0 0
  | .hubRemoteWake => .ro false 0 0 0
  | .portSuspIlim => .live false 1 16 2500 (.steps 500 10000 100)
  | .portSuspGrace => .live false 1 16 10 (.steps 1 1000 1)
  | .portSuspAction => .live false 1 16 0 (.steps 0 2 1)
  | .portCycleOff => .live false 1 16 1000 (.steps 100 5000 100)
  | .portState => .ro false 1 16 0
  | .portSpeed => .ro false 1 16 0xFF
  | .portEnablePolicy => .staged false 1 16 1 (.steps 0 1 1)
  | .portLabel => .live false 1 16 0 (.any)
  | .portClass => .ro false 1 16 0
  | .portCeiling => .ro false 1 16 0
  | .portGrant => .ro false 1 16 0
  | .portClaim => .ro false 1 16 0
  | .portLastViol => .ro false 1 16 0
  | .portViols => .ro false 1 16 0
  | .portAttaches => .ro false 1 16 0
  | .portCycleUsed => .ro false 1 16 0
  | .portSuspCurrent => .ro true 1 16 0
  | .portResets => .ro false 1 16 0
  | .portOrient => .ro false 1 16 0
  | .portOvercurrents => .ro false 1 16 0
  | .ttState => .ro true 1 16 0
  | .ttSsFill => .ro true 1 16 0
  | .ttCsFill => .ro true 1 16 0
  | .ttDropped => .ro true 1 16 0
  | .ttExpired => .ro true 1 16 0
  | .ttResets => .ro true 1 16 0
  | .typecCcDebounce => .staged false 0 0 150 (.steps 100 200 1)
  | .typecPdDebounce => .staged false 0 0 15 (.steps 10 20 1)
  | .typecVconnEn => .staged false 0 0 0x0000FFFF (.mask 0xFFFF)
  | .typecAttached => .ro false 0 0 0
  | .typecCable5a => .ro false 0 0 0
  | .typecOrient => .ro false 0 0 0
  | .typecRaSeen => .ro false 0 0 0
  | .typecVconnOn => .ro false 0 0 0
  | .typecVconnFault => .ro false 0 0 0
  | .typecRpNow => .ro true 0 0 0
  | .typecFallback => .ro false 0 0 0
  | .typecSbuClosed => .ro true 0 0 0
  | .pdEnable => .staged false 1 16 1 (.steps 0 1 1)
  | .pdRpLevel => .staged false 1 16 0 (.steps 0 2 1)
  | .pdProvisional => .live false 1 16 0 (.steps 0 1 1)
  | .pdTransMax => .staged false 1 16 250 (.steps 50 400 10)
  | .pdViolLimit => .live false 1 16 4 (.steps 1 16 1)
  | .pdViolWindow => .live false 1 16 10 (.steps 1 300 1)
  | .pdContract => .ro false 1 16 0x000000FF
  | .pdCurrent => .ro false 1 16 0
  | .pdRevision => .ro false 1 16 0
  | .pdViolCount => .ro false 1 16 0
  | .pdHardresets => .ro false 1 16 0
  | .pdMode => .ro false 1 16 0xFF000000
  | .pdProv => .ro false 1 16 0
  | .pdCaps => .ro false 1 16 0
  | .vdmWaggleSvid => .staged false 0 0 0x3B9E (.steps 1 0xFFFE 1)
  | .vdmWaggleMode => .staged false 0 0 0x01 (.mask 0xFF)
  | .vdmWaggleTether => .staged false 0 0 0 (.any)
  | .vdmTethers => .ro false 0 0 0
  | .vdmQ62Count => .ro true 0 0 0
  | .vdmDrops => .ro false 0 0 0
  | .vdmAttentions => .ro false 0 0 0
  | .vdmSvdmVersion => .ro false 0 0 0x21
  | .railCap5v => .staged true 0 0 600 (.steps 0 6000 1)
  | .railCap9v => .staged true 0 0 600 (.steps 0 6000 1)
  | .railCap15v => .staged true 0 0 900 (.steps 0 6000 1)
  | .railCap20v => .staged true 0 0 1200 (.steps 0 6000 1)
  | .railSlewUp => .staged false 0 0 25 (.steps 5 50 1)
  | .railSlewDown => .staged false 0 0 25 (.steps 5 50 1)
  | .railSettleBand => .staged false 0 0 5 (.steps 2 8 1)
  | .railSettleMax => .staged false 0 0 20 (.steps 5 100 1)
  | .railMask => .staged true 0 0 0xF (.mask 0xF)
  | .railPresent => .ro false 0 0 0
  | .railLoadLo => .ro false 0 0 0
  | .railLoadHi => .ro false 0 0 0
  | .chanIlim => .live true 1 12 3500 (.steps 500 3500 50)
  | .chanVsnsLim => .live true 13 24 50 (.steps 10 100 1)
  | .chanRsns => .staged true 13 24 5000 (.steps 1000 50000 100)
  | .chanIshort => .live true 1 24 25 (.steps 15 40 1)
  | .chanTovl => .live true 1 24 100 (.steps 1 1000 1)
  | .chanRamp => .live false 1 24 10 (.steps 1 100 1)
  | .chanERamp => .live true 1 24 10 (.rampEnergy)
  | .chanRetryMax => .live false 1 24 3 (.steps 0 7 1)
  | .chanRetryDelay => .live false 1 24 100 (.steps 10 1000 10)
  | .chanVgsOk => .staged true 13 24 7000 (.steps 4000 10000 100)
  | .chanTgate => .staged false 13 24 500 (.steps 100 2000 10)
  | .chanToffChk => .staged false 1 12 50 (.steps 10 500 1)
  | .chanState => .ro false 1 24 0xFFFF0000
  | .chanTrips => .ro false 1 24 0
  | .chanAuxAuto => .staged false 17 24 0 (.steps 0 1 1)
  | .chanMeasAvg => .live false 1 24 1 (.steps 1 100 1)
  | .allotTotalW => .staged true 0 0 2400 (.steps 45 6000 1)
  | .allotReclaim => .staged true 0 0 1 (.steps 0 1 1)
  | .allotReclaimFloor => .staged true 0 0 45 (.steps 45 150 1)
  | .allotDefaultCeiling => .staged true 0 0 600 (.steps 45 600 1)
  | .allotDefaultClass => .staged true 0 0 2 (.steps 0 3 1)
  | .allotRemaining => .ro false 0 0 2400
  | .allotGranted => .ro false 0 0 0
  | .allotWaiting => .ro false 0 0 0
  | .holdCells => .staged true 0 0 0 (.cells)
  | .holdVcellTarget => .staged true 0 0 2500 (.steps 2000 2700 10)
  | .holdVinLoss => .staged true 0 0 5500 (.steps 4500 6000 100)
  | .holdChgI => .live false 0 0 500 (.steps 100 2000 10)
  | .holdChgRsns => .staged true 0 0 50000 (.steps 10000 500000 1000)
  | .holdEMin => .staged true 0 0 3 (.steps 1 100 1)
  | .holdAuxOrder => .staged false 0 0 0x76543210 (.auxOrder)
  | .holdCapRated => .staged false 0 0 100 (.steps 1 10000 1)
  | .holdCellDev => .live false 0 0 20 (.steps 5 50 1)
  | .holdVstore => .ro true 0 0 0
  | .holdCap => .ro true 0 0 0
  | .holdEnergy => .ro true 0 0 0
  | .holdStatus => .ro true 0 0 0
  | .holdFaults => .ro false 0 0 0
  | .twiEnable => .staged false 0 3 0 (.steps 0 1 1)
  | .twiRate => .staged false 0 3 0 (.steps 0 2 1)
  | .twiLevel => .staged false 0 4 0 (.steps 0 1 1)
  | .twiStretchMode => .live false 0 3 0 (.steps 0 1 1)
  | .twiStretchMax => .live false 0 3 1000 (.steps 10 100000 10)
  | .twiIbrMin => .live false 0 3 20 (.steps 10 1000 1)
  | .twiAttnAddr => .live false 0 3 0 (.address true)
  | .twiAttnLen => .live false 0 3 1 (.steps 1 32 1)
  | .twiMboxAddr => .staged false 0 4 0 (.address true)
  | .twiRecoverPulses => .live false 0 3 9 (.steps 1 32 1)
  | .twiPowerLink => .staged false 0 3 0 (.auxChannel)
  | .twiReadAhead => .live false 0 3 0 (.readAhead)
  | .twiTargetAddr => .staged false 4 4 0x5C (.address false)
  | .twiState => .ro true 0 4 0
  | .foragerDuty => .live false 0 0 20 (.steps 0 100 1)
  | .foragerCycle => .live false 0 0 60 (.steps 10 3600 1)
  | .foragerTestMask => .live false 0 0 0x00001FFE (.mask 0x1FFE)
  | .foragerCycles => .ro true 0 0 0
  | .foragerCycleTime => .ro true 0 0 0
  | .foragerFailed => .ro true 0 0 0
  | .foragerLogHead => .ro true 0 0 0
  | .foragerLogClear => .w1c 1
  | .trigEnable => .live false 0 0 1 (.steps 0 1 1)
  | .trigArmed => .ro false 0 0 0
  | .trigLoaded => .ro false 0 0 0
  | .trigFromLoad => .ro false 0 0 0
  | .trigFirings => .ro false 0 0 0
  | .trigLast => .ro false 0 0 0x000000FF
  | .trigDepthDrops => .ro false 0 0 0
  | .trigBodyBytes => .ro false 0 0 0

end Sys2Proof.Machine
end

