-- ==== Sys2Proof/Machine/Bits.lean ====
section
/-! DEFINITION. Byte order, CRCs, bounded access to fixed banks, and the sparse canonical lists that hold memory and parameter values. -/

namespace Sys2Proof.Machine

/-! Byte order (R6). -/

/-- The n low bytes of a number, least significant first. -/
def leBytes : Nat → Nat → List Byte
  | 0, _ => []
  | n + 1, v => BitVec.ofNat 8 v :: leBytes n (v / 256)

/-- The number that bytes spell, least significant first. -/
def leNat : List Byte → Nat
  | [] => 0
  | b :: l => b.toNat + 256 * leNat l

/-- The number in n bytes of a list from an offset; bytes that are not there read 0. -/
def leAt (l : List Byte) (off n : Nat) : Nat := leNat ((l.drop off).take n)

/-- The byte of a list at an offset; 0 where the list has none. -/
def byteOf (l : List Byte) (i : Nat) : Nat := (l[i]?.getD 0).toNat

/-- A list cut or filled with 0x00 to exactly n bytes. -/
def padTo (n : Nat) (l : List Byte) : List Byte := l.take n ++ List.replicate (n - l.length) 0

/-- The bits of a Bool list, element i at bit i, as a number. -/
def bitsOf : List Bool → Nat
  | [] => 0
  | b :: l => b.toNat + 2 * bitsOf l

/-! CRCs. -/

/-- One byte through CRC-16/CCITT-FALSE (polynomial 0x1021, most significant bit first). -/
def crc16Byte (c : BitVec 16) (b : Byte) : BitVec 16 :=
  (List.range 8).foldl
    (fun c _ => if c.msb then (c <<< 1) ^^^ 0x1021#16 else c <<< 1)
    (c ^^^ ((b.setWidth 16) <<< 8))

/-- CRC-16/CCITT-FALSE: initial value 0xFFFF, no reflection, no final XOR (Table 02-1, R49). -/
def crc16 (l : List Byte) : BitVec 16 := l.foldl crc16Byte 0xFFFF#16

/-- One byte through the reflected CRC-32 of 06_configuration_images.md. -/
def crc32Byte (c : BitVec 32) (b : Byte) : BitVec 32 :=
  (List.range 8).foldl
    (fun c _ => if c.getLsbD 0 then (c >>> 1) ^^^ 0xEDB88320#32 else c >>> 1)
    (c ^^^ b.setWidth 32)

/-- The reflected CRC-32: polynomial 0x04C11DB7, initial value and final XOR 0xFFFFFFFF. -/
def crc32 (l : List Byte) : BitVec 32 := ~~~ (l.foldl crc32Byte 0xFFFFFFFF#32)

/-- One byte through CRC-64/XZ. -/
def crc64Byte (c : BitVec 64) (b : Byte) : BitVec 64 :=
  (List.range 8).foldl
    (fun c _ => if c.getLsbD 0 then (c >>> 1) ^^^ 0xC96C5795D7870F42#64 else c >>> 1)
    (c ^^^ b.setWidth 64)

/-- CRC-64/XZ of the agreement set (R118). PRESUMED, log 8: the spec names the CRC and gives no
polynomial; these are the parameters of that name. -/
def crc64 (l : List Byte) : BitVec 64 := ~~~ (l.foldl crc64Byte 0xFFFFFFFFFFFFFFFF#64)

/-! Fixed banks. -/

/-- Element i of a bank, or the value given where i is outside it. -/
def bankGet {α : Type} {n : Nat} (v : Vector α n) (i : Nat) (d : α) : α := v[i]?.getD d

/-- The bank with element i replaced; unchanged where i is outside it. -/
def bankSet {α : Type} {n : Nat} (v : Vector α n) (i : Nat) (x : α) : Vector α n := v.setIfInBounds i x

/-! Sparse lists in canonical form: keys strictly rising, no entry equal to the value of an unlisted key. -/

/-- The value of a key. -/
def sparseGet {β : Type} (d : Nat → β) : List (Nat × β) → Nat → β
  | [], k => d k
  | (a, v) :: l, k => if a = k then v else sparseGet d l k

/-- The list with one key set; setting a key to the value it has unlisted removes its entry. -/
def sparseSet {β : Type} [DecidableEq β] (d : Nat → β) : List (Nat × β) → Nat → β → List (Nat × β)
  | [], k, v => if v = d k then [] else [(k, v)]
  | (a, w) :: l, k, v =>
    if a < k then (a, w) :: sparseSet d l k v
    else if a = k then (if v = d k then l else (k, v) :: l)
    else if v = d k then (a, w) :: l else (k, v) :: (a, w) :: l

/-- The canonical form of a sparse list from a lower bound on its keys. -/
def sparseWf {β : Type} [DecidableEq β] (d : Nat → β) : Nat → List (Nat × β) → Bool
  | _, [] => true
  | lo, (a, v) :: l => decide (lo ≤ a) && decide (v ≠ d a) && sparseWf d (a + 1) l

/-! Lists kept in an order. -/

/-- Insertion into a list ordered by `le`, before the first element that it precedes. -/
def insertBy {α : Type} (le : α → α → Bool) (x : α) : List α → List α
  | [] => [x]
  | y :: l => if le x y then x :: y :: l else y :: insertBy le x l

/-- Insertion sort: structural, and stable where `le` is a strict order's complement. -/
def sortBy {α : Type} (le : α → α → Bool) : List α → List α
  | [] => []
  | x :: l => insertBy le x (sortBy le l)

/-- Numbers lo, lo + 1, …, hi. -/
def upTo (lo hi : Nat) : List Nat := (List.range (hi + 1 - lo)).map (lo + ·)

/-- Saturation at a bound. -/
def saturate (bound n : Nat) : Nat := min bound n

end Sys2Proof.Machine
end

