-- ==== Sys2Proof/Machine/Codes.lean ====
section
/-! DEFINITION. The number codes of modes, clients, statuses, opcodes, kinds and blocks (Tables 01-6, 02-2, 02-3, 03-3, 03-4, 03-6). -/

namespace Sys2Proof.Machine

/-- Table 01-6. -/
def Mode.code (x : Mode) : Nat :=
  match x with
  | .off => 0
  | .boot => 1
  | .safe => 2
  | .run => 3
  | .idle => 4
  | .sleep => 5
  | .deepSleep => 6
  | .busSuspend => 7
  | .standalone => 8
  | .banked => 9
  | .service => 10
  | .crank => 11

/-- Table 03-3. -/
def Client.code (x : Client) : Nat :=
  match x with
  | .c0 => 0
  | .c1 => 1
  | .c2 => 2
  | .c3 => 3

/-- Table 03-4. -/
def Status.code (x : Status) : Nat :=
  match x with
  | .done => 0x00
  | .pending => 0x01
  | .doneWithSurplus => 0x02
  | .formatError => 0x10
  | .crcError => 0x11
  | .unknownOpcode => 0x12
  | .badParameter => 0x13
  | .badIndex => 0x14
  | .stale => 0x20
  | .wrongMode => 0x21
  | .busySubject => 0x22
  | .locked => 0x23
  | .refusedBudget => 0x30
  | .refusedPolicy => 0x31
  | .fault => 0x40
  | .dieAbsent => 0x41
  | .resetting => 0x42

/-- Table 03-6. -/
def Opcode.code (x : Opcode) : Nat :=
  match x with
  | .echo => 0x0001
  | .identify => 0x0002
  | .reset => 0x0003
  | .modeRequest => 0x0004
  | .queueStatus => 0x0005
  | .serviceEnter => 0x0006
  | .paramGet => 0x0101
  | .paramSet => 0x0102
  | .paramGetBlock => 0x0103
  | .paramStage => 0x0104
  | .paramCommit => 0x0105
  | .portEnable => 0x0201
  | .portDisable => 0x0202
  | .portReset => 0x0203
  | .portSuspend => 0x0204
  | .portResume => 0x0205
  | .portStatus => 0x0206
  | .chanOn => 0x0301
  | .chanOff => 0x0302
  | .chanClearTrip => 0x0303
  | .chanMeasure => 0x0304
  | .pdStatus => 0x0401
  | .pdRenegotiate => 0x0402
  | .pdHardReset => 0x0403
  | .pdVdmSend => 0x0404
  | .pdModeEnter => 0x0405
  | .pdModeExit => 0x0406
  | .twiXfer => 0x0501
  | .twiRecover => 0x0502
  | .twiAttnRead => 0x0503
  | .ledgerRead => 0x0601
  | .ledgerMark => 0x0602
  | .ledgerHead => 0x0603
  | .voteSet => 0x0701
  | .voteClear => 0x0702
  | .pstateStatus => 0x0703
  | .plSet => 0x0704
  | .padRelease => 0x0705
  | .cfgRead => 0x0801
  | .cfgWriteBegin => 0x0802
  | .cfgWriteData => 0x0803
  | .cfgWriteCommit => 0x0804
  | .cfgApply => 0x0805
  | .testRun => 0x0901
  | .testStatus => 0x0902
  | .healthRead => 0x0903
  | .holdStatus => 0x0A01
  | .holdTapTest => 0x0A02
  | .trigLoad => 0x0B01
  | .trigArm => 0x0B02
  | .trigDisarm => 0x0B03

/-- Table 02-3. -/
def Kind.code (x : Kind) : Nat :=
  match x with
  | .boot => 0x01
  | .modeChange => 0x02
  | .resetBlock => 0x03
  | .agreeRound => 0x04
  | .agreeFail => 0x05
  | .dieQuarantine => 0x06
  | .laneDrop => 0x07
  | .laneRejoin => 0x08
  | .skewResync => 0x09
  | .cfgApplied => 0x0A
  | .cfgReverted => 0x0B
  | .cfgSessionEnd => 0x0C
  | .cmdApplied => 0x10
  | .cmdComplete => 0x11
  | .trigFired => 0x12
  | .portAttach => 0x20
  | .portDetach => 0x21
  | .portEnabled => 0x22
  | .portDisabled => 0x23
  | .portSuspend => 0x24
  | .portResume => 0x25
  | .portSpeed => 0x26
  | .upLink => 0x27
  | .upLanes => 0x28
  | .pdContract => 0x30
  | .pdHardreset => 0x31
  | .pdVdm => 0x32
  | .pdMode => 0x33
  | .provIssued => 0x34
  | .provConfirmed => 0x35
  | .provWithdrawn => 0x36
  | .railTransition => 0x37
  | .chanOn => 0x40
  | .chanOff => 0x41
  | .chanTrip => 0x42
  | .chanRetry => 0x43
  | .chanLocked => 0x44
  | .gateFail => 0x45
  | .legLeak => 0x46
  | .allotChange => 0x47
  | .holdEnter => 0x50
  | .holdCell => 0x51
  | .holdTapOpen => 0x52
  | .holdShed => 0x53
  | .twAttn => 0x60
  | .twMbox => 0x61
  | .twHeld => 0x62
  | .twRecovered => 0x63
  | .twSurplus => 0x64
  | .pstateEnter => 0x70
  | .pstateAbandon => 0x71
  | .wake => 0x72
  | .padRelease => 0x73
  | .plChange => 0x74
  | .violation => 0x80
  | .fault => 0x81
  | .foragerFail => 0x90

/-- `CHAN_MEASURE` r6, Table 10-2. -/
def ChanState.code (x : ChanState) : Nat :=
  match x with
  | .off => 0
  | .ramping => 1
  | .on => 2
  | .regulating => 3
  | .retryWait => 4
  | .locked => 5

/-- `CFG.STATE`, Table 06-7. -/
def CfgState.code (x : CfgState) : Nat :=
  match x with
  | .defaults => 0
  | .applied => 1
  | .reverted => 2

/-- Every opcode, in table order. -/
def Opcode.all : List Opcode :=
  [.echo, .identify, .reset, .modeRequest, .queueStatus, .serviceEnter,
   .paramGet, .paramSet, .paramGetBlock, .paramStage, .paramCommit, .portEnable,
   .portDisable, .portReset, .portSuspend, .portResume, .portStatus, .chanOn,
   .chanOff, .chanClearTrip, .chanMeasure, .pdStatus, .pdRenegotiate, .pdHardReset,
   .pdVdmSend, .pdModeEnter, .pdModeExit, .twiXfer, .twiRecover, .twiAttnRead,
   .ledgerRead, .ledgerMark, .ledgerHead, .voteSet, .voteClear, .pstateStatus,
   .plSet, .padRelease, .cfgRead, .cfgWriteBegin, .cfgWriteData, .cfgWriteCommit,
   .cfgApply, .testRun, .testStatus, .healthRead, .holdStatus, .holdTapTest,
   .trigLoad, .trigArm, .trigDisarm]

/-- The opcode with a code, if Table 03-6 has it. -/
def Opcode.ofCode (c : Nat) : Option Opcode := Opcode.all.find? fun o => o.code == c

/-- The family of an opcode: the upper byte of its code. -/
def Opcode.family (o : Opcode) : Nat := o.code / 256

/-- The read-only opcodes, which produce no entry (R36). -/
def Opcode.readOnly (o : Opcode) : Bool :=
  match o with
  | .echo | .identify | .queueStatus | .paramGet | .paramGetBlock | .portStatus | .chanMeasure | .pdStatus
  | .twiAttnRead | .ledgerRead | .ledgerHead | .pstateStatus | .cfgRead | .testStatus | .healthRead
  | .holdStatus => true
  | _ => false

/-- The kind groups of Table 02-5. -/
def Kind.group (k : Kind) : Nat :=
  if k.code ≤ 0x12 then 0 else if k.code ≤ 0x28 then 1 else if k.code ≤ 0x37 then 2
  else if k.code ≤ 0x53 then 3 else if k.code ≤ 0x74 then 4 else 5

/-- An external client as a client. -/
def extClient (c : ExtClient) : Client :=
  match c with
  | .c0 => .c0
  | .c1 => .c1
  | .c3 => .c3

/-! Source block codes (Table 02-2). -/

def blkCmd : Nat := 0x00
def blkUsb2 : Nat := 0x01
def blkUsb3 : Nat := 0x02
def blkUp : Nat := 0x03
def blkSpine : Nat := 0x05
def blkCfg : Nat := 0x06
def blkReset : Nat := 0x07
def blkPower : Nat := 0x08
def blkPd : Nat := 0x09
def blkChan : Nat := 0x0A
def blkAllot : Nat := 0x0B
def blkStore : Nat := 0x0C
def blkTwi : Nat := 0x0D
def blkForager : Nat := 0x0E
def blkTrig : Nat := 0x0F
def blkEcc : Nat := 0x10
def blkParam : Nat := 0x11

/-- The Comb die of a port (Table 01-1). -/
def combOf (port : Nat) : Nat := if port ≤ 8 then 1 else 2

end Sys2Proof.Machine
end

