-- ==== Sys2Proof/Machine/Memory.lean ====
section
/-! DEFINITION. The two addressed memories: the flash (Table 06-1) and the retained memory (Table 04-5), as canonical lists of cells. -/

namespace Sys2Proof.Machine

/-- What an unlisted flash byte reads as: the erased value. DESIGN CHOICE, log 9; unsafe. -/
def flashDefault (_ : Nat) : Byte := 0xFF

/-- What an unlisted byte of the retained memory reads as: zero after a start that did not hold it (R94). -/
def retainedDefault (_ : Nat) : Byte := 0x00

/-- The canonical form of a memory. -/
abbrev Memory.wf (d : Nat → Byte) (m : List Host.Cell) : Prop := sparseWf d 0 m = true

/-- One byte of a memory. -/
def readByte (d : Nat → Byte) (m : List Host.Cell) (a : Nat) : Byte := sparseGet d m a

/-- n bytes of a memory from an address. -/
def readBytes (d : Nat → Byte) (m : List Host.Cell) (a n : Nat) : List Byte :=
  (List.range n).map fun i => readByte d m (a + i)

/-- One byte written. -/
def writeByte (d : Nat → Byte) (m : List Host.Cell) (a : Nat) (b : Byte) : List Host.Cell :=
  sparseSet d m a b

/-- Bytes written from an address upward. -/
def writeBytes (d : Nat → Byte) : List Host.Cell → Nat → List Byte → List Host.Cell
  | m, _, [] => m
  | m, a, b :: l => writeBytes d (writeByte d m a b) (a + 1) l

/-- The cells of a range given back their unlisted value: a flash erase, or a clear of the retained memory. -/
def eraseRange (m : List Host.Cell) (a n : Nat) : List Host.Cell :=
  m.filter fun c => decide (c.1 < a) || decide (a + n ≤ c.1)

/-! Where things lie in flash (Table 06-1, R47). -/

/-- The base of configuration slot 0 (A) or 1 (B). -/
def slotBase (slot : Nat) : Nat := if slot = 0 then 0x100000 else 0x110000

/-- The base of ledger tail page 0 or 1. -/
def tailBase (page : Nat) : Nat := if page = 0 then 0x120000 else 0x124000

/-- The base of the boot-number record (R99). -/
def bootRecordBase : Nat := 0x128000

end Sys2Proof.Machine
end

