-- ==== Sys2Proof/Machine/Ops.lean ====
section
/-! DEFINITION. The named operations over the state's banks, the parameter values, the ledger, the latched faults and the pending operations. -/

namespace Sys2Proof.Machine

/-! Banks. Ports and channels are numbered from 1; dies, links and segments from 0. -/

/-- PORTn; the initial port where n names none. -/
def State.port (s : State) (n : Nat) : Port :=
  if n = 0 then Port.init else bankGet s.ports (n - 1) Port.init

/-- PORTn replaced; the state unchanged where n names none. -/
def State.setPort (s : State) (n : Nat) (p : Port) : State :=
  if n = 0 then s else { s with ports := bankSet s.ports (n - 1) p }

/-- PORTn changed by a function. -/
def State.onPort (s : State) (n : Nat) (f : Port → Port) : State := s.setPort n (f (s.port n))

/-- The USB side of PORTn changed. -/
def State.onBus (s : State) (n : Nat) (f : Bus → Bus) : State :=
  s.onPort n fun p => { p with bus := f p.bus }

/-- The PD engine of PORTn changed. -/
def State.onPd (s : State) (n : Nat) (f : Pd → Pd) : State :=
  s.onPort n fun p => { p with pd := f p.pd }

/-- CHn; the initial channel where n names none. -/
def State.chan (s : State) (n : Nat) : Chan :=
  if n = 0 then Chan.init else bankGet s.chans (n - 1) Chan.init

/-- CHn replaced. -/
def State.setChan (s : State) (n : Nat) (c : Chan) : State :=
  if n = 0 then s else { s with chans := bankSet s.chans (n - 1) c }

/-- CHn changed by a function. -/
def State.onChan (s : State) (n : Nat) (f : Chan → Chan) : State := s.setChan n (f (s.chan n))

/-- The TT of PORTn. -/
def State.tt (s : State) (n : Nat) : Tt := if n = 0 then Tt.init else bankGet s.tts (n - 1) Tt.init

/-- The TT of PORTn changed. -/
def State.onTt (s : State) (n : Nat) (f : Tt → Tt) : State :=
  if n = 0 then s else { s with tts := bankSet s.tts (n - 1) (f (s.tt n)) }

/-- Segment n, 0 to 3 for TW0 to TW3 and 4 for SVC. -/
def State.seg (s : State) (n : Nat) : Seg := bankGet s.segs n Seg.init

/-- Segment n changed. -/
def State.onSeg (s : State) (n : Nat) (f : Seg → Seg) : State :=
  { s with segs := bankSet s.segs n (f (s.seg n)) }

/-- Die n (R9). -/
def State.die (s : State) (n : Nat) : Die := bankGet s.spine.dies n Die.init

/-- Spine changed. -/
def State.onSpine (s : State) (f : Spine → Spine) : State := { s with spine := f s.spine }

/-- Die n changed. -/
def State.onDie (s : State) (n : Nat) (f : Die → Die) : State :=
  s.onSpine fun sp => { sp with dies := bankSet sp.dies n (f (s.die n)) }

/-- Spine link n: 0 SPINE-A, 1 SPINE-B, 2 SPINE-F. -/
def State.link (s : State) (n : Nat) : Link := bankGet s.spine.links n Link.init

/-- Link n changed. -/
def State.onLink (s : State) (n : Nat) (f : Link → Link) : State :=
  s.onSpine fun sp => { sp with links := bankSet sp.links n (f (s.link n)) }

/-- The ledger changed. -/
def State.onLed (s : State) (f : Ledger → Ledger) : State := { s with led := f s.led }

/-- Ember changed. -/
def State.onEmber (s : State) (f : Ember → Ember) : State := { s with ember := f s.ember }

/-- The transports changed. -/
def State.onIo (s : State) (f : Transports → Transports) : State := { s with io := f s.io }

/-- Votes, sleep and level changed. -/
def State.onPw (s : State) (f : Power → Power) : State := { s with pw := f s.pw }

/-- The upstream port and hubs changed. -/
def State.onHub (s : State) (f : Hub → Hub) : State := { s with hub := f s.hub }

/-- The Honeystore monitor changed. -/
def State.onStore (s : State) (f : Store → Store) : State := { s with store := f s.store }

/-- Forager changed. -/
def State.onForager (s : State) (f : Forager → Forager) : State := { s with forager := f s.forager }

/-- The configuration changed. -/
def State.onCfg (s : State) (f : Cfg → Cfg) : State := { s with cfg := f s.cfg }

/-- The newest answer on a wire (assumption log 5). -/
def State.answering (s : State) (a : Answer) : State := s.onIo fun io => { io with answer := a }

/-- Whether n names a port, a channel, a channel of a port, an AUX channel. -/
def isPort (n : Nat) : Bool := decide (1 ≤ n) && decide (n ≤ 16)
def isChan (n : Nat) : Bool := decide (1 ≤ n) && decide (n ≤ 24)
def isAux (n : Nat) : Bool := decide (17 ≤ n) && decide (n ≤ 24)
def isIntegrated (n : Nat) : Bool := decide (1 ≤ n) && decide (n ≤ 12)
def isExternal (n : Nat) : Bool := decide (13 ≤ n) && decide (n ≤ 24)

/-- A state change for each number of a list, in order. -/
def State.each (s : State) (l : List Nat) (f : Nat → State → State) : State :=
  l.foldl (fun s n => f n s) s

/-- A state change done only under a condition. -/
def State.when (s : State) (c : Bool) (f : State → State) : State := if c then f s else s

/-- Take a fresh free value number (assumption log 1). -/
def State.fresh (s : State) : Nat × State := (s.free, { s with free := s.free + 1 })

/-! Parameter values. -/

/-- The key of a parameter and index in a value list. -/
def paramKey (p : Param) (i : Nat) : Nat := p.id * 256 + i

/-- The after-reset value of a key (R295). -/
def paramDefault (key : Nat) : Word :=
  match Param.ofId (key / 256) with
  | some p => p.info.reset
  | none => 0

/-- The value in force of a stored parameter. -/
def State.value (s : State) (p : Param) (i : Nat) : Word :=
  sparseGet paramDefault s.prm.values (paramKey p i)

/-- The same, as a number. -/
def State.nat (s : State) (p : Param) (i : Nat) : Nat := (s.value p i).toNat

/-- A stored parameter set. -/
def State.setValue (s : State) (p : Param) (i : Nat) (v : Word) : State :=
  { s with prm := { s.prm with values := sparseSet paramDefault s.prm.values (paramKey p i) v } }

/-! The ledger (chapter 02). -/

/-- An LSN as 64 bits: the boot number above the count (R32). -/
def lsn64 (boot : BitVec 16) (count : Nat) : BitVec 64 := boot ++ BitVec.ofNat 48 count

/-- The count of the last entry appended. -/
def State.headCount (s : State) : Nat := s.led.next - 1

/-- The head: the LSN of the last entry appended (R63). -/
def State.head (s : State) : BitVec 64 := lsn64 s.led.boot s.headCount

/-- Uptime in microseconds (R5). -/
def State.uptime (s : State) : Nat := s.ember.ms * 1000 + s.ember.sub

/-- Losses per kind group with one more in a group, saturating (Table 02-5). -/
def bumpGroup (l : List Nat) (g : Nat) : List Nat := l.modify g fun n => saturate 0xFFFF (n + 1)

/-- One loss recorded in Q61: it opens a record after each mark change, else extends the newest one; when Q61
is full it extends the newest one (R20, R45). -/
def Ledger.recordLoss (l : Ledger) (e : Entry) : Ledger :=
  let l := { l with lost := saturate 0xFFFFFFFF (l.lost + 1) }
  if l.q61Open || decide (64 ≤ l.q61.length) then
    match l.q61.reverse with
    | [] => l
    | r :: older =>
      let r := { r with last := e.count, lost := saturate 0xFFFF (r.lost + 1),
                        groups := bumpGroup r.groups e.kind.group }
      { l with q61 := (r :: older).reverse, q61Open := true }
  else
    let r : LossRecord := { slot := l.q61Next, first := e.count, last := e.count, lost := 1,
                            groups := bumpGroup [0, 0, 0, 0, 0, 0] e.kind.group }
    { l with q61 := l.q61 ++ [r], q61Next := (l.q61Next + 1) % 64, q61Open := true }

/-- An entry put into Q60; the entry it overwrites is lost when its LSN is above the read mark (R44, R45). -/
def Ledger.push (l : Ledger) (e : Entry) : Ledger :=
  let full := decide (4096 ≤ l.ring.length)
  let l1 := { l with next := l.next + 1, ring := e :: l.ring.take 4095 }
  match full, l.ring.getLast? with
  | true, some old => if old.count > l.mark then l1.recordLoss old else l1
  | _, _ => l1

/-- The counters that follow an entry (Tables 15-3, 15-9, 12-3). -/
def Ledger.tally (l : Ledger) (e : Entry) : Ledger :=
  let l := if e.external then { l with external := l.external + 1 } else l
  match e.kind with
  | .violation => { l with violations := saturate 0xFFFFFFFF (l.violations + 1),
                           lastViolation := leAt e.data 0 2 }
  | .fault => { l with lastFault := leAt e.data 0 2 }
  | _ => l

/-- Whether a loaded list matches an entry (R70). -/
def TrigList.matches (t : TrigList) (e : Entry) : Bool :=
  t.armed && t.kinds.getLsbD e.kind.code
    && (t.subjects.getLsbD 31 || (decide (e.subject ≤ 30) && t.subjects.getLsbD e.subject))

/-- Whether list matching is in force at an append (R70, R74, R302). -/
def State.matching (s : State) (e : Entry) : Bool :=
  (match s.mode with
   | .off | .boot | .banked | .sleep | .deepSleep | .busSuspend => false
   | _ => true)
    && s.value .trigEnable 0 == 1
    && !(e.kind == .fault && leAt e.data 0 2 == 0x0705)

/-- The firings that an entry calls for, in ascending list number (R71). -/
def State.firingsOf (s : State) (e : Entry) : List Firing :=
  (List.range 16).filterMap fun n =>
    match bankGet s.trig.lists n none with
    | some t => if t.matches e then some ⟨n, e.count, e.tag, t.packets⟩ else none
    | none => none

/-- The last whole millisecond that a 48-bit count of microseconds reaches, and the last microsecond of a millisecond
(R15): after 2^48 − 1 µs the count goes on from 0. -/
def lastMs : Nat := 2 ^ 48 / 1000
def lastMicro (ms : Nat) : Nat := if ms < lastMs then 999 else 2 ^ 48 % 1000 - 1

/-- Uptime moved on to the moment of an append, by a free amount within the millisecond (R33; log 2). -/
def State.passTime (s : State) : State :=
  { s with free := s.free + 1,
           ember := { s.ember with sub := min (lastMicro s.ember.ms) (s.ember.sub + Config.elapsed s.free) } }

/-- Uptime reaches the next whole millisecond (R15). Counted by CLK_TICK it stands at it; counted by the LPRC alone it stands
where the first edge at or past it leaves it: each edge adds the trimmed period, in 2^-16 µs, to the accumulator. -/
def Ember.tick (e : Ember) (lprc : Bool) : Ember :=
  let ms := if e.ms < lastMs then e.ms + 1 else 0
  let whole := (lastMicro e.ms + 1) * 0x10000
  let now := e.sub * 0x10000 + e.frac
  let period := e.lprcTrim.toNat
  let edges := (whole - now + (period - 1)) / period
  let past := if lprc then now + edges * period - whole else 0
  { e with ms := ms, sub := min (lastMicro ms) (past / 0x10000), frac := past % 0x10000 }

/-- One entry appended: LSN, uptime and tag are the state's (R32, R33, R36). -/
def State.append (s : State) (external : Bool) (die block : Nat) (kind : Kind) (subject : Nat)
    (data : List Byte) : State :=
  let s := s.passTime
  let e : Entry := { count := s.led.next, uptime := s.uptime, external := external, die := die,
                     block := block, kind := kind, subject := subject, tag := s.led.tag,
                     data := padTo 10 data }
  let s1 := s.onLed fun l => (l.push e).tally e
  if s.matching e then s1.onLed fun l => { l with fires := l.fires ++ s.firingsOf e } else s1

/-- The tag that the entries of the present input carry. -/
def State.tagged (s : State) (t : BitVec 16) : State := s.onLed fun l => { l with tag := t }

/-- A byte of an entry's data. -/
def b8 (n : Nat) : List Byte := [BitVec.ofNat 8 n]

/-- Two bytes of an entry's data. -/
def b16 (n : Nat) : List Byte := leBytes 2 n

/-- Four bytes of an entry's data. -/
def b32 (n : Nat) : List Byte := leBytes 4 n

/-! Faults and violations (chapter 14). -/

/-- A `VIOLATION` entry: always external (R289). -/
def State.violation (s : State) (die block code subject : Nat) (detail : List Byte) : State :=
  s.append true die block .violation subject (b16 code ++ detail)

/-- Whether a latched fault of this code and subject is outstanding (R290). -/
def State.faultOpen (s : State) (code subject : Nat) : Bool :=
  s.led.openFaults.any fun f => f.code == code && f.subject == subject

/-- A `FAULT` entry that does not latch. -/
def State.fault (s : State) (external : Bool) (die block code subject : Nat) (detail : List Byte) :
    State :=
  s.append external die block .fault subject (b16 code ++ b8 0 ++ detail)

/-- A latched `FAULT`: recorded once until it clears (R290). `detail` begins at d3. -/
def State.latch (s : State) (external : Bool) (die block code subject : Nat) (detail : List Byte) :
    State :=
  if s.faultOpen code subject then s
  else
    let s := s.append external die block .fault subject (b16 code ++ b8 1 ++ detail)
    s.onLed fun l =>
      { l with openFaults := l.openFaults ++ [⟨code, subject, byteOf detail 0⟩] }

/-- A clearing event (R290, R291): no entry. -/
def State.unlatch (s : State) (sel : OpenFault → Bool) : State :=
  s.onLed fun l => { l with openFaults := l.openFaults.filter fun f => !sel f }

/-! Pending operations (R66). -/

/-- The pending operation of a subject. -/
def State.opOf (s : State) (subj : Subject) : Option PendingOp :=
  s.ops.find? fun o => o.subject == subj

/-- Whether a subject has one. -/
def State.hasOp (s : State) (subj : Subject) : Bool := (s.opOf subj).isSome

/-- The `CMD_COMPLETE` of an operation, unless it was QUIET (R66); it carries the command's tag. -/
def State.completion (s : State) (o : PendingOp) (st : Status) (external : Bool) : State :=
  if o.quiet then s
  else
    let old := s.led.tag
    let s := (s.tagged o.tag).append external 0 blkCmd .cmdComplete o.number
      (b16 o.op.code ++ b8 o.client.code ++ b8 st.code ++ leBytes 6 o.count)
    s.tagged old

/-- End every pending operation of a subject, oldest first. -/
def State.endOps (s : State) (subj : Subject) (st : Status) (external : Bool) : State :=
  let mine := s.ops.filter fun o => o.subject == subj
  let s := { s with ops := s.ops.filter fun o => !(o.subject == subj) }
  mine.foldl (fun s o => s.completion o st external) s

/-- End the pending operations of a subject that were begun by one of the opcodes. -/
def State.endOpsOf (s : State) (subj : Subject) (codes : List Opcode) (st : Status)
    (external : Bool) : State :=
  let sel := fun o : PendingOp => o.subject == subj && codes.contains o.op
  let mine := s.ops.filter sel
  let s := { s with ops := s.ops.filter fun o => !sel o }
  mine.foldl (fun s o => s.completion o st external) s

/-- The tag of a subject's pending operation begun by one of the opcodes, else 0xFFFF. -/
def State.opTag (s : State) (subj : Subject) (codes : List Opcode) : BitVec 16 :=
  match s.ops.find? fun o => o.subject == subj && codes.contains o.op with
  | some o => o.tag
  | none => 0xFFFF

/-- The subject that port n or channel n is, and AUX channels are (R66). -/
def chanSubject (ch : Nat) : Subject := if isPort ch then .port ch else .aux ch

end Sys2Proof.Machine
end

