-- ==== Sys2Proof/Machine/Allot.lean ====
section
/-! DEFINITION. Policy lookups and the allotment engine (R228 to R230), the two-wire transfer's end, and the entries of channels and ports that the families share. -/

namespace Sys2Proof.Machine

/-! Policy of the applied image. -/

/-- Priority class of a port (R229). -/
def State.classOf (s : State) (p : Nat) : Nat :=
  match s.cfg.applied.allot.find? fun r => r.1 == p with
  | some (_, c, _) => c
  | none => s.nat .allotDefaultClass 0

/-- Ceiling of a port, 0.1 W (R229). -/
def State.ceiling (s : State) (p : Nat) : Nat :=
  match s.cfg.applied.allot.find? fun r => r.1 == p with
  | some (_, _, w) => w
  | none => s.nat .allotDefaultCeiling 0

/-- Type-C power of an Rp level, 0.1 W (R186), and its current in 10 mA (R195). -/
def rpPower (rp : Nat) : Nat := if rp = 0 then 45 else if rp = 1 then 75 else 150
def rpCurrent (rp : Nat) : Nat := if rp = 0 then 90 else if rp = 1 then 150 else 300

/-- Nominal PDO voltage of a rail, V. -/
def railVolts (rail : Nat) : Nat := if rail = 0 then 5 else if rail = 1 then 9 else if rail = 2 then 15 else 20

/-- A violation holds the port; a command's hold stands beside it (R170, R184). -/
def Hold.violated (h : Hold) : Hold :=
  match h with
  | .none | .violation => .violation
  | .command | .both => .both

/-- A violation holds the port. -/
def Hold.byViolation (h : Hold) : Bool :=
  match h with
  | .violation | .both => true
  | _ => false

/-- The violation's hold ends; a command's stays until `PORT_ENABLE` (R170). -/
def Hold.pardoned (h : Hold) : Hold :=
  match h with
  | .none | .violation => .none
  | .command | .both => .command

/-- Whether an explicit contract is in force. -/
def Pd.explicit (d : Pd) : Bool :=
  match d.contract with
  | some c => decide (0 < c.pos)
  | none => false

/-- Whether a port holds an explicit contract. -/
def Port.explicit (p : Port) : Bool := p.pd.explicit

/-- A rail is present: its bit is set and it is fitted (R227). -/
def State.railUp (s : State) (rail : Nat) : Bool :=
  s.rails.getLsbD rail && (s.value .railMask 0).getLsbD rail

/-- The ports, in order. -/
def allPorts : List Nat := upTo 1 16

/-- Sum of all grants, 0.1 W. -/
def State.granted (s : State) : Nat := (allPorts.map fun p => (s.port p).grant).sum

/-- Sum of the grants of every port except one. -/
def State.grantedBut (s : State) (p : Nat) : Nat :=
  ((allPorts.filter (· != p)).map fun q => (s.port q).grant).sum

/-- Remaining power (R230): 0 when the grants pass the total. -/
def State.remaining (s : State) : Nat := s.nat .allotTotalW 0 - s.granted

/-- A grant changed, with `ALLOT_CHANGE`: cause 0 grant, 1 reclaimed, 2 released (Table 02-3). A claim clears
when the grant reaches it or is released (R230). -/
def State.setGrant (s : State) (p cause new other : Nat) : State :=
  let old := (s.port p).grant
  let s := s.onPort p fun q =>
    { q with grant := new, claim := if cause = 2 ∨ q.claim ≤ new then 0 else q.claim }
  s.append false 0 blkAllot .allotChange p
    (b8 cause ++ b16 old ++ b16 new ++ b16 s.remaining ++ b8 other)

/-- A released grant: `ALLOT_CHANGE` cause 2 when there is one to release; any claim clears (R332). -/
def State.releaseGrant (s : State) (p : Nat) : State :=
  if (s.port p).grant = 0 then s.onPort p fun q => { q with claim := 0 }
  else s.setGrant p 2 0 0

/-- The Comb die of a port is given the grant as it now stands, and re-advertises within it where the port holds
an explicit contract (R192, R196). -/
def State.callCaps (s : State) (p : Nat) : State :=
  s.onPort p fun q =>
    { q with pd := { q.pd with readvertise := q.pd.readvertise || q.explicit, reserved := q.grant,
                               arrived := false } }

/-- Donors of a reservation for p: explicit contract, lower class, grant above the floor; class descending, then
newest contract first (R230). -/
def State.donors (s : State) (p : Nat) : List Nat :=
  let floor := s.nat .allotReclaimFloor 0
  let ds := allPorts.filter fun d =>
    (s.port d).explicit && decide (s.classOf p < s.classOf d) && decide (floor < (s.port d).grant)
  sortBy (fun a b => decide (s.classOf b < s.classOf a)
    || (s.classOf a == s.classOf b && decide ((s.port b).pd.contractCount ≤ (s.port a).pd.contractCount))) ds

/-- What each donor gives until the shortfall is covered (R230). -/
def State.takes (s : State) (floor : Nat) : Nat → List Nat → List (Nat × Nat)
  | _, [] => []
  | short, d :: ds =>
    let take := min short ((s.port d).grant - floor)
    if short = 0 then [] else (d, take) :: s.takes floor (short - take) ds

/-- One take of a reservation: the donor keeps a claim of its old grant, loses the power with `ALLOT_CHANGE`
cause 1, and re-advertises (R196, R230). -/
def State.takeFrom (s : State) (p : Nat) (d : Nat × Nat) : State :=
  let q := s.port d.1
  let s := s.onPort d.1 fun q => { q with claim := if q.claim = 0 then q.grant else q.claim }
  (s.setGrant d.1 1 (q.grant - d.2) p).callCaps d.1

/-- A reservation (R230): none when less than 4.5 W could be reserved. `reclaim` false is the redistribution's
form. -/
def State.reserve (s : State) (p : Nat) (reclaim : Bool) : Option State :=
  let want := s.ceiling p
  let free := s.nat .allotTotalW 0 - s.grantedBut p
  let plan :=
    if decide (free < want) && reclaim && s.value .allotReclaim 0 == 1 then
      s.takes (s.nat .allotReclaimFloor 0) (want - free) (s.donors p)
    else []
  let a := min want (free + (plan.map (·.2)).sum)
  if a < 45 then none
  else
    let s := plan.foldl (fun s d => s.takeFrom p d) s
    some (if (s.port p).grant = a then s else s.setGrant p 0 a 0)

/-- The reservation a of R192 outside a redistribution: min(ceiling, remaining + own grant). -/
def State.nextGrant (s : State) (p : Nat) : Nat := min (s.ceiling p) (s.remaining + (s.port p).grant)

/-- Set the reservation of R192, with `ALLOT_CHANGE` cause 0 if that changes the grant. -/
def State.reserveAgain (s : State) (p : Nat) : State :=
  let a := s.nextGrant p
  let s := if (s.port p).grant = a then s else s.setGrant p 0 a 0
  s.onPd p fun d => { d with reserved := a, arrived := false }

/-! SB_OFF and reachability. -/

/-- SB_OFF is asserted, by Hive or by Forge (R13, R113, R286). -/
def State.sbOff (s : State) : Bool :=
  let f := s.die 3
  s.spine.bootOff || s.spine.forgeOff || s.spine.extestOff || s.mode == .safe || f.resetting
    || f.quarantined || f.absent || (s.link 2).lost

/-- A die is absent or quarantined: commands on its subjects answer `DIE_ABSENT` (Table 05-6). -/
def State.dieGone (s : State) (d : Nat) : Bool := (s.die d).absent || (s.die d).quarantined

/-- A block of a die is inside a reset or CLOCK_DEAD (R90, R96). -/
def State.blockDown (s : State) (d blk : Nat) : Bool :=
  (s.die d).resetting || (s.die d).blocks.getLsbD blk || (s.die d).clockDead.getLsbD blk

/-! Channels. -/

/-- The channel conducts or ramps: code 2 of `CHAN.STATE` (R220). -/
def ChanState.conducts (c : ChanState) : Bool :=
  match c with
  | .ramping | .on | .regulating => true
  | _ => false

/-- The channel is on or waits for a retry. -/
def ChanState.active (c : ChanState) : Bool := c.conducts || c == .retryWait

/-- `CHAN_OFF` (Table 02-3). -/
def State.chanOffEntry (s : State) (ch cause : Nat) (external : Bool) : State :=
  s.append external 3 blkChan .chanOff ch (b8 cause)

/-- A channel's legs open; on CH1 to CH12 the discharge and off check begin (R225). What Forge then knew of the channel stays,
for a report of Forge that is on its way (R11). -/
def State.openLegs (s : State) (ch : Nat) : State :=
  s.onChan ch fun c =>
    { c with state := .off, leg := none, gate := none, gateCheck := false, retryWaits := false, tripped := false,
             crossing := if c.state.conducts then some (c.gateCheck, c.retries) else none,
             offCheck := if isIntegrated ch then .discharging else .none }

/-- A channel turned off with its entry; nothing where it is off or locked. `CHAN_OFF` from a command or policy (causes 0 and 1)
takes the retry count back to 0 (R221). -/
def State.chanDown (s : State) (ch cause : Nat) (external : Bool) : State :=
  if (s.chan ch).state.active then
    let s := (s.openLegs ch).onChan ch fun c => { c with retries := if cause ≤ 1 then 0 else c.retries }
    s.chanOffEntry ch cause external
  else s

/-- A channel turned on: RAMPING from `CHAN_ON` (R220), vSafe5V on a port (leg 0), VVEH on AUX. Over-current
clears (R169). -/
def State.chanUp (s : State) (ch cause : Nat) (external : Bool) : State :=
  let s := s.onChan ch fun c =>
    { c with state := .ramping, leg := if isPort ch then some 0 else none, gate := if isPort ch then some 0 else none,
             offCheck := .none, gateCheck := false, retryWaits := false, tripped := false, crossing := none,
             onCount := s.led.next }
  let s := s.when (isPort ch) fun s => s.onBus ch fun b => { b with overCurrent := false, awaitsPower := false }
  s.append external 3 blkChan .chanOn ch (b8 cause ++ b8 (if isPort ch then 0 else 0xFF))

/-- A gate pad is behind an engaged latch: AUX1 to AUX8 (R152, R153). -/
def State.padLatched (s : State) (ch : Nat) : Bool := s.ember.latched && isAux ch

/-- A write staged on a latched gate pad: the last value wins (R153). -/
def State.stagePad (s : State) (ch : Nat) (on : Bool) : State :=
  s.onEmber fun e =>
    let others := e.staged.filter fun x => x.1 != ch
    { e with staged := insertBy (fun a b => decide (a.1 ≤ b.1)) (ch, on) others }

/-! Two-wire transfers. -/

/-- `TW_SURPLUS` entries, eight bytes each, in byte order (R37); their origin is external (Table 02-3). -/
def State.surplusEntries : Nat → State → Nat → Nat → List Byte → State
  | 0, s, _, _, _ => s
  | fuel + 1, s, seg, addr, bytes =>
    match bytes with
    | [] => s
    | _ =>
      let now := bytes.take 8
      let s := s.append true 3 blkTwi .twSurplus seg (b8 addr ++ b8 now.length ++ now)
      surplusEntries fuel s seg addr (bytes.drop 8)

/-- All surplus bytes of a segment's held read-ahead, as entries (R261). -/
def State.surplusOf (s : State) (seg addr : Nat) (bytes : List Byte) : State :=
  surplusEntries bytes.length s seg addr bytes

/-- The result of a completed transfer joins the sixteen newest (R68). -/
def Seg.addResult (g : Seg) (r : Result) : Seg :=
  { g with results := (g.results ++ [r]).drop (g.results.length - 15) }

/-- A transfer ends: its surplus entries with its tag, its result, its `CMD_COMPLETE` (R255, R256, R261). -/
def State.endTransfer (s : State) (seg : Nat) (t : Transfer) (st : Status) (bytes : List Byte)
    (external : Bool) : State :=
  let old := s.led.tag
  let s := ((s.tagged t.op.tag).surplusOf seg t.addr t.surplus).tagged old
  let s := s.onSeg seg fun g => g.addResult ⟨t.op.tag, st, bytes⟩
  s.completion t.op st external

/-- Reason r with w ACKed write bytes: the bytes of a `FAULT` result, surplus after them (R256). -/
def faultBytes (reason acked : Nat) (t : Transfer) : List Byte := b8 reason ++ b8 acked ++ t.surplus

/-- How many write bytes a target had ACKed when the bus cut a transfer off: no row tells, so a free value does, up to the write
length (R256; log 1). -/
def State.ackedBytes (s : State) (t : Transfer) : Nat × State :=
  ((Config.measured s.free).toNat % (t.write.length + 1), { s with free := s.free + 1 })

/-- The running transfer of a segment ends with a fault reason, and with the count of ACKed bytes where the cause tells it. -/
def State.failTransfer (s : State) (seg reason : Nat) (acked : Option Nat) : State :=
  match (s.seg seg).running with
  | none => s
  | some t =>
    let (n, s) := match acked with
      | some n => (n, s)
      | none => s.ackedBytes t
    (s.onSeg seg fun g => { g with running := none, stretched := false }).endTransfer seg t .fault (faultBytes reason n t) true

/-- A tether ends at once: the transfer on the segment ends with reason 5 (R211, R270). -/
def State.untether (s : State) (seg : Nat) (closed : Bool) : State :=
  let s := s.onSeg seg fun g => { g with tether := 0 }
  if closed then s.failTransfer seg 5 none else s

/-! Ports: what ends with a contract (R188, R199, R211, R223, R332). -/

/-- The Comb die of a port's entries. -/
def State.pdEntry (s : State) (p : Nat) (external : Bool) (k : Kind) (data : List Byte) : State :=
  s.append external (combOf p) blkPd k p data

/-- A P1 action's entry: the interpreter's own. -/
def State.provEntry (s : State) (p : Nat) (k : Kind) (data : List Byte) : State := s.append false 0 blkPd k p data

/-- An open P1 action closes with `PROV_WITHDRAWN` and the grant given (R199). -/
def State.closeP1 (s : State) (p grant : Nat) : State :=
  let a := (s.port p).pd.p1
  if a.state = 1 then
    (s.onPd p fun d => { d with p1 := { d.p1 with state := 3 } }).provEntry p .provWithdrawn
      (b8 1 ++ b8 a.pdos ++ b16 a.highest ++ b16 grant)
  else s

/-- An entered mode ends at once with `PD_MODE` exit; its tether ends with it (R204, R211, R270). -/
def State.exitMode (s : State) (p : Nat) : State :=
  match (s.port p).pd.mode with
  | none => s
  | some m =>
    let closed := (s.port p).pd.sbuClosed
    let s := s.onPd p fun d => { d with mode := none, sbuClosed := false, sbuClosing := false }
    let s := s.pdEntry p true .pdMode
      (b8 0 ++ b16 m.svid ++ b8 m.mode ++ b8 (m.seg.getD 0xFF))
    match m.seg with
    | some g => s.untether g closed
    | none => s

/-- The contract and what is held for it end; nothing is negotiated (R209: discovery answers are held during
one contract). -/
def Pd.endContract (d : Pd) : Pd :=
  { d with phase := .quiet, contract := none, caps := [], capsProvisional := false, provCaps := none,
           cable := false, noP1 := false, exitDue := false, sends := 0, reqPos := 0, reqOp := 0, reqMax := 0,
           readvertise := false, owesCaps := false, arrived := false,
           wait := .none, gotIdentity := false, svids := none, modes := [] }

/-- What the end of a port's power ends on its USB side: the LIMIT action, and a reset, suspend or resume that
runs. -/
def Bus.unpowered (b : Bus) : Bus :=
  { b with limited := false, reset := .none, suspending := false, resuming := false }

/-- VBUS of a port is off: the contract ends, any mode exits, VCONN turns off (R187, R211). -/
def State.endPower (s : State) (p : Nat) : State :=
  (s.exitMode p).onPort p fun q =>
    { q with vconn := false, bus := q.bus.unpowered, pd := q.pd.endContract }

end Sys2Proof.Machine
end

