-- ==== Sys2Proof/Machine/Caps.lean ====
section
/-! DEFINITION. Source capabilities: the sets that R190 to R192 build, the provisional action P1 (R198, R199), and the sending of capabilities by a Comb die. -/

namespace Sys2Proof.Machine

/-! What the device sends on a port's CC wire, as the second number of `Answer.pd` (Table 09-2). -/

def pdSourceCaps : Nat := 1
def pdAccept : Nat := 2
def pdReject : Nat := 3
def pdWait : Nat := 4
def pdPsRdy : Nat := 5
def pdSoftReset : Nat := 6
def pdHardReset : Nat := 7
def pdNotSupported : Nat := 8
def pdRevision : Nat := 9
def pdVdm : Nat := 10
def pdVdmNak : Nat := 11

/-- IMAX of a PDO in 10 mA units, or none where the capability record does not enable it (Tables 09-3, 09-4). -/
def State.imax (s : State) (p rail : Nat) : Option Nat :=
  match s.cfg.applied.caps.find? fun r => r.1 == p with
  | some (_, mask, l) => if mask.testBit rail then some (l.getD rail 0 * 5) else none
  | none => some (if rail = 3 && decide (13 ≤ p) then 500 else 300)

/-- Rail capacity, 0.1 W (Table 10-6). -/
def State.railCap (s : State) (rail : Nat) : Nat :=
  s.nat (if rail = 0 then .railCap5v else if rail = 1 then .railCap9v else if rail = 2 then .railCap15v
    else .railCap20v) 0

/-- The rail that a port's contract uses. -/
def Port.contractRail (p : Port) : Option Nat := p.pd.contract.map (·.rail)

/-- Sum of the grants of the ports whose contracts use a rail, one port left out (0 leaves out none). -/
def State.railLoad (s : State) (rail but : Nat) : Nat :=
  ((allPorts.filter fun q => q != but && (s.port q).contractRail == some rail).map
    fun q => (s.port q).grant).sum

/-- The rail room of R228, 0.1 W. -/
def State.railRoom (s : State) (rail p : Nat) : Nat := s.railCap rail - s.railLoad rail p

/-- The current of one PDO built from a, 10 mA units; none where it is omitted (R191). -/
def State.pdoCurrent (s : State) (p a rail : Nat) : Option Nat :=
  match s.imax p rail with
  | none => none
  | some im =>
    let v := railVolts rail
    let cable := if rail = 3 && decide (13 ≤ p) && (s.port p).cable5A then 500 else 300
    let room := s.railRoom rail p * 10 / v
    let room := if rail = 0 then max 90 room else room
    let i := min (min im cable) (min (a * 10 / v) room)
    if !s.railUp rail || (rail != 0 && decide (i < 50)) then none else some i

/-- The set built from a, by object position (R191). -/
def State.pdoSet (s : State) (p a : Nat) : List Pdo :=
  (List.range 4).filterMap fun rail => (s.pdoCurrent p a rail).map fun i => ⟨rail, i⟩

/-- The power of a voltage and a current, in 0.01 W. -/
def centiwatts (rail current : Nat) : Nat := railVolts rail * current

/-- A power in 0.1 W units. Where it is no whole number of units the spec does not say how it is rounded: a free
value of the power takes one of the two neighbours (log 21). -/
def inDeciwatts (cw : Nat) : Nat := if cw % 10 = 0 then cw / 10 else cw / 10 + (Config.roundsUp cw).toNat

/-- The highest power of a set, in 0.01 W. -/
def highest (l : List Pdo) : Nat := l.foldl (fun m d => max m (centiwatts d.rail d.current)) 0

/-- The modes in which a port carries USB: the upstream port connects to a host (R164). -/
def Mode.presents (m : Mode) : Bool :=
  match m with
  | .run | .safe | .service | .crank => true
  | _ => false

/-- The flags of the 5 V PDO (R191): USB Communications Capable is 1 in RUN and 0 in STANDALONE; the modes between follow the
upstream port (DEDUCED, log 90). -/
def State.pdoFlags (s : State) : PdoFlags :=
  { PdoFlags.init with usbSuspend := true, unconstrained := true, usbCommunications := s.mode.presents }

/-- Wire: what a Comb die sends. -/
def State.sends (s : State) (p msg : Nat) : State := s.answering (.pd p msg)

/-- A set goes out (R189, R192): the first of up to 50 sends. -/
def State.sendSet (s : State) (p : Nat) (l : List Pdo) (provisional : Bool) : State :=
  (s.onPd p fun d =>
    { d with phase := .offered, caps := l, flags := s.pdoFlags, capsProvisional := provisional, provCaps := none, sends := 1,
             readvertise := false, owesCaps := false }).sends p pdSourceCaps

/-- The set of the reservation held goes out. -/
def State.sendCaps (s : State) (p : Nat) : State := s.sendSet p (s.pdoSet p (s.port p).pd.reserved) false

/-- A sending falls due on a port whose VBUS is at vSafe5V and whose engine is not busy: a provisional set that
has been issued goes out at once unless its withdrawal has already arrived (R198, R199); any other set waits for
the reservation (R192). -/
def State.sendDue (s : State) (p : Nat) : State :=
  let d := (s.port p).pd
  match d.provCaps with
  | some l =>
    if d.arrived && d.p1.state != 1 then s.sendCaps p else s.sendSet p l true
  | none => if d.arrived then s.sendCaps p else s.onPd p fun d => { d with phase := .waitGrant }

/-- A VDM exchange of the device is on the wire. -/
def VdmWait.running (w : VdmWait) : Bool := w != .none && w != .exitOpen

/-- The engine has no negotiation running (phase ready): a re-advertisement, an answer, a provisional sending or the set that
replaces a withdrawn one goes out, after a running VDM exchange (R196, R199, R203). -/
def State.pdIdle (s : State) (p : Nat) : State :=
  let s := s.onPd p fun d => { d with phase := .ready }
  let d := (s.port p).pd
  let due := d.readvertise || d.owesCaps || (d.capsProvisional && d.p1.state == 3)
  if !d.wait.running && (d.provCaps.isSome || (due && d.arrived)) then s.sendDue p else s

/-- `PROV_ISSUED` with the set built at the port's ceiling, and `PROV_WITHDRAWN` at once where it exceeds the
reservation (R198). -/
def State.issueP1 (s : State) (p : Nat) : State :=
  let l := s.pdoSet p (s.ceiling p)
  let a := (s.port p).pd.reserved
  let h := inDeciwatts (highest l)
  let s := s.onPd p fun d => { d with p1 := ⟨1, l.length, h⟩, provCaps := some l }
  let s := s.provEntry p .provIssued (b8 1 ++ b8 l.length ++ b16 h ++ b16 0)
  if a * 10 < highest l then s.closeP1 p a else s

/-- Negotiation is possible on a port: `PD.ENABLE` is 1 and the port is not in fallback (R195, R205). -/
def State.pdOn (s : State) (p : Nat) : Bool := s.value .pdEnable p == 1 && !(s.port p).pd.fallback

/-- P1 may run on a port (R198). -/
def State.p1On (s : State) (p : Nat) : Bool := s.pdOn p && s.value .pdProvisional p == 1

/-- VCONN as step 4 of R186 sets it. -/
def State.vconnUp (s : State) (p : Nat) : State :=
  s.onPort p fun q =>
    { q with vconn := q.ra && !q.vconnFault && (s.value .typecVconnEn 0).getLsbD (p - 1) }

/-- What Hive decides at the input that turns a port's channel on (R186 step 4, R192, R198): VCONN; whether the
cable step comes first (Table 09-1 step 5, which needs VCONN); else P1, where it may run. The reservation has
been set. DEDUCED, log 22: R192 sets the reservation at the input that leads to the sending, and RAMP_COMPLETE
is no input of R40, so that P1 is issued here and its set goes out at vSafe5V. -/
def State.negotiate (s : State) (p : Nat) (p1 : Bool) : State :=
  let s := s.vconnUp p
  let cable := s.pdOn p && decide (13 ≤ p) && (s.port p).vconn
  let s := s.onPd p fun d => { d with cable := cable, noP1 := !p1, arrived := false }
  if !cable && p1 && s.p1On p then s.issueP1 p else s

/-- A `VIOLATION` with a port as its subject: `PORT.LAST_VIOL` and `PORT.VIOLS` follow it (Table 15-12). -/
def State.portViolation (s : State) (die block code p : Nat) (detail : List Byte) : State :=
  (s.violation die block code p detail).onBus p fun b =>
    { b with lastViolation := code, violations := b.violations + 1 }

/-- The cable step ends (Table 09-1 step 5): Hive sets the reservation at this input and P1 runs where it may, an open P1 action
closing first (R199); the set goes out once VBUS is at vSafe5V (R187, R192, R198). -/
def State.cableDone (s : State) (p : Nat) : State :=
  let vsafe := (s.port p).pd.phase != .quiet
  let s := s.onPd p fun d => { d with cable := false }
  let p1 := !(s.port p).pd.noP1 && s.p1On p
  let s := (s.when p1 fun s => s.closeP1 p (s.nextGrant p)).reserveAgain p
  let s := s.when p1 fun s => s.issueP1 p
  if vsafe then s.sendDue p else s

end Sys2Proof.Machine
end

