-- ==== Sys2Proof/Machine/Ports.lean ====
section
/-! DEFINITION. What powers and unpowers a port or channel: the attach policy of R186, the redistribution of R230, turn-offs under R332, locks, SB_OFF, and the mode choice of Table 01-7. -/

namespace Sys2Proof.Machine

/-- The highest Rp level not above `PD.RP_LEVEL` whose Type-C power fits a grant (R186). -/
def State.rpFor (s : State) (p grant : Nat) : Nat :=
  let lim := s.nat .pdRpLevel p
  if decide (2 ≤ lim) && decide (150 ≤ grant) then 2
  else if decide (1 ≤ lim) && decide (75 ≤ grant) then 1 else 0

/-- A clear PORT_POWER in the FOLLOW mode keeps the port's channel off (R168). -/
def State.unpowered (s : State) (p : Nat) : Bool := s.value .hubPortPowerMode 0 == 1 && !(s.port p).bus.portPower

/-- Policy does not turn the port's channel on: a lock, a backdrive refusal, or a clear PORT_POWER (R168, R225, R328). -/
def State.barred (s : State) (p : Nat) : Bool :=
  (s.chan p).state == .locked || (s.chan p).refused || s.unpowered p

/-- Policy would power the port, and only a clear PORT_POWER is in its way: the host's setting it does (R168). -/
def State.noteAwaits (s : State) (p : Nat) : State :=
  if s.unpowered p && (s.chan p).state != .locked && !(s.chan p).refused then
    s.onBus p fun b => { b with awaitsPower := true }
  else s

/-- Steps 1, 3 and 4 of R186 on a port whose reservation has been made: Rp, the channel, VCONN, and what
negotiation begins with. -/
def State.powerPort (s : State) (p cause : Nat) (external p1 : Bool) : State :=
  let s := s.onPort p fun q =>
    { q with rp := s.rpFor p q.grant, rpRemoved := false, waiting := false,
             pd := { q.pd with reserved := q.grant } }
  (s.chanUp p cause external).negotiate p p1

/-- A reservation for an attached port and, where it succeeds, its power (R186); else the port waits. -/
def State.reserveAndPower (s : State) (p cause : Nat) (external reclaim p1 : Bool) : State :=
  match s.reserve p reclaim with
  | some s => s.powerPort p cause external p1
  | none => s.onPort p fun q => { q with waiting := true }

/-- Waiting ports, class ascending, then oldest attach first (R230). -/
def State.waitingPorts (s : State) : List Nat :=
  sortBy (fun a b => decide (s.classOf a < s.classOf b)
    || (s.classOf a == s.classOf b && decide ((s.port a).attachCount ≤ (s.port b).attachCount)))
    (allPorts.filter fun p => (s.port p).waiting)

/-- Ports that hold a claim, in the same order (R230). -/
def State.claimPorts (s : State) : List Nat :=
  sortBy (fun a b => decide (s.classOf a < s.classOf b)
    || (s.classOf a == s.classOf b && decide ((s.port a).attachCount ≤ (s.port b).attachCount)))
    (allPorts.filter fun p => decide (0 < (s.port p).claim))

/-- One waiting port's turn: no port leaves waiting while RAIL_5V is not present (R227) or while SB_OFF is
asserted (DEDUCED from R331, log 20). -/
def State.serveWaiting (s : State) (p : Nat) : State :=
  if s.railUp 0 && !s.sbOff && !s.barred p then
    match s.reserve p false with
    | some s => s.powerPort p 1 false true
    | none => s
  else s

/-- One claim's turn: the port regains what it can, up to its claim (R230). -/
def State.serveClaim (s : State) (p : Nat) : State :=
  let q := s.port p
  let a := min q.claim (s.nat .allotTotalW 0 - s.grantedBut p)
  if q.grant < a then (s.setGrant p 0 a 0).callCaps p else s

/-- The redistribution that follows a falling grant (R230). -/
def State.redistribute (s : State) : State :=
  let s := s.each s.waitingPorts fun p s => s.serveWaiting p
  s.each s.claimPorts fun p s => s.serveClaim p

/-- A port channel goes off for a cause of R332, or at CHAN_OFF or detach, which do the same work: P1 closes,
`CHAN_OFF`, the contract ends, the grant is released, a pending operation ends with the status given. -/
def State.portOff (s : State) (p cause : Nat) (external : Bool) (st : Status) (byEvent : Bool) : State :=
  let s := (s.closeP1 p 0).chanDown p cause external
  ((s.endPower p).releaseGrant p).endOps (.port p) st byEvent

/-- The limits of a channel that goes off for policy reasons return to no retries used (R221). -/
def State.clearRetries (s : State) (ch : Nat) : State := s.onChan ch fun c => { c with retries := 0 }

/-- A channel locks: `CHAN_LOCKED` with the reason (R220, R221); on a port the steps of R332 follow. -/
def State.lockChan (s : State) (ch reason : Nat) : State :=
  let s := s.when (isPort ch) fun s => s.closeP1 ch 0
  let s := s.onChan ch fun c =>
    { c with state := .locked, lock := some reason, leg := none, gate := none, offCheck := .none, gateCheck := false,
             retryWaits := false, tripped := false, crossing := none }
  let s := s.append false 3 blkChan .chanLocked ch (b8 reason)
  if isPort ch then
    let s := (s.endPower ch).onPort ch fun q => { q with waiting := false }
    (s.releaseGrant ch).endOps (.port ch) .fault true
  else s

/-- Every channel that SB_OFF turns off, in ascending order: `CHAN_OFF` cause 2, R332 for ports with the status
given, RETRY_WAIT to OFF with its count kept (R114, R222). -/
def State.sbOffAll (s : State) (st : Status) (byEvent : Bool) : State :=
  s.each (upTo 1 24) fun ch s =>
    if !(s.chan ch).state.active then s
    else if isPort ch then s.portOff ch 2 false st byEvent else s.chanDown ch 2 false

/-- A port's channel turned off for policy: `CHAN_OFF` cause 1, its retries return to 0 (R221, R332). -/
def State.policyOff (s : State) (p : Nat) (external : Bool) (st : Status) (byEvent : Bool) : State :=
  (s.portOff p 1 external st byEvent).clearRetries p

/-! Modes (R25, Table 01-7). -/

/-- The modes in which the charger may run (R236). -/
def Mode.charges (m : Mode) : Bool :=
  match m with
  | .run | .standalone | .safe | .service | .sleep | .busSuspend => true
  | _ => false

/-- What a mode does to the Honeystore: the charger runs only in the modes of R236, and DEEP SLEEP stops the
balancer too (R238). -/
def Store.inMode (g : Store) (m : Mode) : Store :=
  { g with charging := g.charging && m.charges, bleeding := if m = .deepSleep then 0 else g.bleeding }

/-- The sleep states. -/
def Mode.asleep (m : Mode) : Bool :=
  match m with
  | .sleep | .deepSleep | .busSuspend => true
  | _ => false

/-- The lowest source of a wake latch (R149). -/
def lowestSource (latch : BitVec 10) (source : Nat) : Nat := ((upTo 0 9).find? fun n => latch.getLsbD n).getD source

/-- What the exit from a sleep state restores before any entry (R149, R156): on exit from SLEEP and BUS SUSPEND the pad latches
open; VCORE_SEL is driven back to the saved level and the root PLL locks. -/
def State.domainsUp (s : State) (source : Nat) : State :=
  let deep := s.mode == .deepSleep
  let s := s.onEmber fun e => { e with latched := e.latched && deep }
  s.onPw fun w =>
    { w with wakes := w.wakes + 1, lastWake := BitVec.ofNat 32 (source + 0xFF00), wakeLatch := 0, holdoff := true,
             vcoreSel := w.level, pllStarts := w.pllStarts + 1 }

/-- `MODE_CHANGE` to a mode (R23); nothing where the mode is the same. -/
def State.modeTo (s : State) (m : Mode) (reason : Nat) (external : Bool) : State :=
  if s.mode = m then s
  else
    let old := s.mode
    ({ s with mode := m, store := s.store.inMode m }).append external (if external then 3 else 0) blkPower .modeChange 0
      (b8 old.code ++ b8 m.code ++ b8 reason)

/-- The SAFE condition: Forge quarantined, SPINE-F lost, or power authority lost (Table 01-7, R98). -/
def State.safeCondition (s : State) : Bool :=
  let f := s.die 3
  f.quarantined || f.absent || f.resetting || (s.link 2).lost || s.spine.forgeOff

/-- The mode of Table 01-7 below BANKED, once BOOT is over. -/
def State.chosenMode (s : State) : Mode :=
  if s.safeCondition then .safe
  else if s.pw.crank then .crank
  else if s.pw.service then .service
  else if s.hub.upVbus then .run else .standalone

/-- AUX channels under `CHAN.AUX_AUTO` when the mode becomes RUN or STANDALONE from BOOT or SAFE (R226); none in
DEFAULTS (R131). A latched pad takes the write when it is released (R153). -/
def State.auxAuto (s : State) : State :=
  s.each (upTo 17 24) fun ch s =>
    if s.value .chanAuxAuto ch == 1 && (s.chan ch).state == .off && s.cfg.state != .defaults then
      if s.padLatched ch then s.stagePad ch true else s.chanUp ch 1 false
    else s

/-- Ports of a class that CRANK sheds: those whose channel is active, and those that a running CYCLE will turn on again;
newest contract first (R160). -/
def State.shedCandidates (s : State) (cls : Nat) : List Nat :=
  let ps := allPorts.filter fun p => s.classOf p == cls && ((s.chan p).state.active || (s.port p).bus.cyclePower)
  sortBy (fun a b => decide ((s.port b).pd.contractCount ≤ (s.port a).pd.contractCount)) ps

/-- One port shed in CRANK (R160, R332). -/
def State.shedPort (s : State) (p : Nat) : State :=
  let s := s.portOff p 3 false .fault true
  (s.onPort p fun q => { q with shed := true, waiting := false, bus := { q.bus with cyclePower := false } }).onPw fun w =>
    { w with shedOrder := p :: w.shedOrder }

/-- Shed the classes given, then redistribute (R160, R230). -/
def State.shedClasses (s : State) (classes : List Nat) : State :=
  let s := classes.foldl (fun s c => s.each (s.shedCandidates c) fun p s => s.shedPort p) s
  s.redistribute

/-- Restore the shed ports in the reverse of shedding order (R161). A port whose reservation would be below
4.5 W waits. -/
def State.restoreShed (s : State) : State :=
  let order := s.pw.shedOrder
  let s := s.onPw fun w => { w with shedOrder := [] }
  s.each order fun p s =>
    let q := s.port p
    let s := s.onPort p fun q => { q with shed := false }
    if !q.shed || !q.attached || s.sbOff then s
    else if s.barred p then s.noteAwaits p
    else if !s.railUp 0 then s.onPort p fun q => { q with waiting := true }
    else s.reserveAndPower p 1 false true false

/-- What a new mode brings about: CRANK sheds (R160), the end of CRANK restores (R161), leaving BOOT or SAFE
turns AUX channels on (R226), SAFE asserts SB_OFF (R113). -/
def State.entered (s : State) (old : Mode) : State :=
  let s := s.when (s.mode == .safe) fun s => s.sbOffAll .fault true
  let s := s.when (s.mode == .crank && old != .crank) fun s =>
    (s.onPw fun w => { w with cranks := w.cranks + 1 }).shedClasses [3, 2]
  let s := s.when (old == .crank && s.mode != .crank && s.mode != .safe && s.mode != .banked) fun s =>
    s.restoreShed
  s.when ((old == .boot || old == .safe) && (s.mode == .run || s.mode == .standalone)) fun s => s.auxAuto

/-- R25: hand the device to the mode whose condition holds, with its `MODE_CHANGE` and what it brings. SAFE comes before
BOOT; what could clear its condition again waits until the boot's round is over. -/
def State.reselect (s : State) (reason : Nat) (external : Bool) : State :=
  match s.mode with
  | .off | .banked | .sleep | .deepSleep | .busSuspend => s
  | .boot => if s.safeCondition then (s.modeTo .safe reason external).entered .boot else s
  | old =>
    let m := s.chosenMode
    if m = old then s else (s.modeTo m reason external).entered old

end Sys2Proof.Machine
end

