-- ==== Sys2Proof/Machine/Twi.lean ====
section
/-! DEFINITION. The two-wire segments TW0 to TW3 and the mailbox of SVC: transfers, read-ahead, stretching, attention, held buses and recovery (chapter 12). -/

namespace Sys2Proof.Machine

/-- The segment is enabled; SVC always is (R251). -/
def State.segEnabled (s : State) (n : Nat) : Bool := n == 4 || s.value .twiEnable n == 1

/-- The controller of a segment is out of service: block 0x0D inside a reset, or, for TW1 to TW3, Forge
unreachable (R253). -/
def State.segDown (s : State) (n : Nat) : Bool :=
  (s.die 3).blocks.getLsbD 0x0D || (s.die 3).clockDead.getLsbD 0x0D
    || (n != 0 && n != 4 && ((s.die 3).resetting || s.dieGone 3))

/-- The segment is idle: nothing runs on it, no request is served, no recovery runs, and it is not HELD. -/
def Seg.idle (g : Seg) : Bool :=
  g.running.isNone && !g.attention && g.recovery == .none && !g.held

/-- Whether `TWI.READ_AHEAD` lists an address, and the depth (Table 12-6). -/
def State.aheadDepth (s : State) (n addr : Nat) : Nat :=
  let v := s.value .twiReadAhead n
  let a1 := (v &&& 0x7F).toNat
  let a2 := ((v >>> 8) &&& 0x7F).toNat
  if (v.getLsbD 7 && a1 == addr) || (v.getLsbD 15 && a2 == addr) then ((v >>> 16) &&& 0x3F).toNat else 0

/-- The bytes held for an address (R260). -/
def Seg.heldFor (g : Seg) (addr : Nat) : List Byte :=
  match g.ahead.find? fun x => x.1 == addr with
  | some (_, l) => l
  | none => []

/-- The held bytes of an address replaced. -/
def Seg.setHeld (g : Seg) (addr : Nat) (l : List Byte) : Seg :=
  let rest := g.ahead.filter fun x => x.1 != addr
  { g with ahead := if l = [] then rest else rest ++ [(addr, l)] }

/-- All bytes held by read-ahead on a segment become surplus entries (R261). -/
def State.flushAhead (s : State) (n : Nat) : State :=
  let held := (s.seg n).ahead
  let s := s.onSeg n fun g => { g with ahead := [] }
  let old := s.led.tag
  (held.foldl (fun s x => (s.tagged 0xFFFF).surplusOf n x.1 x.2) s).tagged old

/-- The end of a recovery (R261, R265, R268): surplus, then `TW_RECOVERED` or `TW_HELD`, then the end of a pending
TWI_RECOVER. -/
def State.endRecovery (s : State) (n pulses : Nat) (linked ok : Bool) : State :=
  let s := s.flushAhead n
  let op := (s.seg n).recoverOp
  let old := s.led.tag
  let s := s.tagged (match op with | some o => o.tag | none => 0xFFFF)
  let s := s.onSeg n fun g =>
    { g with recovery := .none, pulsesDone := 0, midbyte := false, held := !ok, recoverOp := none }
  let s := if ok then s.append true 3 blkTwi .twRecovered n (b8 pulses)
    else s.append true 3 blkTwi .twHeld n (b8 pulses ++ b8 linked.toNat)
  let s := s.tagged old
  match op with
  | some o => s.completion o (if ok then .done else .fault) true
  | none => s

/-- The power link applies: `TWI.POWER_LINK` names an AUX channel that is on and whose gate pad is not latched
(R267). -/
def State.linkApplies (s : State) (n : Nat) : Bool :=
  let ch := s.nat .twiPowerLink n
  ch != 0 && (s.chan ch).state.conducts && !s.padLatched ch

/-- A trip or lock of a power-link channel during its cycle ends the recovery in `TW_HELD` (R267). -/
def State.linkTripped (s : State) (ch : Nat) : State :=
  s.each (upTo 0 3) fun n s =>
    if s.nat .twiPowerLink n == ch && (s.seg n).recovery == .linkSettle then
      s.endRecovery n (s.nat .twiRecoverPulses n) true false
    else s

/-- Whether a cut transfer was inside a byte: the bus position is not ledger state, so a free value says it
(R252, R265; log 1). -/
def State.cutInside (s : State) : Bool × State :=
  ((Config.measured s.free).getLsbD 0, { s with free := s.free + 1 })

/-- Every transfer of a segment, running first, in admission order. -/
def Seg.transfers (g : Seg) : List Transfer := g.running.toList ++ g.queue

/-- Stop a segment's controller: a reset of block 0x0D or a commit that disables it. A transfer cut off inside a
byte sets ABORTED_MIDBYTE (R265). -/
def State.stopSegment (s : State) (n : Nat) (st : Status) (external : Bool) : State :=
  let g := s.seg n
  let (cut, s) := s.cutInside
  let s := s.onSeg n fun g =>
    { g with running := none, queue := [], attention := false, stretched := false, recovery := .none,
             pulsesDone := 0, recoverOp := none, midbyte := g.midbyte || (g.running.isSome && cut) }
  let s := g.transfers.foldl (fun s t => s.endTransfer n t st [] external) s
  match g.recoverOp with
  | some o => s.completion o st external
  | none => s

/-- A segment disabled by a commit or an apply (R252, R261). -/
def State.disableSegment (s : State) (n : Nat) : State :=
  (s.stopSegment n .stale false).flushAhead n

/-- The stop of TW1 to TW3, and of TW0 with block 0x0D, when their controller is reset: the running transfer and
the queued ones end RESETTING (R96, R265). -/
def State.resetSegments (s : State) (ns : List Nat) (external : Bool) : State :=
  s.each ns fun n s => s.stopSegment n .resetting external

/-- Block 0x0D reports ready: held read-ahead bytes are appended (R261). -/
def State.readySegments (s : State) : State := s.each (upTo 0 3) fun n s => s.flushAhead n

/-! Events. -/

/-- The rate of a segment, as `TWI.RATE`: at most 400 kHz while it is tethered (R254, R269). -/
def State.segRate (s : State) (n : Nat) : Nat :=
  if (s.seg n).tether = 0 then s.nat .twiRate n else min 1 (s.nat .twiRate n)

/-- TRANSFER_START (R254, R255, R260, R265). -/
def State.evTransferStart (s : State) (n : Nat) (sdaLow : Bool) : State :=
  let g := s.seg n
  if 3 < n || !s.segEnabled n || s.segDown n || !g.idle then s
  else if g.midbyte && sdaLow then s.onSeg n fun g => { g with recovery := .pulses false }
  else
    let s := s.onSeg n fun g => { g with midbyte := false, stretched := false }
    match g.queue with
    | [] => s
    | t :: rest =>
      let continues := t.write.isEmpty && decide (0 < t.read)
      let made := if continues then [] else g.heldFor t.addr
      let t := { t with surplus := t.surplus ++ made,
                        fetch := if t.read = 0 then 0 else s.aheadDepth n t.addr, rate := s.segRate n }
      let s := s.onSeg n fun g =>
        { (if continues then g else g.setHeld t.addr []) with queue := rest, running := some t }
      if sdaLow then
        (s.failTransfer n 6 (some 0)).onSeg n fun g => { g with recovery := .pulses false }
      else s

/-- The bytes a read phase takes from the held bytes, needs from the bus, and reads on the bus (R260). -/
def Transfer.busBytes (t : Transfer) (held : List Byte) : Nat × Nat :=
  let need := t.read - (if t.write.isEmpty then min t.read held.length else 0)
  (need, if need = 0 then 0 else need + t.fetch)

/-- An address that is not ACKed: the first one, or that of the read phase after a whole write phase; where there are both the
row does not tell which, and a free value does (R256; log 1). -/
def State.addressNacked (s : State) (n : Nat) (t : Transfer) : State :=
  let all := t.read != 0 && (Config.measured s.free).getLsbD 0
  { s with free := s.free + 1 }.failTransfer n 1 (some (if all then t.write.length else 0))

/-- TRANSFER_COMPLETE (R254 to R256, R260). -/
def State.evTransferComplete (s : State) (n : Nat) (e : BusEnd) : State :=
  match (s.seg n).running with
  | none => s
  | some t =>
    match e with
    | .addressNack => s.addressNacked n t
    | .byteNack acked => if acked < t.write.length then s.failTransfer n 2 (some acked) else s
    | .stop bytes =>
      let held := (s.seg n).heldFor t.addr
      let (need, onBus) := t.busBytes held
      if bytes.length ≠ onBus then s
      else
        let fromHeld := if t.write.isEmpty then held.take (t.read - need) else []
        let own := fromHeld ++ bytes.take need
        let keep := held.drop fromHeld.length ++ bytes.drop need
        let s := s.onSeg n fun g => { g.setHeld t.addr keep with running := none }
        s.endTransfer n t (if t.surplus = [] then .done else .doneWithSurplus) (own ++ t.surplus) true

/-- ARBITRATION_LOST (R257): the third loss ends the transfer with reason 4. -/
def State.evArbitrationLost (s : State) (n : Nat) : State :=
  match (s.seg n).running with
  | none => s
  | some t =>
    if 2 ≤ t.losses then s.failTransfer n 4 none
    else s.onSeg n fun g =>
      { g with running := none, queue := { t with losses := t.losses + 1 } :: g.queue }

/-- A stretch violation, in STRICT mode: a transfer ends with reason 3 (R258, R275); an attention poll goes on to its `TW_ATTN`,
whose status says how it ended (R263). -/
def State.stretchViolation (s : State) (n code : Nat) (us : Nat) : State :=
  let poll := s.nat .twiAttnAddr n
  if s.value .twiStretchMode n != 0 then s
  else match (s.seg n).running with
    | none =>
      if (s.seg n).attention && poll != 0 then
        (s.violation 3 blkTwi code n (b8 poll ++ b32 us)).onSeg n fun g => { g with stretched := true }
      else s
    | some t =>
      let s := (s.tagged t.op.tag).violation 3 blkTwi code n (b8 t.addr ++ b32 us)
      (s.failTransfer n 3 none).onSeg n fun g => { g with stretched := true }

/-- STRETCH_TIMEOUT (R258). -/
def State.evStretchTimeout (s : State) (n : Nat) (us : Word) : State := s.stretchViolation n 0x0301 us.toNat

/-- STRETCH_INSIDE_BYTE (R258). -/
def State.evStretchInsideByte (s : State) (n : Nat) : State := s.stretchViolation n 0x0302 0

/-- STRETCH_HOLD_TIMEOUT (R258): the segment is handled as held, an aborted attention poll or not. -/
def State.evStretchHold (s : State) (n : Nat) : State :=
  if (s.seg n).stretched && ({ s.seg n with attention := false } : Seg).idle then
    s.onSeg n fun g => { g with stretched := false, recovery := .pulses false }
  else s

/-- IN_BAND_REQUEST (R262). -/
def State.evInBand (s : State) (n : Nat) (released : Bool) : State :=
  let g := s.seg n
  if 3 < n || !s.segEnabled n || s.segDown n || !g.idle || g.midbyte then s
  else if released then s.onSeg n fun g => { g with attention := true }
  else
    (s.violation 3 blkTwi 0x0304 n (b8 0xFF)).onSeg n fun g =>
      { g with recovery := .pulses false, pulsesDone := 1 }

/-- TW_ATTN (R263): status 0 read done, 1 address NACKed, 2 aborted. -/
def State.evAttn (s : State) (n status : Nat) (bytes : List Byte) : State :=
  if !(s.seg n).attention then s
  else
    let addr := s.nat .twiAttnAddr n
    let s := s.onSeg n fun g => { g with attention := false }
    if addr = 0 then s.append true 3 blkTwi .twAttn n (b8 0xFF ++ b8 0)
    else
      let got := if status = 0 then bytes.take (s.nat .twiAttnLen n) else []
      (s.onSeg n fun g => { g with attn := some (status, got) }).append true 3 blkTwi .twAttn n
        (b8 addr ++ b8 status)

/-- A segment acts as a target at its mailbox address (R251, R253, R264, R271). -/
def State.mailboxOn (s : State) (n : Nat) : Bool :=
  decide (n ≤ 4) && s.segEnabled n && (n == 4 || !s.segDown n) && s.value .twiMboxAddr n != 0

/-- MAILBOX_WRITE (R264, R271): an empty write is ACKed, and has no entry. -/
def State.evMailbox (s : State) (n : Nat) (bytes : List Byte) : State :=
  if !s.mailboxOn n then s
  else if bytes.isEmpty then s.answering .ack
  else
    let got := bytes.take 32
    ((s.onSeg n fun g => { g with mailbox := some got }).append true 3 blkTwi .twMbox n
      (b8 got.length ++ got.take 8)).answering .ack

/-- MAILBOX_OVERFLOW (R264): byte 33 is NACKed. -/
def State.evMailboxOverflow (s : State) (n : Nat) : State :=
  if s.mailboxOn n then (s.violation 3 blkTwi 0x0303 n (b8 (s.nat .twiMboxAddr n))).answering .nak else s

/-- RECOVERY_PULSES (R265 to R267). -/
def State.evRecoveryPulses (s : State) (n pulses : Nat) (released : Bool) : State :=
  let g := s.seg n
  let total := g.pulsesDone + pulses
  let run := fun linked =>
    if released then s.endRecovery n total linked true
    else if !linked && s.linkApplies n then
      (s.chanDown (s.nat .twiPowerLink n) 1 true).onSeg n fun g => { g with recovery := .linkOff }
    else s.endRecovery n total linked false
  if s.nat .twiRecoverPulses n < total then s
  else match g.recovery with
    | .pulses linked => run linked
    | .none => if g.midbyte && g.idle && s.segEnabled n && !s.segDown n then run false else s
    | _ => s

/-- POWER_LINK_OFF_EXPIRY (R267); while SB_OFF is asserted no channel is turned on (R13), and the recovery ends HELD. -/
def State.evLinkOff (s : State) (n : Nat) : State :=
  if (s.seg n).recovery == .linkOff then
    let ch := s.nat .twiPowerLink n
    if (s.chan ch).state == .off && !s.sbOff then
      (s.chanUp ch 1 true).onSeg n fun g => { g with recovery := .linkSettle }
    else s.endRecovery n (s.nat .twiRecoverPulses n) true false
  else s

/-- POWER_LINK_SETTLE (R267). -/
def State.evLinkSettle (s : State) (n : Nat) : State :=
  if (s.seg n).recovery == .linkSettle && (s.chan (s.nat .twiPowerLink n)).state.conducts then
    s.onSeg n fun g => { g with recovery := .pulses true, pulsesDone := 0 }
  else s

/-- RECOVER_BUS_FREE_WAIT (R268). -/
def State.evBusFreeWait (s : State) (n : Nat) (sdaHigh : Bool) : State :=
  if (s.seg n).recovery == .waitFree then
    if sdaHigh then s.endRecovery n 0 false true
    else s.onSeg n fun g => { g with recovery := .pulses false, pulsesDone := 0 }
  else s

end Sys2Proof.Machine
end

