-- ==== Sys2Proof/Machine/Pd.lean ====
section
/-! DEFINITION. Type-C attach and detach, contracts, rail transitions, Hard Reset, fallback, vendor-defined messages and alternate modes (chapter 09). -/

namespace Sys2Proof.Machine

/-! Where a port's negotiation stands. -/

/-- VBUS has reached vSafe5V and no Hard Reset runs (R197). -/
def Pd.vsafe (d : Pd) : Bool := d.phase != .quiet && d.phase != .hardReset

/-- A rail transition runs: from the GoodCRC of Accept to Forge's report (Tables 09-5, 09-6). -/
def Pd.inTransition (d : Pd) : Bool :=
  d.phase == .transDelay || d.phase == .slewing || d.phase == .settling

/-- The Comb die takes PD messages on a port (R189, R205). -/
def State.listens (s : State) (p : Nat) : Bool :=
  let q := s.port p
  q.attached && q.pd.vsafe && s.pdOn p

/-- A fall of grants since an earlier state is followed by the redistribution (R230). -/
def State.redistributeSince (s : State) (grant p : Nat) : State :=
  if (s.port p).grant < grant then s.redistribute else s

/-- Whether a VDM exchange ends with the contract: an Exit Mode whose mode has gone (R211). -/
def VdmWait.ofExit (w : VdmWait) : Bool := w == .exit || w == .exitOpen

/-! Hard Reset (R204). -/

/-- What a Hard Reset ends: the contract and everything held for it. A VDM request still waits for its time-out
(R206); a waiting Exit Mode has lost its mode. -/
def Pd.startHardReset (d : Pd) : Pd :=
  { d with phase := .hardReset, contract := none, caps := [], capsProvisional := false, provCaps := none,
           cable := false, noP1 := true, exitDue := false, sends := 0, reqPos := 0, reqOp := 0, reqMax := 0,
           readvertise := false, owesCaps := false, hardResets := d.hardResets + 1,
           wait := if d.wait.ofExit then .none else d.wait,
           gotIdentity := false, svids := none, modes := [] }

/-- Forge opens every leg of a port, until vSafe5V is restored; Hive's copy names no leg from then to the next contract (R202,
R204; log 88). -/
def State.legsOpen (s : State) (p : Nat) : State :=
  s.onChan p fun c => { c with leg := none, gate := none, gateCheck := false }

/-- A Hard Reset: P1 closes, `PD_HARDRESET`, the mode exits, the contract ends, VCONN and the legs open, and Hive
sets the reservation (R199, R204). Initiator 1 is the partner, whose entry is the input's own and so comes
first. -/
def State.hardReset (s : State) (p initiator code : Nat) (external : Bool) : State :=
  let before := (s.port p).grant
  let after := s.nextGrant p
  let entry := fun s : State => s.pdEntry p external .pdHardreset (b8 initiator ++ b16 code)
  let s := if initiator = 1 then (entry s).closeP1 p after else entry (s.closeP1 p after)
  let s := (s.exitMode p).endOpsOf (.port p) [.pdModeExit] .done external
  let s := s.onPort p fun q => { q with vconn := false, pd := q.pd.startHardReset }
  let s := s.legsOpen p
  let s := if initiator = 1 then s else s.sends p pdHardReset
  (s.reserveAgain p).redistributeSince before p

/-! Contracts (R194, R195). -/

/-- What a new contract sets in the engine: discovery answers belong to one contract (R209), and a re-advertisement that waits
keeps its own reservation, within the grant (R192, R196; log 91). -/
def Pd.contracted (d : Pd) (c : Contract) (count : Nat) : Pd :=
  { d with contract := some c, contractCount := count,
           reserved := if d.readvertise then min d.reserved c.power else c.power,
           gotIdentity := false, svids := none, modes := [] }

/-- The contract in force after a `PD_CONTRACT`: the entry, P1's close, the grant and the end of PD_RENEGOTIATE. -/
def State.contract (s : State) (p : Nat) (c : Contract) : State :=
  let before := (s.port p).grant
  let count := s.led.next
  let s := s.pdEntry p true .pdContract
    (b8 c.rail ++ b8 c.pos ++ b16 c.op ++ b16 c.max ++ b16 c.power ++ b8 (s.classOf p)
      ++ b8 (s.port p).cable5A.toNat)
  let s := (s.onPd p fun d => d.contracted c count).onChan p fun x => { x with leg := some c.rail }
  let a := (s.port p).pd.p1
  let s :=
    if a.state = 1 then
      if 0 < c.pos then
        (s.onPd p fun d => { d with p1 := { d.p1 with state := 2 } }).provEntry p .provConfirmed
          (b8 1 ++ b8 a.pdos ++ b16 a.highest ++ b16 c.power)
      else s.closeP1 p c.power
    else s
  let s := if (s.port p).grant = c.power then s else s.setGrant p 0 c.power 0
  (s.endOpsOf (.port p) [.pdRenegotiate] .done true).redistributeSince before p

/-- The implicit contract of R195: any mode exits (R211), and no PD message follows. -/
def State.implicitContract (s : State) (p : Nat) : State :=
  let rp := (s.port p).rp
  let s := s.contract p ⟨0, 0, rpCurrent rp, rpCurrent rp, rpPower rp⟩
  let s := s.exitMode p
  s.onPd p fun d =>
    { d with phase := .typeC, caps := [], capsProvisional := false, provCaps := none, cable := false,
             readvertise := false, owesCaps := false }

/-- VBUS has reached vSafe5V after a turn-on (R192, R195). -/
def State.vsafeReached (s : State) (p : Nat) : State :=
  let d := (s.port p).pd
  if d.phase != .quiet then s
  else if !s.pdOn p then s.implicitContract p
  else if d.cable then s.onPd p fun d => { d with phase := .cableWait }
  else s.sendDue p

/-! Violations (R205, R212). -/

/-- The counted violations still inside the window at a time in ms. -/
def State.inWindow (s : State) (p now : Nat) : List Nat :=
  (s.port p).pd.counted.filter fun t => decide (now ≤ t + s.nat .pdViolWindow p * 1000)

/-- A PD `VIOLATION` with the detail of R212, and the entry's own counters. -/
def State.pdDetail (s : State) (p code msg objs count fall : Nat) (m : BitVec 16) : State :=
  let s := s.portViolation (combOf p) blkPd code p
    (b8 msg ++ b8 objs ++ b8 count ++ b8 fall ++ b16 m.toNat)
  s.onPd p fun d => { d with violCount := count }

/-- A violation of Table 09-8 that is not counted; m is a measurement (M). -/
def State.pdUncounted (s : State) (p code msg objs : Nat) (m : BitVec 16) : State :=
  s.pdDetail p code msg objs (s.inWindow p s.ember.ms).length 0 m

/-- The fallback of R205: P1 closes with the Type-C power; a Hard Reset where there is an explicit contract, else
the implicit contract at once. -/
def State.enterFallback (s : State) (p code : Nat) : State :=
  let s := s.closeP1 p (rpPower (s.port p).rp)
  if (s.port p).explicit then s.hardReset p 0 code false
  else (s.onChan p fun c => { c with gate := some 0, gateCheck := false }).implicitContract p

/-- The answer to a violation on the wire (Table 09-8): Reject leaves the port idle, Soft_Reset waits for Accept. -/
def State.pdAnswer (s : State) (p code answer : Nat) : State :=
  if answer = pdHardReset || (s.port p).pd.inTransition then s.hardReset p 0 code true
  else if answer = pdSoftReset then
    (s.onPd p fun d => { d with phase := .softReset }).sends p pdSoftReset
  else (s.sends p answer).pdIdle p

/-- A counted violation: counted at its detection, and answered, or the port falls back (R205, R212). -/
def State.pdViolation (s : State) (p code msg objs answer : Nat) : State :=
  let now := s.ember.ms
  let recent := now :: s.inWindow p now
  let fall := decide (s.nat .pdViolLimit p ≤ recent.length)
  let s := s.onPd p fun d => { d with counted := recent, fallback := d.fallback || fall }
  let s := s.pdDetail p code msg objs recent.length fall.toNat 0
  if fall then s.enterFallback p code else s.pdAnswer p code answer

/-! Attach and detach (R185 to R188). -/

/-- A port as an attach leaves it before anything is powered: what an attach begins anew. -/
def Port.fresh (q : Port) (pin : Nat) (ra : Bool) (count : Nat) : Port :=
  { q with attached := true, pin := pin, ra := ra, rp := 0, rpRemoved := false, vconn := false,
           vconnFault := false, cable5A := false, attachCount := count, attaches := q.attaches + 1,
           waiting := false, shed := false, pd := Pd.init,
           bus := { q.bus with held := q.bus.held.pardoned, limited := false, cycleUsed := false, cycling := false,
                               cyclePower := false, awaitsPower := false, chatter := false, ssDisabled := false,
                               violations := 0 } }

/-- `PORT.ENABLE_POLICY` 0 holds a port that attaches as PORT_DISABLE does, with its entry where it is not held so already
(Table 15-12). -/
def State.enablePolicy (s : State) (p : Nat) : State :=
  if s.value .portEnablePolicy p == 0 && (s.port p).bus.held == .none then
    (s.onBus p fun b => { b with held := .command }).append false 0 blkUsb2 .portDisabled p (b8 1)
  else s

/-- The Rp level that an unattached port presents: `PD.RP_LEVEL`, or Default in DEFAULTS (R131, R185). -/
def State.rpIdle (s : State) (p : Nat) : Nat := if s.cfg.state == .defaults then 0 else s.nat .pdRpLevel p

/-- PORT_ATTACH (R185, R186, R227, R328, R331, R131). -/
def State.evPortAttach (s : State) (p pin : Nat) (ra : Bool) : State :=
  if (s.port p).attached then s
  else
    let count := s.led.next
    let s := s.pdEntry p true .portAttach (b8 pin ++ b8 ra.toNat ++ b8 (s.rpIdle p))
    let s := s.onPort p fun q => q.fresh pin ra count
    let s :=
      if s.cfg.state == .defaults || s.sbOff then s
      else if s.barred p then s.noteAwaits p
      else
        let s := s.onPort p fun q => { q with rp := s.nat .pdRpLevel p }
        if !s.railUp 0 then s.onPort p fun q => { q with waiting := true }
        else s.reserveAndPower p 1 false true true
    s.enablePolicy p

/-- What a detach ends besides power: fallback, counts, the cable result, a violation's hold and refusals (R188, R184, R221,
R225). The 500 ms without Rp are over too: there is no partner left to tell from a leak (log 92). -/
def State.clearAttach (s : State) (p : Nat) : State :=
  let s := s.onPort p fun q =>
    { q with attached := false, pin := 0, ra := false, rp := 0, rpRemoved := false, vconn := false,
             vconnFault := false, cable5A := false, waiting := false, shed := false, pd := Pd.init,
             bus := { q.bus with held := q.bus.held.pardoned, fsPresent := false, ssPresent := false, enabled := false,
                                 suspended := false, busSuspended := false, l1 := false, resuming := false,
                                 suspending := false, speed := none,
                                 reset := .none, limited := false, cycleUsed := false, cycling := false, cyclePower := false,
                                 awaitsPower := false, chatter := false, ssDisabled := false, currentRecorded := false,
                                 wakeRecorded := false, violations := 0 } }
  (s.onChan p fun c =>
    { c with retries := 0, refused := false, offCheck := if c.offCheck == .rpOff then .none else c.offCheck }).onPw fun w =>
    { w with shedOrder := w.shedOrder.filter (· != p) }

/-- A port leaves: `PD_MODE` exit, `PORT_DETACH`, P1's close, `CHAN_OFF`, `ALLOT_CHANGE`, the end of a pending
operation with the status given (R188). The redistribution is the caller's. -/
def State.detach (s : State) (p cause chanCause : Nat) (external : Bool) (st : Status) (byEvent : Bool) : State :=
  let s := (s.exitMode p).pdEntry p external .portDetach (b8 cause)
  (s.portOff p chanCause false st byEvent).clearAttach p

/-- PORT_DETACH (R188): detection is suspended while Rp is removed (R225). -/
def State.evPortDetach (s : State) (p : Nat) : State :=
  if (s.port p).attached && !(s.port p).rpRemoved then (s.detach p 0 4 true .fault true).redistribute else s

/-! Source capabilities. -/

/-- RESERVATION_ARRIVAL (R192, R199). -/
def State.evReservationArrival (s : State) (p : Nat) : State :=
  if !(s.port p).attached || (s.port p).pd.arrived then s
  else
    let s := s.onPd p fun d => { d with arrived := true }
    let d := (s.port p).pd
    let withdrawn := d.capsProvisional && d.p1.state == 3
    match d.phase with
    | .waitGrant => s.sendCaps p
    | .offered => if withdrawn || d.readvertise then s.sendDue p else s
    | .awaitRequest => if withdrawn then s.sendCaps p else s
    | .ready => s.pdIdle p
    | _ => s

/-- SRC_CAPS_REPEAT (R189, R195). -/
def State.evSrcCapsRepeat (s : State) (p : Nat) : State :=
  let d := (s.port p).pd
  if d.phase == .offered then
    if d.sends < 50 then (s.onPd p fun d => { d with sends := d.sends + 1 }).sends p pdSourceCaps
    else s.implicitContract p
  else s

/-- GOODCRC_RECEIVED (R189, R200). -/
def State.evGoodcrc (s : State) (p : Nat) : State :=
  match (s.port p).pd.phase with
  | .offered => s.onPd p fun d => { d with phase := .awaitRequest }
  | .accepted => s.onPd p fun d => { d with phase := .transDelay }
  | _ => s

/-- The PDO of the set most recently sent that a position names (R193). -/
def Pd.pdoAt (d : Pd) (pos : Nat) : Option Pdo := if pos = 0 then none else d.caps[pos - 1]?

/-- REQUEST (R189, R193, R199, R212). Data message type 0x02 with one object (log 23). -/
def State.evRequest (s : State) (p pos op max : Nat) (rev2 : Bool) : State :=
  if !s.listens p then s
  else
    let s := s.onPd p fun d =>
      { d with revision := if d.revision = 0 then (if rev2 then 2 else 3) else d.revision }
    let d := (s.port p).pd
    let open_ := d.phase == .offered || d.phase == .awaitRequest || d.phase == .ready
    if open_ && d.capsProvisional && !d.arrived then
      (s.onPd p fun d => { d with phase := .ready }).sends p pdWait
    else
      match d.pdoAt pos with
      | some x =>
        if decide (op ≤ x.current) && decide (max ≤ x.current) then
          if open_ then
            let same := (s.chan p).gate == some x.rail
            (s.onPd p fun d =>
              { d with phase := if same then .sameRail else .accepted, reqPos := pos, reqOp := op,
                       reqMax := max }).sends p pdAccept
          else s.pdViolation p 0x0202 0x02 1 pdSoftReset
        else s.pdViolation p 0x0201 0x02 1 pdReject
      | none =>
        if d.caps = [] then s.pdViolation p 0x0202 0x02 1 pdSoftReset
        else s.pdViolation p 0x0201 0x02 1 pdReject

/-- SAME_RAIL_PS_RDY (R193). -/
def State.evSameRail (s : State) (p : Nat) : State :=
  if (s.port p).pd.phase == .sameRail then
    (s.onPd p fun d => { d with phase := .psRdy }).sends p pdPsRdy
  else s

/-- PD_CONTRACT (R194): PS_RDY has received its GoodCRC. -/
def State.evPdContract (s : State) (p : Nat) : State :=
  let d := (s.port p).pd
  match d.phase, d.pdoAt d.reqPos with
  | .psRdy, some x =>
    (s.contract p ⟨x.rail, d.reqPos, d.reqOp, d.reqMax, inDeciwatts (centiwatts x.rail d.reqMax)⟩).pdIdle p
  | _, _ => s

/-! Rail transitions (R200 to R202). -/

/-- The rail that a port's transition leads to. -/
def State.nextRail (s : State) (p : Nat) : Nat :=
  match (s.port p).pd.pdoAt (s.port p).pd.reqPos with
  | some x => x.rail
  | none => 0

/-- `RAIL_TRANSITION` (Table 02-3). -/
def State.transitionEntry (s : State) (p result : Nat) (elapsed : BitVec 16) : State :=
  s.pdEntry p true .railTransition
    (b8 ((s.chan p).leg.getD 0) ++ b8 (s.nextRail p) ++ b8 result ++ b16 elapsed.toNat)

/-- A missed timer: the entry and the Hard Reset of R202. -/
def State.transitionMissed (s : State) (p result : Nat) (elapsed : BitVec 16) : State :=
  (s.transitionEntry p result elapsed).hardReset p 0 (if result = 1 then 0x0410 else 0x0411) true

/-- The leg driven from step 2 of a transition on: the new one, in linear mode, where VBUS rises; none while it is discharged
(Tables 09-5, 09-6; R214). -/
def slewGate (old new : Nat) : Option Nat := if old < new then some new else none

/-- TRANSITION_START (R200, R201): the check of the new rail, which an absent rail fails; then the old leg opens. -/
def State.evTransitionStart (s : State) (p : Nat) (railOk : Bool) : State :=
  if (s.port p).pd.phase == .transDelay then
    let new := s.nextRail p
    if railOk && s.railUp new then
      (s.onPd p fun d => { d with phase := .slewing }).onChan p fun c => { c with gate := slewGate (c.gate.getD 0) new }
    else s.transitionMissed p 2 0
  else s

/-- VBUS_IN_BAND (R200, R201): the new leg closes fully; on PORT13 to PORT16 the gate check of R224 begins. -/
def State.evVbusInBand (s : State) (p : Nat) : State :=
  if (s.port p).pd.phase == .slewing then
    let new := s.nextRail p
    (s.onPd p fun d => { d with phase := .settling }).onChan p fun c => { c with gate := some new, gateCheck := isExternal p }
  else s

/-- RAIL_TRANSITION (R201): done. -/
def State.evRailTransition (s : State) (p : Nat) (elapsed : BitVec 16) : State :=
  if (s.port p).pd.phase == .settling && !(s.chan p).gateCheck then
    let s := s.transitionEntry p 0 elapsed
    let rail := s.nextRail p
    ((s.onChan p fun c => { c with leg := some rail }).onPd p fun d => { d with phase := .psRdy }).sends p
      pdPsRdy
  else s

/-- TRANS_MAX_EXPIRY (R202): from the GoodCRC of Accept to the sending of PS_RDY (R201). -/
def State.evTransMax (s : State) (p : Nat) (elapsed : BitVec 16) : State :=
  if (s.port p).pd.inTransition then s.transitionMissed p 1 elapsed else s

/-- SETTLE_MAX_EXPIRY (R202): until the band entry (R201). -/
def State.evSettleMax (s : State) (p : Nat) (elapsed : BitVec 16) : State :=
  if (s.port p).pd.phase == .slewing then s.transitionMissed p 2 elapsed else s

/-! Hard Reset and messages. -/

/-- HARD_RESET_RECEIVED (R204). -/
def State.evHardResetReceived (s : State) (p : Nat) : State :=
  let q := s.port p
  if q.attached && (s.chan p).state.conducts && q.pd.phase != .quiet && q.pd.phase != .hardReset
      && s.value .pdEnable p == 1 then s.hardReset p 1 0 true
  else s

/-- HARD_RESET_RESTORE (R204, R205): Forge closes the RAIL_5V leg and VCONN returns. -/
def State.evHardResetRestore (s : State) (p : Nat) : State :=
  if (s.port p).pd.phase == .hardReset then
    let s := (s.onPd p fun d => { d with phase := .waitGrant }).vconnUp p
    let s := s.onChan p fun c => { c with gate := if c.state.conducts then some 0 else none }
    let s := s.endOpsOf (.port p) [.pdHardReset] .done true
    if (s.port p).pd.fallback then s.implicitContract p else s.sendDue p
  else s

/-- Capabilities sent again or in answer to Get_Source_Cap (Table 09-2): the provisional set that stands, else the
set of the reservation held. -/
def State.resend (s : State) (p : Nat) : State :=
  let d := (s.port p).pd
  if d.cable then s.onPd p fun d => { d with phase := .cableWait }
  else if d.capsProvisional && !d.arrived then s.sendSet p d.caps true
  else s.sendDue p

/-- A message that a rail transition does not expect (R203, R212). -/
def State.midTransition (s : State) (p msg objs : Nat) : State :=
  s.pdViolation p 0x0202 msg objs pdHardReset

/-- SOFT_RESET (Table 09-2): Accept, then capabilities again. Control message 0x0D (log 23). -/
def State.evSoftReset (s : State) (p : Nat) : State :=
  let d := (s.port p).pd
  if !s.listens p then s
  else if d.inTransition then s.midTransition p 0x0D 0
  else if d.phase == .cableAsked || d.phase == .cableWait || d.phase == .waitGrant then s.sends p pdAccept
  else (s.sends p pdAccept).resend p

/-- SOFT_RESET_ACCEPTED (R212). -/
def State.evSoftResetAccepted (s : State) (p : Nat) : State :=
  if (s.port p).pd.phase == .softReset then s.resend p else s

/-- GET_SOURCE_CAP (Table 09-2). Inside a running sequence the answer follows its end (DESIGN CHOICE, log 93). Control message
0x07 (log 23). -/
def State.evGetSourceCap (s : State) (p : Nat) : State :=
  let d := (s.port p).pd
  if !s.listens p then s
  else if d.inTransition then s.midTransition p 0x07 0
  else match d.phase with
    | .offered | .awaitRequest | .ready | .typeC => s.resend p
    | _ => s.onPd p fun d => { d with owesCaps := true }

/-- GET_REVISION (Table 09-2): Revision 3.1. Control message 0x18 (log 23). -/
def State.evGetRevision (s : State) (p : Nat) : State :=
  if !s.listens p then s
  else if (s.port p).pd.inTransition then s.midTransition p 0x18 0
  else s.sends p pdRevision

/-- SWAP_REQUEST (Table 09-2): Reject. Control messages 0x09, 0x0A, 0x0B (log 23). -/
def State.evSwap (s : State) (p : Nat) (k : Swap) : State :=
  let msg := match k with
    | .drSwap => 0x09
    | .prSwap => 0x0A
    | .vconnSwap => 0x0B
  if !s.listens p then s
  else if (s.port p).pd.inTransition then s.midTransition p msg 0
  else s.sends p pdReject

/-- UNSUPPORTED_MESSAGE (R189, R203, R212). -/
def State.evOther (s : State) (p : Nat) (k : OtherMessage) : State :=
  let d := (s.port p).pd
  if !s.listens p then s
  else match k with
    | .alert => if d.inTransition then s.midTransition p 0x06 1 else s
    | .unsupported t n =>
      if d.inTransition then s.midTransition p t.toNat n
      else s.sends p (if d.revision = 2 then pdReject else pdNotSupported)
    | .unexpected t n => s.pdViolation p 0x0202 t.toNat n pdSoftReset

/-- BIST (Table 09-2): served at vSafe5V, on the wire only; during a transition it is unexpected. Data message
0x03 (log 23). -/
def State.evBist (s : State) (p : Nat) (_carrier : Bool) : State :=
  if s.listens p && (s.port p).pd.inTransition then s.midTransition p 0x03 1 else s

/-- REQUEST_TIMEOUT (R212): no Request after acknowledged capabilities, or no Accept to Soft_Reset. -/
def State.evRequestTimeout (s : State) (p : Nat) : State :=
  let d := (s.port p).pd
  if d.phase == .awaitRequest || d.phase == .softReset then s.pdViolation p 0x0203 0xFF 0 pdHardReset else s

/-! VCONN and the cable (R187). -/

/-- VCONN_OVERLOAD (R187). -/
def State.evVconnOverload (s : State) (p : Nat) (ma : BitVec 16) : State :=
  let q := s.port p
  if !q.vconn then s
  else
    let s := s.onPort p fun q => { q with vconn := false, vconnFault := true, cable5A := false }
    let s := s.pdUncounted p 0x0205 0xFF 0 ma
    if q.pd.cable then s.cableDone p else s

/-- CABLE_DISCOVERY (Table 09-1 step 5). -/
def State.evCableDiscovery (s : State) (p : Nat) : State :=
  if (s.port p).pd.phase == .cableWait && (s.port p).vconn then
    (s.onPd p fun d => { d with phase := .cableAsked }).sends p pdVdm
  else s

/-! Vendor-defined messages (R206, R207; header layout: log 23). -/

/-- SVID, structured bit, command type, object position and command of a VDM header. -/
def vdmSvid (h : Word) : Nat := (h >>> 16).toNat
def vdmStructured (h : Word) : Bool := h.getLsbD 15
def vdmType (h : Word) : Nat := ((h >>> 6) &&& 3).toNat
def vdmPos (h : Word) : Nat := ((h >>> 8) &&& 7).toNat
def vdmCmd (h : Word) : Nat := (h &&& 0x1F).toNat

/-- A received VDM stored in Q62, or dropped with its flag where Q62 is full (R22, R330), and its `PD_VDM`. An unstructured VDM
has no VDM command and no object position, and the spec gives d1 and d4 no value for it: 0 (DESIGN CHOICE, log 94). -/
def State.vdmEntry (s : State) (p sop : Nat) (objects : List Word) (response : Bool) : State :=
  match objects with
  | [] => s
  | h :: _ =>
    let st := vdmStructured h
    let full := decide (32 ≤ s.led.q62.length)
    let slot := s.led.q62Next
    let count := s.led.next
    let s := s.onLed fun l =>
      let l := if st && vdmCmd h == 6 && !response then { l with attentions := l.attentions + 1 } else l
      if full then { l with vdmDrops := l.vdmDrops + 1 }
      else { l with q62 := l.q62 ++ [⟨slot, count, p, sop, !st, response, objects⟩],
                    q62Next := (slot + 1) % 32 }
    s.pdEntry p true .pdVdm
      (b8 sop ++ b8 (if st then vdmCmd h else 0) ++ b16 (vdmSvid h) ++ b8 (if st then vdmPos h else 0)
        ++ b8 (full.toNat + 2 * (!st).toNat) ++ b8 (if full then 0xFF else slot))

/-- The VDM exchange of a port ends; an Exit Mode that waited for it is sent, else capabilities that did (R196, R210). -/
def State.exchangeOver (s : State) (p : Nat) : State :=
  let s := s.onPd p fun d => { d with wait := .none }
  let d := (s.port p).pd
  if d.exitDue && d.mode.isSome then
    (s.onPd p fun d => { d with exitDue := false, wait := .exit }).sends p pdVdm
  else if d.phase == .ready then s.pdIdle p
  else s

/-- The pending VDM operation of a port ends. -/
def State.vdmOver (s : State) (p : Nat) (st : Status) (external : Bool) : State :=
  (s.exchangeOver p).endOpsOf (.port p) [.pdVdmSend, .pdModeEnter, .pdModeExit] st external

/-- The tag of the operation whose exchange runs. -/
def State.vdmTag (s : State) (p : Nat) : BitVec 16 :=
  s.opTag (.port p) [.pdVdmSend, .pdModeEnter, .pdModeExit]

/-- A change made with the exchange's tag in force. -/
def State.inExchange (s : State) (p : Nat) (f : State → State) : State :=
  let old := s.led.tag
  let s' := f (s.tagged (s.vdmTag p))
  s'.tagged old

/-- A response that is missing, malformed or unmatched: 0x0204, and the pending exchange ends with `FAULT`; an
Exit Mode's mode exits with it (R206, R211, R212). -/
def State.vdmFailed (s : State) (p msg objs : Nat) : State :=
  let exits := (s.port p).pd.wait == .exit
  let s := s.inExchange p fun s =>
    let s := s.pdUncounted p 0x0204 msg objs 0
    if exits then s.exitMode p else s
  if (s.port p).pd.wait == .none || (s.port p).pd.wait == .exitOpen then s else s.vdmOver p .fault true

/-- The mode VDOs that a partner has answered for an SVID in the present contract (R209). -/
def Pd.modesOf (d : Pd) (svid : Nat) : Option (List Word) := (d.modes.find? fun x => x.1 == svid).map (·.2)

/-- The next request of PD_MODE_ENTER: what has been answered in this contract is skipped, and a listing that
does not hold the mode ends it with `FAULT` (R209). -/
def State.modeNext (s : State) (p svid pos seg : Nat) (external : Bool) : State :=
  let d := (s.port p).pd
  let ask := fun step => (s.onPd p fun d => { d with wait := .enter step svid pos seg }).sends p pdVdm
  if !d.gotIdentity then ask 1
  else match d.svids with
    | none => ask 2
    | some l =>
      if !l.contains svid then s.vdmOver p .fault external
      else match d.modesOf svid with
        | some ms =>
          match (if pos = 0 then none else ms[pos - 1]?) with
          | none => s.vdmOver p .fault external
          | some m =>
            if svid == s.nat .vdmWaggleSvid 0 && (m &&& 0xFF).toNat != s.nat .vdmWaggleMode 0 then
              s.vdmOver p .fault external
            else ask 4
        | none => ask 3

/-- The SVIDs of a Discover SVIDs response: two per object, 0 ends the list. -/
def svidsOf (objects : List Word) : List Nat :=
  (objects.flatMap fun w : Word => [(w >>> 16).toNat, (w &&& 0xFFFF).toNat]).filter (· != 0)

/-- Enter Mode was answered ACK: `PD_MODE` enter, the tether, and `DONE` (R209, R269). d3 holds bits [7:0] of the
Mode VDO (DEDUCED, log 24). -/
def State.modeEntered (s : State) (p svid pos seg : Nat) : State :=
  let vdo := (((s.port p).pd.modesOf svid).getD []).getD (pos - 1) 0
  let tether := if seg = 0xFF then none else some seg
  let m : AltMode := ⟨svid, pos, (vdo &&& 0xFF).toNat, tether⟩
  let s := s.onPd p fun d => { d with mode := some m, sbuClosing := tether.isSome && !d.sbuFault }
  let s := if seg = 0xFF then s else s.onSeg seg fun g => { g with tether := p }
  let s := s.inExchange p fun s =>
    s.pdEntry p true .pdMode (b8 1 ++ b16 svid ++ b8 m.mode ++ b8 seg)
  s.vdmOver p .done true

/-- A discovery request that the partner has answered ACK in the present contract, whoever sent it: what the answer brings
(R209). -/
def Pd.answered (d : Pd) (cmd svid : Nat) (rest : List Word) : Pd :=
  match cmd with
  | 1 => { d with gotIdentity := true }
  | 2 => { d with svids := some (svidsOf rest) }
  | 3 => { d with modes := (d.modes.filter fun x => x.1 != svid) ++ [(svid, rest)] }
  | _ => d

/-- A response in the exchange of PD_MODE_ENTER (R209). -/
def State.enterAnswered (s : State) (p step svid pos seg : Nat) (ack : Bool) (rest : List Word) : State :=
  if !ack then s.vdmOver p .fault true
  else if step ≤ 3 then (s.onPd p fun d => d.answered step svid rest).modeNext p svid pos seg true
  else s.modeEntered p svid pos seg

/-- Whether a response header matches what an exchange waits for. -/
def waitMatches (w : VdmWait) (sop : Nat) (h : Word) (mode : Option AltMode) : Bool :=
  match w with
  | .request sop' cmd svid => sop == sop' && vdmCmd h == cmd && vdmSvid h == svid
  | .enter step svid _ _ =>
    sop == 0 && vdmCmd h == step && vdmSvid h == (if step ≤ 2 then 0xFF00 else svid)
  | .exit => sop == 0 && vdmCmd h == 5 && (match mode with | some m => vdmSvid h == m.svid | none => false)
  | _ => false

/-- A response that matches the exchange: its entry, and what it brings. Exit Mode ends the mode at its ACK only
(R211). -/
def State.vdmAnswered (s : State) (p sop : Nat) (objects : List Word) : State :=
  let ack := vdmType (objects.headD 0) == 1
  let w := (s.port p).pd.wait
  let s := s.inExchange p fun s => s.vdmEntry p sop objects true
  match w with
  | .request sop cmd svid =>
    (s.when (ack && sop == 0) fun s => s.onPd p fun d => d.answered cmd svid (objects.drop 1)).vdmOver p .done true
  | .enter step svid pos seg => s.enterAnswered p step svid pos seg ack (objects.drop 1)
  | .exit => if ack then (s.inExchange p fun s => s.exitMode p).vdmOver p .done true else s
  | _ => s

/-- The cable's answer to the SOP' Discover Identity (Table 09-1 step 5): a 5 A cable reports it in bits [6:5] of
its Cable VDO, the fifth object (log 23). -/
def State.cableAnswered (s : State) (p : Nat) (objects : List Word) : State :=
  let five := vdmType (objects.headD 0) == 1 && ((objects.getD 4 0 >>> 5) &&& 3) == 2
  let s := s.vdmEntry p 1 objects true
  (s.onPort p fun q => { q with cable5A := five }).cableDone p

/-- A request or unstructured VDM that a partner initiates: stored, and answered NAK where it is a structured
request other than Attention (R207). -/
def State.vdmAsked (s : State) (p sop : Nat) (objects : List Word) : State :=
  let h := objects.headD 0
  let s := s.vdmEntry p sop objects false
  if vdmStructured h && vdmCmd h != 6 then s.sends p pdVdmNak else s

/-- VDM_RECEIVED (R207): every VDM has its entry and its place in Q62, one that Table 09-8 calls a violation too; the violation
follows (DEDUCED, log 95). Vendor_Defined is data message 0x0F (log 23). -/
def State.evVdmReceived (s : State) (p sop : Nat) (objects : List Word) : State :=
  let d := (s.port p).pd
  let h := objects.headD 0
  let response := vdmStructured h && vdmType h != 0
  let n := objects.length
  if n = 0 || 7 < n || !s.listens p || (sop != 0 && !(s.port p).vconn) then s
  else if d.phase == .cableAsked && sop == 1 then
    if response && vdmCmd h == 1 then s.cableAnswered p objects
    else ((s.vdmEntry p sop objects false).pdUncounted p 0x0204 0x0F n 0).cableDone p
  else if !d.explicit || d.inTransition then (s.vdmEntry p sop objects false).pdViolation p 0x0202 0x0F n pdSoftReset
  else if response then
    if waitMatches d.wait sop h d.mode then s.vdmAnswered p sop objects
    else (s.vdmEntry p sop objects false).vdmFailed p 0x0F n
  else s.vdmAsked p sop objects

/-- VDM_RESPONSE_TIMEOUT (R206, R209, R211; Table 09-1 step 5). -/
def State.evVdmTimeout (s : State) (p : Nat) : State :=
  let d := (s.port p).pd
  if d.phase == .cableAsked then (s.pdUncounted p 0x0204 0xFF 0 0).cableDone p
  else match d.wait with
    | .request _ _ _ | .enter _ _ _ _ | .exit => s.vdmFailed p 0xFF 0
    | _ => s

/-- VDM_SEND_DONE (R206). -/
def State.evVdmSendDone (s : State) (p : Nat) (ok : Bool) : State :=
  if (s.port p).pd.wait == .plain then s.vdmOver p (if ok then .done else .fault) true else s

/-- The exchange of a VDM operation that ends early is given up; an Exit Mode that has begun goes on (R66). -/
def State.dropExchange (s : State) (p : Nat) : State :=
  s.onPd p fun d => { d with wait := if d.wait.ofExit then d.wait else .none }

/-! SBU switches (R210, R211). -/

/-- The segment of a port's entered mode. -/
def Port.modeSeg (q : Port) : Option Nat := q.pd.mode.bind (·.seg)

/-- SBU_SWITCH_CLOSE (R210): at the segment's bus-free condition. -/
def State.evSbuClose (s : State) (p : Nat) : State :=
  let q := s.port p
  match q.modeSeg with
  | some g =>
    if q.pd.sbuClosing && !q.pd.sbuFault && (s.seg g).running.isNone then
      s.onPd p fun d => { d with sbuClosing := false, sbuClosed := true }
    else s
  | none => s

/-- SBU_SWITCH_OPEN (R211): the switches open, the tether ends and Exit Mode is sent. -/
def State.evSbuOpen (s : State) (p : Nat) : State :=
  let q := s.port p
  let send := fun s : State =>
    (s.onPd p fun d => { d with sbuClosed := false, sbuClosing := false, wait := .exit }).sends p pdVdm
  if q.pd.wait != .exitOpen then s
  else match q.modeSeg with
    | some g =>
      if (s.seg g).running.isSome && q.pd.sbuClosed then s
      else send (s.onSeg g fun x => { x with tether := 0 })
    | none => send s

/-- SBU_OVERVOLTAGE (R210): the switches open at once and stay open until detach (Table 09-8), and Exit Mode is sent, after a
running exchange (DEDUCED, log 114). -/
def State.evSbuOvervoltage (s : State) (p : Nat) (mv : BitVec 16) : State :=
  let q := s.port p
  match q.modeSeg with
  | some g =>
    if q.pd.sbuClosed then
      let s := s.onPd p fun d => { d with sbuClosed := false, sbuFault := true }
      let s := s.pdUncounted p 0x0206 0xFF 0 mv
      let s := s.untether g true
      match q.pd.wait with
      | .none | .exitOpen => (s.onPd p fun d => { d with wait := .exit }).sends p pdVdm
      | .exit => s
      | _ => s.onPd p fun d => { d with exitDue := true }
    else s
  | none => s

/-! Commands (R197, R204, R206, R208, R211): what they do once they are admitted. -/

/-- The reservation of PD_RENEGOTIATE (R192, R230); where less than 4.5 W could be reserved, the grant stands. -/
def State.reserveForCaps (s : State) (p : Nat) : State := (s.reserve p true).getD s

/-- PD_RENEGOTIATE (R192, R198): a provisional set goes out without waiting for the reservation, unless a sequence runs (R203). -/
def State.doRenegotiate (s : State) (p : Nat) (allowProvisional : Bool) : State :=
  let before := (s.port p).grant
  let prov := allowProvisional && s.p1On p
  let s := if prov then s.closeP1 p ((s.reserveForCaps p).port p).grant else s
  let s := s.reserveForCaps p
  let s := s.onPort p fun q => { q with pd := { q.pd with reserved := q.grant, arrived := false } }
  let s := if prov then s.issueP1 p else s.onPd p fun d => { d with readvertise := true }
  let s :=
    match (s.port p).pd.phase with
    | .typeC => s.sendDue p
    | .waitGrant | .offered => if prov then s.sendDue p else s
    | .ready => s.pdIdle p
    | _ => s
  s.redistributeSince before p

/-- PD_HARD_RESET: a running Hard Reset is joined. -/
def State.doPdHardReset (s : State) (p : Nat) : State :=
  let s := s.dropExchange p
  if (s.port p).pd.phase == .hardReset then s else s.hardReset p 2 0 false

/-- PD_VDM_SEND: a structured request waits for its response, any other message for its GoodCRC (R206). -/
def State.doVdmSend (s : State) (p sop : Nat) (objects : List Word) : State :=
  let h := objects.headD 0
  let request := vdmStructured h && vdmType h == 0 && vdmCmd h != 6
  (s.onPd p fun d =>
    { d with wait := if request then .request sop (vdmCmd h) (vdmSvid h) else .plain }).sends p pdVdm

/-- PD_MODE_EXIT (R211): closed switches open first, at the segment's bus-free condition. -/
def State.doModeExit (s : State) (p : Nat) : State :=
  if (s.port p).pd.sbuClosed then s.onPd p fun d => { d with wait := .exitOpen }
  else
    let s := match (s.port p).modeSeg with
      | some g => s.onSeg g fun x => { x with tether := 0 }
      | none => s
    (s.onPd p fun d => { d with sbuClosing := false, wait := .exit }).sends p pdVdm

/-- A segment is tethered to another port, or another port's PD_MODE_ENTER is about to tether it (R208, log
29). -/
def State.tetheredElsewhere (s : State) (p seg : Nat) : Bool :=
  let t := (s.seg seg).tether
  (t != 0 && t != p) || allPorts.any fun q => q != p && match (s.port q).pd.wait with
    | .enter _ _ _ g => g == seg
    | _ => false

end Sys2Proof.Machine
end

