-- ==== Sys2Proof/Machine/Chans.lean ====
section
/-! DEFINITION. Channel events, rails and channel commands (chapter 10). -/

namespace Sys2Proof.Machine

/-! The limit in force (R215, R183). -/

/-- 1.25 times the current of the port's contract, rounded up to 50 mA; without a contract the Rp current counts (R215). -/
def State.contractShare (s : State) (p : Nat) : Nat :=
  let current := match (s.port p).pd.contract with
    | some c => if 0 < c.pos then c.max * 10 else rpCurrent (s.port p).rp * 10
    | none => rpCurrent (s.port p).rp * 10
  (current * 125 + 4999) / 5000 * 50

/-- The limit in force on CH1 to CH12, mA (R215); the LIMIT action's where it applies (R183). -/
def State.currentLimit (s : State) (ch : Nat) : Nat :=
  if (s.port ch).bus.limited then 100 else min (s.nat .chanIlim ch) (s.contractShare ch)

/-- The limit in force on CH13 to CH24 as a voltage across the sense resistor, nV: a current in mA times `CHAN.RSNS` in µΩ (R215,
R183). -/
def State.senseLimit (s : State) (ch : Nat) : Nat :=
  let setting := s.nat .chanVsnsLim ch * 1000000
  if isAux ch then setting
  else if (s.port ch).bus.limited then 10 * 1000000
  else min setting (s.contractShare ch * s.nat .chanRsns ch)

/-- The sense threshold in force on CH13 to CH24, mV: rounded up, and never below 10 mV on a port (R215). -/
def State.senseThreshold (s : State) (ch : Nat) : Nat :=
  if isAux ch then s.nat .chanVsnsLim ch else max 10 ((s.senseLimit ch + 999999) / 1000000)

/-- A current above `CHAN.ISHORT`, in tenths, times the limit in force (R216). -/
def State.overShort (s : State) (ch ma : Nat) : Bool :=
  let short := s.nat .chanIshort ch
  if isIntegrated ch then decide (short * s.currentLimit ch < ma * 10)
  else decide (short * s.senseLimit ch < ma * s.nat .chanRsns ch * 10)

/-! Trips and retries (R216 to R223). -/

/-- The entry of a trip, with the retries used before it, and what both hubs show of it (R169, R221). -/
def State.tripEntry (s : State) (ch cause used : Nat) (ma mv : BitVec 16) : State :=
  let s := s.append true 3 blkChan .chanTrip ch
    (b8 cause ++ b8 used ++ b16 ma.toNat ++ b16 mv.toNat)
  let s := s.onChan ch fun c => { c with trips := saturate 0xFFFFFFFF (c.trips + 1) }
  s.when (isPort ch) fun s =>
    s.onBus ch fun b => { b with overCurrent := true, cOverCurrent := true, overCurrents := b.overCurrents + 1 }

/-- The channel enters RETRY_WAIT: on a port the contract and a pending operation end and the grant is kept
(R221, R223). -/
def State.waitRetry (s : State) (ch : Nat) : State :=
  let s := s.when (isPort ch) fun s => s.closeP1 ch (s.port ch).grant
  let s := s.onChan ch fun c =>
    { c with state := .retryWait, leg := none, gate := none, gateCheck := false, retryWaits := false, tripped := false }
  s.when (isPort ch) fun s =>
    (s.endPower ch).endOps (.port ch) .fault true

/-- A trip (R216, R217, R218, R221). Where it crosses Hive's own turning off, the copy holds the channel off already: the entry
stands alone, and where the trip has locked the channel at Forge, Hive adopts the lock (R11). -/
def State.trip (s : State) (ch cause : Nat) (ma mv : BitVec 16) : State :=
  let c := s.chan ch
  if c.state.conducts then
    let s := s.tripEntry ch cause c.retries ma mv
    let s :=
      if c.retries < s.nat .chanRetryMax ch then s.waitRetry ch else (s.lockChan ch 0).redistribute
    s.linkTripped ch
  else match c.crossing with
    | some (_, used) =>
      let s := (s.onChan ch fun c => { c with crossing := none }).tripEntry ch cause used ma mv
      if used < s.nat .chanRetryMax ch then s else ((s.lockChan ch 0).redistribute).linkTripped ch
    | none => s

/-- HARD_SHORT (R216): the current exceeds `CHAN.ISHORT` times the limit in force. -/
def State.evHardShort (s : State) (ch : Nat) (ma mv : BitVec 16) : State :=
  if (s.chan ch).state.conducts && !s.overShort ch ma.toNat then s else s.trip ch 0 ma mv

/-- OVERLOAD_TIMEOUT (R217): the timer runs in ON and REGULATING. -/
def State.evOverload (s : State) (ch : Nat) (ma mv : BitVec 16) : State :=
  if (s.chan ch).state == .ramping then s else s.trip ch 1 ma mv

/-- OVER_TEMPERATURE (R217): integrated legs only. -/
def State.evOverTemperature (s : State) (ch : Nat) (ma mv : BitVec 16) : State :=
  if isIntegrated ch then s.trip ch 3 ma mv else s

/-- RAMP_FAULT (R218). -/
def State.evRampFault (s : State) (ch : Nat) (ma mv : BitVec 16) : State :=
  match (s.chan ch).state with
  | .on | .regulating => s
  | _ => s.trip ch 2 ma mv

/-- CURRENT_LIMIT_REACHED (R217, R220). -/
def State.evLimitReached (s : State) (ch : Nat) : State :=
  if (s.chan ch).state == .on then s.onChan ch fun c => { c with state := .regulating } else s

/-- REGULATION_END (R217, R220). -/
def State.evRegulationEnd (s : State) (ch : Nat) : State :=
  if (s.chan ch).state == .regulating then s.onChan ch fun c => { c with state := .on } else s

/-- RAMP_COMPLETE (R218, R224): on CH13 to CH24 the gate check decides first. -/
def State.evRampComplete (s : State) (ch : Nat) : State :=
  if (s.chan ch).state == .ramping then
    if isExternal ch then s.onChan ch fun c => { c with gateCheck := true }
    else (s.onChan ch fun c => { c with state := .on }).vsafeReached ch
  else s

/-- GATE_CHECK_PASS (R224). -/
def State.evGatePass (s : State) (ch : Nat) : State :=
  let c := s.chan ch
  if c.gateCheck then
    let s := s.onChan ch fun c => { c with gateCheck := false }
    if c.state == .ramping then
      let s := s.onChan ch fun c => { c with state := .on }
      if isPort ch then s.vsafeReached ch else s
    else s
  else s

/-- A gate check runs on a channel: as Hive's copy has it, or at Forge when Hive turned the channel off (R11). -/
def Chan.gateChecked (c : Chan) : Bool :=
  if c.state.conducts then c.gateCheck
  else match c.crossing with
    | some (checking, _) => checking
    | none => false

/-- GATE_CHECK_TIMEOUT (R224): the lock takes the place of the ramp's or the transition's result; Forge's lock is adopted where
the report crosses Hive's own turning off (R11). -/
def State.evGateTimeout (s : State) (ch : Nat) (mv : BitVec 16) : State :=
  if (s.chan ch).gateChecked then
    let s := s.append true 3 blkChan .gateFail ch (b16 mv.toNat)
    ((s.lockChan ch 1).redistribute).linkTripped ch
  else s

/-- One retry: `CHAN_RETRY`, `CHAN_ON` cause 2, and on a port the first occasion of R192 (R221, R223). -/
def State.retry (s : State) (ch : Nat) (external : Bool) : State :=
  let k := (s.chan ch).retries + 1
  let s := s.onChan ch fun c => { c with retries := k }
  let s := s.append external 3 blkChan .chanRetry ch (b8 k ++ b16 (s.nat .chanRetryDelay ch * 2 ^ (k - 1)))
  let s := s.chanUp ch 2 false
  if isPort ch then
    let before := (s.port ch).grant
    ((s.reserveAgain ch).negotiate ch true).redistributeSince before ch
  else s

/-- RETRY_DELAY_EXPIRY (R153, R221). -/
def State.evRetryDelay (s : State) (ch : Nat) : State :=
  if (s.chan ch).state == .retryWait then
    if s.padLatched ch then s.onChan ch fun c => { c with retryWaits := true } else s.retry ch true
  else s

/-! The off check (R225). -/

/-- `LEG_LEAK` and its lock; Rp is restored. -/
def State.leak (s : State) (ch suspect : Nat) (mv : BitVec 16) : State :=
  let s := s.append true 3 blkChan .legLeak ch (b8 suspect ++ b16 mv.toNat)
  ((s.onPort ch fun q => { q with rpRemoved := false }).lockChan ch 2).redistribute

/-- DISCHARGE_END (R225): every leg is open, and no trip of before is still on its way. -/
def State.evDischargeEnd (s : State) (ch : Nat) : State :=
  if (s.chan ch).offCheck == .discharging then s.onChan ch fun c => { c with offCheck := .window, crossing := none } else s

/-- A rail that VBUS matches, or 0xFF: a measurement (log 1). -/
def State.suspectRail (s : State) : Nat × State :=
  let v := ((Config.measured s.free) &&& 7).toNat
  (if v < 4 then v else 0xFF, { s with free := s.free + 1 })

/-- OFF_CHECK_TIMEOUT (R225): an attached port loses Rp, an unattached one has leaked. -/
def State.evOffCheck (s : State) (ch : Nat) (mv : BitVec 16) : State :=
  if (s.chan ch).offCheck == .window && (s.chan ch).state == .off then
    if (s.port ch).attached then
      (s.onChan ch fun c => { c with offCheck := .rpOff, offMv := mv }).onPort ch fun q =>
        { q with rpRemoved := true }
    else
      let (r, s) := s.suspectRail
      s.leak ch r mv
  else s

/-- BACKDRIVE (R225 step 1). -/
def State.evBackdrive (s : State) (ch : Nat) (ms : BitVec 16) : State :=
  let c := s.chan ch
  if c.offCheck == .rpOff then
    let s := s.portViolation 3 blkChan 0x0403 ch (b16 c.offMv.toNat ++ b16 ms.toNat)
    (s.onChan ch fun c => { c with offCheck := .none, refused := true }).onPort ch fun q =>
      { q with rpRemoved := false, waiting := false }
  else s

/-- LEG_LEAK (R225 step 2). -/
def State.evLegLeak (s : State) (ch : Nat) (suspect : Byte) (mv : BitVec 16) : State :=
  if (s.chan ch).offCheck == .rpOff then s.leak ch suspect.toNat mv else s

/-! Rails (R227). -/

/-- `FAULT` 0x0420 and the change of the present bit. -/
def State.railChange (s : State) (rail how : Nat) (up external : Bool) : State :=
  let s := s.fault external 3 blkChan 0x0420 0 (b8 rail ++ b8 how)
  let bit := 1#4 <<< rail
  { s with rails := if up then s.rails ||| bit else s.rails &&& ~~~bit }

/-- What follows when a rail is no longer present: Hard Reset on the ports that use it, or, for RAIL_5V, every port channel off
and its port waiting (R227, R332). -/
def State.railGone (s : State) (rail how : Nat) (external : Bool) : State :=
  let s := s.railChange rail how false external
  if rail = 0 then
    s.each allPorts fun p s =>
      if (s.chan p).state.active then
        (s.policyOff p false .fault external).onPort p fun q => { q with waiting := q.attached }
      else s
  else
    s.each allPorts fun p s =>
      if (s.port p).explicit && (s.port p).contractRail == some rail then s.hardReset p 0 0x0420 false
      else s

/-- The loss of a rail that is present. -/
def State.railLost (s : State) (rail how : Nat) : State := if s.railUp rail then s.railGone rail how true else s

/-- RAIL_LOW and RAIL_HIGH (R227). -/
def State.evRailLow (s : State) (rail : Nat) : State := s.railLost rail 0

/-- Forge opens the legs of a rail that is too high at once (R227). -/
def State.legsOff (s : State) (rail : Nat) : State :=
  s.each allPorts fun p s => s.onChan p fun c => { c with gate := if c.gate == some rail then none else c.gate }
def State.evRailHigh (s : State) (rail : Nat) : State := if s.railUp rail then (s.legsOff rail).railLost rail 1 else s

/-- RAIL_BACK_IN_BAND (R227). -/
def State.evRailBack (s : State) (rail : Nat) : State :=
  if s.rails.getLsbD rail || !(s.value .railMask 0).getLsbD rail then s
  else
    let s := s.railChange rail 2 true true
    if rail = 0 then s.redistribute else s

/-! Commands (R222, R226). -/

/-- CHAN_ON on a channel that may be turned on. -/
def State.doChanOn (s : State) (ch : Nat) : State :=
  if (s.chan ch).state.conducts && !s.padLatched ch then s
  else if s.padLatched ch then s.stagePad ch true
  else if isPort ch then
    match s.reserve ch true with
    | some s => s.powerPort ch 0 false true
    | none => s
  else s.chanUp ch 0 false

/-- A port channel that a command turns off stays off until CHAN_ON: it leaves the waiting and shed lists, and a
running CYCLE does not turn it on (R226). -/
def State.keepOff (s : State) (p : Nat) : State :=
  let s := s.onPort p fun q =>
    { q with waiting := false, shed := false, bus := { q.bus with cyclePower := false, awaitsPower := false } }
  s.onPw fun w => { w with shedOrder := w.shedOrder.filter (· != p) }

/-- CHAN_OFF; a pending operation of the subject ends `STALE` (R66). A grant held by a port whose channel is off, inside a
CYCLE, is released too (R226). -/
def State.doChanOff (s : State) (ch : Nat) : State :=
  if (s.chan ch).state == .locked then s
  else if s.padLatched ch then s.stagePad ch false
  else if isPort ch then
    let s :=
      if (s.chan ch).state.active then s.portOff ch 0 false .stale false
      else (s.releaseGrant ch).endOps (.port ch) .stale false
    ((s.clearRetries ch).keepOff ch).redistribute
  else ((s.chanDown ch 0 false).clearRetries ch).endOps (.aux ch) .stale false

/-- CHAN_CLEAR_TRIP. -/
def State.doClearTrip (s : State) (ch : Nat) : State :=
  match (s.chan ch).state with
  | .locked =>
    s.onChan ch fun c => { c with state := .off, lock := none, retries := 0, offCheck := .none }
  | .retryWait =>
    if isPort ch then ((s.portOff ch 0 false .stale false).clearRetries ch).redistribute
    else (s.chanDown ch 0 false).clearRetries ch
  | _ => s.clearRetries ch

/-- The reply of CHAN_MEASURE (R231): measurements, and r6 to r8. -/
def State.measureReply (s : State) (ch : Nat) : List Byte × State :=
  let c := s.chan ch
  let m := fun k => (Config.measured (s.free + k)).toNat
  (b16 (m 0) ++ b16 (m 1) ++ b16 (if isIntegrated ch then m 2 else 0x8000) ++ b8 c.state.code
      ++ b8 c.retries ++ b8 (c.lock.getD 0xFF),
    { s with free := s.free + 3 })

/-- `CHAN.STATE` (R220): the codes 1 and 3 never appear in it. -/
def State.chanState (s : State) (ch : Nat) : Word :=
  let c := s.chan ch
  let code := if c.state.conducts then 2 else c.state.code
  BitVec.ofNat 32 (code + c.retries * 0x100 + c.lock.getD 0xFF * 0x10000 + c.leg.getD 0xFF * 0x1000000)

end Sys2Proof.Machine
end

