-- ==== Sys2Proof/Machine/Spine.lean ====
section
/-! DEFINITION. The Spine links: lanes, traffic classes, senders with their unacknowledged frames, and the frames as they arrive (R12, R102 to R106, R115). -/

namespace Sys2Proof.Machine

/-- The far die of a link, and the link of a die. -/
def dieOfLink (link : Nat) : Nat := link + 1
def linkOfDie (die : Nat) : Nat := die - 1

/-- How many lanes a link has (Table 01-2). -/
def laneCount (link : Nat) : Nat := if link = 2 then 2 else 4

/-- Lanes of a link that are in service. -/
def Link.count (l : Link) : Nat := (l.lanes.toList.filter (·.inService)).length

/-- A lane of a link. -/
def Link.lane (l : Link) (n : Nat) : Lane := bankGet l.lanes n Lane.missing

/-- A lane of a link changed. -/
def State.onLane (s : State) (link n : Nat) (f : Lane → Lane) : State :=
  s.onLink link fun l => { l with lanes := bankSet l.lanes n (f (l.lane n)) }

/-! Senders (R12, R102, R106). -/

/-- A link runs on fewer lanes than it has (R106). -/
def State.degraded (s : State) (link : Nat) : Bool := decide ((s.link link).count < laneCount link)

/-- The first frame of a class that waits, and what else waits. -/
def takeClass (c : TrafficClass) : List (TrafficClass × Payload) → Option (Payload × List (TrafficClass × Payload))
  | [] => none
  | x :: l =>
    if x.1 = c then some (x.2, l)
    else match takeClass c l with
      | some (p, rest) => some (p, x :: rest)
      | none => none

/-- What a frame boundary sends: the highest class that waits, ASYNC only where the link admits it (R12, R106). -/
def Sender.pick (x : Sender) (async : Bool) : Option (TrafficClass × Payload × List (TrafficClass × Payload)) :=
  match takeClass .control x.queue with
  | some (p, rest) => some (.control, p, rest)
  | none =>
    match takeClass .periodic x.queue with
    | some (p, rest) => some (.periodic, p, rest)
    | none =>
      if async then
        match takeClass .async x.queue with
        | some (p, rest) => some (.async, p, rest)
        | none => none
      else none

/-- A frame boundary: a frame on the wire is never pre-empted (R12); the frame sent takes the next number and is held
until it is acknowledged (R102), and an ASYNC frame on a degraded link uses a credit (R106). -/
def Sender.boundary (x : Sender) (degraded : Bool) : Sender :=
  if x.busy then x
  else match x.pick (!degraded || decide (0 < x.credits)) with
    | none => x
    | some (c, p, rest) =>
      { queue := rest, nextSeq := x.nextSeq + 1, busy := true, unacked := x.unacked ++ [⟨c, x.nextSeq, p, false⟩],
        credits := if degraded && c == .async then x.credits - 1 else x.credits }

/-- A frame joins the queue. -/
def Sender.queued (x : Sender) (c : TrafficClass) (p : Payload) : Sender := { x with queue := x.queue ++ [(c, p)] }

/-- A number at or before another in the order of 16-bit sequence numbers. -/
def seqUpTo (a b : BitVec 16) : Bool := decide ((b - a).toNat < 0x8000)

/-- A cumulative acknowledgement up to a number (R102). -/
def Sender.acked (x : Sender) (seq : BitVec 16) : Sender :=
  { x with unacked := x.unacked.filter fun f => !seqUpTo f.seq seq }

/-- The newest frame sent has arrived: the wire is free. A frame that took the next number was one of the traffic that
the model gives no rows (log 81). -/
def Sender.arrived (x : Sender) (seq : BitVec 16) : Sender :=
  if x.busy then (if seq + 1 = x.nextSeq then { x with busy := false } else x)
  else if seq = x.nextSeq then { x with nextSeq := seq + 1 }
  else x

/-- Every unacknowledged frame is sent again, in sequence order and before any new one (R105). -/
def Sender.replay (x : Sender) : Sender :=
  { x with busy := !x.unacked.isEmpty, unacked := x.unacked.map fun f => { f with replayed := true } }

/-- What is left of a sender when the link is lost: the numbers go on where they were (DESIGN CHOICE, log 81). -/
def Sender.dropped (x : Sender) : Sender := { x with queue := [], busy := false, unacked := [], credits := 0 }

/-- The sender of one direction, and the number that its receiver expects. -/
def Link.sender (l : Link) (toHive : Bool) : Sender := if toHive then l.toHive else l.fromHive
def Link.want (l : Link) (toHive : Bool) : BitVec 16 := if toHive then l.nextToHive else l.nextFromHive

/-- The sender of one direction changed. -/
def Link.onSender (l : Link) (toHive : Bool) (f : Sender → Sender) : Link :=
  if toHive then { l with toHive := f l.toHive } else { l with fromHive := f l.fromHive }

/-- The receiver of one direction has accepted a frame. -/
def Link.expect (l : Link) (toHive : Bool) (seq : BitVec 16) : Link :=
  if toHive then { l with nextToHive := seq + 1 } else { l with nextFromHive := seq + 1 }

/-- Every Spine link carries frames: once it has been trained, and not in OFF, in the sleep states or in BANKED, where
domains are off (Tables 07-1, 11-5). -/
def State.spineOn (s : State) : Bool :=
  s.phase == .up && match s.mode with
  | .off | .sleep | .deepSleep | .busSuspend | .banked => false
  | _ => true

/-- One link carries frames: SPINE-F in BANKED too. -/
def State.linkOn (s : State) (link : Nat) : Bool :=
  !(s.link link).lost && (s.spineOn || (s.phase == .up && s.mode == .banked && link == 2))

/-- Hive sends a frame to a die: it waits for a frame boundary, and a free wire is one (R12). -/
def State.sendFrame (s : State) (die : Nat) (c : TrafficClass) (p : Payload) : State :=
  let link := linkOfDie die
  if !s.linkOn link then s
  else s.onLink link fun l => l.onSender false fun x => (x.queued c p).boundary (s.degraded link)

/-- ASYNC traffic of a Comb die has no credit: the hub core answers the host's bulk and control traffic with NAK (R106). -/
def State.asyncHeld (s : State) (die : Nat) : Bool :=
  s.degraded (linkOfDie die) && (s.link (linkOfDie die)).fromHive.credits == 0

/-! Mirrors of the `CRITICAL` parameters (R31, R299). -/

/-- The parity bit of a word: even parity (DESIGN CHOICE, log 82). -/
def wordParity (w : Word) : Bool := (List.range 32).foldl (fun b i => b ^^ w.getLsbD i) false

/-- The dies that mirror a `CRITICAL` parameter (R299). -/
def Param.mirrors (p : Param) : List Nat :=
  if !p.info.critical then []
  else if p = .spineMinLanes then [1, 2, 3]
  else [3]

/-- The mirror of a die, from the values in force: the words that are not at their after-reset values. -/
def mirrorOf (die : Nat) (values : List (Nat × Word)) : List (Nat × MirrorWord) :=
  values.filterMap fun x =>
    match Param.ofId (x.1 / 256) with
    | some p => if p.mirrors.contains die then some (x.1, ⟨x.2, wordParity x.2⟩) else none
    | none => none

/-- Every mirror loaded from Hive's values with fresh parity; a die that is gone or in a reset is loaded when it returns. -/
def State.mirrored (s : State) : State :=
  s.each [1, 2, 3] fun d s =>
    if (s.die d).absent || (s.die d).quarantined || (s.die d).resetting then s
    else s.onDie d fun x => { x with mirror := mirrorOf d s.prm.values }

/-! Frames as they arrive. -/

/-- What a frame does when its receiver accepts it, once per sequence number (R102): a PROPOSE leaves its set with the die,
a relayed tick waits for its comparison. An order's effect is in Hive's copy already (R11). -/
def State.takeFrame (s : State) (die : Nat) (f : Frame) : State :=
  match f.body with
  | .tick us => s.onDie die fun d => { d with ticks := d.ticks ++ [(us, f.replayed)] }
  | .propose _ _ _ set =>
    match set with
    | some a => s.onDie die fun d => { d with set := some a, hasEpoch := true }
    | none => s
  | .order _ _ => s
  | .usb _ _ => s

/-- FRAME_RECEIVED (R102, R103): a frame is accepted only when it is the next one expected; one accepted before is a
duplicate and is acknowledged again; one that fails its CRC stays with its sender, which sends it again. The
acknowledgement may still be on its way (`acked`), and grants ASYNC credits (R106). -/
def State.evFrame (s : State) (link : Nat) (toHive : Bool) (seq : BitVec 16) (crcOk acked : Bool) (credits : Nat) : State :=
  let l := s.link link
  let want := l.want toHive
  let heard := fun (upTo : BitVec 16) (l : Link) => l.onSender toHive fun x =>
    let x := x.arrived seq
    (if acked then { x.acked upTo with credits := x.credits + credits } else x).boundary (s.degraded link)
  if !s.linkOn link then s
  else if !crcOk then s.onSpine fun sp => { sp with crcFailed := saturate 0xFFFFFFFF (sp.crcFailed + 1) }
  else if seq = want then
    let s' := s.onLink link fun l => heard seq (l.expect toHive seq)
    match (l.sender toHive).unacked.find? fun f => f.seq == seq with
    | some f => if toHive then s' else s'.takeFrame (dieOfLink link) f
    | none => s'
  else if (want - seq).toNat < 0x8000 then
    (s.onSpine fun sp => { sp with duplicates := saturate 0xFFFFFFFF (sp.duplicates + 1) }).onLink link (heard (want - 1))
  else s

end Sys2Proof.Machine
end

