-- ==== Sys2Proof/Machine/Hub.lean ====
section
/-! DEFINITION. The upstream port, the two hubs, the Transaction Translators and the management function's control endpoint (chapter 08). -/

namespace Sys2Proof.Machine

/-! What a port shows. -/

/-- SuperSpeed is served on a port: one of the four ports of the USB 3.2 hub whose `HUB.SS_PORTS` bit is set
(R162, R163). -/
def State.ssPort (s : State) (p : Nat) : Bool :=
  let bit := fun n => (s.value .hubSsPorts 0).getLsbD n
  (p == 1 && bit 0) || (p == 2 && bit 1) || (p == 9 && bit 2) || (p == 10 && bit 3)

/-- The pair-set that a port's SuperSpeed PHY uses: that of the CC pin with Rd; 0 without SuperSpeed or unattached (R162). -/
def State.pairSet (s : State) (p : Nat) : Nat := if s.ssPort p then (s.port p).pin else 0

/-- The pair-set of the upstream connector that a SuperSpeed lane uses, by the upstream CC pin (R164): lane 0 lies on the
pair-set of that pin (PRESUMED, log 28). 0 without upstream VBUS. -/
def State.upPairSet (s : State) (lane : Nat) : Nat :=
  if s.hub.upPin = 0 then 0 else if (s.hub.upPin = 1) = (lane = 0) then 1 else 2

/-- A connection may be shown to the host: no hold, PORT_POWER set, the Comb die there (R168, R170, Table
05-6). -/
def State.shown (s : State) (p : Nat) : Bool :=
  let b := (s.port p).bus
  b.held == .none && b.portPower && !s.dieGone (combOf p)

/-- `HUB.CONNECTED`: the hub reports the port connected. -/
def State.connectedPort (s : State) (p : Nat) : Bool :=
  s.shown p && ((s.port p).bus.fsPresent || ((s.port p).bus.ssPresent && s.ssPort p))

/-- `PORT_STATUS` r0 bit 1 and `HUB.ENABLED`: attached, and neither held nor switched off (DEDUCED, log 25). -/
def State.enabledPort (s : State) (p : Nat) : Bool := (s.port p).attached && s.shown p

/-- The USB connection of a port is gone toward the host. -/
def Bus.dropped (b : Bus) : Bus :=
  { b with enabled := false, suspended := false, busSuspended := false, resuming := false,
           suspending := false, l1 := false, speed := none }

/-- A pending suspend or resume on a port whose USB connection has gone ends with `FAULT` (log 26). -/
def State.dropBus (s : State) (p : Nat) (external : Bool) : State :=
  (s.onBus p Bus.dropped).endOpsOf (.port p) [.portSuspend, .portResume] .fault external

/-- `PORT_ENABLED` and `PORT_DISABLED` (Table 02-3). -/
def State.holdEntry (s : State) (p : Nat) (k : Kind) (cause code : Nat) (external : Bool) : State :=
  s.append external 0 blkUsb2 k p (b8 cause ++ b16 code)

/-- `PORT_SUSPEND` with its initiator; the checks of one suspend begin anew (R181 to R183). -/
def State.suspendPort (s : State) (p initiator : Nat) (external : Bool) : State :=
  let s := s.onBus p fun b =>
    { b with suspended := true, busSuspended := initiator == 3, l1 := false, currentRecorded := false,
             wakeRecorded := false }
  s.append external 0 blkUsb2 .portSuspend p (b8 initiator)

/-- `PORT_RESUME` with its initiator; the limit of R183 returns. -/
def State.resumePort (s : State) (p initiator : Nat) (external : Bool) : State :=
  let s := s.onBus p fun b =>
    { b with suspended := false, busSuspended := false, resuming := true, limited := false }
  s.append external 0 blkUsb2 .portResume p (b8 initiator)

/-! Upstream (R164 to R167). -/

/-- What a disconnection from the host ends. -/
def Hub.disconnect (h : Hub) : Hub :=
  { h with link := 0, speed := 0, lanes := 0, retries := 0, x1 := false, suspended := false,
           configured2 := false, configured3 := false, configuredM := false, address := 0,
           wake2 := false, wake3 := false, haltOut := false, haltIn := false, haltInt := false, fullSpeed := false,
           testMode := 0 }

/-- The upstream port is connected to a host. -/
def State.linked (s : State) : Bool := s.hub.link != 0

/-- The upstream port is connected no more, and no downstream port is enabled: in BANKED with no entry (DEDUCED, log 111). -/
def State.linkDrop (s : State) : State :=
  (s.onHub Hub.disconnect).each allPorts fun p s => s.onBus p Bus.dropped

/-- The upstream port disconnects: `UP_LINK` (R165). -/
def State.linkDown (s : State) : State :=
  if s.linked then (s.linkDrop).append true 0 blkUp .upLink 0 (b8 0 ++ b8 0) else s

/-- The upstream CC pin with Rp, 1 or 2, as the plug lies (R164): a free value (log 1, log 28). -/
def State.plugPin (s : State) : Nat := 1 + (Config.measured s.free).toNat % 2

/-- Upstream VBUS is there; the port reads the plug's orientation at its CC pins (R164). -/
def State.vbusUp (s : State) : State :=
  { s with free := s.free + 1, hub := { s.hub with upVbus := true, upPin := s.plugPin } }

/-- UPSTREAM_VBUS_ARRIVAL (R164). -/
def State.evVbusArrival (s : State) : State :=
  if s.hub.upVbus then s else s.vbusUp.reselect 1 true

/-- UPSTREAM_VBUS_LOSS (R164): disconnection, then STANDALONE. -/
def State.evVbusLoss (s : State) : State :=
  if s.hub.upVbus then ((s.linkDown).onHub fun h => { h with upVbus := false, upPin := 0 }).reselect 1 true else s

/-- Whether a link event is recorded (R165). -/
def State.linkLogged (s : State) (old new : Nat) : Bool :=
  let pm := fun x => x == 2 || x == 3 || x == 5
  if pm new || (new == 1 && pm old) then s.value .hubLinkPmLog 0 == 1 else true

/-- The ports that the hub's own suspend suspended resume (R181). -/
def State.resumeBus (s : State) : State :=
  s.each allPorts fun p s => if (s.port p).bus.busSuspended then s.resumePort p 0 true else s

/-- The hub suspends: every enabled port that is not suspended has `PORT_SUSPEND` with initiator 3 (R181). -/
def State.suspendHub (s : State) : State :=
  if s.hub.suspended then s
  else
    let s := s.onHub fun h => { h with suspended := true }
    s.each allPorts fun p s =>
      if (s.port p).bus.enabled && !(s.port p).bus.suspended then s.suspendPort p 3 true else s

/-- The hub is awake again, and the ports that its suspend reached resume (R181). -/
def State.resumeHub (s : State) : State :=
  if s.hub.suspended then (s.onHub fun h => { h with suspended := false }).resumeBus else s

/-- The fastest speed and the most lanes that `HUB.UP_MAX_SPEED` allows, speeds as `UP_LINK` d1 (Table 08-7). -/
def upSpeedMax (m : Nat) : Nat := if m = 0 then 2 else if m ≤ 2 then 3 else 4
def upLanesMax (m : Nat) : Nat := if m = 2 ∨ m = 4 then 2 else 1

/-- The upstream link reached its state from Polling: it connects, its speed is another, or it trains again in U0, after a
warm reset or without one (R165, R166). -/
def State.upTrained (s : State) (state speed : Nat) (warm : Bool) : Bool :=
  decide (3 ≤ speed) && (warm || s.hub.link == 0 || speed != s.hub.speed || (state == 1 && s.hub.link == 1))

/-- The lanes of the upstream link: x1 under R166, all that both ends have after training, and else as before. -/
def State.upLanes (s : State) (speed lanes : Nat) (trained : Bool) : Nat :=
  if speed < 3 then 0
  else if s.hub.x1 then 1
  else if trained then max 1 (min lanes (upLanesMax (s.nat .hubUpMaxSpeed 0)))
  else s.hub.lanes

/-- `UP_LINK` of a link event: a state or a speed that is another (R165). -/
def State.upLinkEntry (s : State) (old oldSpeed : Nat) : State :=
  let h := s.hub
  if (h.link != old || h.speed != oldSpeed) && s.linkLogged old h.link then
    s.append true 0 blkUp .upLink 0 (b8 h.link ++ b8 h.speed)
  else s

/-- `UP_LANES` after training, where the count is not that of the boot's previous one (R165; log 74). -/
def State.upLanesEntry (s : State) (trained : Bool) : State :=
  if trained && s.hub.lastLanes != some s.hub.lanes then
    (s.onHub fun h => { h with lastLanes := some h.lanes }).append true 0 blkUp .upLanes 0 (b8 s.hub.lanes ++ b8 s.hub.retries)
  else s

/-- A connected upstream link in a state: what trains, its entries, and the suspend or resume of the hub with U3 and U0 (R165,
R166, R181). A speed of 1 is Full-Speed, which `UP_LINK` has no code for and records as 2 (DESIGN CHOICE, log 85). -/
def State.upLinkUp (s : State) (state speed lanes : Nat) (warm : Bool) : State :=
  let full := speed == 1
  let speed := max 2 (min speed (upSpeedMax (s.nat .hubUpMaxSpeed 0)))
  let old := s.hub.link
  let oldSpeed := s.hub.speed
  let s := s.when warm fun s => s.onHub fun h => { h with x1 := false, retries := 0 }
  let trained := s.upTrained state speed warm
  let s := s.onHub fun h => { h with link := state, speed := speed, lanes := s.upLanes speed lanes trained, fullSpeed := full }
  let s := (s.upLinkEntry old oldSpeed).upLanesEntry trained
  if state = 4 then s.suspendHub else if state = 1 then s.resumeHub else s

/-- UP_LINK (R165, R166, R181): the port is connected only where it presents itself (R164). -/
def State.evUpLink (s : State) (state speed lanes : Nat) (warm : Bool) : State :=
  if state = 0 then s.linkDown
  else if 5 < state || !(s.hub.upVbus && s.mode.presents) then s
  else s.upLinkUp state speed lanes warm

/-- UP_LANE_RECOVERY (R166). In U3 nothing happens until resume. -/
def State.evLaneRecovery (s : State) (_lane : Nat) : State :=
  if s.hub.speed < 3 || s.hub.link == 4 || s.hub.lanes != 2 then s
  else
    let used := s.hub.retries + 1
    if used < s.nat .hubUpLaneRetries 0 then s.onHub fun h => { h with retries := used }
    else
      (s.onHub fun h =>
        { h with retries := used, x1 := true, lanes := 1, lastLanes := some 1 }).append true 0 blkUp
        .upLanes 0 (b8 1 ++ b8 used)

/-- A USB 2.0 port that keeps the link out of L1: enabled at USB 2.0, and neither suspended nor in L1 (R167). -/
def Bus.busy2 (b : Bus) : Bool :=
  let super := match b.speed with
    | some v => decide (3 ≤ v)
    | none => false
  b.enabled && !super && !b.suspended && !b.l1

/-- LPM_L1_REQUEST (R167): there is no answer without a link that is awake. -/
def State.evLpm (s : State) : State :=
  let quiet := allPorts.all fun p => !(s.port p).bus.busy2
  if !s.linked || s.hub.suspended then s.answering .timeout
  else s.answering (if quiet && s.io.part0.isEmpty && s.io.sent0 == 0 then .ack else .nyet)

/-! Port power, reset, suspend and resume (R168 to R173, R181, R182). -/

/-- The policy sources vSafe5V again on a port that a clear PORT_POWER has kept off (R168): one that `CHAN_OFF`, SB_OFF or CRANK
turned off is not among them (R160, R226, R331). -/
def State.sourceAgain (s : State) (p : Nat) : State :=
  let wanted := (s.port p).bus.awaitsPower
  let s := s.onBus p fun b => { b with awaitsPower := false }
  if wanted && (s.port p).attached && (s.chan p).state == .off && !s.barred p && !s.sbOff
      && s.cfg.state != .defaults then
    if s.railUp 0 then s.reserveAndPower p 1 false true true
    else s.onPort p fun q => { q with waiting := true }
  else s

/-- In the FOLLOW mode a clear PORT_POWER takes the port's power, or its place among the waiting ports, away (R168). -/
def State.powerAway (s : State) (p : Nat) : State :=
  let wanted := (s.chan p).state.active || (s.port p).waiting
  let s := s.when (s.chan p).state.active fun s => (s.policyOff p false .fault true).redistribute
  s.onPort p fun q => { q with waiting := false, bus := { q.bus with awaitsPower := q.bus.awaitsPower || wanted } }

/-- HOST_PORT_POWER (R168). -/
def State.evHostPortPower (s : State) (p : Nat) (on : Bool) : State :=
  if (s.port p).bus.portPower == on then s
  else
    let follow := s.value .hubPortPowerMode 0 == 1
    let s := s.onBus p fun b => { b with portPower := on }
    let s := s.holdEntry p (if on then .portEnabled else .portDisabled) 1 0 true
    if on then s.when follow fun s => s.sourceAgain p
    else (s.dropBus p true).when follow fun s => s.powerAway p

/-- HOST_PORT_RESET (R171). -/
def State.evHostPortReset (s : State) (p : Nat) : State :=
  if !s.connectedPort p then s
  else s.onBus p fun b =>
    { b with reset := match b.reset with
      | .none => .host
      | .host => .host
      | .command _ => .command true }

/-- PORT_RESET_COMPLETE (R171, R173). -/
def State.evPortResetComplete (s : State) (p : Nat) (speed : Option Nat) : State :=
  let r := (s.port p).bus.reset
  if r == .none then s
  else
    let told := r == .host || r == .command true
    let s := s.onBus p fun b => { b with reset := .none, cReset := b.cReset || told }
    match speed with
    | some v =>
      let tag := s.opTag (.port p) [.portReset]
      let s := s.onBus p fun b =>
        { b with enabled := true, suspended := false, busSuspended := false, speed := some v,
                 resets := b.resets + 1 }
      let s := ((s.tagged tag).append true 0 blkUsb2 .portSpeed p (b8 v)).tagged s.led.tag
      s.endOpsOf (.port p) [.portReset] .done true
    | none => s.endOpsOf (.port p) [.portReset] .fault true

/-- SS_LINK_U0 (R173). -/
def State.evSsLinkU0 (s : State) (p speed : Nat) : State :=
  if s.ssPort p && (s.port p).attached && !(s.port p).bus.ssDisabled && (speed == 3 || speed == 4) then
    (s.onBus p fun b => { b with ssPresent := true, enabled := true, speed := some speed }).append true
      (combOf p) blkUsb3 .portSpeed p (b8 speed)
  else s

/-- DOWNSTREAM_CONNECT_CHANGE (R184). -/
def State.evConnectChange (s : State) (p : Nat) (connected ss : Bool) : State :=
  if connected then
    if !(s.port p).attached || (ss && (!s.ssPort p || (s.port p).bus.ssDisabled)) then s
    else s.onBus p fun b =>
      if ss then { b with ssPresent := true } else { b with fsPresent := true }
  else
    let s := s.onBus p fun b =>
      if ss then { b with ssPresent := false } else { b with fsPresent := false }
    if s.connectedPort p then s else s.dropBus p true

/-- HOST_SELECTIVE_SUSPEND (R181). -/
def State.evHostSuspend (s : State) (p : Nat) : State :=
  let b := (s.port p).bus
  if b.enabled && !b.suspended && s.shown p then s.suspendPort p 0 true else s

/-- HOST_PORT_RESUME (R181, R183: the check stops at this input). -/
def State.evHostResume (s : State) (p : Nat) : State :=
  if (s.port p).bus.suspended then s.resumePort p 0 true else s

/-- PORT_RESUME_COMPLETE (R172). -/
def State.evResumeComplete (s : State) (p : Nat) : State :=
  if (s.port p).bus.resuming then
    (s.onBus p fun b => { b with resuming := false, cSuspend := true }).endOpsOf (.port p) [.portResume]
      .done true
  else s

/-- PORT_SUSPEND_COMPLETE (R172). -/
def State.evSuspendComplete (s : State) (p : Nat) : State :=
  if (s.port p).bus.suspending then
    (s.onBus p fun b => { b with suspending := false }).endOpsOf (.port p) [.portSuspend] .done true
  else s

/-- PORT_SUSPEND (R172): the entry is the command's own. -/
def State.doPortSuspend (s : State) (p : Nat) : State :=
  let s := if (s.port p).bus.suspended then s else s.suspendPort p 2 false
  s.onBus p fun b => { b with suspending := true }

/-- PORT_RESUME (R172). -/
def State.doPortResume (s : State) (p : Nat) : State :=
  let s := if (s.port p).bus.suspended then s.resumePort p 2 false else s
  s.onBus p fun b => { b with resuming := true }

/-- PORT_RESET (R171). -/
def State.doPortReset (s : State) (p : Nat) : State := s.onBus p fun b => { b with reset := .command false }

/-- PORT_ENABLE (R170, R184): a hold of a command or a violation is released. -/
def State.doPortEnable (s : State) (p : Nat) : State :=
  match (s.port p).bus.held with
  | .none => s
  | _ => (s.onBus p fun b => { b with held := .none }).holdEntry p .portEnabled 0 0 false

/-- PORT_DISABLE (R170): a port that a violation holds is held by the command too from here on, with no entry of its own; a
pending operation of the port ends `STALE` (R66). -/
def State.doPortDisable (s : State) (p : Nat) : State :=
  let s := (s.dropExchange p).endOps (.port p) .stale false
  let s := match (s.port p).bus.held with
    | .none => (s.onBus p fun b => { b.dropped with held := .command }).holdEntry p .portDisabled 0 0 false
    | .violation => s.onBus p fun b => { b with held := .both }
    | _ => s
  s.onBus p fun b => { b with reset := .none }

/-- DOWNSTREAM_REMOTE_WAKE (R182). -/
def State.evRemoteWake (s : State) (p : Nat) : State :=
  let b := (s.port p).bus
  let ss := match b.speed with
    | some v => decide (3 ≤ v)
    | none => false
  if !b.suspended then s
  else if (if ss then s.hub.wake3 else s.hub.wake2) then s.resumePort p 1 true
  else if b.wakeRecorded then s
  else (s.portViolation 0 blkUsb2 0x0105 p []).onBus p fun b => { b with wakeRecorded := true }

/-- HUB_SUSPEND (R181). -/
def State.evHubSuspend (s : State) : State := if s.linked then s.suspendHub else s

/-! Descriptors of the two hubs (R162, R163, Tables 08-2 and 08-3; layouts of USB 2.0 and USB 3.2: log 28). -/

/-- A bit per external port that is not removable, by hub port from 1: DeviceRemovable in the encoding of USB, where a set bit
marks a port whose device cannot be removed (DEDUCED, log 86). -/
def State.fixedBits (s : State) (ports : List Nat) : Nat :=
  2 * bitsOf (ports.map fun p => !(s.value .hubRemovable 0).getLsbD (p - 1))

/-- The hub descriptors. Port 17 of the USB 2.0 hub is not removable. -/
def State.hubDescriptor (s : State) (ss : Bool) : List Byte :=
  if ss then
    b8 12 ++ b8 0x2A ++ b8 4 ++ b16 0x0009 ++ b8 50 ++ b8 0 ++ b8 0x04 ++ b16 400 ++ b16 (s.fixedBits [1, 2, 9, 10])
  else
    b8 13 ++ b8 0x29 ++ b8 17 ++ b16 0x0009 ++ b8 50 ++ b8 0 ++ leBytes 3 (s.fixedBits allPorts + 2 ^ 17) ++ [0xFF, 0xFF, 0xFF]

/-- The Container ID: the serial number, then "NX1664HB" (R162). -/
def State.containerId (s : State) : List Byte :=
  leBytes 8 s.ident.serial.toNat ++ [0x4E, 0x58, 0x31, 0x36, 0x36, 0x34, 0x48, 0x42]

/-- The device descriptor of a hub. -/
def hubDevice (ss : Bool) : List Byte :=
  b8 18 ++ b8 1 ++ b16 (if ss then 0x0320 else 0x0210) ++ b8 9 ++ b8 0 ++ b8 (if ss then 3 else 2) ++ b8 (if ss then 9 else 64)
    ++ b16 0x3B9E ++ b16 (if ss then 0x1665 else 0x1664) ++ b16 0x0300 ++ b8 1 ++ b8 2 ++ b8 3 ++ b8 1

/-- The BOS descriptor of a hub: LPM and BESL, and the Container ID. -/
def State.hubBos (s : State) : List Byte :=
  b8 5 ++ b8 15 ++ b16 32 ++ b8 2 ++ (b8 7 ++ b8 16 ++ b8 2 ++ b32 6) ++ (b8 20 ++ b8 16 ++ b8 4 ++ b8 0 ++ s.containerId)

/-- A string descriptor of ASCII characters. -/
def usbString (t : String) : List Byte :=
  b8 (2 + 2 * t.length) ++ b8 3 ++ t.toList.flatMap fun c => b16 c.toNat

/-- The serial number string: sixteen upper-case hexadecimal digits, most significant byte first. -/
def serialString (n : BitVec 64) : List Byte :=
  let digit := fun i =>
    let d := n.toNat / 16 ^ (15 - i) % 16
    if d < 10 then 48 + d else 55 + d
  b8 34 ++ b8 3 ++ (List.range 16).flatMap fun i => b16 (digit i)

/-- A configuration descriptor of a hub: self-powered, bMaxPower 0, no remote wake of its own, and one status endpoint. -/
def hubConfig (ss : Bool) : List Byte :=
  let companion := if ss then b8 6 ++ b8 0x30 ++ b8 0 ++ b8 0 ++ b16 2 else []
  b8 9 ++ b8 2 ++ b16 (25 + companion.length) ++ b8 1 ++ b8 1 ++ b8 0 ++ b8 0xC0 ++ b8 0
    ++ b8 9 ++ b8 4 ++ b8 0 ++ b8 0 ++ b8 1 ++ b8 9 ++ b8 0 ++ b8 (if ss then 0 else 2) ++ b8 0
    ++ b8 7 ++ b8 5 ++ b8 0x81 ++ b8 (if ss then 0x13 else 3) ++ b16 (if ss then 2 else 3) ++ b8 (if ss then 8 else 12) ++ companion

/-- A standard descriptor of a hub. -/
def State.hubDescriptorOf (s : State) (ss : Bool) (type index : Nat) : Option (List Byte) :=
  match type, index with
  | 1, 0 => some (hubDevice ss)
  | 2, 0 => some (hubConfig ss)
  | 15, 0 => some s.hubBos
  | 3, 0 => some (b8 4 ++ b8 3 ++ b16 0x0409)
  | 3, 3 => some (serialString s.ident.serial)
  | _, _ => none

/-- A downstream port enters or leaves L1 at the host's request (R167). -/
def Bus.toL1 (b : Bus) (enter : Bool) : Bus := { b with l1 := enter && b.enabled && !b.suspended }

/-- HUB_CONTROL_REQUEST (R162, R163, R167, R172, R182). Strings other than the serial number have no text in the spec, and
other requests are answered as USB says with no effect here: STALL stands for both (log 28). -/
def State.evHubControl (s : State) (ss : Bool) (r : HubRequest) : State :=
  if !s.linked || s.hub.suspended then s.answering .timeout
  else match r with
    | .setConfiguration v =>
      (s.onHub fun h => if ss then { h with configured3 := v != 0 } else { h with configured2 := v != 0 }).answering .ack
    | .setRemoteWake => (s.onHub fun h => if ss then { h with wake3 := true } else { h with wake2 := true }).answering .ack
    | .clearRemoteWake => (s.onHub fun h => if ss then { h with wake3 := false } else { h with wake2 := false }).answering .ack
    | .getDescriptor type index length =>
      match s.hubDescriptorOf ss type.toNat index.toNat with
      | some l => s.answering (.data (l.take length.toNat))
      | none => s.answering .stall
    | .getHubDescriptor length => s.answering (.data ((s.hubDescriptor ss).take length.toNat))
    | .portL1 p enter => if ss || !isPort p then s.answering .stall else (s.onBus p fun b => b.toL1 enter).answering .ack
    | .other => s.answering .stall

/-! Misbehaviour (R183, R184). -/

/-- BABBLE. -/
def State.evBabble (s : State) (p speed : Nat) : State :=
  if !(s.port p).bus.enabled then s
  else
    let s := s.portViolation 0 blkUsb2 0x0101 p (b8 speed)
    let s := s.onBus p fun b => { b.dropped with cEnable := true, held := b.held.violated }
    s.holdEntry p .portDisabled 2 0x0101 false

/-- CONNECT_CHATTER: recorded once per attach. -/
def State.evChatter (s : State) (p changes : Nat) : State :=
  if (s.port p).bus.chatter || decide (changes ≤ s.nat .hubChatterLimit 0) then s
  else
    (s.portViolation (combOf p) blkUsb2 0x0102 p (b8 (saturate 0xFF changes))).onBus p fun b =>
      { b with chatter := true }

/-- SS_TRAINING_FAIL: recorded once per attach. -/
def State.evSsTrainingFail (s : State) (p : Nat) : State :=
  if (s.port p).bus.ssDisabled || !s.ssPort p || !(s.port p).attached then s
  else
    (s.portViolation (combOf p) blkUsb3 0x0103 p []).onBus p fun b =>
      { b with ssDisabled := true, ssPresent := false }

/-- SS_INACTIVE. -/
def State.evSsInactive (s : State) (p : Nat) : State :=
  if (s.port p).bus.ssPresent then
    (s.portViolation (combOf p) blkUsb3 0x0106 p []).onBus p fun b => { b with cLinkState := true }
  else s

/-- The CYCLE action: the port is held and its channel goes off; the grant is kept, for R332 does not name this
cause (DEDUCED, log 27). -/
def State.cycleStart (s : State) (p : Nat) : State :=
  let s := s.closeP1 p (s.port p).grant
  let s := s.onBus p fun b =>
    { b.dropped with held := b.held.violated, cycling := true, cyclePower := true, cycleUsed := true }
  let s := s.holdEntry p .portDisabled 2 0x0104 false
  (((s.chanDown p 1 false).clearRetries p).endPower p).endOps (.port p) .fault true

/-- The suspend-current check finds the average above the limit, for the first time in this suspend (R183). -/
def State.overSuspend (s : State) (p : Nat) (average : BitVec 16) : Bool :=
  let q := s.port p
  q.bus.suspended && !q.bus.currentRecorded && !q.explicit && q.rp == 0 && (s.chan p).state.conducts
    && decide (s.nat .portSuspIlim p < average.toNat * 100)

/-- The action that `PORT.SUSP_ACTION` asks for, as d4 of the entry: a second CYCLE of an attach is 3. -/
def State.suspendAction (s : State) (p : Nat) : Nat :=
  let wanted := s.nat .portSuspAction p
  if wanted = 2 && (s.port p).bus.cycleUsed then 3 else wanted

/-- SUSPEND_CURRENT_CHECK (R183): the modes that it runs in are the arbiter's. -/
def State.evSuspendCurrent (s : State) (p : Nat) (average : BitVec 16) : State :=
  if s.overSuspend p average then
    let action := s.suspendAction p
    let s := s.portViolation 0 blkUsb2 0x0104 p (b16 average.toNat ++ b8 action)
    let s := s.onBus p fun b => { b with currentRecorded := true }
    if action = 1 then s.onBus p fun b => { b with limited := true }
    else if action = 2 then s.cycleStart p
    else s
  else s

/-- The modes that the suspend-current check runs in (R183). -/
def Mode.checksSuspend (m : Mode) : Bool :=
  match m with
  | .run | .sleep | .busSuspend => true
  | _ => false

/-- In a sleep state Forge does at once what the check asks for; the entries follow after the exit (R183). -/
def State.suspendCurrentAsleep (s : State) (p : Nat) (average : BitVec 16) : State :=
  if s.overSuspend p average then
    match s.suspendAction p with
    | 1 => s.onBus p fun b => { b with limited := true }
    | 2 => s.onChan p fun c => { c with tripped := true }
    | _ => s
  else s

/-- The power of a port whose CYCLE ends comes back, where nothing bars it (R183). -/
def State.cyclePowers (s : State) (p : Nat) : Bool :=
  (s.port p).bus.cyclePower && (s.port p).attached && (s.chan p).state == .off && !s.sbOff

/-- CYCLE_OFF_EXPIRY (R183): a clear PORT_POWER keeps the channel off (R168). -/
def State.evCycleOff (s : State) (p : Nat) : State :=
  let b := (s.port p).bus
  if !b.cycling then s
  else
    let power := s.cyclePowers p
    let barred := s.barred p
    let on := power && !barred && s.railUp 0
    let s := s.onBus p fun b =>
      { b with cycling := false, cyclePower := false, awaitsPower := b.awaitsPower || (power && barred && !b.portPower) }
    let s :=
      if on then
        let before := (s.port p).grant
        (((s.chanUp p 1 true).reserveAgain p).negotiate p true).redistributeSince before p
      else if power && !barred then s.onPort p fun q => { q with waiting := true }
      else s
    match b.held with
    | .violation => (s.onBus p fun b => { b with held := .none }).holdEntry p .portEnabled 1 0 (!on)
    | .both => s.onBus p fun b => { b with held := .command }
    | _ => s

/-! Transaction Translators (R174 to R176). -/

/-- Room of a periodic queue, bytes (Table 01-5). -/
def ttQueue : Nat := 4096

/-- What the TT has done on its bus since the last request: periodic data has been served, results have
arrived, and non-periodic transactions have ended, each by a free value (log 1). -/
def State.ttServe (s : State) (p : Nat) : State :=
  let v := (Config.measured s.free).toNat
  let s := { s with free := s.free + 1 }
  s.onTt p fun t =>
    let served := t.ssFill != 0 && v % 2 == 1
    { t with ssFill := if served then 0 else t.ssFill,
             csFill := if served then min ttQueue (t.csFill + v / 2 % (ttQueue + 1)) else t.csFill,
             buffers := (t.buffers.zipIdx).map fun b => (b.1.1, b.1.2 || v.testBit (b.2 + 16)) }

/-- The class of a transaction's Spine frames (R12). -/
def splitClass (k : SplitKind) : TrafficClass := if k = .asynchronous then .async else .periodic

/-- Periodic traffic that does not fit in its service interval on a degraded link; what else the link carries is not in the
rows, so a free value says it (R106; log 1). -/
def State.unfit (s : State) (p : Nat) : Bool :=
  s.degraded (linkOfDie (combOf p)) && (Config.measured s.free).getLsbD 24

/-- TT_START_SPLIT (R106, R174, R175): a start-split that the TT drops has no handshake; while ASYNC has no credit, or both
buffers are held, NAK. -/
def State.evTtStart (s : State) (p : Nat) (kind : SplitKind) (bytes id : Nat) : State :=
  let unfit := s.unfit p
  let s := s.ttServe p
  let t := s.tt p
  let sent := fun s : State => s.sendFrame (combOf p) (splitClass kind) (.usb p bytes)
  match kind with
  | .asynchronous =>
    if s.asyncHeld (combOf p) || decide (2 ≤ t.buffers.length) then s.answering .nak
    else (sent (s.onTt p fun t => { t with buffers := t.buffers ++ [(id, false)] })).answering .ack
  | _ =>
    if unfit then s.answering .nothing
    else if t.ssFill + bytes ≤ ttQueue then (sent (s.onTt p fun t => { t with ssFill := t.ssFill + bytes })).answering .nothing
    else
      (s.onTt p fun t =>
        { t with dropped := t.dropped ++ [id], droppedCount := saturate 0xFFFFFFFF (t.droppedCount + 1) }).answering .nothing

/-- TT_COMPLETE_SPLIT (R106, R174, R175): ERR once for each dropped start-split of the transaction, NYET while its result is not
ready. -/
def State.evTtComplete (s : State) (p : Nat) (kind : SplitKind) (id : Nat) : State :=
  let unfit := s.unfit p
  let s := s.ttServe p
  let t := s.tt p
  match kind with
  | .asynchronous =>
    if s.asyncHeld (combOf p) then s.answering .nak
    else if t.buffers.contains (id, true) then
      (s.onTt p fun t => { t with buffers := t.buffers.erase (id, true) }).answering .ack
    else s.answering .nyet
  | _ =>
    if t.dropped.contains id then (s.onTt p fun t => { t with dropped := t.dropped.erase id }).answering .err
    else if unfit then s.answering (if kind = .interrupt then .nak else .nothing)
    else if t.csFill = 0 then s.answering .nyet
    else (s.onTt p fun t => { t with csFill := 0 }).answering .ack

/-- TT_RESULT_EXPIRY (R174). -/
def State.evTtExpiry (s : State) (p : Nat) : State :=
  let s := s.ttServe p
  if (s.tt p).csFill = 0 then s
  else s.onTt p fun t =>
    { t with csFill := 0, expired := saturate 0xFFFFFFFF (t.expired + 1) }

/-- CLEAR_TT_BUFFER (R176): the oldest non-periodic buffer is freed. -/
def State.evClearTt (s : State) (p : Nat) : State :=
  (s.onTt p fun t => { t with buffers := t.buffers.drop 1, resets := t.resets + 1 }).answering .ack

/-- RESET_TT (R176). -/
def State.evResetTt (s : State) (p : Nat) : State :=
  (s.onTt p fun t => { t with ssFill := 0, csFill := 0, buffers := [], dropped := [],
                              resets := t.resets + 1 }).answering .ack

/-! The management function's control endpoint (R177, Tables 08-2 and 08-4; layouts of USB 2.0: log 28). -/

/-- The device descriptor. -/
def deviceDescriptor : List Byte :=
  b8 18 ++ b8 1 ++ b16 0x0210 ++ b8 0 ++ b8 0 ++ b8 0 ++ b8 64 ++ b16 0x3B9E ++ b16 0x1666 ++ b16 0x0300
    ++ b8 1 ++ b8 2 ++ b8 3 ++ b8 1

/-- The configuration descriptor with its interface and endpoints. -/
def configDescriptor (fullSpeed : Bool) : List Byte :=
  let bulk := b16 (if fullSpeed then 64 else 512)
  b8 9 ++ b8 2 ++ b16 39 ++ b8 1 ++ b8 1 ++ b8 0 ++ b8 0xC0 ++ b8 0
    ++ b8 9 ++ b8 4 ++ b8 0 ++ b8 0 ++ b8 3 ++ b8 0xFF ++ b8 0x16 ++ b8 0x01 ++ b8 0
    ++ b8 7 ++ b8 5 ++ b8 0x01 ++ b8 2 ++ bulk ++ b8 0
    ++ b8 7 ++ b8 5 ++ b8 0x81 ++ b8 2 ++ bulk ++ b8 0
    ++ b8 7 ++ b8 5 ++ b8 0x82 ++ b8 3 ++ b16 16 ++ b8 (if fullSpeed then 1 else 4)

/-- The BOS descriptor with its USB 2.0 Extension. -/
def bosDescriptor : List Byte :=
  b8 5 ++ b8 15 ++ b16 12 ++ b8 1 ++ b8 7 ++ b8 16 ++ b8 2 ++ b32 6

/-- DEVICE_QUALIFIER and OTHER_SPEED_CONFIGURATION of a function that runs at High-Speed and at Full-Speed (R177). -/
def qualifierDescriptor : List Byte := b8 10 ++ b8 6 ++ b16 0x0210 ++ b8 0 ++ b8 0 ++ b8 0 ++ b8 64 ++ b8 1 ++ b8 0
def otherSpeedDescriptor (fullSpeed : Bool) : List Byte :=
  let l := configDescriptor (!fullSpeed)
  l.take 1 ++ b8 7 ++ l.drop 2

/-- A descriptor that GET_DESCRIPTOR names by type and index. -/
def State.descriptor (s : State) (type index : Nat) : Option (List Byte) :=
  match type, index with
  | 1, 0 => some deviceDescriptor
  | 2, 0 => some (configDescriptor s.hub.fullSpeed)
  | 6, 0 => some qualifierDescriptor
  | 7, 0 => some (otherSpeedDescriptor s.hub.fullSpeed)
  | 15, 0 => some bosDescriptor
  | 3, 0 => some (b8 4 ++ b8 3 ++ b16 0x0409)
  | 3, 1 => some (usbString "Brynelle")
  | 3, 2 => some (usbString "NX1664 management")
  | 3, 3 => some (serialString s.ident.serial)
  | _, _ => none

/-- Whether a request ends the OUT packet that is partly received (R179). -/
def Setup.endsOut (r : Setup) : Bool :=
  (r.requestType == 0x00 && r.request == 9 && r.value == 0)
    || (r.requestType == 0x02 && r.request == 1 && r.value == 0 && r.index == 0x0001)

/-- ENDPOINT_HALT of an endpoint set or cleared: the host's requests alone do it (R177). -/
def State.setHalt (s : State) (r : Setup) (v : Bool) : State :=
  if r.value != 0 || !s.hub.configuredM then s.answering .stall
  else if r.index == 0x0001 then (s.onHub fun h => { h with haltOut := v }).answering .ack
  else if r.index == 0x0081 then (s.onHub fun h => { h with haltIn := v }).answering .ack
  else if r.index == 0x0082 then (s.onHub fun h => { h with haltInt := v }).answering .ack
  else s.answering .stall

/-- GET_STATUS of an endpoint. -/
def State.endpointStatus (s : State) (index : BitVec 16) : Option Bool :=
  if index == 0x0000 || index == 0x0080 then some false
  else if !s.hub.configuredM then none
  else if index == 0x0001 then some s.hub.haltOut
  else if index == 0x0081 then some s.hub.haltIn
  else if index == 0x0082 then some s.hub.haltInt
  else none

/-- A standard request of USB 2.0 on the control endpoint: its answer and its effect on the function (R177). The function has no
remote wake to enable; a test mode is one of the five that USB 2.0 numbers. -/
def State.standardRequest (s : State) (r : Setup) : State :=
  let give := fun l : List Byte => s.answering (.data (l.take r.length.toNat))
  let mode := r.index.toNat / 256
  match r.requestType.toNat, r.request.toNat with
  | 0x80, 0 => give [1, 0]
  | 0x81, 0 => if s.hub.configuredM && r.index == 0 then give [0, 0] else s.answering .stall
  | 0x82, 0 =>
    match s.endpointStatus r.index with
    | some v => give [if v then 1 else 0, 0]
    | none => s.answering .stall
  | 0x02, 1 => s.setHalt r false
  | 0x02, 3 => s.setHalt r true
  | 0x00, 3 =>
    if r.value == 2 && decide (1 ≤ mode) && decide (mode ≤ 5) then (s.onHub fun h => { h with testMode := mode }).answering .ack
    else s.answering .stall
  | 0x00, 5 => (s.onHub fun h => { h with address := r.value.toNat % 128 }).answering .ack
  | 0x80, 6 =>
    match s.descriptor (r.value.toNat / 256) (r.value.toNat % 256) with
    | some l => give l
    | none => s.answering .stall
  | 0x80, 8 => give [if s.hub.configuredM then 1 else 0]
  | 0x00, 9 =>
    if r.value == 0 then (s.onHub fun h => { h with configuredM := false }).answering .ack
    else if r.value == 1 then
      (s.onHub fun h => { h with configuredM := true, haltOut := false, haltIn := false, haltInt := false }).answering .ack
    else s.answering .stall
  | 0x81, 10 => if s.hub.configuredM && r.index == 0 then give [0] else s.answering .stall
  | 0x01, 11 => if s.hub.configuredM && r.index == 0 && r.value == 0 then s.answering .ack else s.answering .stall
  | _, _ => s.answering .stall

end Sys2Proof.Machine
end

