-- ==== Sys2Proof/Machine/Records.lean ====
section
/-! DEFINITION. Ledger entries and records as bytes, LEDGER_READ, the shutdown record, the flash tail pages and the boot-number record (chapter 02, R99). -/

namespace Sys2Proof.Machine

/-! Records as bytes. -/

/-- A record of 30 bytes closed by its CRC-16. -/
def withCrc16 (l : List Byte) : List Byte := l ++ leBytes 2 (crc16 l).toNat

/-- Bytes closed by their CRC-32. -/
def withCrc32 (l : List Byte) : List Byte := l ++ leBytes 4 (crc32 l).toNat

/-- SOURCE (Table 02-1). -/
def Entry.source (e : Entry) : Nat := (if e.external then 0x80 else 0) + e.die % 4 * 0x20 + e.block % 0x20

/-- An entry's 32 bytes (Table 02-1). -/
def Entry.bytes (boot : BitVec 16) (e : Entry) : List Byte :=
  withCrc16 (leBytes 6 e.count ++ leBytes 2 boot.toNat ++ leBytes 6 e.uptime ++ b8 e.source ++ b8 e.kind.code
    ++ b16 e.subject ++ b16 e.tag.toNat ++ padTo 10 e.data)

/-- A Q61 record's 32 bytes (Table 02-5). -/
def LossRecord.bytes (boot : BitVec 16) (r : LossRecord) : List Byte :=
  withCrc16 (leBytes 6 r.first ++ leBytes 2 boot.toNat ++ leBytes 6 r.last ++ b8 0 ++ b8 0xF0 ++ b16 r.lost
    ++ r.groups.flatMap b16)

/-- A Q62 message's 32 bytes (Table 09-7). -/
def VdmMessage.bytes (m : VdmMessage) : List Byte :=
  padTo 32 (b8 m.port ++ b8 m.sop ++ b8 m.objects.length ++ b8 (m.unstructured.toNat + 2 * m.response.toNat)
    ++ m.objects.flatMap (fun w => leBytes 4 w.toNat))

/-! LEDGER_READ (R329, R330). -/

/-- An entry's LSN as 64 bits, from its bytes. -/
def lsnOf (l : List Byte) : Nat := leAt l 0 8

/-- Serial order of boot numbers: a is later than b (R34). -/
def bootLater (a b : Nat) : Bool := decide (1 ≤ (a + 0x10000 - b) % 0x10000)
  && decide ((a + 0x10000 - b) % 0x10000 ≤ 0x7FFF)

/-- Entry `l` lies at or after an LSN (R34). -/
def atOrAfter (lsn l : Nat) : Bool :=
  let bl := l / 2 ^ 48
  let b := lsn / 2 ^ 48
  if bl = b then decide (lsn % 2 ^ 48 ≤ l % 2 ^ 48) else bootLater bl b

/-- The entries of a list of records, ascending, at or after an LSN, up to a count. -/
def pickEntries (rs : List (List Byte)) (lsn count : Nat) : List (List Byte) :=
  (rs.filter fun r => atOrAfter lsn (lsnOf r)).take count

/-- A payload of records. -/
def recordReply (rs : List (List Byte)) : List Byte := b8 rs.length ++ [0, 0, 0] ++ rs.flatten

/-! The retained memory (Tables 02-6, 04-5). -/

/-- Table 02-6. -/
def State.shutdownRecord (s : State) (mode reason saved : Nat) : List Byte :=
  withCrc32 (padTo 60 ([0x4E, 0x58, 0x53, 0x44] ++ b16 s.led.boot.toNat ++ b8 mode ++ b8 reason
    ++ leBytes 8 s.head.toNat ++ leBytes 6 s.uptime ++ b16 s.ember.cause.toNat ++ b16 saved))

/-- The newest n entries, ascending. -/
def State.newest (s : State) (n : Nat) : List Entry := (s.led.ring.take n).reverse

/-- Steps 1 and 2 of R46. -/
def State.writeRetained (s : State) (reason : Nat) : State :=
  let es := s.newest 96
  let image := s.shutdownRecord s.mode.code reason es.length
    ++ padTo 3072 (es.flatMap (·.bytes s.led.boot))
  s.onEmber fun e => { e with retained := writeBytes retainedDefault e.retained 0 image }

/-- Bytes of the retained memory. -/
def State.retainedBytes (s : State) (off n : Nat) : List Byte := readBytes retainedDefault s.ember.retained off n

/-- The shutdown record checks: magic and CRC (R48). -/
def State.retainedOk (s : State) : Bool :=
  let h := s.retainedBytes 0 64
  h.take 4 == [0x4E, 0x58, 0x53, 0x44] && leAt h 60 4 == (crc32 (h.take 60)).toNat

/-- The retained copy's entries. -/
def State.retainedEntries (s : State) : List (List Byte) :=
  if s.retainedOk then
    let n := min 96 (leNat (s.retainedBytes 24 2))
    (List.range n).map fun i => s.retainedBytes (0x40 + 32 * i) 32
  else []

/-- `LEDGER.RETAINED` (Table 15-9). -/
def State.retainedWord (s : State) : Word :=
  if s.retainedOk then
    let h := s.retainedBytes 0 64
    BitVec.ofNat 32 (1 + byteOf h 7 * 0x100 + leAt h 4 2 * 0x10000)
  else 0

/-! The flash tail pages (R47, Table 02-7). -/

/-- Bytes of the flash. -/
def State.flashBytes (s : State) (a n : Nat) : List Byte := readBytes flashDefault s.flash a n

/-- A page's count, when it holds a valid tail. -/
def State.tailCount (s : State) (page : Nat) : Option Nat :=
  let h := s.flashBytes (tailBase page) 64
  let n := leAt h 6 2
  if h.take 4 == [0x4E, 0x58, 0x4C, 0x54] && leAt h 60 4 == (crc32 (h.take 60)).toNat
      && decide (1 ≤ n) && decide (n ≤ 256) then
    if leAt h 56 4 = (crc32 (s.flashBytes (tailBase page + 0x40) (32 * n))).toNat then some n else none
  else none

/-- Boot number and first LSN of a page. -/
def State.tailBoot (s : State) (page : Nat) : Nat := leNat (s.flashBytes (tailBase page + 4) 2)
def State.tailFirst (s : State) (page : Nat) : Nat := leNat (s.flashBytes (tailBase page + 8) 8)

/-- The page of the newest valid tail (R47). -/
def State.newestTail (s : State) : Option Nat :=
  match s.tailCount 0, s.tailCount 1 with
  | none, none => none
  | some _, none => some 0
  | none, some _ => some 1
  | some _, some _ =>
    if s.tailBoot 0 = s.tailBoot 1 then some (if s.tailFirst 0 < s.tailFirst 1 then 1 else 0)
    else some (if bootLater (s.tailBoot 1) (s.tailBoot 0) then 1 else 0)

/-- The page that does not hold the newest valid tail (R47). -/
def State.sparePage (s : State) : Nat :=
  match s.newestTail with
  | none => 0
  | some p => 1 - p

/-- The newest valid tail's entries. -/
def State.tailEntries (s : State) : List (List Byte) :=
  match s.newestTail with
  | none => []
  | some p =>
    let n := (s.tailCount p).getD 0
    (List.range n).map fun i => s.flashBytes (tailBase p + 0x40 + 32 * i) 32

/-- `LEDGER.TAIL` (Table 15-9). -/
def State.tailWordNow (s : State) : Word :=
  match s.newestTail with
  | none => 0
  | some p => BitVec.ofNat 32 (p + 2 + s.tailBoot p * 0x10000)

/-- One flash erase. -/
def State.eraseFlash (s : State) (a n : Nat) : State := { s with flash := eraseRange s.flash a n }

/-- Bytes programmed into erased flash. -/
def State.programFlash (s : State) (a : Nat) (l : List Byte) : State :=
  { s with flash := writeBytes flashDefault s.flash a l }

/-- Step 3 of R46: the newest 256 entries, then their header, in the page given. -/
def State.writeTail (s : State) (page : Nat) : State :=
  let es := s.newest 256
  let body := es.flatMap (·.bytes s.led.boot)
  let first := match es with | [] => 0 | e :: _ => (lsn64 s.led.boot e.count).toNat
  let h := withCrc32 (padTo 56 ([0x4E, 0x58, 0x4C, 0x54] ++ b16 s.led.boot.toNat ++ b16 es.length
    ++ leBytes 8 first) ++ leBytes 4 (crc32 body).toNat)
  (s.programFlash (tailBase page + 0x40) body).programFlash (tailBase page) h

/-! The boot-number record (R99). -/

/-- Boot-number slot i of 2048: its number, when its complement checks. -/
def State.bootSlot (s : State) (i : Nat) : Option Nat :=
  let b := s.flashBytes (bootRecordBase + 4 * i) 4
  let n := leAt b 0 2
  if n + leAt b 2 2 = 0xFFFF then some n else none

/-- The slot with the newest boot number (R34, R99). -/
def State.newestBoot (s : State) : Option (Nat × Nat) :=
  (List.range 2048).foldl (fun best i =>
    match s.bootSlot i, best with
    | none, b => b
    | some n, none => some (i, n)
    | some n, some (j, m) => if bootLater n m then some (i, n) else some (j, m)) none

/-- A boot number in its slot. -/
def bootSlotBytes (n : Nat) : List Byte := b16 n ++ b16 (0xFFFF - n % 0x10000)

/-- An erased slot. -/
def State.bootErased (s : State) (i : Nat) : Bool :=
  s.flashBytes (bootRecordBase + 4 * i) 4 == [0xFF, 0xFF, 0xFF, 0xFF]

/-- The next erased slot of the sector that slot i lies in, after i. -/
def State.nextErased (s : State) (i : Nat) : Option Nat :=
  (upTo (i + 1) (i / 1024 * 1024 + 1023)).find? fun j => s.bootErased j

/-- The next boot number programmed into the next erased slot; a full sector hands over to the other one, which
is erased first (R99). Gives the number of the previous boot with it. -/
def State.nextBoot (s : State) : Nat × State :=
  match s.newestBoot with
  | none =>
    match (List.range 2048).find? fun j => s.bootErased j with
    | some j => (0, s.programFlash (bootRecordBase + 4 * j) (bootSlotBytes 0))
    | none => (0, (s.eraseFlash bootRecordBase 0x1000).programFlash bootRecordBase (bootSlotBytes 0))
  | some (i, n) =>
    let new := (n + 1) % 0x10000
    match s.nextErased i with
    | some j => (new, s.programFlash (bootRecordBase + 4 * j) (bootSlotBytes new))
    | none =>
      let other := 1 - i / 1024
      let a := bootRecordBase + 0x1000 * other
      (new, (s.eraseFlash a 0x1000).programFlash a (bootSlotBytes new))

end Sys2Proof.Machine
end

