-- ==== Sys2Proof/Machine/Hold.lean ====
section
/-! DEFINITION. The Honeystore: charging, balancing, tap tests, cell signatures, capacitance and energy, and BANKED (chapter 11). -/

namespace Sys2Proof.Machine

/-- Cells of the stack; 0 is an absent Honeystore (R235). -/
def State.cells (s : State) : Nat := s.nat .holdCells 0

/-- The monitor works: the Honeystore is present, Forge is there and block 0x0C is not inside a reset (R95, R235). -/
def State.monitorUp (s : State) : Bool :=
  decide (0 < s.cells) && !s.blockDown 3 blkStore && !s.dieGone 3

/-- An entry of the monitor. -/
def State.storeEntry (s : State) (k : Kind) (subject : Nat) (data : List Byte) : State :=
  s.append true 3 blkStore k subject data

/-! Capacitance and energy (R243). -/

/-- C_k as an exact fraction of 10 mF units; `HOLD.CAP_RATED` until the first estimate of the boot. -/
def State.cellFraction (s : State) (k : Nat) : Nat × Nat :=
  (bankGet s.store.caps (k - 1) none).getD (s.nat .holdCapRated 0, 1)

/-- C_k, 10 mF units, rounded down. -/
def State.cellCap (s : State) (k : Nat) : Nat := (s.cellFraction k).1 / (s.cellFraction k).2

/-- C_k of every cell of the stack. -/
def State.cellCaps (s : State) : List (Nat × Nat) := (upTo 1 s.cells).map s.cellFraction

/-- The numerators' product, and what 1 ÷ Σ(1 ÷ C_k) divides it by: C is their quotient. -/
def capProduct (cs : List (Nat × Nat)) : Nat := (cs.map (·.1)).foldl (· * ·) 1
def capSum (cs : List (Nat × Nat)) : Nat := (cs.map fun c => c.2 * (capProduct cs / c.1)).sum

/-- C, 10 mF units, rounded down (R243). 0 without cells. -/
def State.stackCap (s : State) : Nat :=
  if s.cells = 0 then 0 else capProduct s.cellCaps / capSum s.cellCaps

/-- E, 0.1 J units, rounded down, at a VSTORE in mV (R243): ½ C (VSTORE² − (4.0 V)²). 0 without cells. -/
def State.energyAt (s : State) (vstore : Nat) : Nat :=
  if s.cells = 0 then 0
  else 5 * (vstore ^ 2 - 4000 ^ 2) * capProduct s.cellCaps / (100000000 * capSum s.cellCaps)

/-- C_k from the drop of a 1 s bleed at 60 mA: 60 mA × 1 s ÷ ΔV in 10 mF units, not rounded. A drop of 0 mV has no stated
result: a free value (log 33). -/
def State.capFromDrop (s : State) (dropMv : Nat) : (Nat × Nat) × State :=
  if dropMv = 0 then (((Config.measured s.free).toNat % 0x10000, 1), { s with free := s.free + 1 })
  else ((6000, dropMv), s)

/-- The median of a list, doubled; the mean of the two middle values of an even number. -/
def median2 (l : List Nat) : Nat :=
  let l := sortBy (fun a b => decide (a ≤ b)) l
  let n := l.length
  (l[(n - 1) / 2]?.getD 0) + (l[n / 2]?.getD 0)

/-- C_k in units that make the estimates of every cell whole. -/
def State.cellScaled (s : State) (k : Nat) : Nat :=
  let d := (s.cellCaps.map (·.2)).foldl (· * ·) 1
  (s.cellFraction k).1 * (d / (s.cellFraction k).2)

/-- A cell's estimate differs from the median of the others by more than `HOLD.CELL_DEV` percent (R242). -/
def State.deviates (s : State) (k : Nat) : Bool :=
  let m := median2 (((upTo 1 s.cells).filter (· != k)).map s.cellScaled)
  let c := 2 * s.cellScaled k
  decide (m * s.nat .holdCellDev 0 < 100 * (if c ≤ m then m - c else c - m))

/-! Charging and balancing (R236 to R238). -/

/-- The run conditions that the device's own state holds (R236): a shorted cell keeps the charger stopped
(Table 11-3). -/
def State.mayCharge (s : State) : Bool :=
  s.monitorUp && s.mode.charges && !s.faultOpen 0x0432 0 && s.store.latchedCells == 0

/-- CHARGER_START and CHARGER_STOP (R236): no entry. -/
def State.evChargerStart (s : State) : State :=
  if s.mayCharge then s.onStore fun g => { g with charging := true } else s
def State.evChargerStop (s : State) : State := s.onStore fun g => { g with charging := false }

/-- CHARGER_FAULT (Table 11-6): the sense fault needs a running charger. -/
def State.evChargerFault (s : State) (overvoltage : Bool) : State :=
  if s.monitorUp && (overvoltage || s.store.charging) then
    (s.evChargerStop).latch true 3 blkStore 0x0432 0 (b8 overvoltage.toNat)
  else s

/-- A tap is recorded open. -/
def Store.tapOpen (g : Store) (tap : Nat) : Bool := g.tapsOpen.getLsbD tap

/-- A cell is adjacent to a tap recorded open (R237). -/
def Store.besideOpen (g : Store) (cell : Nat) : Bool := g.tapOpen (cell - 1) || g.tapOpen cell

/-- The groups of cells that the charger limits: a cell by itself, or the two that a tap recorded open bounds as one pair, and so
on along a run of open taps (R240). -/
def Store.groups (g : Store) : Nat → List (List Nat)
  | 0 => []
  | n + 1 =>
    match g.groups n with
    | l :: rest => if g.tapOpen n then ((n + 1) :: l) :: rest else [n + 1] :: l :: rest
    | [] => [[n + 1]]

/-- What the charger does not let a group's sum pass, mV: `HOLD.VCELL_TARGET` a cell, 2 × it for a pair (R236, R240). -/
def State.chargeLimits (s : State) : List (List Nat × Nat) :=
  (s.store.groups s.cells).map fun l => (l, l.length * s.nat .holdVcellTarget 0)

/-- The cells of a group, measured in mV, leave room for charge (R236, R240). -/
def State.groupsBelow (s : State) (cells : Nat → Nat) : Bool :=
  s.chargeLimits.all fun x => decide ((x.1.map cells).sum < x.2)

/-- The bit of a cell or tap. -/
def cellBit (cell : Nat) : BitVec 6 := 1#6 <<< (cell - 1)
def tapBit (tap : Nat) : BitVec 7 := 1#7 <<< tap

/-- CELL_BLEED (R237, R238). -/
def State.evCellBleed (s : State) (cell : Nat) (on : Bool) : State :=
  if cell = 0 ∨ s.cells < cell then s
  else if !on then s.onStore fun g => { g with bleeding := g.bleeding &&& ~~~(cellBit cell) }
  else if s.monitorUp && s.mode != .deepSleep && !s.store.besideOpen cell then
    s.onStore fun g => { g with bleeding := g.bleeding ||| cellBit cell }
  else s

/-! Tap tests (R240, R241). -/

/-- The taps of a set are put under test. -/
def State.startTaps (s : State) (taps : List Nat) (byCommand : Bool) : State :=
  s.onStore fun g =>
    let set := taps.foldl (fun b t => b ||| tapBit t) 0#7
    { g with tapTesting := g.tapTesting ||| set,
             tapCommand := if byCommand then g.tapCommand ||| set else g.tapCommand }

/-- CELL_SUM_MISMATCH (R240): the fault, once, and the test on the two end taps. -/
def State.evSumMismatch (s : State) (storeTop : Bool) (mv : BitVec 16) : State :=
  if s.monitorUp then
    let s := s.latch true 3 blkStore 0x0431 0 (b8 storeTop.toNat ++ b16 mv.toNat)
    let s := s.onStore fun g => { g with topOpen := g.topOpen || storeTop }
    s.startTaps [0, s.cells] false
  else s

/-- CELL_DEVIATION (R240): an interior tap. -/
def State.evCellDeviation (s : State) (tap : Nat) : State :=
  if s.monitorUp && decide (1 ≤ tap) && decide (tap < s.cells) then s.startTaps [tap] false else s

/-- A tap found open: its entry once per boot when the monitor or Forager finds it, always for the command; bleeding
stops on both cells beside it (R237, R241). -/
def State.tapFound (s : State) (tap mv : Nat) (byCommand : Bool) : State :=
  let again := s.store.tapRecorded.getLsbD tap
  let s := s.onStore fun g =>
    { g with tapsOpen := g.tapsOpen ||| tapBit tap,
             tapRecorded := if byCommand then g.tapRecorded else g.tapRecorded ||| tapBit tap,
             bleeding := g.bleeding &&& ~~~(cellBit (tap + 1)) &&& ~~~(if tap = 0 then 0 else cellBit tap) }
  if again && !byCommand then s else s.storeEntry .holdTapOpen tap (b16 mv)

/-- A tap passes: its open state clears; FAULT 0x0431 with d3 0 clears once both end taps have passed (R240, R241). -/
def State.tapPassed (s : State) (tap : Nat) : State :=
  let s := s.onStore fun g => { g with tapsOpen := g.tapsOpen &&& ~~~(tapBit tap) }
  let ends := [0, s.cells]
  if ends.contains tap && !(ends.any fun t => s.store.tapOpen t || s.store.tapTesting.getLsbD t) then
    s.unlatch fun f => f.code == 0x0431 && f.d3 == 0
  else s

/-- The end of HOLD_TAP_TEST once its last tap has been judged (R241). -/
def State.tapsDone (s : State) : State :=
  if s.store.tapCommand == 0 && s.hasOp .honeystore then
    let st := if s.store.tapFailed then Status.fault else .done
    (s.onStore fun g => { g with tapFailed := false }).endOpsOf .honeystore [.holdTapTest] st true
  else s

/-- TAP_TEST (R241): a movement of 2 mV or more is an open tap. -/
def State.evTapTest (s : State) (tap : Nat) (mv : BitVec 16) : State :=
  if !s.store.tapTesting.getLsbD tap || decide (6 < tap) then s
  else
    let byCommand := s.store.tapCommand.getLsbD tap
    let failed := decide (2 ≤ mv.toNat)
    let s := s.onStore fun g =>
      { g with tapTesting := g.tapTesting &&& ~~~(tapBit tap), tapCommand := g.tapCommand &&& ~~~(tapBit tap),
               tapFailed := g.tapFailed || (byCommand && failed) }
    let old := s.led.tag
    let s := s.tagged (if byCommand then s.opTag .honeystore [.holdTapTest] else 0xFFFF)
    let s := if failed then s.tapFound tap mv.toNat byCommand else s.tapPassed tap
    (s.tagged old).tapsDone

/-- HOLD_TAP_TEST's effect: one tap, or STORE_TAP0 to STORE_TAP(HOLD.CELLS). -/
def State.doTapTest (s : State) (tap : Nat) : State :=
  (s.onStore fun g => { g with tapFailed := false }).startTaps (if tap = 0xFF then upTo 0 s.cells else [tap]) true

/-! Cell signatures (R242, Table 11-3). -/

/-- What a signature does to the charger and the cell: 4 stops the charger until an L1 reset, 5 stops it and bleeds
the cell. -/
def State.signatureActs (s : State) (cell sig : Nat) : State :=
  let deep := s.mode == .deepSleep
  s.onStore fun g =>
    { g with charging := g.charging && decide (sig < 4),
             latchedCells := if sig = 4 then g.latchedCells ||| cellBit cell else g.latchedCells,
             bleeding := if sig = 5 && !deep then g.bleeding ||| cellBit cell else g.bleeding }

/-- The entry of a signature, once per boot and cell (R242). -/
def State.recordCell (s : State) (cell sig : Nat) : State :=
  if s.store.recorded.contains (cell, sig) then s
  else
    let s := s.onStore fun g => { g with recorded := g.recorded ++ [(cell, sig)] }
    s.storeEntry .holdCell cell (b8 sig ++ b16 (s.cellCap cell))

/-- A cell shows a signature: never beside an open tap, and signature 1 only with an estimate that deviates (R242). What
signatures 2 and 3 compare with the median is measured, and the detector has judged it. -/
def State.showsSignature (s : State) (cell sig : Nat) : Bool :=
  s.monitorUp && decide (1 ≤ cell) && decide (cell ≤ s.cells) && decide (1 ≤ sig) && decide (sig ≤ 5)
    && !s.store.besideOpen cell && (sig != 1 || s.deviates cell)

/-- HOLD_CELL (R242). -/
def State.evHoldCell (s : State) (cell sig : Nat) : State :=
  if s.showsSignature cell sig then (s.signatureActs cell sig).recordCell cell sig else s

/-- Cell k as the monitor measures it in a sample, mV (R39; log 1). -/
def cellSample (free k : Nat) : Nat := (Config.measured (free + k)).toNat % 0x10000

/-- VSTORE of a sample, mV: STORE_TOP, or, where that is open, the sum of the cells (R39, Table 11-3; log 1). -/
def State.storeSample (s : State) (free : Nat) : Nat :=
  if s.store.topOpen then ((upTo 1 s.cells).map (cellSample free)).sum % 0x10000
  else (Config.measured free).toNat % 0x10000

/-- A VSTORE sample. -/
def State.sampleStore (s : State) : Nat × State := (s.storeSample s.free, { s with free := s.free + 7 })

/-- CAPACITANCE_ESTIMATE (R243). -/
def State.evCapEstimate (s : State) (cell dropMv : Nat) : State :=
  if s.monitorUp && decide (1 ≤ cell) && decide (cell ≤ s.cells) && !s.store.charging && s.store.tapsOpen == 0
      && s.mode != .crank then
    let (c, s) := s.capFromDrop dropMv
    let s := s.onStore fun g => { g with caps := bankSet g.caps (cell - 1) (some c) }
    let (v, s) := s.sampleStore
    s.onStore fun g => { g with energy := s.energyAt v }
  else s

/-- ENERGY_THRESHOLD (R244): each crossing once, the fall only while the charger is idle. -/
def State.evEnergy (s : State) (below : Bool) (energy : BitVec 16) : State :=
  let under := decide (energy.toNat < s.nat .holdEMin 0)
  if s.monitorUp && below == under && s.store.below != below && (!below || !s.store.charging) then
    (s.onStore fun g => { g with energy := energy.toNat, below := below }).fault true 3 blkStore 0x0430 0
      (b8 below.toNat ++ b16 energy.toNat)
  else s

/-- A change of `HOLD.CELLS` at a commit or apply restarts the monitor (Table 11-6). What has been recorded this boot stays
recorded, and STORE_TOP stays open until an L1 reset (R241, R242, Table 11-3). -/
def Store.restart (g : Store) : Store :=
  { Store.init with energy := g.energy, below := g.below, gateHold := g.gateHold, plan := g.plan,
                    writing := g.writing, tapRecorded := g.tapRecorded, recorded := g.recorded, topOpen := g.topOpen }

/-- Block 0x0C inside a reset: charging, balancing and tests stop (Table 04-6). -/
def Store.stopped (g : Store) : Store :=
  { g with charging := false, bleeding := 0, tapTesting := 0, tapCommand := 0, tapFailed := false }

/-! BANKED (R246 to R250). -/

/-- AUX channels in shed order: positions 0 to 7 of `HOLD.AUX_ORDER`. -/
def State.auxOrder (s : State) : List Nat :=
  (List.range 8).map fun p => 17 + (s.nat .holdAuxOrder 0 / 16 ^ p) % 8

/-- Ports of a class, the one whose last `PD_CONTRACT`, or `CHAN_ON` without a contract, is newest first (R247). -/
def State.bankedPorts (s : State) (cls : Nat) : List Nat :=
  let key := fun p => if (s.port p).pd.contract.isSome then (s.port p).pd.contractCount else (s.chan p).onCount
  sortBy (fun a b => decide (key b ≤ key a)) (allPorts.filter fun p => s.classOf p == cls)

/-- The shed order (R247): the channels that are on; one that Forge turned off at a trip of a sleep state is not. -/
def State.shedOrder (s : State) : List Nat :=
  (s.auxOrder ++ [3, 2, 1, 0].flatMap s.bankedPorts).filter fun ch => (s.chan ch).state.conducts && !(s.chan ch).tripped

/-- One channel shed: `HOLD_SHED`, `CHAN_OFF` cause 3 and, for a port, `ALLOT_CHANGE` cause 2; before them an open P1 action of
the port closes, and with VBUS its contract, its mode and VCONN end (R187, R199, R211). Pending operations end without
`CMD_COMPLETE` (R248). -/
def State.shedOne (s : State) (k ch : Nat) : State :=
  let s := s.when (isPort ch) fun s => s.closeP1 ch 0
  let s := s.append false 3 blkStore .holdShed ch (b8 k)
  let s := s.chanDown ch 3 false
  if isPort ch then (s.endPower ch).releaseGrant ch else s

/-- The channels of a list shed, step numbers from k. -/
def State.shedAll (s : State) : Nat → List Nat → State
  | _, [] => s
  | k, ch :: l => (s.shedOne k ch).shedAll (k + 1) l

/-- A segment whose pending operations have ended. -/
def Seg.banked (g : Seg) : Seg := { g with queue := [], running := none, recoverOp := none }

/-- What BANKED does to the Honeystore: the charger stops, and so do tap tests; the balancer goes on (R237, R246). -/
def Store.banked (g : Store) : Store := { g with charging := false, tapTesting := 0, tapCommand := 0, tapFailed := false }

/-- What BANKED drops with no entry: pending operations, waiting inputs, an open session, a round that runs, waiting ports, what
waits for a retry, tap tests (R62, R134, R247, R248; log 72). -/
def State.bankedDrops (s : State) : State :=
  let s := s.onIo fun io => { io with waiting := [], part0 := [], part1 := [], part3 := [] }
  let s := s.onCfg fun c => { c with session := none }
  let s : State := { s with ops := [], segs := s.segs.map Seg.banked, ports := s.ports.map fun (p : Port) => { p with waiting := false, shed := false } }
  let s := s.onPw fun w => { w with crank := false, shedOrder := [], resetTag := none }
  let s := s.onSpine fun sp => { sp with round := none }
  s.onStore Store.banked

/-- E at a VSTORE, and whether it allows the full plan (R235, R246). -/
def State.holdPlan (s : State) (vstore : BitVec 16) : Nat × Bool :=
  let e := if s.monitorUp then s.energyAt vstore.toNat else s.store.energy
  (e, decide (0 < s.cells) && decide (s.nat .holdEMin 0 ≤ e))

/-- BANKED before `BOOT` has been appended: GATE_HOLD turns on and the plan is chosen; there is no ledger to record it in, and
the start goes no further (DEDUCED, log 35). -/
def State.bankedEarly (s : State) (vstore : BitVec 16) : State :=
  let (e, full) := s.holdPlan vstore
  let s := s.bankedDrops.linkDrop.onStore fun g =>
    { g with gateHold := true, plan := if full then 0 else 1, writing := 1, energy := e }
  { s with phase := .heldUp, mode := .banked }

/-- HOLD_ENTER (R246, R247): the plan is full when E at VSTORE reaches `HOLD.E_MIN`; the monitor's last E serves
while it is inside a reset. From a sleep state `MODE_CHANGE` has reason 2 and `WAKE` with source 0x06 follows. -/
def State.evHoldEnter (s : State) (vveh vstore : BitVec 16) : State :=
  if s.mode == .off || s.mode == .banked then s
  else
    let (e, full) := s.holdPlan vstore
    let left := s.mode
    let asleep := left.asleep
    let first := lowestSource (s.pw.wakeLatch ||| (1#10 <<< 6)) 6
    let s := s.bankedDrops.linkDrop
    let s := if asleep then s.domainsUp first else s
    let s := s.onStore fun g => { g with gateHold := true, plan := if full then 0 else 1, writing := 1, energy := e }
    let s := s.modeTo .banked (if asleep then 2 else 1) true
    let s := if asleep then s.append true 3 blkPower .wake 0 (b8 first ++ b8 left.code) else s
    let s := s.storeEntry .holdEnter 0 (b8 (if full then 0 else 1) ++ b16 vveh.toNat ++ b16 vstore.toNat)
    s.shedAll 1 s.shedOrder

/-- GATE_HOLD_CHECK (R246). -/
def State.evGateHold (s : State) (node vstore : BitVec 16) : State :=
  let n := node.toNat
  let v := vstore.toNat
  if s.phase == .up && s.mode == .banked && s.store.gateHold && decide (0 < s.cells) && (decide (n + 500 < v) || decide (v + 500 < n))
  then s.latch true 3 blkStore 0x0433 0 (b16 n ++ b16 v)
  else s

end Sys2Proof.Machine
end

