-- ==== Sys2Proof/Machine/Operands.lean ====
section
/-! DEFINITION. Every operand form: command and reply packets (Tables 03-1, 03-2, 03-5), the parameter layout of each opcode (Table 03-6, R51), the value ranges of the parameters (R295) and the trigger list format (Table 03-7). -/

namespace Sys2Proof.Machine

/-! Command packets. -/

/-- A command packet's bytes before its CRC (Table 03-1). -/
def packetHead (op : Nat) (flags : Byte) (tag : BitVec 16) (cond : Option (BitVec 64)) (params : List Byte) :
    List Byte :=
  let c := match cond with | some l => leBytes 8 l.toNat | none => []
  b16 op ++ [flags, 0] ++ b16 tag.toNat ++ b16 (c.length + params.length) ++ c ++ params

/-- The FLAGS byte of a header as a row gives it. -/
def headerFlags (h : CmdHeader) : Byte :=
  BitVec.ofNat 8 (h.cond.isSome.toNat + 2 * h.allowProvisional.toNat + 4 * h.quiet.toNat)

/-- The command that a row spells: the packet with a right CRC. -/
def headerCommand (h : CmdHeader) (op : Opcode) (params : List Byte) : Command :=
  { op := op, tag := h.tag, flags := headerFlags h, cond := h.cond, params := params,
    crc := crc16 (packetHead op.code (headerFlags h) h.tag h.cond params) }

/-- PLEN of a command: COND_LSN and the parameters. -/
def Command.plen (c : Command) : Nat := (if c.cond.isSome then 8 else 0) + c.params.length

/-- A complete packet's bytes. -/
def Command.bytes (c : Command) : List Byte :=
  packetHead c.op.code c.flags c.tag c.cond c.params ++ b16 c.crc.toNat

/-- What a malformed packet leaves behind: of its bytes as received, a violation code and a status (R65). -/
def malformedOf (l : List Byte) (code : Nat) (st : Status) : Malformed :=
  { code := code, status := st, received := l.length,
    tag := if 6 ≤ l.length then BitVec.ofNat 16 (leAt l 4 2) else 0xFFFF,
    opcode := if 2 ≤ l.length then some (BitVec.ofNat 16 (leAt l 0 2)) else none,
    flags := l[2]? }

/-- The checks of Table 03-5, in its order; `gap` when `CMD.SVC_GAP` ended the packet. -/
def parsePacket (l : List Byte) (gap : Bool) : Malformed ⊕ Command :=
  let plen := leAt l 6 2
  let flags := byteOf l 2
  let cond := flags % 2 = 1
  if l.length < 8 then .inl (malformedOf l 0x0504 .formatError)
  else if 1012 < plen ∨ 1022 < l.length then .inl (malformedOf l 0x0506 .formatError)
  else if gap then .inl (malformedOf l 0x0507 .formatError)
  else if l.length ≠ 10 + plen ∨ (cond ∧ plen < 8) then .inl (malformedOf l 0x0502 .formatError)
  else if leAt l (8 + plen) 2 ≠ (crc16 (l.take (8 + plen))).toNat then .inl (malformedOf l 0x0501 .crcError)
  else if byteOf l 3 ≠ 0 ∨ 8 ≤ flags then .inl (malformedOf l 0x0503 .formatError)
  else match Opcode.ofCode (leAt l 0 2) with
    | none => .inl (malformedOf l 0x0505 .unknownOpcode)
    | some op =>
      let body := (l.drop 8).take plen
      .inr { op := op, tag := BitVec.ofNat 16 (leAt l 4 2), flags := BitVec.ofNat 8 flags,
             cond := if cond then some (BitVec.ofNat 64 (leAt body 0 8)) else none,
             params := if cond then body.drop 8 else body,
             crc := BitVec.ofNat 16 (leAt l (8 + plen) 2) }

/-- How many bytes a packet assembled by PLEN has, once its header is there (R53): byte 1023 ends any packet that
is longer (DEDUCED, log 30). -/
def packetLength (l : List Byte) : Nat := min 1023 (10 + leAt l 6 2)

/-- The bytes received spell a whole packet, or can be no packet. -/
def packetDone (l : List Byte) : Bool := decide (8 ≤ l.length) && decide (packetLength l ≤ l.length)

/-- A reply packet's bytes (Table 03-2). -/
def Reply.bytes (r : Reply) : List Byte :=
  withCrc (b16 r.opcode.toNat ++ b8 r.status.code ++ [0] ++ b16 r.tag.toNat ++ b16 r.payload.length
    ++ leBytes 8 r.lsn.toNat ++ r.payload)
where
  /-- Bytes closed by their CRC-16. -/
  withCrc (l : List Byte) : List Byte := l ++ b16 (crc16 l).toNat

/-! The fields of a command's parameters (Table 03-6). -/

/-- Byte n of the parameters, where received. -/
def Command.p (c : Command) (n : Nat) : Nat := byteOf c.params n

/-- A field of n bytes. -/
def Command.field (c : Command) (off n : Nat) : Nat := leAt c.params off n

/-- A field lies wholly within the bytes received (R51). -/
def Command.has (c : Command) (off n : Nat) : Bool := decide (off + n ≤ c.params.length)

/-- The parameter a command names. -/
def Command.param (c : Command) : Option Param := Param.ofId (c.field 0 2)

/-- PLEN matches the parameter layout of the opcode (R51). Where the bytes that an operation does not use could be left out
the spec does not say: TWI_ATTN_READ takes 2 bytes for items 0 and 1, and RESET all 6 for every scope (DESIGN CHOICE, log
101). -/
def Command.lengthOk (c : Command) : Bool :=
  let n := c.params.length
  match c.op with
  | .echo => decide (n ≤ 1006)
  | .identify | .queueStatus | .ledgerHead | .pstateStatus | .padRelease | .cfgWriteCommit | .cfgApply
  | .holdStatus => n == 0
  | .modeRequest | .paramCommit | .portEnable | .portDisable | .portReset | .portSuspend | .portResume
  | .portStatus | .chanOn | .chanOff | .chanClearTrip | .chanMeasure | .pdStatus | .pdRenegotiate
  | .pdHardReset | .pdModeExit | .twiRecover | .voteSet | .voteClear | .plSet | .testStatus | .holdTapTest
  | .trigArm | .trigDisarm => n == 1
  | .reset | .pdModeEnter => n == 6
  | .serviceEnter | .paramSet | .paramStage | .ledgerMark | .cfgRead | .testRun => n == 8
  | .paramGet | .healthRead => n == 3
  | .paramGetBlock | .cfgWriteBegin => n == 4
  | .pdVdmSend => decide (4 ≤ n) && n == 4 + 4 * c.p 2
  | .twiXfer => decide (6 ≤ n) && n == 6 + c.p 3
  | .twiAttnRead => n == 4 || (n == 2 && c.p 1 != 2)
  | .ledgerRead => n == 10
  | .cfgWriteData => decide (5 ≤ n)
  | .trigLoad => decide (44 ≤ n)

/-- SUBJECT of `CMD_APPLIED` and `CMD_COMPLETE` (R36): as received, 0 where p0 did not arrive. -/
def Command.subject (c : Command) : Nat :=
  match c.op.family, c.op with
  | 2, _ | 3, _ | 4, _ | 5, _ => c.p 0
  | _, .holdTapTest | _, .trigArm | _, .trigDisarm | _, .trigLoad => c.p 0
  | _, _ => 0

/-- The subject of R66, for the opcodes that act on one (R66, R136). -/
def Command.target (c : Command) : Subject :=
  match c.op with
  | .portEnable | .portDisable | .portReset | .portSuspend | .portResume | .portStatus | .pdStatus
  | .pdRenegotiate | .pdHardReset | .pdVdmSend | .pdModeEnter | .pdModeExit => .port (c.p 0)
  | .chanOn | .chanOff | .chanClearTrip | .chanMeasure => chanSubject (c.p 0)
  | .twiXfer | .twiRecover | .twiAttnRead => .segment (c.p 0)
  | .holdTapTest => .honeystore
  | .paramCommit | .cfgApply => .configuration
  | .cfgWriteBegin | .cfgWriteData | .cfgWriteCommit => .session
  | .reset => if c.p 0 = 0 then .nothing else .die (c.p 1)
  | .testRun => .test
  | _ => .nothing

/-! Value ranges (R276, R295). -/

/-- A `HOLD.AUX_ORDER` names each AUX index exactly once. -/
def auxOrderOk (n : Nat) : Bool :=
  (List.range 8).all fun k => ((List.range 8).filter fun p => n / 16 ^ p % 16 == k).length == 1

/-- A two-wire address (R276). -/
def addressOk (n : Nat) : Bool := decide (0x08 ≤ n) && decide (n ≤ 0x77)

/-- `TWI.READ_AHEAD` (R276, Table 12-6). -/
def readAheadOk (n : Nat) : Bool :=
  let on1 := n / 2 ^ 7 % 2 == 1
  let on2 := n / 2 ^ 15 % 2 == 1
  let depth := n / 2 ^ 16 % 64
  decide (n < 2 ^ 22) && decide (depth ≤ 32) && (!on1 || addressOk (n % 128)) && (!on2 || addressOk (n / 256 % 128))
    && (!(on1 || on2) || decide (1 ≤ depth))

/-- A value lies in a range (R295), for an index. -/
def Range.ok (r : Range) (i n : Nat) : Bool :=
  match r with
  | .any => true
  | .steps lo hi step => decide (lo ≤ n) && decide (n ≤ hi) && (n - lo) % step == 0
  | .mask m => n &&& m == n
  | .voteDepths => decide (n < 256) && (List.range 4).all fun k => decide (n / 4 ^ k % 4 ≤ 2)
  | .cells => n == 0 || (decide (2 ≤ n) && decide (n ≤ 6))
  | .auxOrder => auxOrderOk n
  | .rampEnergy => decide (1 ≤ n) && decide (n ≤ if isIntegrated i then 40 else 400)
  | .address zero => (zero && n == 0) || addressOk n
  | .readAhead => readAheadOk n
  | .auxChannel => n == 0 || isAux n

/-- A value of a parameter is one that R295 allows. -/
def Param.valueOk (p : Param) (i : Nat) (v : Word) : Bool :=
  let n := v.toNat
  p.info.range.ok i n && (p != .railMask || n % 2 == 1)

/-- An index is in a parameter's range (R293). -/
def Param.indexOk (p : Param) (i : Nat) : Bool := decide (p.info.lo ≤ i) && decide (i ≤ p.info.hi)

/-! Trigger lists (Table 03-7, R73). -/

/-- A list number that holds no list. -/
def TrigList.empty : TrigList := { armed := false, fromLoad := false, kinds := 0, subjects := 0, packets := [], bodyLen := 0 }

/-- The opcodes that no list packet may carry (R73). -/
def Command.barredInList (c : Command) : Bool :=
  match c.op with
  | .serviceEnter | .cfgWriteBegin | .cfgWriteData | .cfgWriteCommit | .cfgApply | .trigLoad => true
  | .reset => c.p 0 == 0
  | _ => false

/-- `count` packets back to back, if every one checks and they fill the bytes exactly (R73). -/
def parsePackets : Nat → List Byte → Option (List Command)
  | 0, l => if l.isEmpty then some [] else none
  | n + 1, l =>
    let len := 10 + leAt l 6 2
    match parsePacket (l.take len) false with
    | .inl _ => none
    | .inr c =>
      if c.cond.isSome || c.barredInList then none
      else (parsePackets n (l.drop len)).map (c :: ·)

/-- A list of the format of Table 03-7, all of it, with its number; the body at most `most` bytes. -/
def parseList (l : List Byte) (most : Nat) : Option (Nat × TrigList) :=
  let flags := byteOf l 1
  let count := byteOf l 2
  let body := leAt l 40 2
  if l.length ≠ 44 + body ∨ 15 < byteOf l 0 ∨ 1 < flags ∨ count = 0 ∨ 32 < count ∨ byteOf l 3 ≠ 0 ∨ most < body
      ∨ leAt l 42 2 ≠ 0 then none
  else
    (parsePackets count (l.drop 44)).map fun ps =>
      (byteOf l 0,
        { armed := flags == 1, fromLoad := false, kinds := BitVec.ofNat 256 (leAt l 4 32),
          subjects := BitVec.ofNat 32 (leAt l 36 4), packets := ps, bodyLen := body })

end Sys2Proof.Machine
end

