-- ==== Sys2Proof/Machine/Flags.lean ====
section
/-! DEFINITION. Every status word the device shows: the vote word and the target (R139, R140), the port, PD and Honeystore status replies, the status summary of interrupt IN 2 (Table 08-5), the SVC window (Table 12-3) and the queue fills (R18). -/

namespace Sys2Proof.Machine

/-! Queues (Table 01-5, R18, R19). -/

/-- The packets of a client that wait to be taken. -/
def Input.ofClient (c : ExtClient) (i : Input) : Bool :=
  match i with
  | .command k _ => k == c
  | .malformed k _ => k == c
  | _ => false

/-- The bytes of a client's packet that is being assembled. -/
def Transports.part (io : Transports) (c : ExtClient) : List Byte :=
  match c with
  | .c0 => io.part0
  | .c1 => io.part1
  | .c3 => io.part3

/-- A client's replies, oldest first. -/
def Transports.replies (io : Transports) (c : ExtClient) : List Reply :=
  match c with
  | .c0 => io.replies0
  | .c1 => io.replies1
  | .c3 => io.replies3

/-- Packets in a submission queue: a packet occupies its slot from its first byte onward (R55). -/
def Transports.queued (io : Transports) (c : ExtClient) : Nat :=
  (io.waiting.filter (·.ofClient c)).length + (!(io.part c).isEmpty).toNat

/-- A client whose reply queue is full is held (R19). -/
def Transports.heldClient (io : Transports) (c : ExtClient) : Bool := decide (16 ≤ (io.replies c).length)

/-- A fill level (R18): 0 empty, 255 full, 1 to 254 in proportion. How the proportion is rounded the spec leaves open: down, and at
least 1 (DESIGN CHOICE, log 77). -/
def fill (n cap : Nat) : Nat := if n = 0 then 0 else if cap ≤ n then 255 else max 1 (n * 255 / cap)

/-- The fill of Q0 to Q63. -/
def State.queueFill (s : State) (q : Nat) : Nat :=
  let t := s.tt (q / 2 + 1)
  if q < 32 then fill (if q % 2 = 0 then t.ssFill else t.csFill) 4096
  else if q < 48 then fill (s.tt (q - 31)).buffers.length 2
  else match q with
    | 48 => fill (s.io.queued .c0) 16
    | 49 => fill (s.io.queued .c1) 16
    | 51 => fill (s.io.queued .c3) 16
    | 52 => fill s.io.replies0.length 16
    | 53 => fill s.io.replies1.length 16
    | 55 => fill s.io.replies3.length 16
    | 56 | 57 | 58 | 59 => fill (s.seg (q - 56)).queue.length 16
    | 60 => fill s.led.ring.length 4096
    | 61 => fill s.led.q61.length 64
    | 62 => fill s.led.q62.length 32
    | 63 => fill s.forager.item.toNat 16
    | _ => 0

/-- The reply of QUEUE_STATUS. -/
def State.queueReply (s : State) : List Byte :=
  (List.range 64).flatMap (fun q => b8 (s.queueFill q))
    ++ b8 ((s.io.heldClient .c0).toNat + 2 * (s.io.heldClient .c1).toNat + 8 * (s.io.heldClient .c3).toNat)

/-! Bits per number. -/

/-- Bit n - 1 for each port n that satisfies a predicate. -/
def portBits (f : Nat → Bool) : Nat := bitsOf (allPorts.map f)

/-- Bit n for each die, 1 to 3, that satisfies a predicate. -/
def dieBits (f : Nat → Bool) : Nat := 2 * bitsOf ([1, 2, 3].map f)

/-- Dies present: `IDENTIFY` r7 (R109). -/
def State.diesPresent (s : State) : Nat := 1 + dieBits fun d => !s.dieGone d

/-- `SPINE.QUARANTINE` (Table 05-7). -/
def State.quarantineWord (s : State) : Nat :=
  dieBits (fun d => (s.die d).quarantined) + 16 * dieBits (fun d => (s.die d).absent)

/-- A die is absent or quarantined. -/
def State.anyGone (s : State) : Bool := [1, 2, 3].any fun d => s.dieGone d

/-! The vote word (Table 07-2). -/

/-- Vote of a port: a data link, neither suspended nor disabled; the host has enabled it. -/
def State.portVote (s : State) (p : Nat) : Bool :=
  s.connectedPort p && (s.port p).bus.enabled && !(s.port p).bus.suspended

/-- A port is in negotiation, a rail transition or a VDM exchange, or has an open P1 action; the ramp that
negotiation waits for counts (DEDUCED, log 34). -/
def State.pdVote (s : State) (p : Nat) : Bool :=
  let d := (s.port p).pd
  let busy := match d.phase with
    | .quiet => (s.port p).attached && (s.chan p).state.conducts && s.pdOn p
    | .ready | .typeC => false
    | _ => true
  busy || d.p1.state == 1 || d.wait != .none

/-- Vote 18: a transfer is queued or running on TW0 to TW3, a recovery runs, or an SVC transaction addresses the device: a packet
or a reply is partly transferred (DEDUCED, log 34). -/
def State.twiVote (s : State) : Bool :=
  ((upTo 0 3).any fun n =>
    let g := s.seg n
    !g.queue.isEmpty || g.running.isSome || g.recovery != .none)
    || !s.io.part1.isEmpty || decide (0 < s.io.sent1)

/-- Every open pending operation: those of two-wire transfers and recoveries are kept with their segment. -/
def State.openOps (s : State) : List PendingOp :=
  s.ops ++ s.segs.toList.flatMap fun g => g.transfers.map (·.op) ++ g.recoverOp.toList

/-- Vote 17: a packet in Q48 to Q55, or an open pending operation. -/
def State.queueVote (s : State) : Bool :=
  !s.openOps.isEmpty || [ExtClient.c0, .c1, .c3].any fun c => decide (0 < s.io.queued c) || !(s.io.replies c).isEmpty

/-- The vote word. A Forager slice is one step, so vote 20 is never seen set, and a CC debounce has ended with its PORT_ATTACH or
PORT_DETACH, so it has no part in vote 19 (log 34). -/
def State.votes (s : State) : Nat :=
  portBits s.portVote
    + 2 ^ 16 * (s.linked && !s.hub.suspended).toNat
    + 2 ^ 17 * s.queueVote.toNat
    + 2 ^ 18 * s.twiVote.toNat
    + 2 ^ 19 * (allPorts.any s.pdVote).toNat
    + 2 ^ 21 * (s.store.charging || s.store.bleeding != 0 || s.store.tapTesting != 0).toNat
    + 2 ^ 22 * (s.store.writing != 0).toNat
    + 2 ^ 23 * (s.openOps.any fun o => o.client == .c2).toNat
    + 2 ^ 24 * s.pw.hostVotes.toNat

/-- The depth limit of a vote. -/
def State.voteLimit (s : State) (v : Nat) : Nat :=
  if v = 21 then 1 else if 24 ≤ v then s.nat .pstateHvoteDepth 0 / 4 ^ (v - 24) % 4 else 0

/-- What bars DEEP SLEEP (R140): a channel is on in the states of code 2 (R220). -/
def State.barsDeep (s : State) : Bool :=
  s.linked || allPorts.any (fun p => (s.chan p).state.conducts)
    || (upTo 17 24).any fun ch => (s.chan ch).state.conducts && !(s.value .pstateAuxLatch 0).getLsbD (ch - 17)

/-- The depth of R140. -/
def State.depth (s : State) : Nat :=
  let w := s.votes
  let d := (upTo 0 27).foldl (fun d v => if w.testBit v then min d (s.voteLimit v) else d) (s.nat .pstateDeepest 0)
  let d := if s.mode == .run || s.mode == .standalone then d else 0
  let d := if d = 2 ∧ s.barsDeep = true then 1 else d
  if s.pw.holdoff then 0 else d

/-- The target of R140; none while it is awake. BUS SUSPEND is entered from RUN only (R26). -/
def State.target (s : State) : Option Mode :=
  match s.depth with
  | 0 => none
  | 1 => some (if s.linked && s.hub.suspended && s.mode == .run then .busSuspend else .sleep)
  | _ => some .deepSleep

/-- `PSTATE_STATUS` r4: the target, or the current mode while it is awake. -/
def State.targetCode (s : State) : Nat := (s.target.getD s.mode).code

/-- The reply of PSTATE_STATUS. -/
def State.pstateReply (s : State) : List Byte :=
  b32 s.votes ++ b8 s.targetCode ++ b8 s.pw.level ++ b32 (s.nat .pstateWakeEn 0) ++ b16 s.ember.staged.length

/-! What replies and parameters within the promise report (R5, R41, R300). -/

/-- The state as replies report it: what changes with no ledger entry stands as it did at the last entry (log 87). -/
def State.reported (s : State) : State :=
  { s with ports := s.seen.ports, hub := s.seen.hub, led := { s.led with openFaults := s.seen.faults } }

/-- What is noted at a ledger entry. -/
def State.seenNow (s : State) : Seen :=
  { next := s.led.next, ports := s.ports, hub := s.hub, tethers := ((s.seg 2).tether, (s.seg 3).tether),
    admitted := s.io.admitted, faults := s.led.openFaults }

/-- Once an input has appended an entry, what it leaves is what is reported. -/
def State.noted (s : State) : State := if s.led.next = s.seen.next then s else { s with seen := s.seenNow }

/-! Ports. -/

/-- `PORT_STATUS` r0. -/
def State.portState (s : State) (p : Nat) : Nat :=
  let q := s.port p
  bitsOf [q.attached, s.enabledPort p, q.bus.suspended, s.dieGone (combOf p), (s.chan p).state == .locked, q.pd.fallback]

/-- The Rp level a port presents: `PD.RP_LEVEL` while it is unattached, Default in DEFAULTS (R131, R185). -/
def State.rpShown (s : State) (p : Nat) : Nat := if (s.port p).attached then (s.port p).rp else s.rpIdle p

/-- The reply of PORT_STATUS: r4 is the rail of the leg in use. -/
def State.portReply (s : State) (p : Nat) : List Byte :=
  let q := s.port p
  b8 (s.portState p) ++ b8 (q.bus.speed.getD 0xFF) ++ b8 q.pin ++ b8 (s.rpShown p) ++ b8 ((s.chan p).leg.getD 0xFF)
    ++ b16 q.grant ++ b8 (s.classOf p) ++ b16 q.bus.lastViolation

/-- The reply of PD_STATUS. -/
def State.pdReply (s : State) (p : Nat) : List Byte :=
  let q := s.port p
  let d := q.pd
  let r0 := bitsOf [d.contract.isSome, q.cable5A, d.fallback, d.mode.isSome, d.p1.state == 1]
  let (rail, pos, op) := match d.contract with
    | some c => (c.rail, c.pos, c.op)
    | none => (0xFF, 0, 0)
  let (svid, seg) := match d.mode with
    | some m => (m.svid, m.seg.getD 0xFF)
    | none => (0, 0xFF)
  b8 r0 ++ b8 rail ++ b8 pos ++ b16 op ++ b16 q.grant ++ b8 (s.classOf p) ++ b16 svid ++ b8 seg ++ b8 d.violCount

/-! Honeystore. -/

/-- `HOLD_STATUS` r19: charging and bleeding pause during a tap test (R241). Bit 3, 'cell fault', is a latched signature, as in
`HOLD.STATUS`: 0x04, the one that latches (DEDUCED, log 96). -/
def State.holdFlags (s : State) : Nat :=
  let g := s.store
  let rest := g.tapTesting == 0
  bitsOf [g.charging && rest, g.bleeding != 0 && rest, g.tapsOpen != 0, g.latchedCells != 0, g.below]

/-- The reply of HOLD_STATUS: the voltages are measurements (R239). -/
def State.holdReply (s : State) : List Byte × State :=
  let v := s.storeSample s.free
  let cell := fun k => if k ≤ s.cells then cellSample s.free k else 0
  (b8 s.cells ++ b16 v ++ (upTo 1 6).flatMap (fun k => b16 (cell k)) ++ b16 s.stackCap ++ b16 (s.energyAt v)
      ++ b8 s.holdFlags,
    { s with free := s.free + 7 })

/-- `HOLD.FAULTS` (Table 11-6). -/
def State.holdFaults (s : State) : Nat :=
  bitsOf [false, s.faultOpen 0x0431 0, s.faultOpen 0x0432 0, s.faultOpen 0x0433 0]

/-! Summaries. -/

/-- Latched faults outstanding (R290). -/
def State.faultCount (s : State) : Nat := s.led.openFaults.length

/-- Channels locked, and ports held disabled by a violation. -/
def State.lockedCount (s : State) : Nat := ((upTo 1 24).filter fun c => (s.chan c).state == .locked).length
def State.heldCount (s : State) : Nat := (allPorts.filter fun p => (s.port p).bus.held.byViolation).length

/-- The mode that is reported: for IDLE the one that it was entered from (R24). -/
def State.modeCode (s : State) : Nat := s.mode.code

/-- Table 08-5. -/
def State.summary (s : State) : List Byte :=
  leBytes 8 s.head.toNat ++ b8 s.modeCode ++ b8 (saturate 255 s.faultCount) ++ b8 s.lockedCount ++ b8 s.heldCount
    ++ b8 (bitsOf [!s.io.replies0.isEmpty, !s.led.q61.isEmpty, !s.led.q62.isEmpty, s.cfg.state == .defaults,
        s.store.below, s.anyGone])
    ++ b8 s.pw.level ++ [0, 0]

/-- Register 0x00 of the SVC window: with BOOT_SEL 0b11 the download codes of R78 until the boot ends. -/
def State.svcSummary (s : State) : Nat :=
  if s.ember.bootSel == 3 && s.phase != .up then s.io.svcDownload
  else bitsOf [!s.io.replies1.isEmpty, decide (s.io.queued .c1 < 16), decide (0 < s.io.sent1), s.cfg.state == .defaults,
    decide (0 < s.faultCount), s.anyGone, !s.led.q61.isEmpty]

/-- `PSTATE.LAST_WAKE` [15:0]. -/
def State.lastWake (s : State) : Nat := s.pw.lastWake.toNat % 0x10000

/-- The window 0x00 to 0x3F (Table 12-3). -/
def State.svcWindow (s : State) : List Byte :=
  let segBits := fun (f : Seg → Bool) => bitsOf ((upTo 0 3).map fun n => f (s.seg n))
  b8 s.svcSummary ++ leBytes 8 s.head.toNat ++ leBytes 6 s.uptime ++ List.replicate 17 0
    ++ b8 s.modeCode ++ b8 s.pw.level ++ b32 s.votes ++ b8 s.targetCode ++ b16 s.ember.staged.length ++ b16 s.lastWake
    ++ List.replicate 5 0
    ++ b8 (saturate 255 s.faultCount) ++ b8 s.lockedCount ++ b8 s.heldCount
    ++ b8 (segBits (·.held) + 16 * segBits (·.midbyte)) ++ b16 s.led.lastViolation ++ b16 s.led.lastFault
    ++ b8 s.holdFlags ++ b8 s.quarantineWord ++ List.replicate 6 0

/-- The reply of LEDGER_HEAD. -/
def State.headReply (s : State) : List Byte :=
  let oldest := match s.led.ring.getLast? with | some e => e.count | none => 0
  leBytes 8 s.head.toNat ++ leBytes 8 (lsn64 s.led.boot s.led.mark).toNat ++ leBytes 8 (lsn64 s.led.boot oldest).toNat
    ++ b8 s.led.q61.length ++ b8 s.led.q62.length

/-- The reply of IDENTIFY. -/
def State.identity (s : State) : List Byte :=
  b16 0x1664 ++ b8 0x43 ++ b8 0xB2 ++ b16 s.ident.version.toNat ++ b8 s.ident.flashFirmware.toNat ++ b8 s.diesPresent
    ++ s.ident.microcode.toList ++ b16 s.led.boot.toNat ++ leBytes 8 s.ident.serial.toNat ++ b8 s.cfg.applied.slot
    ++ [0] ++ b32 s.cfg.applied.seq.toNat

end Sys2Proof.Machine
end

