-- ==== Sys2Proof/Machine/Params.lean ====
section
/-! DEFINITION. Reading a parameter: stored values, and every read-only value computed from the state (Tables 15-3 to 15-23, R292, R293, R297, R300). -/

namespace Sys2Proof.Machine

/-- Table 15-2's access code in `PARAM_GET` r4. -/
def Access.code (a : Access) : Nat :=
  match a with
  | .ro => 0
  | .rwLive => 1
  | .rwStaged => 2
  | .rwOnce => 3
  | .w1c => 4

/-- A measurement of the sample that a reply is built from: a free value per parameter and index (R300; log 1). -/
def State.sampleOf (s : State) (p : Param) (i : Nat) : Word := Config.measured (s.free + paramKey p i)

/-- The samples of one reply are used up. -/
def State.sampled (s : State) : State := { s with free := s.free + 0x1000000 }

/-- VSTORE of the sample, mV. -/
def State.sampledStore (s : State) : Nat := s.storeSample (s.free + paramKey .holdVstore 0)

/-- CLK_CORE, MHz (Table 01-8). -/
def coreMhz (level : Nat) : Nat :=
  if level = 0 then 160 else if level = 1 then 240 else if level = 2 then 320 else 480

/-- The power domains of Table 01-4, in its order. -/
inductive Domain where
  | ember | forgeCtl | forgePwr | combA | combB | hiveCore | hiveMem | spineA | spineB | spineF | upPhy
  deriving DecidableEq, Repr

/-- What a domain is in: `latchedAux` is D_FORGE_PWR with the latched AUX channels only, `suspended` D_UPPHY's pull-up and bus
detectors. -/
inductive DomainState where
  | on | off | retain | detect | latchedAux | suspended
  deriving DecidableEq, Repr

/-- The Comb die of a domain. -/
def Domain.comb (d : Domain) : Nat := if d = .combA ∨ d = .spineA then 1 else 2

/-- A domain in the modes whose core runs: on, but for an absent Comb die, and D_UPPHY in STANDALONE (Table 07-1). -/
def State.domainAwake (s : State) (d : Domain) : DomainState :=
  match d with
  | .combA | .combB => if (s.die d.comb).absent then .off else .on
  | .upPhy => if s.mode = .standalone then .detect else .on
  | _ => .on

/-- A domain in a sleep state (Table 07-1). -/
def Domain.asleep (m : Mode) (d : Domain) : DomainState :=
  let deep := decide (m = .deepSleep)
  match d with
  | .ember => .on
  | .forgeCtl => if deep then .off else .on
  | .forgePwr => if deep then .latchedAux else .on
  | .combA | .combB => if deep then .off else .detect
  | .hiveCore | .hiveMem => .retain
  | .spineA | .spineB | .spineF => .off
  | .upPhy => if m = .busSuspend then .suspended else .detect

/-- A domain in BANKED, once shedding is done (Tables 07-1, 11-5). -/
def Domain.banked (d : Domain) : DomainState :=
  match d with
  | .ember | .forgeCtl | .hiveCore | .hiveMem | .spineF => .on
  | _ => .off

/-- Table 07-1. -/
def State.domain (s : State) (d : Domain) : DomainState :=
  match s.phase with
  | .unpowered | .off => .off
  | _ =>
    if s.mode.asleep then d.asleep s.mode
    else if s.mode = .banked then d.banked
    else s.domainAwake d

/-- The domains in the order of `PSTATE.DOMAINS`. -/
def allDomains : List Domain :=
  [.ember, .forgeCtl, .forgePwr, .combA, .combB, .hiveCore, .hiveMem, .spineA, .spineB, .spineF, .upPhy]

/-- `PSTATE.DOMAINS`: a bit per domain that is on. -/
def State.domains (s : State) : Nat := bitsOf (allDomains.map fun d => s.domain d == .on)

/-- The signals that cross into a domain that loses power, and the values that they are clamped to (R150, Table 07-6). -/
inductive Clamp where
  | spineTransmitters | spineReceivers | clockPairs | eventPending | mirrorWrite | sbOff | sbTick | resetRequests | combWake
  deriving DecidableEq, Repr

inductive ClampValue where
  | electricalIdle | squelched | bothLow | zero | writeDisabled | released | notRequested
  deriving DecidableEq, Repr

/-- The clamps from AP2 to the exit: the sleep states. The Comb wake requests are live but in DEEP SLEEP. -/
def State.clamped (s : State) (c : Clamp) : Option ClampValue :=
  if !s.mode.asleep then none
  else match c with
    | .spineTransmitters => some .electricalIdle
    | .spineReceivers => some .squelched
    | .clockPairs => some .bothLow
    | .eventPending | .sbTick => some .zero
    | .mirrorWrite => some .writeDisabled
    | .sbOff => some .released
    | .resetRequests => some .notRequested
    | .combWake => if s.mode = .deepSleep then some .zero else none

/-- The blocks of a die that Table 04-6 lists, one bit per block code. -/
def dieBlocks (die : Nat) : Nat :=
  if die = 3 then 2 ^ blkChan + 2 ^ blkStore + 2 ^ blkTwi + 2 ^ blkParam
  else 2 ^ blkUsb2 + 2 ^ blkUsb3 + 2 ^ blkPd + 2 ^ blkParam

/-- A mask that RESET of scope 2 and `RESET.BLOCK_RST` accept: not empty, and no block outside Table 04-6 on the die. -/
def maskOk (die mask : Nat) : Bool := mask != 0 && mask ||| dieBlocks die == dieBlocks die

/-- Die and mask of a value of `RESET.BLOCK_RST`, and whether it is in range: bits [29:18] are reserved (R95). -/
def rstDie (v : Word) : Nat := v.toNat / 2 ^ 30
def rstMask (v : Word) : Nat := v.toNat % 2 ^ 18
def blockRstOk (v : Word) : Bool := rstDie v != 0 && v.toNat / 2 ^ 18 % 2 ^ 12 == 0 && maskOk (rstDie v) (rstMask v)

/-- `PSTATE.ABANDONS`: six bits per abort point, saturating. -/
def State.abandonWord (s : State) : Nat :=
  ((List.range 5).map fun k => saturate 63 (bankGet s.pw.abandons k 0) * 64 ^ k).sum

/-- `RESET.CLOCK_DEAD` (R90). -/
def State.clockDeadWord (s : State) : Nat :=
  let blocks := (s.die 1).clockDead ||| (s.die 2).clockDead ||| (s.die 3).clockDead
  blocks.toNat + 0x1000000 * dieBits fun d => (s.die d).clockDead != 0

/-- `RESET.BLOCK_RST` (R95): the die last written and its blocks still in reset or CLOCK_DEAD; all of them while the whole die
is. -/
def State.blockRstWord (s : State) : Nat :=
  let d := s.prm.blockRstDie
  let x := s.die d
  d * 0x40000000 + (x.blocks ||| x.clockDead ||| if x.resetting then BitVec.ofNat 18 (dieBlocks d) else 0).toNat

/-- Lanes in service of a link, bit per lane: none of a lost link's (R109). -/
def Link.laneBits (l : Link) : Nat := if l.lost then 0 else bitsOf (l.lanes.toList.map (·.inService))

/-- `SPINE.LANES` (Table 05-7). -/
def State.laneWord (s : State) : Nat :=
  (s.link 0).laneBits + 0x10 * (s.link 1).laneBits + 0x100 * (s.link 2).laneBits

/-- `CFG.SESSION` (Table 06-7). -/
def State.sessionWord (s : State) : Nat :=
  match s.cfg.session with
  | none => 0
  | some x => 1 + 4 * x.owner.code + 0x10 * x.slot + 0x10000 * x.written

/-- `HUB.SS_LINKS`: ports 1, 2, 9 and 10 are ports 1 to 4 of the USB 3.2 hub (R162). -/
def State.ssLinks (s : State) : Nat :=
  bitsOf ([1, 2, 9, 10].map fun p => s.ssPort p && (s.port p).bus.ssPresent && !s.dieGone (combOf p))

/-- `TYPEC.RP_NOW`, two bits per port: Rp is absent while it is removed and on a die that is gone (R95, R225). -/
def State.rpNow (s : State) : Nat :=
  (allPorts.map fun p =>
    let q := s.port p
    let down := s.dieGone (combOf p) || s.blockDown (combOf p) blkPd || q.rpRemoved
    (if down then 0 else s.rpShown p + 1) * 4 ^ (p - 1)).sum

/-- `PD.CONTRACT`, `PD.CURRENT`, `PD.MODE` and `PD.CAPS` (Table 15-15). -/
def State.contractWord (s : State) (p : Nat) : Nat :=
  let (rail, pos) := match (s.port p).pd.contract with
    | some c => (c.rail, c.pos)
    | none => (0xFF, 0)
  rail + 0x100 * pos + 0x10000 * (s.port p).grant
def State.currentWord (s : State) (p : Nat) : Nat :=
  match (s.port p).pd.contract with
  | some c => c.op + 0x10000 * c.max
  | none => 0
def State.modeWord (s : State) (p : Nat) : Nat :=
  match (s.port p).pd.mode with
  | some m => m.svid + 0x10000 * m.pos + 0x1000000 * m.seg.getD 0xFF
  | none => 0xFF000000
def Pd.capsWord (d : Pd) : Nat :=
  (d.caps.map fun o => 2 ^ o.rail).sum + 0x100 * d.caps.length + 0x10000 * d.capsProvisional.toNat

/-- `TWI.STATE` (Table 12-6). -/
def State.twiState (s : State) (n : Nat) : Nat :=
  let g := s.seg n
  let code :=
    if !s.segEnabled n then 0
    else if g.recovery != .none then 4
    else if g.held then 5
    else if g.attention then 3
    else if g.running.isSome then 2
    else 1
  code + 0x100 * g.midbyte.toNat + 0x10000 * g.queue.length + 0x1000000 * g.tether

/-- Bit per trigger list. -/
def State.listBits (s : State) (f : TrigList → Bool) : Nat :=
  bitsOf (s.trig.lists.toList.map fun t => match t with | some l => f l | none => false)

/-- The value of a read-only parameter. -/
def State.readOnly (s : State) (p : Param) (i : Nat) : Nat :=
  let q := s.port i
  let f := s.forager
  let oldest := match s.led.ring.getLast? with | some e => e.count | none => 0
  match p with
  | .sysMode => s.modeCode
  | .sysPart => 0x1664
  | .sysStepping => 0xB243
  | .sysFw => s.ident.version.toNat + 0x10000 * s.ident.flashFirmware.toNat
  | .sysBootNumber => s.led.boot.toNat
  | .sysSerialLo => s.ident.serial.toNat % 2 ^ 32
  | .sysSerialHi => s.ident.serial.toNat / 2 ^ 32
  | .sysDies => s.diesPresent
  | .sysMicrocode => leNat s.ident.microcode.toList
  | .sysFaultsOpen => s.faultCount
  | .sysViolations => s.led.violations
  | .sysUptimeLo => s.uptime % 2 ^ 32
  | .sysUptimeHi => s.uptime / 2 ^ 32 % 0x10000
  | .clockLprcTrim => s.ember.lprcTrim.toNat
  | .clockRefMode => s.ember.clkMode.toNat
  | .clockCoreMhz => coreMhz s.pw.level
  | .clockPllStarts => s.pw.pllStarts
  | .pstateVotes => s.votes
  | .pstateLevel => s.pw.level
  | .pstateLastWake => s.pw.lastWake.toNat
  | .pstatePadStaged => s.ember.staged.length
  | .pstateEntries => s.pw.entries
  | .pstateAbandons => s.abandonWord
  | .pstateWakes => s.pw.wakes
  | .pstateCranks => s.pw.cranks
  | .pstateShed => portBits fun n => (s.port n).shed
  | .pstateLatched => s.ember.latched.toNat
  | .pstateDomains => s.domains
  | .pstateTarget => s.targetCode
  | .pstatePlChanges => s.pw.plChanges
  | .pstateSleepMs => s.pw.sleepMs
  | .pstateHeldEvents => s.pw.heldEvents
  | .pstateLastEnter => s.pw.lastEnter.toNat
  | .resetCause => s.ember.cause.toNat
  | .resetDetail => s.ember.detail.toNat
  | .resetBlockRst => s.blockRstWord
  | .resetClockDead => s.clockDeadWord
  | .resetStraps => s.ember.bootSel.toNat + 4 * s.ember.clkMode.toNat
  | .resetFuseBurn => s.ember.fuseBurn
  | .spineLanes => s.laneWord
  | .spineEpoch => s.spine.epoch.toNat
  | .spineQuarantine => s.quarantineWord
  | .spineStatReplayed => s.spine.replayed
  | .spineStatCrc => s.spine.crcFailed
  | .spineStatDuplicate => s.spine.duplicates
  | .spineStatSkewPeak => s.spine.skewPeak
  | .cfgState => s.cfg.state.code
  | .cfgSlot => s.cfg.applied.slot
  | .cfgSeq => s.cfg.applied.seq.toNat
  | .cfgImageCrc => s.cfg.applied.crc.toNat
  | .cfgSlotValid => s.cfg.slotValid.toNat
  | .cfgCommitResult => s.cfg.commitResult
  | .cfgSession => s.sessionWord
  | .ledgerHeadCount => s.headCount
  | .ledgerMarkCount => s.led.mark
  | .ledgerOldestCount => oldest
  | .ledgerLost => s.led.lost
  | .ledgerQ61Records => s.led.q61.length
  | .ledgerExternal => s.led.external
  | .ledgerTail => s.led.tailWord.toNat
  | .ledgerRetained => s.led.retainedWord.toNat
  | .cmdAdmitted => s.seen.admitted
  | .cmdMalformed => s.io.malformed
  | .cmdServiceTries => s.pw.serviceTries
  | .cmdStaged => s.prm.staged.length
  | .hubUpState => s.hub.link + 0x100 * s.hub.speed + 0x10000 * s.hub.lanes
  | .hubConfigured => bitsOf [s.hub.configured2, s.hub.configured3, s.hub.configuredM]
  | .hubConnected => portBits s.connectedPort
  | .hubEnabled => portBits s.enabledPort
  | .hubSuspended => portBits fun n => (s.port n).bus.suspended
  | .hubHeld => portBits fun n => (s.port n).bus.held.byViolation
  | .hubOvercurrent => portBits fun n => (s.port n).bus.overCurrent
  | .hubSsLinks => s.ssLinks
  | .hubRemoteWake => bitsOf [s.hub.wake2, s.hub.wake3]
  | .portState => s.portState i
  | .portSpeed => q.bus.speed.getD 0xFF
  | .portClass => s.classOf i
  | .portCeiling => s.ceiling i
  | .portGrant => q.grant
  | .portClaim => q.claim
  | .portLastViol => q.bus.lastViolation
  | .portViols => q.bus.violations
  | .portAttaches => q.attaches
  | .portCycleUsed => q.bus.cycleUsed.toNat
  | .portResets => q.bus.resets
  | .portOrient => q.pin
  | .portOvercurrents => q.bus.overCurrents
  | .ttState =>
    let t := s.tt i
    bitsOf [t.ssFill != 0 || t.csFill != 0, decide (1 ≤ t.buffers.length), decide (2 ≤ t.buffers.length)]
  | .ttSsFill => (s.tt i).ssFill
  | .ttCsFill => (s.tt i).csFill
  | .ttDropped => (s.tt i).droppedCount
  | .ttExpired => (s.tt i).expired
  | .ttResets => (s.tt i).resets
  | .typecAttached => portBits fun n => (s.port n).attached
  | .typecCable5a => portBits fun n => (s.port n).cable5A
  | .typecOrient => portBits fun n => (s.port n).pin == 2
  | .typecRaSeen => portBits fun n => (s.port n).ra
  | .typecVconnOn => portBits fun n => (s.port n).vconn
  | .typecVconnFault => portBits fun n => (s.port n).vconnFault
  | .typecRpNow => s.rpNow
  | .typecFallback => portBits fun n => (s.port n).pd.fallback
  | .typecSbuClosed => portBits fun n => (s.port n).pd.sbuClosed
  | .pdContract => s.contractWord i
  | .pdCurrent => s.currentWord i
  | .pdRevision => q.pd.revision
  | .pdViolCount => q.pd.violCount
  | .pdHardresets => q.pd.hardResets
  | .pdMode => s.modeWord i
  | .pdProv => q.pd.p1.state
  | .pdCaps => q.pd.capsWord
  | .vdmTethers => s.seen.tethers.1 + 0x100 * s.seen.tethers.2
  | .vdmQ62Count => s.led.q62.length
  | .vdmDrops => s.led.vdmDrops
  | .vdmAttentions => s.led.attentions
  | .vdmSvdmVersion => 0x21
  | .railPresent => s.rails.toNat
  | .railLoadLo => s.railLoad 0 0 + 0x10000 * s.railLoad 1 0
  | .railLoadHi => s.railLoad 2 0 + 0x10000 * s.railLoad 3 0
  | .chanState => (s.chanState i).toNat
  | .chanTrips => (s.chan i).trips
  | .allotRemaining => s.remaining
  | .allotGranted => s.granted
  | .allotWaiting => portBits fun n => (s.port n).waiting
  | .holdVstore => s.sampledStore
  | .holdCap => s.stackCap
  | .holdEnergy => s.energyAt s.sampledStore
  | .holdStatus => s.holdFlags + 0x100 * s.store.tapsOpen.toNat + 0x10000 * s.store.latchedCells.toNat
  | .holdFaults => s.holdFaults
  | .twiState => s.twiState i
  | .foragerCycles => f.cycles
  | .foragerCycleTime => f.cycleTime
  | .foragerFailed => f.failed.toNat
  | .foragerLogHead => f.head
  | .trigArmed => s.listBits (·.armed)
  | .trigLoaded => s.listBits fun t => !t.packets.isEmpty
  | .trigFromLoad => s.listBits (·.fromLoad)
  | .trigFirings => s.trig.firings
  | .trigLast => s.trig.lastList + 0x100 * s.trig.lastDepth
  | .trigDepthDrops => s.trig.depthDrops
  | .trigBodyBytes => (s.trig.lists.toList.map fun t => match t with | some l => l.bodyLen | none => 0).sum
  | .spineStatClear | .foragerLogClear => 0
  | _ => (s.sampleOf p i).toNat

/-- The value of one parameter as `PARAM_GET` returns it: a read-only value within the promise as the last entry left it (R5, R300).
LIMIT makes `CHAN.ILIM` read 100 (R183). -/
def State.paramRead (s : State) (p : Param) (i : Nat) : Word :=
  match p with
  | .resetBlockRst => BitVec.ofNat 32 s.blockRstWord
  | .resetStretch => BitVec.ofNat 32 s.ember.stretch
  | .resetBkp0 | .resetBkp1 | .resetBkp2 | .resetBkp3 | .resetBkp4 | .resetBkp5 | .resetBkp6 | .resetBkp7 =>
    bankGet s.ember.bkp (p.id - 0x308) 0
  | .chanIlim => if (s.reported.port i).bus.limited then 100 else s.value p i
  | _ =>
    match p.info.access with
    | .rwLive | .rwStaged => s.value p i
    | _ => BitVec.ofNat 32 ((if p.info.measured then s else s.reported).readOnly p i)

/-- A value is staged for a parameter and index (R297). -/
def State.stagedFor (s : State) (p : Param) (i : Nat) : Option Word :=
  (s.prm.staged.find? fun x => x.1 == paramKey p i).map (·.2)

/-- The reply of PARAM_GET. -/
def State.paramReply (s : State) (p : Param) (i : Nat) : List Byte × State :=
  (leBytes 4 (s.paramRead p i).toNat ++ b8 p.info.access.code
      ++ b8 (p.info.critical.toNat + 2 * (s.stagedFor p i).isSome.toNat),
    s.sampled)

/-- The reply of PARAM_GET_BLOCK: a field whose range leaves the index out reads 0 (R293). -/
def State.blockReply (s : State) (block i first count : Nat) : List Byte × State :=
  ((((Param.block block).drop first).take count).flatMap fun p =>
      leBytes 4 (if p.indexOk i then (s.paramRead p i).toNat else 0),
    s.sampled)

end Sys2Proof.Machine
end

