-- ==== Sys2Proof/Machine/Image.lean ====
section
/-! DEFINITION. Plebrigon images (chapter 06): the header, the directory, the checks of R127 in the order of R133, slot validity (R128), slot selection (R129) and what a load gives (R130). -/

namespace Sys2Proof.Machine

/-- A section as its directory entry names it (Table 06-3). -/
structure Section where
  type : Nat
  off : Nat
  len : Nat
  deriving DecidableEq, Repr

/-- IMAGE_LEN and SEQ of a header (Table 06-2). -/
def imageLen (img : List Byte) : Nat := leAt img 12 4
def imageSeq (img : List Byte) : Nat := leAt img 8 4

/-- HEADER_CRC, MAGIC, FORMAT_MAJOR and PART (R128). -/
def headerOk (img : List Byte) : Bool :=
  img.take 4 == [0x4E, 0x58, 0x43, 0x46] && byteOf img 4 == 1 && leAt img 6 2 == 0x1664
    && leAt img 60 4 == (crc32 (img.take 60)).toNat

/-- A SERVICE_CODE of eight ASCII digits. -/
def codeDigits (l : List Byte) : Bool := l.length == 8 && l.all fun b => decide (0x30 ≤ b.toNat) && decide (b.toNat ≤ 0x39)

/-- A SERVICE_CODE of eight 0x00 bytes: none. -/
def codeNone (l : List Byte) : Bool := l == List.replicate 8 0

/-- Bytes from an offset that are all zero. -/
def zerosAt (img : List Byte) (off n : Nat) : Bool := ((img.drop off).take n).all (· == 0)

/-- The whole of check 2 of R133. -/
def headerWellFormed (img : List Byte) : Bool :=
  let code := (img.drop 20).take 8
  headerOk img && zerosAt img 17 3 && zerosAt img 28 32 && (codeDigits code || codeNone code)

/-- The sections that the directory names. -/
def sectionsOf (img : List Byte) : List Section :=
  (List.range (byteOf img 16)).map fun i =>
    ⟨byteOf img (0x40 + 8 * i), leAt img (0x44 + 8 * i) 2, leAt img (0x46 + 8 * i) 2⟩

/-- Two sections share no byte. -/
def Section.apart (a b : Section) : Bool := decide (a.off + a.len ≤ b.off) || decide (b.off + b.len ≤ a.off)

/-- No two of a list of sections share a type or a byte. -/
def sectionsApart : List Section → Bool
  | [] => true
  | a :: l => l.all (fun b => a.type != b.type && a.apart b) && sectionsApart l

/-- One directory entry: reserved bytes zero, a type of Table 06-4, and the bounds of R128. VERSION is no condition of R127 or
R128, and is not looked at (DEDUCED, log 97). -/
def entryOk (img : List Byte) (i : Nat) (x : Section) : Bool :=
  zerosAt img (0x42 + 8 * i) 2 && decide (1 ≤ x.type) && decide (x.type ≤ 5)
    && x.off % 4 == 0 && x.len % 4 == 0 && decide (4 ≤ x.len) && decide (0x40 + 8 * byteOf img 16 ≤ x.off)
    && decide (x.off + x.len + 4 ≤ imageLen img)

/-- The directory rules of R127 and R128. -/
def directoryOk (img : List Byte) : Bool :=
  let n := byteOf img 16
  let xs := sectionsOf img
  decide (1 ≤ n) && decide (n ≤ 5) && (xs.zipIdx.all fun x => entryOk img x.2 x.1) && (xs.any fun x => x.type == 1)
    && sectionsApart xs

/-- The sections in the order in which they lie in the image. -/
def orderedSections (img : List Byte) : List Section := sortBy (fun a b => decide (a.off ≤ b.off)) (sectionsOf img)

/-- A section's bytes. -/
def Section.data (x : Section) (img : List Byte) : List Byte := (img.drop x.off).take x.len

/-- The bytes of a section of a type, where there is one. -/
def sectionData (img : List Byte) (type : Nat) : Option (List Byte) :=
  ((sectionsOf img).find? fun x => x.type == type).map (·.data img)

/-! Parameter records. -/

/-- The record of 8 bytes at a place: ID, index, value. -/
def paramRecord (l : List Byte) (i : Nat) : Nat × Nat × Word :=
  (leAt l (8 * i) 2, byteOf l (8 * i + 2), BitVec.ofNat 32 (leAt l (8 * i + 4) 4))

/-- The whole records of a parameters section. -/
def paramRecords (l : List Byte) : List (Nat × Nat × Word) := (List.range (l.length / 8)).map (paramRecord l)

/-- A parameter that an image may set: recognised, RW-LIVE or RW-STAGED, no backup register, a value in range, and for
`RESET.BLOCK_RST` one that R95 takes (R127, R130). -/
def recordOk (r : Nat × Nat × Word) : Bool :=
  match Param.ofId r.1 with
  | none => false
  | some p =>
    p.indexOk r.2.1 && p.valueOk r.2.1 r.2.2 && (p != .resetBlockRst || blockRstOk r.2.2) && !(decide (0x308 ≤ r.1) && decide (r.1 ≤ 0x30F))
      && (match p.info.access with
          | .rwLive | .rwStaged => true
          | _ => false)

/-- The records that apply, and the faults 0x0707 of those that do not (R130): `seen` holds the keys of the
earlier records. -/
def applyRecords : List Nat → List (Nat × Nat × Word) → List (Nat × Word) × List (Nat × Nat × List Byte)
  | _, [] => ([], [])
  | seen, r :: rs =>
    let key := r.1 * 256 + r.2.1
    let (vs, fs) := applyRecords (key :: seen) rs
    if recordOk r && !seen.contains key then ((key, r.2.2) :: vs, fs)
    else (vs, (0x0707, 0, b16 r.1 ++ b8 r.2.1) :: fs)

/-- Check 5 of R133. -/
def paramsOk (l : List Byte) : Bool :=
  l.length % 8 == 0 && decide (8 ≤ l.length) && ((List.range (l.length / 8)).all fun i => byteOf l (8 * i + 3) == 0)
    && (applyRecords [] (paramRecords l)).2.isEmpty

/-! Trigger lists. -/

/-- `FAULT` 0x0706 for a list number (Table 14-2). -/
def listFault (n : Nat) : Nat × Nat × List Byte := (0x0706, n, b8 n)

/-- The lists of a section and the faults of those left empty or ignored (R73): `seen` holds the numbers met. -/
def parseLists : Nat → List Nat → List Byte → List (Nat × TrigList) × List (Nat × Nat × List Byte)
  | 0, _, _ => ([], [])
  | fuel + 1, seen, l =>
    if l.isEmpty then ([], [])
    else
      let n := byteOf l 0
      let whole := 44 + leAt l 40 2
      let padded := (whole + 3) / 4 * 4
      if l.length < 44 ∨ l.length < padded then ([], [listFault n])
      else
        let (ts, fs) := parseLists fuel (n :: seen) (l.drop padded)
        match parseList (l.take whole) 4096 with
        | some t =>
          if seen.contains n || !zerosAt l whole (padded - whole) then (ts, listFault n :: fs) else (t :: ts, fs)
        | none => (ts, listFault n :: fs)

/-! The PD capability table, the allotment table, the intents (R190, R229, R127). -/

/-- No number appears twice. -/
def distinct : List Nat → Bool
  | [] => true
  | a :: l => !l.contains a && distinct l

/-- A capability record (Table 09-4). -/
def capsRecord (l : List Byte) (i : Nat) : Nat × Nat × List Nat :=
  (byteOf l (8 * i), byteOf l (8 * i + 1), (List.range 4).map fun k => byteOf l (8 * i + 2 + k))

/-- A capability record satisfies R190. -/
def capsRecordOk (r : Nat × Nat × List Nat) : Bool :=
  isPort r.1 && decide (r.2.1 < 16) && r.2.1 % 2 == 1
    && (r.2.2.zipIdx.all fun x =>
      decide (10 ≤ x.1) && decide (x.1 ≤ if x.2 = 3 ∧ 13 ≤ r.1 then 100 else 60))

/-- A capability table that satisfies R190. -/
def parseCaps (l : List Byte) : Option (List (Nat × Nat × List Nat)) :=
  let rs := (List.range (l.length / 8)).map (capsRecord l)
  if l.length % 8 = 0 ∧ rs.length ≤ 16 ∧ distinct (rs.map (·.1)) = true ∧ rs.all capsRecordOk = true
      ∧ ((List.range (l.length / 8)).all fun i => zerosAt l (8 * i + 6) 2) = true then some rs
  else none

/-- An allotment record (Table 10-3). -/
def allotRecord (l : List Byte) (i : Nat) : Nat × Nat × Nat := (byteOf l (4 * i), byteOf l (4 * i + 1), leAt l (4 * i + 2) 2)

/-- An allotment table that satisfies R229. -/
def parseAllot (l : List Byte) : Option (List (Nat × Nat × Nat)) :=
  let rs := (List.range (l.length / 4)).map (allotRecord l)
  let good := fun r : Nat × Nat × Nat =>
    isPort r.1 && decide (r.2.1 ≤ 3) && decide (45 ≤ r.2.2) && decide (r.2.2 ≤ if 13 ≤ r.1 then 1000 else 600)
  if l.length % 4 = 0 ∧ rs.length ≤ 16 ∧ distinct (rs.map (·.1)) = true ∧ rs.all good = true then some rs else none

/-- Pad-fuse intents that satisfy R127. -/
def parseIntents (l : List Byte) : Option (List Byte) :=
  if l.length = 96 ∧ (l.all fun b => decide (b.toNat < 8)) = true then some l else none

/-- A section, where present, satisfies a parser. -/
def sectionOk {α : Type} (img : List Byte) (type : Nat) (f : List Byte → Option α) : Bool :=
  match sectionData img type with
  | none => true
  | some l => (f l).isSome

/-- Check 6 of R133. -/
def listsOk (img : List Byte) : Bool :=
  match sectionData img 2 with
  | none => true
  | some l => (parseLists l.length [] l).2.isEmpty

/-! Slots. -/

/-- The bytes of a slot's image, as long as its header says. -/
def State.imageOf (s : State) (slot : Nat) : List Byte :=
  s.flashBytes (slotBase slot) (imageLen (s.flashBytes (slotBase slot) 64))

/-- The image CRC field, and its check. -/
def imageCrc (img : List Byte) : Nat := leAt img (img.length - 4) 4
def crcOk (img : List Byte) : Bool := imageCrc img == (crc32 (img.take (img.length - 4))).toNat

/-- A slot's trailer matches its image (R128). -/
def State.trailerOk (s : State) (slot seq crc : Nat) : Bool :=
  let t := s.flashBytes (slotBase slot + 0xFFF0) 16
  t.take 4 == [0x4E, 0x58, 0x43, 0x54] && leAt t 12 4 == (crc32 (t.take 12)).toNat && leAt t 4 4 == seq
    && leAt t 8 4 == crc

/-- A slot is valid (R128). -/
def State.slotOk (s : State) (slot : Nat) : Bool :=
  let n := imageLen (s.flashBytes (slotBase slot) 64)
  if headerOk (s.flashBytes (slotBase slot) 64) && decide (108 ≤ n) && decide (n ≤ 65520) then
    let img := s.imageOf slot
    crcOk img && s.trailerOk slot (imageSeq img) (imageCrc img) && directoryOk img
  else false

/-- `CFG.SLOT_VALID` as R128 finds it. -/
def State.slotsValid (s : State) : BitVec 2 := BitVec.ofNat 2 ((s.slotOk 0).toNat + 2 * (s.slotOk 1).toNat)

/-- SEQ b is newer than SEQ a (R129). -/
def seqNewer (b a : Nat) : Bool :=
  let d := (b + 2 ^ 32 - a) % 2 ^ 32
  decide (1 ≤ d) && decide (d ≤ 2 ^ 31 - 1)

/-- R129: the slot to use, 2 for the ROM defaults, and CFG_TIE. -/
def State.selectSlot (s : State) : Nat × Bool :=
  if s.slotOk 0 then
    if s.slotOk 1 then
      let a := imageSeq (s.flashBytes (slotBase 0) 64)
      let b := imageSeq (s.flashBytes (slotBase 1) 64)
      let d := (b + 2 ^ 32 - a) % 2 ^ 32
      if seqNewer b a then (1, false) else (0, d == 0 || d == 2 ^ 31)
    else (0, false)
  else if s.slotOk 1 then (1, false)
  else (2, false)

/-! What a load gives (R130). -/

/-- One section's part of a load. -/
def Loaded.withSection (img : List Byte) (l : Loaded) (x : Section) : Loaded :=
  let data := x.data img
  let table := (0x070B, 0, b8 x.type)
  match x.type with
  | 1 =>
    let (vs, fs) := applyRecords [] (paramRecords data)
    { l with values := vs, faults := l.faults ++ fs }
  | 2 =>
    let (ts, fs) := parseLists data.length [] data
    { l with lists := ts, faults := l.faults ++ fs }
  | 3 =>
    match parseCaps data with
    | some t => { l with caps := t }
    | none => { l with faults := l.faults ++ [table] }
  | 4 =>
    match parseAllot data with
    | some t => { l with allot := t }
    | none => { l with faults := l.faults ++ [table] }
  | _ => { l with intents := parseIntents data, intentsAt := some (x.off, x.len) }

/-- The image of a slot, loaded; the ROM defaults for slot 2 (R131). -/
def State.loadOf (s : State) (slot : Nat) : Loaded :=
  if slot = 2 then Loaded.defaults
  else
    let img := s.imageOf slot
    let code := (img.drop 20).take 8
    let l := { Loaded.defaults with
      slot := slot, seq := BitVec.ofNat 32 (imageSeq img), crc := BitVec.ofNat 32 (imageCrc img), len := img.length,
      serviceCode := if codeDigits code then code else [] }
    (orderedSections img).foldl (Loaded.withSection img) l

/-! The commit checks (R132, R133). -/

/-- `CFG.COMMIT_RESULT` of the checks, 0 where every one passes. The sequence rule does not apply in DEFAULTS. -/
def State.commitCode (s : State) (x : Session) : Nat :=
  let img := s.flashBytes (slotBase x.slot) x.len
  if x.written < x.len then 1
  else if !headerWellFormed img then 2
  else if imageLen img ≠ x.len then 3
  else if !directoryOk img then 4
  else if !(sectionOk img 1 fun l => if paramsOk l then some l else none) then 5
  else if !listsOk img then 6
  else if !(sectionOk img 3 parseCaps && sectionOk img 4 parseAllot && sectionOk img 5 parseIntents) then 7
  else if !crcOk img then 8
  else if s.cfg.state != .defaults && !seqNewer (imageSeq img) s.cfg.applied.seq.toNat then 9
  else 0

end Sys2Proof.Machine
end

