-- ==== Sys2Proof/Machine/Store.lean ====
section
/-! DEFINITION. Writing parameters: live and write-one-to-clear writes, the fuse burn, the staging area, the commit's checks, and what new values bring about (R80, R84, R294 to R299). -/

namespace Sys2Proof.Machine

/-- A value as it is kept: bit 0 of `CMD.C0_FAMILIES` to `CMD.C3_FAMILIES` and bit 6 of `PSTATE.WAKE_EN` always read 1
(Tables 15-10, 15-5). -/
def Param.kept (p : Param) (v : Word) : Word :=
  match p with
  | .cmdC0Families | .cmdC1Families | .cmdC3Families => v ||| 1
  | .pstateWakeEn => v ||| 0x40
  | _ => v

/-- A key with its value as it is kept. -/
def keptEntry (x : Nat × Word) : Nat × Word :=
  match Param.ofId (x.1 / 256) with
  | some p => (x.1, p.kept x.2)
  | none => x

/-- A value of a live parameter put where it is held: `RESET.STRETCH` and the backup registers lie in Ember (R92,
R93). -/
def State.putValue (s : State) (p : Param) (i : Nat) (v : Word) : State :=
  match p with
  | .resetStretch => s.onEmber fun e => { e with stretch := v.toNat }
  | .resetBkp0 | .resetBkp1 | .resetBkp2 | .resetBkp3 | .resetBkp4 | .resetBkp5 | .resetBkp6 | .resetBkp7 =>
    s.onEmber fun e => { e with bkp := bankSet e.bkp (p.id - 0x308) v }
  | _ => s.setValue p i (p.kept v)

/-! What new values bring about. -/

/-- One changed value: a segment that is disabled stops (R252), `HOLD.CELLS` restarts the monitor (Table 11-6), a rail
that is fitted no more is not present, which its entry says as for a rail that is low (R135, R227; DESIGN CHOICE, log 98). -/
def State.valueEffect (s : State) (key : Nat) : State :=
  let i := key % 256
  match Param.ofId (key / 256) with
  | some .twiEnable => if s.value .twiEnable i == 0 then s.disableSegment i else s
  | some .holdCells => (s.endOps .honeystore .fault false).onStore Store.restart
  | some .railMask =>
    s.each (upTo 0 3) fun r s => if s.rails.getLsbD r && !(s.value .railMask 0).getLsbD r then s.railGone r 0 false else s
  | _ => s

/-- The keys whose values differ between two value lists, ascending. -/
def changedKeys (old new : List (Nat × Word)) : List Nat :=
  let ks := old.map (·.1) ++ (new.map (·.1)).filter fun k => !(old.any fun x => x.1 == k)
  (sortBy (fun a b => decide (a ≤ b)) ks).filter fun k =>
    sparseGet paramDefault old k != sparseGet paramDefault new k

/-- New values in force, with what they bring, in ascending ID and index order (R298, R135). -/
def State.withValues (s : State) (new : List (Nat × Word)) : State :=
  let ks := changedKeys s.prm.values new
  ({ s with prm := { s.prm with values := new } }).each ks fun k s => s.valueEffect k

/-- Entries set one after another in a value list. -/
def setAll (values : List (Nat × Word)) (l : List (Nat × Word)) : List (Nat × Word) :=
  l.foldl (fun vs x => sparseSet paramDefault vs (keptEntry x).1 (keptEntry x).2) values

/-- The values that a commit would put in force. -/
def State.committed (s : State) : List (Nat × Word) := setAll s.prm.values s.prm.staged

/-- The values that an image's records give (R130): `RESET.STRETCH` lies in Ember and `RESET.BLOCK_RST` is a request, so that
neither is among them; each is set by a part of the load of its own. -/
def Loaded.parameters (l : Loaded) : List (Nat × Word) :=
  setAll [] (l.values.filter fun x => x.1 / 256 != Param.resetStretch.id && x.1 / 256 != Param.resetBlockRst.id)

/-- `RESET.STRETCH` of an image's record, where it has one. -/
def Loaded.stretch (l : Loaded) : Option Word :=
  (l.values.find? fun x => x.1 / 256 == Param.resetStretch.id).map (·.2)

/-- `RESET.BLOCK_RST` of an image's record, where it has one. -/
def Loaded.blockRst (l : Loaded) : Option Word :=
  (l.values.find? fun x => x.1 / 256 == Param.resetBlockRst.id).map (·.2)

/-! PARAM_SET. -/

/-- A parameter of class W1C or one that a PARAM_SET may write, with a value that R295 refuses; RO answers
`REFUSED_POLICY` whatever the value (R294). -/
def Param.badValue (p : Param) (i : Nat) (v : Word) : Bool := p.info.access != .ro && !p.valueOk i v

/-- PARAM_SET may write the parameter (Table 15-2). -/
def Param.settable (p : Param) : Bool :=
  match p.info.access with
  | .rwLive | .rwOnce | .w1c => true
  | _ => false

/-- RESET_CAUSE_CLEAR: each bit written 1 clears (R84, R294). -/
def State.clearCause (s : State) (v : Word) : State :=
  s.onEmber fun e => { e with cause := e.cause &&& ~~~(v.setWidth 16) }

/-- SPINE_STAT_CLEAR: the four statistics counters (Table 05-7). -/
def State.clearSpineStat (s : State) (v : Word) : State :=
  if v.getLsbD 0 then
    s.onSpine fun sp => { sp with replayed := 0, crcFailed := 0, duplicates := 0, skewPeak := 0 }
  else s

/-- FORAGER_LOG_CLEAR: the health log is emptied (Table 13-5). -/
def State.clearLog (s : State) (v : Word) : State :=
  if v.getLsbD 0 then s.onForager fun f => { f with log := [] } else s

/-- FUSE_BURN: the customer bank is programmed and its marker last; it comes into force at the next L1 or L0 reset
(R80, R81). -/
def State.burnFuses (s : State) : State :=
  match s.cfg.applied.intents with
  | some l => s.onEmber fun e => { e with fuseBank := l, fuseBurn := 1 }
  | none => s

/-- The effect of a PARAM_SET that is accepted, `RESET.BLOCK_RST` apart. A value equal to the one in force changes
nothing (R295). -/
def State.doParamSet (s : State) (p : Param) (i : Nat) (v : Word) : State :=
  match p with
  | .resetCause => s.clearCause v
  | .spineStatClear => s.clearSpineStat v
  | .foragerLogClear => s.clearLog v
  | .resetFuseBurn => s.burnFuses
  | _ => if s.paramRead p i = v then s else s.putValue p i v

/-! The staging area (R69, R295, R297). -/

/-- The value that stands after a commit of the area as it is. -/
def State.effective (s : State) (p : Param) (i : Nat) : Word := (s.stagedFor p i).getD (s.value p i)

/-- On index 4, `TWI.MBOX_ADDR` and `TWI.TARGET_ADDR` may not be staged equal (DEDUCED, log 41). -/
def State.stageClash (s : State) (p : Param) (i : Nat) (v : Word) : Bool :=
  i == 4 && ((p == .twiMboxAddr && v == s.effective .twiTargetAddr 4)
    || (p == .twiTargetAddr && v == s.effective .twiMboxAddr 4))

/-- A PARAM_STAGE takes a slot: nothing is staged for the ID and index, and the value is not the one in force
(R295). -/
def State.stageTakes (s : State) (p : Param) (i : Nat) (v : Word) : Bool :=
  (s.stagedFor p i).isNone && s.value p i != v

/-- PARAM_STAGE's effect. -/
def State.doParamStage (s : State) (p : Param) (i : Nat) (v : Word) : State :=
  let k := paramKey p i
  let put := fun l => { s with prm := { s.prm with staged := l } }
  if (s.stagedFor p i).isSome then put (s.prm.staged.map fun x => if x.1 = k then (k, v) else x)
  else if s.value p i = v then s
  else put (s.prm.staged ++ [(k, v)])

/-- Every staged value discarded. -/
def State.discardStaged (s : State) : State := { s with prm := { s.prm with staged := [] } }

/-- The checks of R298 on the staged set against the values in force. -/
def State.commitOk (s : State) : Bool :=
  s.effective .twiMboxAddr 4 != s.effective .twiTargetAddr 4
    && allPorts.all fun p =>
      decide ((s.effective .railSettleMax 0).toNat + 30 ≤ (s.effective .pdTransMax p).toNat)

end Sys2Proof.Machine
end

