-- ==== Sys2Proof/Machine/Round.lean ====
section
/-! DEFINITION. Resets of one die or block, Spine lanes and links, time and state agreement, agreement rounds and quarantine (chapters 04 and 05). -/

namespace Sys2Proof.Machine

/-! Reset causes (R84, R85). -/

/-- A source sets its bit and writes `RESET.DETAIL`. -/
def State.setCause (s : State) (bit detail : Nat) : State :=
  s.onEmber fun e =>
    { e with cause := e.cause ||| (1#16 <<< bit), detail := BitVec.ofNat 32 (bit * 0x1000000 + detail % 0x1000000) }

/-- The ports of a Comb die (Table 01-1). -/
def portsOf (die : Nat) : List Nat := if die = 1 then upTo 1 8 else if die = 2 then upTo 9 16 else []

/-- `RESET_BLOCK` (R97). -/
def State.resetEntry (s : State) (die reach mask bit : Nat) (external : Bool) : State :=
  s.append external 3 blkReset .resetBlock die (b8 reach ++ b32 mask ++ b8 bit)

/-- Every pending operation of a die's ports ends `RESETTING` (R96). -/
def State.endPortOps (s : State) (die : Nat) (byEvent : Bool) : State :=
  s.each (portsOf die) fun p s => s.endOps (.port p) .resetting byEvent

/-- The attached ports of a Comb die detach (R97, Table 05-6). -/
def State.detachAll (s : State) (die cause : Nat) (byEvent : Bool) : State :=
  s.each (portsOf die) fun p s =>
    if (s.port p).attached then s.detach p cause 1 false .resetting byEvent else s

/-- The die of a block that a pending TEST_RUN has for its subject, and the block: a channel's, the Honeystore's, a segment's,
a port's or a die's own (Table 13-4). -/
def testBlocks (n : Nat) (arg : Word) : List (Nat × Nat) :=
  let a := arg.toNat
  match n with
  | 6 | 7 | 8 => [(3, blkChan)]
  | 0x21 => [(3, blkChan), (combOf (a % 256), blkUsb2), (combOf (a % 256), blkUsb3), (combOf (a % 256), blkPd)]
  | 9 | 10 | 0x22 => [(3, blkStore)]
  | 0x25 => if a ≤ 3 then [(3, blkTwi)] else []
  | 0x24 => [(combOf a, blkUsb2), (combOf a, blkUsb3), (combOf a, blkPd)]
  | _ => []

/-- A pending TEST_RUN on a subject whose wrapper closes ends `RESETTING` (R96), with no result (DESIGN CHOICE, log 45). -/
def State.testReset (s : State) (die : Nat) (inMask : Nat → Bool) (byEvent : Bool) : State :=
  let f := s.forager
  if s.hasOp .test && (testBlocks f.runTest f.runArg).any fun x => x.1 == die && inMask x.2 then
    (s.onForager fun f => { f with runState := 0 }).endOps .test .resetting byEvent
  else s

/-- What the loss of a die from service turns off (Table 05-6, R97, R98): the cause is that of `PORT_DETACH`. -/
def State.dieDown (s : State) (die cause : Nat) (byEvent : Bool) : State :=
  if die = 3 then
    let s := (s.sbOffAll .resetting byEvent).onStore Store.stopped
    ((s.endOps .honeystore .resetting byEvent).resetSegments (upTo 1 3) byEvent).testReset 3 (fun _ => true) byEvent
  else ((s.detachAll die cause byEvent).endPortOps die byEvent).testReset die (fun _ => true) byEvent

/-- The L2 reset of a die begins: its cause and its entry (R85, R97); the die holds what an L2 reset leaves. -/
def State.beginL2 (s : State) (die bit detail : Nat) (external : Bool) : State :=
  let s := (s.setCause bit detail).resetEntry die 2 (dieBlocks die) bit external
  s.onDie die fun d =>
    { d with resetting := true, blocks := 0, awaited := 0, skewCount := 0, settleCount := 0,
             lostEvents := d.lostEvents + d.heldEvents.length, heldEvents := [], hasEpoch := false, set := none, mirror := [],
             ticks := [] }

/-- A whole L2 reset that is not the end of a link or a quarantine: its entry, what it turns off, the redistribution
and the mode (R97, R98, R230). -/
def State.resetDie (s : State) (die bit detail : Nat) (external byEvent : Bool) : State :=
  (((s.beginL2 die bit detail external).dieDown die 0 byEvent).redistribute).reselect 1 false

/-! Resets of blocks alone (R95 to R97, Table 04-6). -/

/-- What the reset of one block does to its subjects. -/
def State.blockEffect (s : State) (die blk : Nat) (byEvent : Bool) : State :=
  let s := if blk = blkUsb2 ∨ blk = blkUsb3 ∨ blk = blkPd then s.endPortOps die byEvent else s
  if blk = blkUsb2 then
    s.each (portsOf die) fun p s =>
      let s := s.onBus p fun b => { b with fsPresent := false }
      if s.connectedPort p then s else s.dropBus p byEvent
  else if blk = blkUsb3 then
    s.each (portsOf die) fun p s =>
      if (s.port p).bus.ssPresent then
        let s := s.onBus p fun b => { b with ssPresent := false }
        if s.connectedPort p then s else s.dropBus p byEvent
      else s
  else if blk = blkPd then s.detachAll die 0 byEvent
  else if blk = blkChan then
    s.each (upTo 1 24) fun ch s =>
      if !(s.chan ch).state.active then s
      else if isPort ch then s.portOff ch 1 false .resetting byEvent else s.chanDown ch 1 false
  else if blk = blkStore then (s.onStore Store.stopped).endOps .honeystore .resetting byEvent
  else if blk = blkTwi then s.resetSegments (upTo 0 3) byEvent
  else s

/-- The L3 reset of blocks: its entry, then the effect of each block in ascending order, then the redistribution. -/
def State.resetBlocks (s : State) (die mask : Nat) (tag : BitVec 16) (external byEvent : Bool) : State :=
  let s := (s.setCause 4 tag.toNat).resetEntry die 3 mask 4 external
  let s := s.onDie die fun d => { d with blocks := d.blocks ||| BitVec.ofNat 18 mask }
  let s := ((upTo 0 17).filter fun b => mask.testBit b).foldl (fun s b => s.blockEffect die b byEvent) s
  (s.testReset die mask.testBit byEvent).redistribute

/-- A write of `RESET.BLOCK_RST` (R95): blocks that are closed already stay as they are. -/
def State.doBlockRst (s : State) (v : Word) (tag : BitVec 16) (external : Bool) : State :=
  let die := rstDie v
  let d := s.die die
  let s := { s with prm := { s.prm with blockRstDie := die } }
  let mask := (BitVec.ofNat 18 (rstMask v) &&& ~~~(d.blocks ||| d.clockDead)).toNat
  if s.dieGone die || d.resetting || mask == 0 then s else s.resetBlocks die mask tag external false

/-- A record of `RESET.BLOCK_RST` in the image that is loaded sets it as a write does (R95, R130). -/
def State.loadBlockRst (s : State) (l : Loaded) : State :=
  match l.blockRst with
  | some v => s.doBlockRst v s.led.tag true
  | none => s

/-! Agreement sets (R118). -/

/-- The indices that a parameter takes in the map. -/
def Param.indices (p : Param) : List Nat := upTo p.info.lo p.info.hi

/-- The RW-STAGED and `CRITICAL` parameters, in ID order. -/
def agreedParams : List Param :=
  ((List.range 128).flatMap Param.block).filter fun p => p.info.access == .rwStaged || p.info.critical

/-- The second part of a set's byte stream. -/
def valueBytes (values : List (Nat × Word)) : List Byte :=
  agreedParams.flatMap fun p =>
    p.indices.flatMap fun i => b16 p.id ++ b8 i ++ leBytes 4 (sparseGet paramDefault values (paramKey p i)).toNat

/-- The first part: the image without the bytes of its pad-fuse intents section; nothing in DEFAULTS. -/
def State.imageBytes (s : State) (l : Loaded) : List Byte :=
  if l.slot = 2 then []
  else
    let img := s.flashBytes (slotBase l.slot) l.len
    match l.intentsAt with
    | some (off, n) => img.take off ++ img.drop (off + n)
    | none => img

/-- The digest of a set. -/
def State.setDigest (s : State) (l : Loaded) (values : List (Nat × Word)) : BitVec 64 :=
  crc64 (s.imageBytes l ++ valueBytes values)

/-- The digest that a round proposes. -/
def State.proposed (s : State) (c : Change) : BitVec 64 :=
  match c with
  | .nothing => s.setDigest s.cfg.applied s.prm.values
  | .apply l => s.setDigest l l.parameters
  | .commit => s.setDigest s.cfg.applied s.committed

/-! Beginning a round (R119). -/

/-- The set that a round proposes. -/
def State.proposedSet (s : State) (c : Change) : AgreementSet :=
  match c with
  | .nothing => ⟨s.cfg.applied, s.prm.values⟩
  | .apply l => ⟨l, l.parameters⟩
  | .commit => ⟨s.cfg.applied, s.committed⟩

/-- PROPOSE to a die (Table 05-3): the set goes along when the trigger is not 0 or the die has not received this epoch. -/
def State.propose (s : State) (trigger : Nat) (c : Change) (die : Nat) : State :=
  let whole := trigger != 0 || !(s.die die).hasEpoch
  s.sendFrame die .control
    (.propose s.spine.epoch (s.proposed c) s.ident.compat (if whole then some (s.proposedSet c) else none))

/-- The dies of a round: those present, and those whose return it decides. -/
def State.participants (s : State) (returning : List Nat) : List Nat :=
  [1, 2, 3].filter fun d => returning.contains d || !(s.dieGone d || (s.die d).resetting)

/-- No die has received a new epoch yet. -/
def Spine.newEpoch (sp : Spine) : Spine :=
  { sp with epoch := sp.epoch + 1, dies := sp.dies.map fun d => { d with hasEpoch := false } }

/-- A round begins: rounds of triggers 0 to 2 raise the epoch; PROPOSE goes to each die that takes part. -/
def State.openRound (s : State) (trigger : Nat) (change : Change) (returning : List Nat) (op : Option PendingOp) : State :=
  let ballots := (s.participants returning).map fun d => { die := d, tries := 0, verdict := 0, early := none : Ballot }
  let s := s.onSpine fun sp =>
    { (if trigger < 3 then sp.newEpoch else sp) with
      round := some { trigger := trigger, change := change, ballots := ballots, op := op, tag := s.led.tag, returning := returning } }
  ballots.foldl (fun s b => s.propose trigger change b.die) s

/-! Judging answers (R120, Table 05-4). -/

/-- The stepping or the microcode version of an answer does not fit Hive's. -/
def State.versionBad (s : State) (stepping microcode : Byte) : Bool :=
  stepping != 0x43 || microcode.toNat / 16 != s.ident.compat.toNat / 16
    || decide (microcode.toNat % 16 < s.ident.compat.toNat % 16)

/-- `AGREE_FAIL` (Table 02-3). -/
def State.agreeFail (s : State) (die what attempt : Nat) (digest : Nat) : State :=
  s.append true 0 blkSpine .agreeFail die (b8 what ++ b8 attempt ++ b32 digest)

/-- A ballot after a digest mismatch: a redistribution while fewer than three have been made. -/
def Ballot.mismatch (b : Ballot) : Ballot :=
  if b.tries < 3 then { b with tries := b.tries + 1, early := none } else { b with verdict := 3 }

/-- A digest mismatch: `AGREE_FAIL`, and while fewer than three redistributions have been made the set is proposed again,
as trigger 3 does (Table 05-4; log 54). -/
def State.mismatched (s : State) (r : Round) (b : Ballot) (low : Nat) : State × Ballot :=
  let s := s.agreeFail b.die 1 b.tries low
  (if b.tries < 3 then s.propose 3 r.change b.die else s, b.mismatch)

/-- One answer, or its time-out, judged. -/
def State.judge (s : State) (r : Round) (b : Ballot) (a : Response) : State × Ballot :=
  match a with
  | .timeout => s.mismatched r b 0
  | .answer stepping microcode digest =>
    let s := { s with ident := { s.ident with stepping := bankSet s.ident.stepping b.die stepping,
                                              microcode := bankSet s.ident.microcode b.die microcode } }
    let low := digest.toNat % 2 ^ 32
    if s.versionBad stepping microcode then (s.agreeFail b.die 0 0 low, { b with verdict := 2 })
    else if digest != s.proposed r.change then s.mismatched r b low
    else (s, { b with verdict := 1 })

/-- A ballot that a die's own replaces. -/
def Round.put (r : Round) (b : Ballot) : Round :=
  { r with ballots := r.ballots.map fun x => if x.die = b.die then b else x }

/-- The next die in index order that has not been judged. -/
def Round.next (r : Round) : Option Ballot := r.ballots.find? fun b => b.verdict == 0

/-- Answers that arrived early are judged in their turn. -/
def State.judgeEarly : Nat → State → Round → State × Round
  | 0, s, r => (s, r)
  | fuel + 1, s, r =>
    match r.next with
    | none => (s, r)
    | some b =>
      match b.early with
      | none => (s, r)
      | some a =>
        let (s, b) := s.judge r { b with early := none } a
        judgeEarly fuel s (r.put b)

/-! What a round decides (R119 to R122, R135, R298). -/

/-- A round's verdict on a die. -/
def Round.agrees (r : Round) (die : Nat) : Bool := r.ballots.any fun b => b.die == die && b.verdict == 1

/-- A change's round has failed: a die still differs after three redistributions (R121). -/
def Round.failed (r : Round) : Bool := r.change != .nothing && r.ballots.any fun b => b.verdict == 3

/-- The dies that a round quarantines, with the disagreement. -/
def Round.outs (r : Round) : List (Nat × Nat) :=
  r.ballots.filterMap fun b =>
    if b.verdict = 2 then some (b.die, 0) else if b.verdict = 3 ∧ r.failed = false then some (b.die, 1) else none

/-- `AGREE_ROUND` (Table 02-3). -/
def State.roundEntry (s : State) (r : Round) : State :=
  let mask := 1 + dieBits r.agrees
  s.append false 0 blkSpine .agreeRound 0
    (b8 r.trigger ++ b8 mask ++ b32 s.spine.epoch.toNat ++ b32 ((s.proposed r.change).toNat % 2 ^ 32))

/-- `DIE_QUARANTINE` (Table 02-3): the die takes no part from here on. -/
def State.quarantineEntry (s : State) (die what : Nat) : State :=
  (s.onDie die fun d => { d with quarantined := true }).append false 0 blkSpine .dieQuarantine die
    (b8 what ++ b8 (if die = 3 then 1 else 0))

/-- The effects of a quarantine: the AGREE reset, what it turns off, the redistribution, SAFE for Forge (R122, Table
05-6). -/
def State.quarantineActs (s : State) (die : Nat) : State :=
  (((s.beginL2 die 8 die true).dieDown die 2 false).redistribute).reselect 1 false

/-- Quarantine of one die. -/
def State.quarantine (s : State) (die what : Nat) : State := (s.quarantineEntry die what).quarantineActs die

/-- The selection of R129, as boot, commit and apply make it: `CFG.SLOT_VALID`, and CFG_TIE. -/
def State.selected (s : State) : State := s.onCfg fun c => { c with slotValid := s.slotsValid, tie := s.selectSlot.2 }

/-- The lists of an image, by number (R130). -/
def Loaded.listBank (l : Loaded) : Vector (Option TrigList) 16 :=
  Vector.ofFn fun i => (l.lists.find? fun x => x.1 == i.val).map (·.2)

/-- The `FAULT` entries of a load (R130). -/
def State.loadFaults (s : State) (l : Loaded) : State :=
  l.faults.foldl (fun s f => s.fault false 0 (if f.1 = 0x0706 then blkTrig else if f.1 = 0x0707 then blkParam else blkCfg)
    f.1 f.2.1 f.2.2) s

/-- The parameters and lists of a load put in force (R130): `RESET.STRETCH` without a record keeps its value, and so do
the backup registers. -/
def State.loadPolicy (s : State) (l : Loaded) : State :=
  let s := match l.stretch with
    | some v => s.onEmber fun e => { e with stretch := v.toNat }
    | none => s
  let s := { s with trig := { s.trig with lists := l.listBank }, prm := { s.prm with staged := [] } }
  ((s.withValues l.parameters).mirrored).loadBlockRst l

/-- `CFG_APPLIED` or `CFG_REVERTED` of the set in force (Table 02-3). -/
def State.cfgEntry (s : State) (k : Kind) (tail : List Byte) : State :=
  let l := s.cfg.applied
  s.append false 0 blkCfg k 0 (b8 l.slot ++ b32 l.seq.toNat ++ b32 l.crc.toNat ++ tail)

/-- The round of a CFG_APPLY agreed (R130, R135). -/
def State.applySet (s : State) (l : Loaded) : State :=
  let s := s.onCfg fun c => { c with applied := l, state := .applied }
  (((s.cfgEntry .cfgApplied []).loadFaults l).loadPolicy l).endOps .configuration .done false

/-- The last 4 KiB sector of a slot is erased; the slot is not valid any more. -/
def State.eraseTrailer (s : State) (slot : Nat) : State :=
  (s.eraseFlash (slotBase slot + 0xF000) 0x1000).onCfg fun c =>
    { c with slotValid := c.slotValid &&& ~~~(1#2 <<< slot) }

/-- The round of a CFG_APPLY failed: the previous set stands again, and the rejected slot loses its trailer (R135). -/
def State.revertSet (s : State) (l : Loaded) : State :=
  let s := s.onCfg fun c => { c with state := if c.state = .defaults then .defaults else .reverted }
  let s := s.cfgEntry .cfgReverted (b8 1)
  if l.slot = s.cfg.applied.slot then s else s.eraseTrailer l.slot

/-- The round of a PARAM_COMMIT agreed (R298). -/
def State.commitSet (s : State) : State :=
  let vals := s.committed
  ((s.discardStaged).withValues vals).mirrored.endOps .configuration .done false

/-- Detector events that a die held reach Hive, then the report of the lost ones (R111). -/
def State.deliverHeld (s : State) (die : Nat) : State :=
  let d := s.die die
  let ins := d.heldEvents.map Input.event ++ (if d.lostEvents = 0 then [] else [Input.lost die d.lostEvents])
  (s.onDie die fun d => { d with heldEvents := [], lostEvents := 0 }).onIo fun io => { io with waiting := io.waiting ++ ins }

/-- A die returns to service (R98, R110, R122). -/
def State.dieReturns (s : State) (die : Nat) : State :=
  let s := s.onDie die fun d =>
    { d with absent := false, quarantined := false, resetting := false, mirror := mirrorOf die s.prm.values,
             copy := s.uptime * 1000 }
  s.deliverHeld die

/-- A die has agreed: it holds the set of the epoch and the mirror of Hive's values, and with Forge the sidebands are
released (R113, R118). -/
def State.agreed (s : State) (set : AgreementSet) (die : Nat) : State :=
  let s := s.onDie die fun d => { d with hasEpoch := true, set := some set, mirror := mirrorOf die s.prm.values }
  s.when (die == 3) fun s =>
    s.onSpine fun sp => { sp with bootOff := false, forgeOff := sp.forgeOff && (s.link 2).lost }

/-- The mode that ends BOOT (Table 04-7 step 10). -/
def State.leaveBoot (s : State) : State := (s.modeTo s.chosenMode 3 false).entered .boot

/-- The end of a change's round, or of the round that followed a failed one. -/
def State.changeOver (s : State) (r : Round) : State :=
  if r.failed then
    let op := s.opOf .configuration
    let s := match r.change with
      | .apply l => s.revertSet l
      | _ => s.discardStaged
    s.openRound 3 .nothing [] op
  else match r.change with
    | .apply l => s.applySet l
    | .commit => s.commitSet
    | .nothing => if r.op.isSome then s.endOps .configuration .fault false else s

/-- What waits behind a pending CFG_APPLY: a second one, or a PARAM_COMMIT (R136). -/
def Command.waited (c : Command) : Command :=
  if c.op == .cfgApply || c.op == .paramCommit then { c with behind := true } else c

/-- Such a command in an input, and in a list's packets. -/
def Input.waited (i : Input) : Input :=
  match i with
  | .command c p => .command c p.waited
  | i => i
def Firing.waited (f : Firing) : Firing := { f with packets := f.packets.map (·.waited) }
def Task.waited (t : Task) : Task :=
  match t with
  | .fire d f => .fire d f.waited
  | .packet d l p => .packet d l p.waited

/-- A round that ends while a CFG_APPLY is pending finds what has waited behind it: each answers `BUSY_SUBJECT` when it is
taken (R136; DEDUCED, log 112). -/
def State.markBehind (s : State) : State :=
  if (s.opOf .configuration).any fun o => o.op == .cfgApply then
    let s : State := { s with trig := { s.trig with work := s.trig.work.map (·.waited) } }
    (s.onLed fun l => { l with fires := l.fires.map (·.waited) }).onIo fun io => { io with waiting := io.waiting.map (·.waited) }
  else s

/-- Every die has been judged (R120): `AGREE_ROUND`, quarantines, the change, the dies that return, and at boot the
mode. -/
def State.closeRound (s : State) (r : Round) : State :=
  let s := (s.onSpine fun sp => { sp with round := none }).markBehind.roundEntry r
  let set := s.proposedSet r.change
  let s := r.outs.foldl (fun s x => s.quarantineEntry x.1 x.2) s
  let s := r.outs.foldl (fun s x => s.quarantineActs x.1) s
  let s := ([1, 2, 3].filter r.agrees).foldl (fun s d => s.agreed set d) s
  let s := (r.returning.filter r.agrees).foldl (fun s d => s.dieReturns d) s
  let s := s.changeOver r
  if r.trigger = 0 then s.leaveBoot else s.reselect 1 false

/-- A round begins; with no die to ask, it ends at once. -/
def State.startRound (s : State) (trigger : Nat) (change : Change) (returning : List Nat) : State :=
  let s := s.openRound trigger change returning none
  match s.spine.round with
  | some r => if r.ballots.isEmpty then s.closeRound r else s
  | none => s


/-- An answer or a time-out taken: a die has one at a time, they are judged in die-index order, and the last one closes the
round. An answer that comes after the time-out counts for nothing (R120). -/
def State.takeAnswer (s : State) (r : Round) (die : Nat) (a : Response) : State :=
  let s := s.tagged r.tag
  let r := match r.ballots.find? fun b => b.die == die && b.verdict == 0 && b.early.isNone with
    | some b => r.put { b with early := some a }
    | none => r
  let (s, r) := s.judgeEarly 8 r
  match r.next with
  | some _ => s.onSpine fun sp => { sp with round := some r }
  | none => s.closeRound r

/-- ANSWER (R120). -/
def State.evAnswer (s : State) (die : Nat) (stepping microcode : Byte) (digest : BitVec 64) : State :=
  match s.spine.round with
  | some r => s.takeAnswer r die (.answer stepping microcode digest)
  | none => s

/-- ANSWER_TIMEOUT (R120): a digest mismatch with die digest 0, in the die's turn. -/
def State.evAnswerTimeout (s : State) (die : Nat) : State :=
  match s.spine.round with
  | some r => s.takeAnswer r die .timeout
  | none => s

/-! Blocks and dies that report ready (R90, R98). -/

/-- A pending RESET on a die (R98). -/
def State.resetOp (s : State) (die : Nat) : Bool := s.hasOp (.die die)

/-- BLOCK_READY. A whole die that reports ready clears its CLOCK_DEAD marks, ends a pending RESET, and is asked to
agree; a die whose link is lost stays absent. -/
def State.evBlockReady (s : State) (die : Nat) (block : Option Nat) : State :=
  let d := s.die die
  match block with
  | none =>
    if !d.resetting || d.quarantined then s
    else
      let s := s.onDie die fun d => { d with clockDead := 0, blocks := 0, awaited := 0 }
      let s := s.unlatch fun f => f.code == 0x0709 && f.subject == die
      let s := s.when (die == 3) fun s => s.readySegments
      let s := s.tagged (s.opTag (.die die) [.reset])
      let s := s.endOps (.die die) .done true
      if (s.link (linkOfDie die)).lost then s.onDie die fun d => { d with resetting := false }
      else s.startRound 3 .nothing [die]
  | some b =>
    if !d.blocks.getLsbD b || d.clockDead.getLsbD b then s
    else
      let bit := ~~~(1#18 <<< b)
      let waited := d.awaited.getLsbD b
      let s := s.onDie die fun d =>
        { d with blocks := d.blocks &&& bit, awaited := d.awaited &&& bit,
                 mirror := if b = blkParam then mirrorOf die s.prm.values else d.mirror }
      let s := s.when (b == blkTwi) fun s => s.readySegments
      if waited && (s.die die).awaited == 0 then s.endOps (.die die) .done true else s

/-- CLOCK_DEAD_TIMEOUT (R90): the block stays in reset-pending, and a pending RESET that covers it ends `FAULT`; a wider
reset that finds it dead again makes no second entry (R290). -/
def State.evClockDead (s : State) (die block : Nat) : State :=
  let d := s.die die
  if !(d.resetting || d.blocks.getLsbD block) then s
  else if d.clockDead.getLsbD block then s.endOps (.die die) .fault true
  else
    let bit := 1#18 <<< block
    let covered := d.awaited == 0 || d.awaited.getLsbD block
    let s := s.onDie die fun d =>
      { d with clockDead := d.clockDead ||| bit, blocks := d.blocks &&& ~~~bit, awaited := if covered then 0 else d.awaited }
    let s := s.latch true 3 blkReset 0x0709 die (b8 die ++ b8 block)
    if covered then s.endOps (.die die) .fault true else s

/-- PARITY_RESET on a die other than Hive (R31). -/
def State.evParityDie (s : State) (die : Nat) (param : BitVec 16) : State :=
  if s.dieGone die || (s.die die).resetting then s
  else s.resetDie die 6 (die * 0x10000 + param.toNat) true true

/-! Lanes and links (R102 to R112). -/

/-- A lane taken out of service: a removal within 1 s of its rejoin doubles its retrain interval (R107). -/
def Lane.removed (l : Lane) (ms : Nat) : Lane :=
  let quick := match l.rejoined with
    | some t => decide (ms < t + 1000)
    | none => false
  { l with inService := false, attempts := 0, factor := if quick then min 16 (2 * l.factor) else l.factor, rejoined := none }

/-- A link is lost (R109): its remaining lanes are not used, and the far die is absent and reset. What waits and what is
unacknowledged is dropped, and the expected numbers stay where they are, over the loss, the return, a fresh training and the
reset of the far die: the spec says nothing of them (DESIGN CHOICE, log 81). -/
def State.loseLink (s : State) (link : Nat) : State :=
  let die := dieOfLink link
  let s := s.onLink link fun l => { l with lost := true, toHive := l.toHive.dropped, fromHive := l.fromHive.dropped }
  let s := s.latch false 0 blkSpine 0x0601 link (b8 link)
  let s := s.onDie die fun d => { d with absent := true }
  let s := ((s.dieDown die 2 true).redistribute).reselect 1 false
  s.beginL2 die 7 link true

/-- The lanes of a mask that are in service. -/
def State.liveLanes (s : State) (link : Nat) (lanes : BitVec 4) : List Nat :=
  (List.range 4).filter fun n => lanes.getLsbD n && ((s.link link).lane n).inService

/-- `LANE_DROP` (Table 02-3): the lane, the lanes remaining, the frames replayed. -/
def State.laneDropEntry (s : State) (link lane frames : Nat) : State :=
  s.append true 0 blkSpine .laneDrop link (b8 lane ++ b8 (s.link link).count ++ b32 frames)

/-- LANE_DROP: one entry per lane, ascending; below `SPINE.MIN_LANES` the link is lost. The senders send every
unacknowledged frame again, once for all the lanes (R105). Where several lanes drop together the first entry holds the frames
replayed and the others 0: the spec says that each entry holds them and that there is one replay (DESIGN CHOICE, log 83). -/
def State.dropLanes (s : State) (link : Nat) (lanes : List Nat) (frames : Nat) : State :=
  match lanes with
  | [] => s
  | first :: _ =>
    let s := s.onSpine fun sp => { sp with replayed := saturate 0xFFFFFFFF (sp.replayed + frames) }
    let s := s.onLink link fun l => { l with toHive := l.toHive.replay, fromHive := l.fromHive.replay }
    let s := s.each lanes fun n s =>
      (s.onLane link n fun l => l.removed s.ember.ms).laneDropEntry link n (if n = first then frames else 0)
    if (s.link link).count < s.nat .spineMinLanes 0 then s.loseLink link else s

/-- LANE_DROP (R104, R105, R109): a lane of a lost link that loses lock is removed too, and nothing is recorded of it, since
the link's remaining lanes are in use no more. -/
def State.evLaneDrop (s : State) (link : Nat) (lanes : BitVec 4) (frames : Word) : State :=
  let live := s.liveLanes link lanes
  if (s.link link).lost then s.each live fun n s => s.onLane link n fun l => l.removed s.ember.ms
  else s.dropLanes link live frames.toNat

/-- LANE_RETRAIN_ATTEMPT (R107): no lane is retrained in the sleep states or in BANKED (R108). -/
def State.evRetrain (s : State) (link lane : Nat) : State :=
  if ((s.link link).lane lane).inService || laneCount link ≤ lane || !s.spineOn then s
  else s.onLane link lane fun l => { l with attempts := l.attempts + 1 }

/-- A lost link has `SPINE.MIN_LANES` lanes again (R110): its fault clears, and a die that has already reported ready is
asked to agree. -/
def State.linkReturns (s : State) (link : Nat) : State :=
  let s := s.onLink link fun l => { l with lost := false }
  let s := s.unlatch fun f => f.code == 0x0601 && f.subject == link
  let die := dieOfLink link
  if (s.die die).resetting || (s.die die).quarantined then s else s.startRound 3 .nothing [die]

/-- LANE_REJOIN (R107, R110), while lanes are retrained (R108): on a lost link nothing is recorded until it has `SPINE.MIN_LANES` lanes again; then the
fault clears, and a die that has already reported ready is asked to agree. -/
def State.evRejoin (s : State) (link lane : Nat) : State :=
  let l := (s.link link).lane lane
  if l.inService || laneCount link ≤ lane || !s.spineOn then s
  else
    let was := (s.link link).lost
    let tries := l.attempts
    let s := s.onLane link lane fun l => { l with inService := true, attempts := 0, rejoined := some s.ember.ms }
    let n := (s.link link).count
    let entry := fun s : State => s.append true 0 blkSpine .laneRejoin link (b8 lane ++ b8 n ++ b16 (saturate 0xFFFF tries))
    if !was then entry s
    else if n < s.nat .spineMinLanes 0 then s
    else (entry (s.onLink link fun l => { l with lost := false })).linkReturns link

/-- One link is trained afresh when the device leaves a sleep state or an entry is abandoned (R108): each lane that fails
has its LANE_DROP with 0 frames replayed, in service before or not. A lane that was out of service and trains has
LANE_REJOIN, since `SPINE.LANES` changes at entries alone (R125), and comes first; a lost link returns, or stays lost with
nothing told of its lanes that train (R110; DESIGN CHOICE, log 84). -/
def State.trainLink (s : State) (link : Nat) (failed : List Nat) : State :=
  let lanes := List.range (laneCount link)
  let out := lanes.filter fun n => failed.contains n
  let back := lanes.filter fun n => !failed.contains n && !((s.link link).lane n).inService
  let was := (s.link link).lost
  let enough := decide (s.nat .spineMinLanes 0 ≤ lanes.length - out.length)
  let tries := fun n => ((s.link link).lane n).attempts
  let s := s.each back fun n s =>
    let s := s.onLane link n fun l => { l with inService := true, attempts := 0, rejoined := some s.ember.ms }
    if was && !enough then s
    else s.append true 0 blkSpine .laneRejoin link (b8 n ++ b8 (s.link link).count ++ b16 (saturate 0xFFFF (tries n)))
  let s := s.each out fun n s =>
    (s.onLane link n fun l => l.removed s.ember.ms).laneDropEntry link n 0
  if was then (if enough then s.linkReturns link else s)
  else if enough then s else s.loseLink link

/-- Every link is trained afresh (R108): the lanes that fail, bits 0 to 3 of SPINE-A, 4 to 7 of SPINE-B and 8 and 9 of
SPINE-F. -/
def State.trainLinks (s : State) (failed : BitVec 10) : State :=
  let out := fun (off n : Nat) => (List.range n).filter fun k => failed.getLsbD (off + k)
  ((s.trainLink 0 (out 0 4)).trainLink 1 (out 4 4)).trainLink 2 (out 8 2)

/-- RETRAIN_INTERVAL_RESET (R107). -/
def State.evIntervalReset (s : State) (link lane : Nat) : State :=
  if ((s.link link).lane lane).inService then s.onLane link lane fun l => { l with factor := 1, rejoined := none } else s

/-- FORGE_LOSS_TIMEOUT (R13): with no working lane on SPINE-F, Forge asserts SB_OFF itself. A link that still has a lane is
no ground, and in the sleep states the timer does not run (R151). -/
def State.evForgeLoss (s : State) : State :=
  if s.spine.forgeOff || !s.spineOn || decide (0 < (s.link 2).count) then s
  else
    let s := s.onSpine fun sp => { sp with forgeOff := true }
    ((s.sbOffAll .fault true).redistribute).reselect 1 false

/-! Time agreement (R115 to R117). -/

/-- The magnitude of a skew. -/
def skewSize (w : Word) : Nat := w.toInt.natAbs

/-- One comparison of a die's copy with a tick (R116): the copy stands a skew away from the tick; an excess counts and loads
the copy from the tick, and else the count returns to 0. Hive's copy is loaded at every tick. -/
def State.compareSkew (s : State) (die : Nat) (tick : Nat) (skew : Word) : State :=
  let excess := decide (s.nat .spineSkewMax 0 < skewSize skew)
  let s := s.onSpine fun sp => { sp with skewPeak := max sp.skewPeak (skewSize skew) }
  s.onDie die fun d =>
    { d with skewCount := if excess then d.skewCount + 1 else 0,
             copy := if excess || die == 0 then (tick : Int) * 1000 else (tick : Int) * 1000 + skew.toInt }

/-- `SKEW_RESYNC`. -/
def State.resyncEntry (s : State) (die count : Nat) (skew : Word) : State :=
  s.append true 0 blkSpine .skewResync die (b8 count ++ b32 skew.toNat)

/-- The report of an excess (Table 05-2): a third in a row quarantines a Comb die, and is a latched fault of Hive. -/
def State.skewReport (s : State) (die count : Nat) (skew : Word) : State :=
  if count < 3 then s.resyncEntry die count skew
  else if die = 0 then s.latch true 0 blkSpine 0x0602 0 (b32 skew.toNat)
  else if s.dieGone die then s
  else (s.agreeFail die 2 3 0).quarantine die 2

/-- A comparison, and its report where the copy was found in excess: an input that waits while none is taken (R59, R119). -/
def State.tickCompared (s : State) (die : Nat) (tick : Nat) (skew : Word) (listening : Bool) : State :=
  let s := s.compareSkew die tick skew
  let n := (s.die die).skewCount
  if n = 0 then s
  else if listening then s.skewReport die n skew
  else s.onIo fun io => { io with waiting := io.waiting ++ [.skew die n skew] }

/-- The relayed tick that a die compares: the oldest that it has received; where its frame had no row of its own, the tick of
the present millisecond (R115). -/
def State.relayed (s : State) (die : Nat) : Nat × Bool := (s.die die).ticks.headD (s.ember.ms * 1000, false)

/-- TICK_FRAME (R116): a tick whose frame carries the replay flag is not compared, and leaves the count unchanged. -/
def State.evTickFrame (s : State) (die : Nat) (skew : Word) (replayed listening : Bool) : State :=
  if s.dieGone die || (s.die die).resetting then s
  else
    let (tick, flag) := s.relayed die
    let s := s.onDie die fun d => { d with ticks := d.ticks.tail }
    if replayed || flag then s else s.tickCompared die tick skew listening

/-- Hive relays a tick to each Comb die as a CONTROL frame with the uptime of the millisecond (R115). -/
def State.relayTick (s : State) : State :=
  s.each [1, 2] fun d s => if s.dieGone d || (s.die d).resetting then s else s.sendFrame d .control (.tick (s.ember.ms * 1000))

/-! State agreement (R123, R124). -/

/-- A Comb die's view of a port's data link is adopted, while the port is one of its own and shows the host a device (R30). -/
def State.settleLink (s : State) (die p : Nat) (f : State → State) : State :=
  if isPort p ∧ combOf p = die ∧ s.connectedPort p = true then f s else s

/-- One differing subject settled under R30: the die's view of its own subjects is adopted, with the entry of each state that
changes. A data link that is found suspended or awake has initiator 0 (DESIGN CHOICE, log 54). -/
def State.settleOne (s : State) (die : Nat) (d : StateDiff) : State :=
  match d with
  | .chanOn ch =>
    if die = 3 ∧ isChan ch ∧ (s.chan ch).state.active = false then s.chanOffEntry ch 1 true else s
  | .chanOff ch =>
    if die = 3 ∧ isChan ch ∧ (s.chan ch).state.conducts = true then
      if isPort ch then s.portOff ch 1 true .fault true else s.chanDown ch 1 true
    else s
  | .attached p pin ra => if isPort p ∧ combOf p = die then s.evPortAttach p pin ra else s
  | .detached p => if isPort p ∧ combOf p = die ∧ (s.port p).attached = true then s.detach p 0 4 true .fault true else s
  | .tripped ch cause ma mv => if die = 3 ∧ isChan ch ∧ cause ≤ 3 then s.trip ch cause ma mv else s
  | .locked ch reason =>
    if die = 3 ∧ isChan ch ∧ reason ≤ 2 ∧ (s.chan ch).state ≠ .locked then (s.lockChan ch reason).linkTripped ch else s
  | .unlocked ch =>
    if die = 3 ∧ isChan ch ∧ (s.chan ch).state = .locked then
      s.onChan ch fun c => { c with state := .off, lock := none, retries := 0 }
    else s
  | .linkSpeed p v => s.settleLink die p fun s =>
    if v ≤ 4 ∧ (s.port p).bus.speed ≠ some v then
      (s.onBus p fun b => { b with enabled := true, speed := some v }).append true 0 blkUsb2 .portSpeed p (b8 v)
    else s
  | .linkSuspended p => s.settleLink die p fun s =>
    if (s.port p).bus.enabled && !(s.port p).bus.suspended then s.suspendPort p 0 true else s
  | .linkAwake p => s.settleLink die p fun s =>
    if (s.port p).bus.suspended then (s.resumePort p 0 true).onBus p fun b => { b with resuming := false } else s
  | .linkGone p => s.settleLink die p fun s =>
    (s.onBus p fun b => { b with fsPresent := false, ssPresent := false }).dropBus p true
  | .policy => s

/-- STATE_DIGEST_EXCHANGE: a mismatch is settled subject by subject; the eighth in a row resets the die. -/
def State.evStateExchange (s : State) (die : Nat) (digest : Word) (diffs : List StateDiff) : State :=
  if s.dieGone die || (s.die die).resetting then s
  else if diffs.isEmpty then s.onDie die fun d => { d with settleCount := 0 }
  else
    let s := s.onDie die fun d => { d with settleCount := d.settleCount + 1 }
    let n := (s.die die).settleCount
    let s := (diffs.foldl (fun s d => s.settleOne die d) (s.agreeFail die 3 n digest.toNat)).redistribute
    if n < 8 then s else (s.fault true 0 blkSpine 0x0604 die (b8 die)).resetDie die 8 die true false

end Sys2Proof.Machine
end

