-- ==== Sys2Proof/Machine/Boot.lean ====
section
/-! DEFINITION. Power-on starts, L0 and L1 resets, the boot sequence with its downloads, orderly shutdown and OFF (chapter 04, R46, R245 to R250). -/

namespace Sys2Proof.Machine

/-! What an L0 or L1 reset leaves (Table 04-3, R82, R83). -/

/-- No reset clears a lock (R83): Hive's copy goes back to Forge. -/
def Chan.kept (c : Chan) : Chan :=
  if c.state = .locked then { Chan.init with state := .locked, lock := c.lock } else Chan.init

/-- The result of a test that ends by a reset lies in the retained memory (R285). -/
def Forager.kept (f : Forager) : Forager :=
  if f.runTest = 0x20 then
    { Forager.init with runTest := f.runTest, runArg := f.runArg, runState := f.runState, runItem := f.runItem }
  else Forager.init

/-- The firmware that runs before authentication is the ROM's (R77). -/
def Ident.rom (i : Ident) : Ident := { i with flashFirmware := false, version := i.romVersion, authFailed := none }

/-- A fault that only an L0 start clears (Table 14-2, 0x070C). -/
def OpenFault.kept (f : OpenFault) : Bool := f.code == 0x070C

/-- All four dies cleared, Ember given: flash, fuses, locks, what production put in, the levels on the VBUS, CC and VVEH pins,
and the fault that only an L0 start clears stand (DEDUCED, log 109). -/
def State.cleared (s : State) (e : Ember) (p : Phase) (m : Mode) : State :=
  { State.reset with
    pending := s.pending, free := s.free, mode := m, phase := p, ember := e, ident := s.ident.rom, flash := s.flash,
    io := { Transports.init with jtag := s.io.jtag }, chans := s.chans.map Chan.kept, forager := s.forager.kept,
    led := { Ledger.init with openFaults := s.led.openFaults.filter OpenFault.kept },
    hub := { Hub.init with upVbus := s.hub.upVbus, upPin := s.hub.upPin }, pw := { Power.init with crank := s.pw.crank } }

/-- Entry to OFF: not recorded (R23, R248); RESET_OUT_N is low (R92). -/
def State.enterOff (s : State) : State :=
  s.cleared { s.ember with latched := false, staged := [], resetOutLow := true } .off .off

/-- Ember as an L1 reset leaves it: the stretch in force is kept, the pad latches open, the fuse map is read again
(R79, R80, R92, R154). -/
def Ember.l1 (e : Ember) : Ember :=
  { e with stretchNow := e.stretch, latched := false, staged := [], resetOutLow := true, fuseInForce := e.fuseBurn == 1,
           cold := false }

/-- Where a start goes: RESET_IN_N holds L1 while it is low (R91), and CLK_MODE 0b11 starts no clock (R76). -/
def Ember.startPhase (e : Ember) : Phase := if e.resetInLow then .pinHeld else if e.clkMode = 3 then .noClock else .starting

/-- Sources of L1 reach act in every phase in which Ember runs Hive or holds it in reset. -/
def Phase.live (p : Phase) : Bool :=
  match p with
  | .unpowered | .porHeld | .testHeld | .off => false
  | _ => true

/-- An L1 reset (R82, R84, R85); in BANKED the device goes straight to OFF (R88). -/
def State.beginL1 (s : State) (bit detail : Nat) : State :=
  if !s.phase.live then s
  else if s.mode = .banked then s.enterOff
  else
    let e := (s.setCause bit detail).ember.l1
    s.cleared e e.startPhase .boot

/-- The L1 sources that Hive's own supply, watchdog or memories raise: none in a sleep state, where the core is off
(Table 07-1). -/
def State.coreOn (s : State) : Bool :=
  s.phase.live && s.phase != .pinHeld && s.phase != .noClock && s.mode != .sleep && s.mode != .deepSleep && s.mode != .busSuspend

/-! L1 sources (Table 04-4). -/

/-- BOR (R316), WDT_EXPIRY, ECC_RESET (R85), PARITY_RESET on Hive (R31). -/
def State.evBor (s : State) (supply : Nat) : State := if s.coreOn then s.beginL1 1 supply else s
def State.evWdt (s : State) (opcode : BitVec 16) : State := if s.coreOn then s.beginL1 3 opcode.toNat else s
def State.evEcc (s : State) (addr : BitVec 24) : State := if s.coreOn then s.beginL1 5 addr.toNat else s
def State.evParityHive (s : State) (param : BitVec 16) : State := if s.coreOn then s.beginL1 6 param.toNat else s

/-- PIN_RESET (R91): L1 is held while the ball is low; during an L0 start the reset joins the start (DEDUCED, log 107). -/
def State.evPinReset (s : State) : State :=
  if s.phase = .off ∨ s.phase = .unpowered then s
  else
    let s := s.onEmber fun e => { e with resetInLow := true }
    if s.phase.live then s.beginL1 2 0 else s.setCause 2 0

/-- PIN_RESET_RELEASE (R91). -/
def State.evPinRelease (s : State) : State :=
  let s := s.onEmber fun e => { e with resetInLow := false }
  if s.phase = .pinHeld then { s with phase := s.ember.startPhase } else s

/-- DEVICE_RESET_DELAY (R67, R87): the shutdown record and the newest 96 entries, then the L1 reset. -/
def State.evDeviceReset (s : State) : State :=
  match s.pw.resetTag with
  | some tag => (s.writeRetained 0).beginL1 4 tag.toNat
  | none => s

/-- RESET_STRETCH_EXPIRY (R92): RESET_OUT_N is released, unless the root PLL is still being retried (R90). -/
def State.evStretch (s : State) : State :=
  let held := match s.phase with
    | .unpowered | .porHeld | .testHeld | .noClock | .pinHeld | .off => true
    | .starting => decide (0 < s.pw.pllStarts)
    | _ => false
  if held then s else s.onEmber fun e => { e with resetOutLow := false }

/-! L0 starts (R84, R94, R315). -/

/-- Step 2 of Table 04-7. -/
def State.startL0 (s : State) (bit : Nat) : State :=
  let old := s.ember
  let e : Ember := { Ember.init with
    cause := 1#16 <<< bit, detail := BitVec.ofNat 32 (bit * 0x1000000), retained := if old.retentionHeld then old.retained else [],
    fuseBank := old.fuseBank, fuseBurn := old.fuseBurn, fuseInForce := old.fuseBurn == 1, resetInLow := old.resetInLow,
    vio33Low := old.vio33Low }
  let s := s.cleared e .porHeld .boot
  { s with forager := Forager.init, pw := Power.init, io := Transports.init, led := Ledger.init }

/-- POR: the supply has been below the threshold and rises. -/
def State.evPor (s : State) : State := s.startL0 0

/-- POR_ASSERT: nothing is left outside flash, the fuses and the retained memory. -/
def State.evPorAssert (s : State) : State := { s.cleared s.ember .unpowered .off with pw := Power.init }

/-- RETENTION_LOSS (R94): the supply of the retention monitor fell below 2.0 V. -/
def State.evRetentionLoss (s : State) : State :=
  if s.phase = .off ∨ s.phase = .unpowered then s.onEmber fun e => { e with retentionHeld := false } else s

/-- POR_RELEASE (R75, R76, R311): the straps are latched. -/
def State.evPorRelease (s : State) (bootSel clkMode : BitVec 2) (testEn : Bool) : State :=
  if s.phase = .porHeld then
    let e := { s.ember with bootSel := bootSel, clkMode := clkMode, testEn := testEn }
    { s with ember := e, phase := if testEn then .testHeld else e.startPhase }
  else s

/-- WAKE_OFF_START (R249). -/
def State.evWakeOff (s : State) : State := if s.phase = .off then s.startL0 11 else s

/-! Steps 4 to 6. -/

/-- The device enumerates as a DFU device (R78). -/
def State.dfuUp (s : State) : Bool := s.ember.bootSel == 2 && (s.phase == .downloading || s.phase == .verifying)

/-- Its upstream port connects at High-Speed while VBUS is there (R78, R164); before `BOOT` nothing is recorded of it (R101; log
89). -/
def State.dfuAttach (s : State) : State :=
  if s.dfuUp && s.hub.upVbus then s.onHub fun h => { h with link := 1, speed := 2 } else s

/-- A DFU request reaches the device over a connected link. -/
def State.dfuOpen (s : State) : Bool := s.dfuUp && s.linked

/-- HOLDEND (R100): an L0 start finds a previous boot, and the newest valid tail page is not of that boot. -/
def State.holdend (s : State) : Bool :=
  s.ember.cold
    && match s.newestBoot with
      | none => false
      | some (_, n) =>
        match s.newestTail with
        | some p => s.tailBoot p != n
        | none => true

/-- PLL_LOCK: the Hive ROM starts and programs the boot number, what HOLDEND asks of the previous one known (R17, R99, R100);
then on to step 6 by BOOT_SEL (Table 04-1). -/
def State.evPllLock (s : State) : State :=
  if s.phase = .starting then
    let next : Phase := if s.ember.bootSel = 0 then .training else if s.ember.bootSel = 1 then .authenticating else .downloading
    let holdend := s.holdend
    let (n, s) := s.nextBoot
    let s := (s.onLed fun l => { l with boot := BitVec.ofNat 16 n }).onCfg fun c => { c with holdend := holdend }
    { s with phase := next, pw := { s.pw with pllStarts := s.pw.pllStarts + 1 } }.dfuAttach
  else s

/-- PLL_LOCK_RETRY (R90): RESET_OUT_N stays low. -/
def State.evPllRetry (s : State) : State :=
  if s.phase = .starting then
    (s.onPw fun w => { w with pllStarts := w.pllStarts + 1 }).onEmber fun e => { e with resetOutLow := true }
  else s

/-- FIRMWARE_AUTH (R77). -/
def State.evFirmwareAuth (s : State) (ok : Bool) (version : BitVec 16) (badHeader : Bool) : State :=
  if s.phase = .authenticating then
    let i := if ok then { s.ident with flashFirmware := true, version := version }
      else { s.ident.rom with authFailed := some badHeader }
    { s with phase := .training, ident := i }
  else s

/-- DFU 1.1 state codes and status codes (PRESUMED, log 42). -/
def dfuCode (n : Nat) : Nat := if n = 0 then 2 else if n = 1 then 5 else if n = 2 then 7 else 10
def dfuErrVerify : Nat := 0x07
def dfuErrStalled : Nat := 0x0F

/-- A DFU request that the present state does not take: STALL and dfuERROR (log 42). -/
def State.dfuStall (s : State) : State :=
  s.onIo fun io => { io with answer := .stall, dfuState := 3, dfuStatus := if io.dfuState = 3 then io.dfuStatus else dfuErrStalled }

/-- DFU_DNLOAD: a block of length 0 ends the image, which is then authenticated. -/
def State.evDfuDnload (s : State) (block : List Byte) : State :=
  if !s.dfuOpen then s
  else if s.phase != .downloading || decide (2 ≤ s.io.dfuState) then s.dfuStall
  else if block.isEmpty then
    if s.io.dfuState = 1 then { s.onIo fun io => { io with dfuState := 2, answer := .ack } with phase := .verifying } else s.dfuStall
  else s.onIo fun io =>
    { io with dfuState := 1, answer := .ack, dfuImage := (if io.dfuState = 0 then [] else io.dfuImage) ++ block }

/-- DFU_GETSTATUS: status, poll timeout, state, string index. -/
def State.evDfuGetstatus (s : State) : State :=
  if s.dfuOpen then s.answering (.data (b8 s.io.dfuStatus ++ [0, 0, 0] ++ b8 (dfuCode s.io.dfuState) ++ [0])) else s

/-- DFU_GETSTATE. -/
def State.evDfuGetstate (s : State) : State := if s.dfuOpen then s.answering (.data (b8 (dfuCode s.io.dfuState))) else s

/-- DFU_CLRSTATUS: dfuERROR to dfuIDLE. -/
def State.evDfuClrstatus (s : State) : State :=
  if !s.dfuOpen then s
  else if s.io.dfuState = 3 then s.onIo fun io => { io with dfuState := 0, dfuStatus := 0, dfuImage := [], answer := .ack }
  else s.dfuStall

/-- DFU_ABORT: dfuDNLOAD-IDLE to dfuIDLE. -/
def State.evDfuAbort (s : State) : State :=
  if !s.dfuOpen then s
  else if s.io.dfuState < 2 then s.onIo fun io => { io with dfuState := 0, dfuImage := [], answer := .ack }
  else s.dfuStall

/-- DFU_UPLOAD is not supported (R78). -/
def State.evDfuUpload (s : State) : State := if s.dfuOpen then s.dfuStall else s

/-- SVC_IMAGE_DOWNLOAD (R78): the bytes written at pointer 0x10, a 4-byte length and then the image. After a rejection
the next byte begins a new download. -/
def State.evSvcImage (s : State) (bytes : List Byte) : State :=
  if s.phase = .downloading ∧ s.ember.bootSel = 3 ∧ bytes ≠ [] then
    let l := (if s.io.svcDownload = 1 then s.io.svcImage else []) ++ bytes
    let whole := 4 + leAt l 0 4
    let full := decide (4 ≤ l.length) && decide (whole ≤ l.length)
    let s := s.onIo fun io => { io with svcImage := if full then l.take whole else l, svcDownload := if full then 2 else 1 }
    if full then { s with phase := .verifying } else s
  else s

/-- DOWNLOAD_AUTH (R78): an accepted image is written to flash offset 0 and runs; a rejected one is reported, and the
device waits again. The flash holds 1 MiB of firmware (Table 06-1): of a longer image the first 0x100000 bytes are written, since
the spec names no maximum and no answer to it (DESIGN CHOICE, log 105). -/
def State.evDownloadAuth (s : State) (ok : Bool) (version : BitVec 16) : State :=
  if s.phase = .verifying then
    let image := if s.ember.bootSel = 2 then s.io.dfuImage else s.io.svcImage.drop 4
    if ok then
      let s := (s.linkDrop.eraseFlash 0 0x100000).programFlash 0 (image.take 0x100000)
      let s := s.onIo fun io => { io with svcDownload := 3, dfuState := 0, dfuImage := [], svcImage := [] }
      { s with phase := .training, ident := { s.ident with flashFirmware := true, version := version } }
    else
      let s := s.onIo fun io =>
        { io with svcDownload := 4, dfuState := if s.ember.bootSel = 2 then 3 else 0,
                  dfuStatus := if s.ember.bootSel = 2 then dfuErrVerify else 0, dfuImage := [], svcImage := [] }
      { s with phase := .downloading }
  else s

/-! Steps 7 to 9 (R99 to R101, R112, R129, R130). -/

/-- The configuration step: slot, load, parameters, lists. -/
def State.bootConfig (s : State) : State :=
  let slot := s.selectSlot.1
  let l := s.loadOf slot
  let s := s.selected.onCfg fun c => { c with state := if slot = 2 then .defaults else .applied, applied := l }
  let s := match l.stretch with
    | some v => s.onEmber fun e => { e with stretch := v.toNat }
    | none => s
  { s with prm := { s.prm with values := l.parameters, staged := [] }, trig := { s.trig with lists := l.listBank } }

/-- `BOOT` (Table 02-3). -/
def State.bootEntry (s : State) : State :=
  s.append true 3 blkReset .boot 0
    (b8 0x43 ++ b8 s.ident.flashFirmware.toNat ++ b16 s.ident.version.toNat ++ b16 s.ember.cause.toNat ++ b8 s.cfg.applied.slot
      ++ b8 (s.cfg.tie.toNat + 2 * s.cfg.holdend.toNat) ++ b8 (s.ember.bootSel.toNat + 4 * s.ember.clkMode.toNat) ++ b8 s.rails.toNat)

/-- A CLOCK_DEAD_TIMEOUT that came before `BOOT` keeps its die out of the round (R90, R101); without Forge the mode is SAFE
(R25). -/
def State.bootClockDead (s : State) (die block : Nat) : State :=
  let s := s.onDie die fun d => { d with clockDead := d.clockDead ||| (1#18 <<< block), absent := true }
  (s.latch true 3 blkReset 0x0709 die (b8 die ++ b8 block)).reselect 1 false

/-- What is detected before `BOOT` and recorded after it (R101): dead clocks, and memory errors of the ROM's run. What else a
detector could tell of needs the configuration or the links, which follow `BOOT`. -/
def heldEvent (i : Instr) : Bool :=
  match i with
  | .clockDeadTimeout _ _ | .eccErrorNoncritical _ => true
  | _ => false

/-- The entries of such an event (R85, R90). -/
def State.heldAtBoot (s : State) (i : Input) : State :=
  match i with
  | .event (.clockDeadTimeout d b) => if 1 ≤ d ∧ d ≤ 3 ∧ b < 18 then s.bootClockDead d b else s
  | .event (.eccErrorNoncritical addr) => s.fault true 0 blkEcc 0x0702 0 (b32 addr.toNat)
  | _ => s

/-- An input that waits for `BOOT` alone. -/
def Input.heldForBoot (i : Input) : Bool :=
  match i with
  | .event e => heldEvent e
  | _ => false

/-- SPINE_TRAINING: the rest of the boot up to the agreement round. `BOOT` is followed at once by the fault of R77, and then by what
was detected before it, in that order (R77, R101; DEDUCED, log 106). HOLDEND sets its bit of `RESET.CAUSE`, and `RESET.DETAIL`
goes on naming the source of the start: HOLDEND causes no reset, and its detail is a dash (DESIGN CHOICE, log 104). -/
def State.evSpineTraining (s : State) (lanes : BitVec 10) (rails : BitVec 4) : State :=
  if s.phase ≠ .training then s
  else
    let tailWord := s.tailWordNow
    let retainedWord := s.retainedWord
    let s := s.onLed fun l => { Ledger.init with boot := l.boot, openFaults := l.openFaults, tailWord := tailWord, retainedWord := retainedWord }
    let s := s.onEmber fun e => { e with cause := if s.cfg.holdend then e.cause ||| 0x0200 else e.cause }
    let s := s.bootConfig
    let s : State := { s.eraseFlash (tailBase s.sparePage) 0x4000 with phase := .up, mode := .boot }
    let s : State := { s with rails := rails &&& (s.value .railMask 0).setWidth 4 }
    let s := s.bootEntry
    let s := match s.ident.authFailed with
      | some bad => s.latch true 3 blkReset 0x0708 0 (b8 bad.toNat)
      | none => s
    let held := s.io.waiting.filter (·.heldForBoot)
    let s := s.onIo fun io => { io with waiting := io.waiting.filter fun i => !i.heldForBoot }
    let s := held.foldl (fun s i => s.heldAtBoot i) s
    let failed := fun (at' n : Nat) => (List.range n).filter fun k => !lanes.getLsbD (at' + k)
    let s := ((s.dropLanes 0 (failed 0 4) 0).dropLanes 1 (failed 4 4) 0).dropLanes 2 (failed 8 2) 0
    ((s.loadFaults s.cfg.applied).loadBlockRst s.cfg.applied).startRound 0 .nothing []

/-! Orderly shutdown and BANKED (R46, R246 to R250). -/

/-- The reason field of the shutdown record. -/
def State.shutdownReason (s : State) : Nat := if s.mode = .banked then (if s.store.plan = 0 then 1 else 2) else 0

/-- RETAINED_WRITE_DONE: the record and the newest 96 entries are written; the restricted plan ends here. -/
def State.evRetainedDone (s : State) : State :=
  if s.store.writing = 1 then
    let s := s.writeRetained s.shutdownReason
    if s.mode = .banked ∧ s.store.plan = 1 then s.enterOff else s.onStore fun g => { g with writing := 2 }
  else s

/-- FLASH_TAIL_DONE: the tail and its header are written, and the device enters OFF. A boot without entries has no tail (log 35). -/
def State.evTailDone (s : State) : State :=
  if s.store.writing = 2 then (if s.led.next = 0 then s else s.writeTail s.sparePage).enterOff else s

/-- HOLD_NODE_COLLAPSE (R250). -/
def State.evNodeCollapse (s : State) : State := if s.mode = .banked then s.enterOff else s

end Sys2Proof.Machine
end

