-- ==== Sys2Proof/Machine/Power.lean ====
section
/-! DEFINITION. Votes, sleep states, wake, pad latches, performance levels, CRANK and SERVICE as conditions (chapter 07, R27, R284). -/

namespace Sys2Proof.Machine

/-- An entry of the power block: its events come from Forge (Table 02-2). -/
def State.powerEntry (s : State) (k : Kind) (data : List Byte) : State := s.append true 3 blkPower k 0 data

/-! Entering (R140 to R144). -/

/-- A wake source is enabled (R146). -/
def State.wakeEnabled (s : State) (source : Nat) : Bool := (s.value .pstateWakeEn 0).getLsbD source

/-- The alarm has passed (R147). -/
def State.alarmDue (s : State) : Bool := decide (0 < s.nat .pstateAlarm 0) && decide (s.nat .pstateAlarm 0 ≤ s.uptime / 1000)

/-- The interpreter clears `PSTATE.ALARM` with the entry that names source 0x07 (R147). -/
def State.alarmTaken (s : State) (source : Nat) : State := if source = 7 then s.setValue .pstateAlarm 0 0 else s

/-- AP0: `PSTATE_ENTER` with the target and the vote word. -/
def State.enterEntry (s : State) (m : Mode) : State :=
  let s := s.onPw fun w => { w with lastEnter := BitVec.ofNat 32 m.code, wakeLatch := 0 }
  s.powerEntry .pstateEnter (b8 m.code ++ b32 s.votes)

/-- An AUX channel that is on may stay on in DEEP SLEEP (R140, R155). -/
def State.auxMayLatch (s : State) (ch : Nat) : Bool := (s.value .pstateAuxLatch 0).getLsbD (ch - 17)

/-- A source that can wake the device from a sleep state, or abandon an entry to it (Table 07-4). -/
def State.sourceIn (s : State) (m : Mode) (source : Nat) : Bool :=
  let deep := m == .deepSleep
  match source with
  | 1 | 2 | 4 | 5 | 6 | 7 | 9 => true
  | 3 => !deep
  | 8 => (upTo 1 24).any fun ch => (s.chan ch).state.conducts && (!deep || (isAux ch && s.auxMayLatch ch))
  | _ => false

/-- The depth of a sleep state (R139). -/
def Mode.depth (m : Mode) : Nat := if m = .deepSleep then 2 else 1

/-- A vote that becomes set while an entry runs abandons it: its depth limit is below the target's depth (R142). -/
def State.voteBars (s : State) (m : Mode) (before v : Nat) : Bool :=
  !before.testBit v && decide (s.voteLimit v < m.depth)

/-- What a latched event of an entry to a state counts as: its abort point and source code (R141 to R143, R146). The alarm can
fall due within the millisecond that an entry lasts. A vote is one that something outside the interpreter sets. -/
def State.latchHit (s : State) (m : Mode) (before : Nat) (l : Latched) : Option (Nat × Nat) :=
  match l with
  | .source ap n =>
    let due := n != 7 || (decide (0 < s.nat .pstateAlarm 0) && decide (s.nat .pstateAlarm 0 ≤ s.uptime / 1000 + 1))
    if ap ≤ 4 ∧ n ≤ 9 ∧ s.wakeEnabled n = true ∧ s.sourceIn m n = true ∧ due = true then some (ap, n) else none
  | .vote ap v => if ap ≤ 4 ∧ (v ≤ 19 ∨ v = 21) ∧ s.voteBars m before v = true then some (ap, 0) else none

/-- The sample that finds the latch set, and the lowest source that it finds (R143). -/
def firstHit (hits : List (Nat × Nat)) : Option (Nat × Nat) :=
  hits.foldl (fun best h => match best with
    | none => some h
    | some b => some (if h.1 < b.1 ∨ (h.1 = b.1 ∧ h.2 < b.2) then h else b)) none

/-- An entry abandoned at an abort point (R143, R145): pad latches of this entry open, and links that were idled, from AP2 on,
are trained afresh; a lane that fails is an event and follows. -/
def State.abandon (s : State) (ap source : Nat) (failed : BitVec 10) : State :=
  let s := s.onPw fun w =>
    { w with abandons := bankSet w.abandons ap (bankGet w.abandons ap 0 + 1), lastEnter := w.lastEnter ||| 0x100,
             lastWake := BitVec.ofNat 32 (source + ap * 0x100), holdoff := true, wakeLatch := 0 }
  ((s.powerEntry .pstateAbandon (b8 ap ++ b8 source)).alarmTaken source).when (2 ≤ ap) fun s => s.trainLinks failed

/-- AP4 with the latch clear: the sleep state is entered (R144, R152, R156). -/
def State.fallAsleep (s : State) (m : Mode) : State :=
  let s := s.onPw fun w =>
    { w with left := s.mode, entries := w.entries + 1, vcoreSel := if m = .deepSleep then 0 else w.vcoreSel }
  (s.onEmber fun e => { e with latched := true, resetOutLow := false }).modeTo m 1 true

/-! Waking (R146 to R149). -/

/-- A source that ends the sleep state: one that is latched (R144), or one whose condition holds (Table 07-4); CRANK_ENTER
latches 0x06, and in DEEP SLEEP only BANKED answers it. -/
def State.wakesFrom (s : State) (source : Nat) : Bool :=
  (s.pw.wakeLatch.getLsbD source || s.sourceIn s.mode source) && match source with
    | 6 => s.pw.wakeLatch.getLsbD 6 || (s.pw.crank && s.mode != .deepSleep)
    | 7 => s.pw.wakeLatch.getLsbD 7 || s.alarmDue
    | _ => true

/-- The mode of R26. -/
def State.wakeMode (s : State) : Mode :=
  if s.safeCondition then .safe else if s.pw.crank then .crank else s.pw.left

/-- The held events of a queue. -/
def heldInputs (l : List Input) : Nat :=
  (l.filter fun i => match i with
    | .event _ => true
    | _ => false).length

/-- The copies of the Comb dies are loaded from uptime, and their counts start at 0 (R117). -/
def State.loadCopies (s : State) : State :=
  s.each [1, 2] fun d s => s.onDie d fun x => { x with skewCount := 0, copy := s.uptime * 1000 }

/-- Behind the held events stands the report of those that a die could not hold (R111). -/
def State.reportLost (s : State) : State :=
  s.each [1, 2, 3] fun d s =>
    let n := (s.die d).lostEvents
    if n = 0 || (s.die d).absent then s
    else (s.onDie d fun x => { x with lostEvents := 0 }).onIo fun io => { io with waiting := io.waiting ++ [.lost d n] }

/-- WAKE: `MODE_CHANGE`, `WAKE`, what the mode brings, and the lanes that fail training; the held events follow as inputs
(R108, R117, R149, R156). -/
def State.evWake (s : State) (source : Nat) (failed : BitVec 10) : State :=
  if !s.mode.asleep || !s.wakeEnabled source || !s.wakesFrom source then s
  else
    let left := s.mode
    let first := lowestSource (s.pw.wakeLatch ||| (1#10 <<< source)) source
    let s := (s.domainsUp first).loadCopies
    let s := s.onPw fun w => { w with heldEvents := heldInputs s.io.waiting }
    let s := s.modeTo s.wakeMode 2 true
    let s := (s.powerEntry .wake (b8 first ++ b8 left.code)).alarmTaken first
    ((s.entered left).trainLinks failed).reportLost

/-- REENTRY_HOLDOFF_EXPIRY (R145). -/
def State.evHoldoff (s : State) : State := s.onPw fun w => { w with holdoff := false }

/-- A source latched in a sleep state, where it is enabled. -/
def State.latchWake (s : State) (source : Nat) : State :=
  if s.wakeEnabled source then s.onPw fun w => { w with wakeLatch := w.wakeLatch ||| (1#10 <<< source) } else s

/-- PSTATE_ALARM (R147): nothing while the device is awake. -/
def State.evAlarm (s : State) : State := if s.mode.asleep && s.alarmDue then s.latchWake 7 else s

/-- REFILL_WAKE (R238). -/
def State.evRefill (s : State) : State := if s.mode == .deepSleep then s.latchWake 9 else s

/-! SB_TICK (R115, R116). -/

/-- Only the LPRC runs: in DEEP SLEEP, and before the root PLL has locked (Table 01-3, R90, R91). -/
def State.lprcOnly (s : State) : Bool :=
  s.mode == .deepSleep || match s.phase with
    | .porHeld | .testHeld | .noClock | .starting | .pinHeld => true
    | _ => false

/-- One tick: uptime reaches the next whole millisecond, which OFF and a missing supply do not count. While the root PLL runs
the LPRC is trimmed: the trim in use is a measurement (R16, log 1). Hive relays the tick to the Comb dies and compares its own
copy; in the sleep states its input is clamped (R150). -/
def State.evSbTick (s : State) (skew : Word) (listening : Bool) : State :=
  if s.phase = .off ∨ s.phase = .unpowered then s
  else
    let s := s.onEmber fun e => e.tick s.lprcOnly
    if s.mode.asleep then s.onPw fun w => { w with sleepMs := saturate 0xFFFFFFFF (w.sleepMs + 1) }
    else if s.phase = .up then
      let s : State := { s with free := s.free + 1, ember := { s.ember with lprcTrim := Config.measured s.free } }
      s.relayTick.tickCompared 0 (s.ember.ms * 1000) skew listening
    else s

/-! CRANK (R159 to R161). -/

/-- CRANK_ENTER: DEEP SLEEP ignores it. -/
def State.evCrankEnter (s : State) : State :=
  if s.pw.crank || s.mode == .deepSleep then s
  else
    let s := s.onPw fun w => { w with crank := true }
    if s.mode.asleep then s.latchWake 6 else s.reselect 1 true

/-- CRANK_DEEP_SHED: each time VVEH stays that low, the class 1 ports that have power are shed. -/
def State.evDeepShed (s : State) : State :=
  if s.mode == .crank then s.shedClasses [1] else s

/-- CRANK_EXIT: outside CRANK mode the shed ports lose their place (log 43). -/
def State.evCrankExit (s : State) : State :=
  if !s.pw.crank then s
  else
    let s := s.onPw fun w => { w with crank := false }
    if s.mode == .crank then s.reselect 1 true
    else
      let s : State := { s with ports := s.ports.map fun (p : Port) => { p with shed := false } }
      s.onPw fun w => { w with shedOrder := [] }

/-! Commands. -/

/-- VOTE_SET and VOTE_CLEAR (R139). -/
def State.setVotes (s : State) (bits : BitVec 4) : State := s.onPw fun w => { w with hostVotes := w.hostVotes ||| bits }
def State.clearVotes (s : State) (bits : BitVec 4) : State := s.onPw fun w => { w with hostVotes := w.hostVotes &&& ~~~bits }

/-- PL_SET (R27, R157): the level changes after its `CMD_APPLIED`, and VCORE_SEL with it. -/
def State.setLevel (s : State) (n : Nat) : State :=
  if s.pw.level = n then s
  else
    let old := s.pw.level
    let s := s.onPw fun w => { w with level := n, vcoreSel := n, plChanges := w.plChanges + 1 }
    s.append false 0 blkPower .plChange 0 (b8 old ++ b8 n)

/-- One staged write of an AUX gate, as the latches open (R154); under SB_OFF nothing turns on (R13). -/
def State.releaseOne (s : State) (x : Nat × Bool) : State :=
  if x.2 then (if (s.chan x.1).state == .off && !s.sbOff then s.chanUp x.1 3 false else s)
  else (s.chanDown x.1 0 false).clearRetries x.1

/-- PAD_RELEASE (R154): the latches open, the staged values and then the waiting retries run. -/
def State.releasePads (s : State) : State :=
  if !s.ember.latched then s
  else
    let staged := s.ember.staged
    let s := s.onEmber fun e => { e with latched := false, staged := [] }
    let s := s.append false 0 blkPower .padRelease 0 (b16 staged.length)
    let s := staged.foldl (fun s x => s.releaseOne x) s
    s.each (upTo 17 24) fun ch s => if (s.chan ch).retryWaits then s.retry ch false else s

/-- The SERVICE condition set or cleared (R284). -/
def State.setService (s : State) (on : Bool) : State := (s.onPw fun w => { w with service := on }).reselect 0 false

/-- MODE_REQUEST 0: the orderly shutdown begins; the retained memory is written first (R46). -/
def State.beginShutdown (s : State) : State := s.onStore fun g => { g with writing := 1 }

end Sys2Proof.Machine
end

