-- ==== Sys2Proof/Machine/Test.lean ====
section
/-! DEFINITION. Forager, the SERVICE tests, non-critical ECC errors, the JTAG instructions, the VIO33 supply and the health log (chapter 13, R85, R286, R305). -/

namespace Sys2Proof.Machine

/-! Health records (R283, Table 13-3). -/

/-- A record's 32 bytes. -/
def Health.bytes (h : Health) : List Byte :=
  withCrc16 (b16 h.number ++ leBytes 6 h.uptime ++ b8 h.test ++ b8 h.result ++ b16 h.cycle ++ b32 h.item.toNat
    ++ b32 h.measured.toNat ++ b32 h.limit.toNat ++ b16 h.fault ++ b16 h.slices ++ b16 h.corrections)

/-- A record appended to the ring of 256. The first record of a boot has number 1 (DESIGN CHOICE, log 44). -/
def State.healthRecord (s : State) (h : Health) : State :=
  let n := (s.forager.head + 1) % 0x10000
  s.onForager fun f =>
    { f with head := n, log := (f.log ++ [{ h with number := n, uptime := s.uptime, cycle := f.cycles % 0x10000 }]).drop (f.log.length - 255) }

/-- A test's record: its measured value and limit, in the test's own unit, are free values (log 1). -/
def State.testRecord (s : State) (r : SliceResult) : State :=
  let f := s.forager
  let v := Config.healthValue s.free
  let lim := Config.healthValue (s.free + 1)
  let fixes := if r.test = 2 then (Config.healthValue (s.free + 2)).toNat % 0x10000 else 0
  let (item, code, result) := match f.firstFail with
    | some (i, c) => (i, c, 1)
    | none => (r.item, 0, r.result)
  { s with free := s.free + 3 }.healthRecord
    { number := 0, uptime := 0, test := r.test, result := result, cycle := 0, item := item, measured := v, limit := lim,
      fault := code, slices := f.slices % 0x10000, corrections := fixes }

/-! The cycle (R277 to R279). -/

/-- A test runs in a mode (R277). -/
def Mode.tests (m : Mode) (test : Nat) : Bool :=
  match m with
  | .run | .standalone | .safe | .service => true
  | .crank => test ≤ 4 || test == 11
  | _ => false

/-- A test has a subject to test: with `HOLD.CELLS` 0 there is no Honeystore (R235). -/
def State.testFitted (s : State) (test : Nat) : Bool := !(s.cells == 0 && (test == 9 || test == 10))

/-- The next enabled test of a cycle above a number. -/
def State.nextTest (s : State) (after : Nat) : Option Nat :=
  (upTo (after + 1) 12).find? fun n => (s.value .foragerTestMask 0).getLsbD n && s.mode.tests n && s.testFitted n

/-- The end of a cycle: its record, and what the last completed cycle shows. -/
def State.endCycle (s : State) : State :=
  let f := s.forager
  let time := s.ember.ms - f.cycleStart
  let want := s.nat .foragerCycle 0
  let slices := (Config.healthValue s.free).toNat % 0x10000
  let s := { s with free := s.free + 1 }.healthRecord
    { number := 0, uptime := 0, test := 0, result := if want * 1000 < time then 4 else 0, cycle := 0, item := 0,
      measured := BitVec.ofNat 32 time, limit := BitVec.ofNat 32 want, fault := 0, slices := slices, corrections := 0 }
  s.onForager fun f =>
    { f with cycles := f.cycles + 1, cycleTime := time, failed := f.failing, test := 0, item := false, firstFail := none, slices := 0 }

/-- On to a test, or to the end of the cycle. -/
def State.toTest (s : State) (next : Option Nat) : State :=
  match next with
  | some n => s.onForager fun f => { f with test := n, item := true, firstFail := none, slices := 0 }
  | none => s.endCycle

/-- Forager may run: its modes, some duty, and in SERVICE no TEST_RUN pending (R277). -/
def State.foragerOn (s : State) : Bool :=
  s.mode.tests 1 && decide (0 < s.nat .foragerDuty 0) && !s.hasOp .test

/-- FORAGER_CYCLE_START (R279). -/
def State.evCycleStart (s : State) : State :=
  if s.foragerOn && s.forager.test == 0 then
    let s := s.onForager fun f => { f with cycleStart := s.ember.ms, failing := 0 }
    s.toTest (s.nextTest 0)
  else s

/-! Findings (R280, R281, Table 13-2). -/

/-- The fault code that a test's failure raises. -/
def testFault (test : Nat) : Nat :=
  match test with
  | 1 => 0x070A
  | 2 => 0x0702
  | 4 => 0x0605
  | 5 => 0x0440
  | 6 => 0x0441
  | 11 => 0x0606
  | 12 => 0x070C
  | _ => 0

/-- `FORAGER_FAIL` (Table 02-3). -/
def State.foragerFail (s : State) (test : Nat) (item : Word) (code : Nat) : State :=
  s.append true 0 blkForager .foragerFail test (b32 item.toNat ++ b16 code)

/-- The subject of a check on a channel is off, as Table 13-2 asks; a check whose subject has changed is discarded
(R282). -/
def State.subjectIdle (s : State) (test ch : Nat) : Bool :=
  let c := s.chan ch
  match test with
  | 6 => isChan ch && c.state == .off
  | 7 => isIntegrated ch && c.state == .off && c.offCheck != .discharging
  | 8 => isExternal ch && c.state == .off
  | _ => true

/-- A subject is skipped (R280, Table 13-2): its die is gone, its block is inside a reset or dead, its lane is out of service, or
for test 10 a charge runs or a tap is open. -/
def State.testSkipped (s : State) (test item : Nat) : Bool :=
  let store := s.dieGone 3 || s.blockDown 3 blkStore
  match test with
  | 4 => item % 4 != 0 && (s.dieGone (item % 4) || (s.die (item % 4)).resetting)
  | 5 => s.dieGone 3 || (s.die 3).resetting
  | 6 | 7 | 8 => s.dieGone 3 || s.blockDown 3 blkChan
  | 9 => store
  | 10 => store || s.store.charging || s.store.tapsOpen != 0
  | 11 => !((s.link (item % 256)).lane (item / 256)).inService
  | _ => false

/-- What a failed check measured is a failure: a tap of the stack that moved by 2 mV or more, a cell that shows the signature
(R241, R242). -/
def State.testFailed (s : State) (r : SliceResult) : Bool :=
  match r.test with
  | 9 => decide (r.item.toNat ≤ s.cells) && decide (2 ≤ r.detail.toNat)
  | 10 => s.showsSignature r.item.toNat r.detail.toNat
  | _ => true

/-- The result of Table 13-3 that a slice comes to (R280, R282). -/
def State.sliceResult (s : State) (r : SliceResult) : Nat :=
  if 2 ≤ r.result then r.result
  else if s.testSkipped r.test r.item.toNat then 2
  else if r.result = 0 then 0
  else if !s.subjectIdle r.test r.item.toNat then 3
  else if s.testFailed r then 1
  else 0

/-- A check that passes: a tap is closed again (R240, R241). -/
def State.passed (s : State) (r : SliceResult) : State :=
  if r.test = 9 ∧ r.item.toNat ≤ s.cells then s.tapPassed r.item.toNat else s

/-- The entries of a failure. -/
def State.findingEntries (s : State) (r : SliceResult) : State :=
  let item := r.item.toNat
  let d := r.detail.toNat
  match r.test with
  | 1 =>
    let left := s.forager.spares - 1
    (s.onForager fun f => { f with spares := left }).latch true 0 blkEcc 0x070A 0 (b32 item ++ b8 left)
  | 2 => s.fault true 0 blkEcc 0x0702 0 (b32 item)
  | 4 => s.fault true 0 blkSpine 0x0605 (item % 4) (b8 (item % 4))
  | 5 => s.fault true 3 blkForager 0x0440 0 (b8 item ++ b16 d)
  | 6 => (s.onChan item fun c => { c with comparator := true }).latch true 3 blkChan 0x0441 item (b8 item)
  | 7 => (s.onChan item fun c => { c with offCheck := .window }).evOffCheck item r.detail
  | 8 => ((s.append true 3 blkChan .gateFail item (b16 d)).lockChan item 1).redistribute
  | 9 => s.tapFound item d false
  | 10 => s.evHoldCell item d
  | 11 => s.fault true 0 blkSpine 0x0606 (item % 256) (b8 item ++ b8 (item / 256) ++ b16 d)
  | 12 => s.latch true 3 blkForager 0x070C 0 (b16 item)
  | _ => s

/-- What a failure of tests 3 and 4 does besides entries: the PARITY reset, and a redistribution or reload (R31, R120,
R280). The slice's detail names the die of test 3. -/
def State.findingActs (s : State) (r : SliceResult) : State :=
  let die := r.detail.toNat % 4
  match r.test with
  | 3 =>
    if die = 0 then s.evParityHive (r.item.setWidth 16) else s.evParityDie die (r.item.setWidth 16)
  | 4 => s.startRound 3 .nothing []
  | _ => s

/-- A failed check: `FORAGER_FAIL` and the entries of its test, once per boot for each test and item (R281). -/
def State.finding (s : State) (r : SliceResult) : State :=
  let key := (r.test, r.item.toNat)
  let s := s.onForager fun f =>
    { f with failing := f.failing ||| (1#13 <<< r.test),
             firstFail := if f.firstFail.isNone then some (r.item, testFault r.test) else f.firstFail }
  let s :=
    if s.forager.recorded.contains key then s
    else
      let s := s.onForager fun f => { f with recorded := f.recorded ++ [key] }
      (s.foragerFail r.test r.item (testFault r.test)).findingEntries r
  s

/-- FORAGER_SLICE (R278 to R283): it runs only while the interpreter has no input to take. -/
def State.evSlice (s : State) (r : SliceResult) : State :=
  if s.foragerOn && s.forager.item && s.forager.test == r.test && s.mode.tests r.test && s.io.waiting.isEmpty then
    let s := s.onForager fun f => { f with slices := f.slices + 1 }
    let r := { r with result := s.sliceResult r }
    let found := r.result == 1
    let s := if found then s.finding r else if r.result == 0 then s.passed r else s
    let s := if r.last then (s.testRecord r).toTest (s.nextTest r.test) else s
    if found then s.findingActs r else s
  else s

/-- ECC_ERROR_NONCRITICAL (R85). -/
def State.evEccError (s : State) (addr : Word) : State := s.fault true 0 blkEcc 0x0702 0 (b32 addr.toNat)

/-! SERVICE tests (R285, Table 13-4). -/

/-- A test number of Table 13-4. -/
def testKnown (n : Nat) : Bool := (decide (1 ≤ n) && decide (n ≤ 12)) || (decide (0x20 ≤ n) && decide (n ≤ 0x25))

/-- A test's argument is one that Table 13-4 gives it; tests 1 to 5 and 10 to 12 have neither channel nor tap and take
any (DESIGN CHOICE, log 45). -/
def testArgOk (n : Nat) (arg : Word) : Bool :=
  let a := arg.toNat
  let all := a == 0xFFFFFFFF
  match n with
  | 6 => all || isChan a
  | 7 => all || isIntegrated a
  | 8 => all || isExternal a
  | 9 => all || decide (a ≤ 6)
  | 0x20 | 0x22 => a == 0
  | 0x21 => decide (a < 0x10000) && decide (1 ≤ a % 256) && decide (a % 256 ≤ 12)
  | 0x23 => decide (a ≤ 2)
  | 0x24 => isPort a
  | 0x25 => decide (a ≤ 4)
  | _ => true

/-- The subjects that a running test holds (Table 13-4). -/
def testHolds (n : Nat) (arg : Word) (subj : Subject) : Bool :=
  let a := arg.toNat
  let all := a == 0xFFFFFFFF
  let chans := fun (lo hi : Nat) => match subj with
    | .port p => decide (lo ≤ p) && decide (p ≤ hi) && (all || p == a)
    | .aux c => decide (lo ≤ c) && decide (c ≤ hi) && (all || c == a)
    | _ => false
  match n with
  | 6 => chans 1 24
  | 7 => chans 1 12
  | 8 => chans 13 24
  | 9 | 10 | 0x22 => subj == .honeystore
  | 0x20 => subj != .nothing
  | 0x21 => subj == .port (a % 256)
  | 0x24 => subj == .port a
  | 0x25 => subj == .segment a
  | _ => false

/-- A subject is held by the TEST_RUN that is pending. -/
def State.heldByTest (s : State) (subj : Subject) : Bool :=
  s.hasOp .test && testHolds s.forager.runTest s.forager.runArg subj

/-- TEST_RUN's effect. -/
def State.doTestRun (s : State) (n : Nat) (arg : Word) : State :=
  s.onForager fun f => { f with runTest := n, runArg := arg, runState := 1, runItem := 0 }

/-- The reply of TEST_STATUS. -/
def State.testReply (s : State) (n : Nat) : List Byte :=
  if s.forager.runTest = n then b8 s.forager.runState ++ b32 s.forager.runItem.toNat else List.replicate 5 0

/-- TEST_COMPLETE: a failure has its `FORAGER_FAIL`; test 0x20 ends by the L1 TEST reset, its result kept. -/
def State.evTestComplete (s : State) (passed : Bool) (item : Word) : State :=
  match s.opOf .test with
  | none => s
  | some o =>
    let n := s.forager.runTest
    let s := s.onForager fun f => { f with runState := if passed then 2 else 3, runItem := if passed then 0 else item }
    let old := s.led.tag
    let s := if passed then s else ((s.tagged o.tag).foragerFail n item 0).tagged old
    if n = 0x20 then s.beginL1 10 0x20 else s.endOps .test (if passed then .done else .fault) true

/-- The reply of HEALTH_READ: records from a number on, up to a count, to the newest; none where the number is not
held. -/
def State.healthReply (s : State) (first count : Nat) : Option (List Byte) :=
  let rest := s.forager.log.dropWhile fun h => h.number != first
  if rest.isEmpty then none else some (recordReply ((rest.take count).map (·.bytes)))

/-! JTAG (R76, R286, R311). -/

/-- The test access port works: everywhere but without supply, in OFF, and with TEST_EN high. -/
def State.jtagUp (s : State) : Bool :=
  match s.phase with
  | .unpowered | .testHeld | .off => false
  | _ => true

/-- EXTEST and INTEST are carried out only in SERVICE or while Hive is held under R76. -/
def State.scanAllowed (s : State) : Bool := s.mode == .service || s.phase == .noClock

/-- Leaving EXTEST is an L1 TEST reset with detail 0xFF. -/
def State.leaveExtest (s : State) : State := if s.io.jtag = 3 then s.beginL1 10 0xFF else s

/-- An instruction taken by the register, with what is captured next. -/
def State.jtagTo (s : State) (instr : Nat) (a : Answer) : State :=
  if s.jtagUp then (s.leaveExtest.onIo fun io => { io with jtag := instr }).answering a else s

/-- JTAG_IDCODE, JTAG_BYPASS and JTAG_SAMPLE_PRELOAD; the IDCODE is a free value (log 1). -/
def State.evIdcode (s : State) : State := s.jtagTo 0 (.capture 32 Config.idcode.toNat)
def State.evBypass (s : State) : State := s.jtagTo 1 (.capture 1 0)
def State.evSample (s : State) : State := s.jtagTo 2 (.capture 4 1)

/-- JTAG_EXTEST: in SERVICE it asserts SB_OFF; where it may not be carried out, BYPASS takes its place. -/
def State.evExtest (s : State) : State :=
  if !s.jtagUp || s.io.jtag = 3 then s
  else if !s.scanAllowed then s.jtagTo 1 (.capture 4 5)
  else
    let s := (s.onIo fun io => { io with jtag := 3 }).answering (.capture 4 1)
    if s.mode == .service then
      ((s.onSpine fun sp => { sp with extestOff := true }).sbOffAll .fault true).redistribute
    else s

/-- JTAG_INTEST. -/
def State.evIntest (s : State) : State := if s.scanAllowed then s.jtagTo 4 (.capture 4 1) else s.jtagTo 1 (.capture 4 5)

/-- JTAG_EXTEST_EXIT. -/
def State.evExtestExit (s : State) : State :=
  if s.jtagUp && s.io.jtag == 3 then s.leaveExtest.onIo fun io => { io with jtag := 1 } else s

/-! VIO33 (R305). -/

/-- VIO33_LOW and VIO33_RESTORED: the GPIO pads are hi-Z, and return to their latch or fuse state. -/
def State.evVio33 (s : State) (low : Bool) : State := s.onEmber fun e => { e with vio33Low := low }

end Sys2Proof.Machine
end

