-- ==== Sys2Proof/Machine/Interp.lean ====
section
/-! DEFINITION. The command interpreter: the checks of Table 03-4 in their order, what each command does once it is admitted, and its reply and `CMD_APPLIED` (R36, R50, R51, R63 to R69, Table 03-6). -/

namespace Sys2Proof.Machine

/-! WRONG_MODE (Tables 01-6, 03-4). -/

/-- The families that SAFE admits. -/
def safeFamily (f : Nat) : Bool := f == 0 || f == 6 || f == 8 || f == 9

/-- The parameter that a PARAM_SET names is RW-ONCE. -/
def Command.setsOnce (c : Command) : Bool :=
  c.op == .paramSet && c.has 0 2 && match c.param with
    | some p => p.info.access == .rwOnce
    | none => false

/-- A command on a subject that CRANK has shed. -/
def State.onShed (s : State) (c : Command) : Bool :=
  (c.op == .chanOn || c.op == .portEnable) && c.has 0 1 && isPort (c.p 0) && (s.port (c.p 0)).shed

/-- The command is not admitted in the current mode. -/
def State.wrongMode (s : State) (c : Command) : Bool :=
  (s.mode == .safe && !safeFamily c.op.family)
    || (s.mode == .standalone && c.op.family == 2 && c.op != .portStatus)
    || (s.mode == .crank && s.onShed c)
    || (s.mode != .service && (c.op == .testRun || c.setsOnce))

/-! STALE (R63). -/

/-- COND is set and COND_LSN is not the head. -/
def State.stale (s : State) (c : Command) : Bool :=
  match c.cond with
  | some l => l != s.head
  | none => false

/-! Configuration write sessions (R64, R134). -/

/-- The command is a configuration write command. -/
def Opcode.writesConfig (o : Opcode) : Bool := o == .cfgWriteBegin || o == .cfgWriteData || o == .cfgWriteCommit

/-- The session that is open is the client's. -/
def State.ownsSession (s : State) (cl : Client) : Bool :=
  match s.cfg.session with
  | some x => x.owner == cl
  | none => false

/-- A configuration write command from a client other than the owner of the open session. -/
def State.foreignWrite (s : State) (cl : Client) (c : Command) : Bool :=
  c.op.writesConfig && s.cfg.session.isSome && !s.ownsSession cl

/-! BAD_INDEX (R51, R271, R285, R293, R330). -/

/-- An index that the block of PARAM_GET_BLOCK has (Table 15-1). -/
def blockIndexOk (block i : Nat) : Bool := (Param.block block).any fun p => p.indexOk i

/-- The newest result of a segment with a tag (R256). -/
def Seg.resultOf (g : Seg) (tag : Nat) : Option Result := g.results.reverse.find? fun r => r.tag.toNat == tag

/-- A slot of Q61 or Q62 is held. -/
def State.slotHeld (s : State) (source slot : Nat) : Bool :=
  if source = 1 then s.led.q61.any fun r => r.slot == slot else s.led.q62.any fun m => m.slot == slot

/-- A field that lies within the bytes received names a thing that is not there. -/
def State.badIndex (s : State) (c : Command) : Bool :=
  let p0 := c.p 0
  let first := c.has 0 1
  match c.op with
  | .portEnable | .portDisable | .portReset | .portSuspend | .portResume | .portStatus | .pdStatus | .pdRenegotiate
  | .pdHardReset | .pdVdmSend | .pdModeEnter | .pdModeExit => first && !isPort p0
  | .chanOn | .chanOff | .chanClearTrip | .chanMeasure => first && !isChan p0
  | .twiXfer | .twiRecover => first && decide (3 < p0)
  | .twiAttnRead =>
    first && (decide (4 < p0)
      || (c.has 1 1 && p0 == 4 && (c.p 1 == 1 || c.p 1 == 2))
      || (c.has 2 2 && decide (p0 < 4) && c.p 1 == 2 && ((s.seg p0).resultOf (c.field 2 2)).isNone))
  | .paramGet | .paramSet | .paramStage =>
    c.has 0 2 && match c.param with
      | some p => c.has 2 1 && !p.indexOk (c.p 2)
      | none => true
  | .paramGetBlock =>
    first && ((Param.block p0).isEmpty || (c.has 1 1 && !blockIndexOk p0 (c.p 1))
      || (c.has 2 2 && decide ((Param.block p0).length < c.p 2 + c.p 3)))
  | .ledgerRead => c.has 2 8 && (p0 == 1 || p0 == 2) && !s.slotHeld p0 (c.field 2 8)
  | .testRun | .testStatus => first && !testKnown p0
  | .holdTapTest => first && decide (s.cells < p0) && p0 != 0xFF
  | .trigLoad | .trigArm | .trigDisarm => first && decide (15 < p0)
  | _ => false

/-! BAD_PARAMETER. -/

/-- The value field of PARAM_SET and PARAM_STAGE. -/
def Command.word (c : Command) (off : Nat) : Word := BitVec.ofNat 32 (c.field off 4)

/-- The value of a PARAM_SET is one that R295 and R95 refuse. -/
def badSet (p : Param) (i : Nat) (v : Word) : Bool :=
  p.badValue i v || (p == .resetBlockRst && !blockRstOk v)

/-- The count that a LEDGER_MARK names is one that the mark may take (R44). -/
def State.markOk (s : State) (lsn : Nat) : Bool :=
  lsn / 2 ^ 48 == s.led.boot.toNat && decide (s.led.mark ≤ lsn % 2 ^ 48) && decide (lsn % 2 ^ 48 ≤ s.headCount)

/-- The objects of a PD_VDM_SEND. -/
def Command.objects (c : Command) : List Word := (List.range (c.p 2)).map fun i => c.word (4 + 4 * i)

/-- A field is out of range, a reserved byte or bit is not zero, or PLEN does not match. -/
def State.badParameter (s : State) (cl : Client) (c : Command) : Bool :=
  let p := c.p
  !c.lengthOk || match c.op with
  | .reset =>
    decide (2 < p 0) || (p 0 != 0 && (p 1 == 0 || decide (3 < p 1))) || (p 0 == 2 && !maskOk (p 1) (c.field 2 4))
  | .modeRequest => p 0 != 0 && p 0 != 3
  | .paramSet =>
    p 3 != 0 || match c.param with
      | some q => badSet q (p 2) (c.word 4)
      | none => false
  | .paramStage =>
    p 3 != 0 || match c.param with
      | some q => q.badValue (p 2) (c.word 4) || s.stageClash q (p 2) (c.word 4)
      | none => false
  | .paramGetBlock => p 3 == 0 || decide (32 < p 3)
  | .paramCommit => decide (1 < p 0)
  | .pdVdmSend => decide (2 < p 1) || p 2 == 0 || decide (7 < p 2) || p 3 != 0
  | .pdModeEnter =>
    p 1 != 0 || (p 5 != 2 && p 5 != 3 && p 5 != 0xFF) || (p 5 != 0xFF && c.field 2 2 != s.nat .vdmWaggleSvid 0)
  | .twiXfer => !addressOk (p 1) || decide (1 < p 2) || decide (256 < c.field 4 2)
  | .twiAttnRead => decide (2 < p 1) || (p 1 != 2 && c.params.length != 2)
  | .ledgerRead => decide (4 < p 0) || p 1 == 0 || decide (31 < p 1)
  | .ledgerMark => !s.markOk (c.field 0 8)
  | .voteSet | .voteClear => decide (15 < p 0)
  | .plSet => decide (3 < p 0)
  | .cfgRead =>
    decide (1 < p 0) || p 1 != 0 || c.field 6 2 == 0 || decide (1006 < c.field 6 2)
      || decide (65536 < c.field 2 4 + c.field 6 2)
  | .cfgWriteBegin => decide (c.field 0 4 < 108) || decide (65520 < c.field 0 4)
  | .cfgWriteData =>
    s.ownsSession cl && match s.cfg.session with
      | some x => c.field 0 4 != x.written || decide (x.len < c.field 0 4 + (c.params.length - 4))
      | none => false
  | .testRun => c.field 1 3 != 0 || !testArgOk (p 0) (c.word 4)
  | .healthRead => p 2 == 0 || decide (31 < p 2) || (s.healthReply (c.field 0 2) (p 2)).isNone
  | .trigLoad => (parseList c.params 968).isNone
  | _ => false

/-! DIE_ABSENT and RESETTING. -/

/-- The port whose logic a command's subject is: none for a channel command, whose block lies on Forge. -/
def Command.portLogic (c : Command) : Option Nat :=
  if c.op.family = 2 ∨ c.op.family = 4 then some (c.p 0) else none

/-- The port or channel n that a command names as one subject (R66, Table 03-4). -/
def Command.portSubject (c : Command) : Option Nat :=
  let a := (c.word 4).toNat
  match c.op.family, c.op with
  | 2, _ | 4, _ => some (c.p 0)
  | 3, _ => if isPort (c.p 0) then some (c.p 0) else none
  | _, .testRun =>
    if c.p 0 = 6 ∨ c.p 0 = 7 ∨ c.p 0 = 8 ∨ c.p 0 = 0x24 then (if isPort a then some a else none)
    else if c.p 0 = 0x21 then some (a % 256) else none
  | _, _ => none

/-- The subject of a command lies on a quarantined or absent die; PORT_STATUS reports it instead (Table 03-6). -/
def State.dieAbsent (s : State) (c : Command) : Bool :=
  match c.op with
  | .portStatus => false
  | .reset =>
    c.p 0 != 0 && ((s.link (linkOfDie (c.p 1))).lost || (c.p 0 == 2 && s.dieGone (c.p 1)))
  | .holdStatus | .holdTapTest => s.dieGone 3
  | .twiXfer | .twiRecover | .twiAttnRead => decide (1 ≤ c.p 0) && decide (c.p 0 ≤ 3) && s.dieGone 3
  | .testRun =>
    (c.p 0 == 0x23 && s.dieGone ((c.word 4).toNat + 1)) || match c.portSubject with
      | some n => s.dieGone (combOf n)
      | none => false
  | _ =>
    (c.op.family == 3 && s.dieGone 3) || match c.portSubject with
      | some n => s.dieGone (combOf n)
      | none => false

/-- The port logic of a port is inside a reset (R96). -/
def State.portDown (s : State) (n : Nat) : Bool :=
  let d := combOf n
  s.blockDown d blkUsb2 || s.blockDown d blkUsb3 || s.blockDown d blkPd

/-- A block of a mask is closed. -/
def State.maskClosed (s : State) (die mask : Nat) : Bool :=
  let d := s.die die
  d.resetting || ((d.blocks ||| d.clockDead) &&& BitVec.ofNat 18 mask) != 0

/-- The subject's block is inside a Tongs reset (R90, R96). -/
def State.resettingNow (s : State) (c : Command) : Bool :=
  match c.op with
  | .reset =>
    let d := s.die (c.p 1)
    if c.p 0 = 1 then d.resetting && d.clockDead == 0 && !d.quarantined
    else c.p 0 == 2 && s.maskClosed (c.p 1) (c.field 2 4)
  | .holdStatus | .holdTapTest => s.blockDown 3 blkStore
  | .twiXfer | .twiRecover | .twiAttnRead => decide (c.p 0 ≤ 3) && s.segDown (c.p 0)
  | .testRun => (testBlocks (c.p 0) (c.word 4)).any fun x => s.blockDown x.1 x.2
  | _ =>
    (c.op.family == 3 && s.blockDown 3 blkChan) || match c.portLogic with
      | some n => s.portDown n && !(c.op == .portStatus && s.dieGone (combOf n))
      | none => false

/-! LOCKED. -/

/-- The lock that Table 03-4 names. -/
def State.lockedNow (s : State) (cl : Client) (c : Command) : Bool :=
  match c.op with
  | .chanOn => (s.chan (c.p 0)).state == .locked
  | .twiXfer => (s.seg (c.p 0)).held
  | .paramSet => c.setsOnce && s.ember.fuseBurn != 0
  | .serviceEnter => cl == .c1 && decide (3 ≤ s.pw.serviceTries)
  | _ => false

/-! BUSY_SUBJECT (R66, R134, R136, R285). -/

/-- The commands that a pending operation never makes answer BUSY_SUBJECT (R66). -/
def Opcode.neverBusy (o : Opcode) : Bool :=
  o.readOnly || o == .chanOff || o == .portDisable || o == .pdHardReset || o == .twiRecover

/-- The subject has a pending operation, or a queue or area is full. -/
def State.busyNow (s : State) (c : Command) : Bool :=
  let t := c.target
  !c.op.neverBusy && (s.heldByTest t || match c.op with
    | .reset => c.p 0 != 0 && s.hasOp t
    | .modeRequest => c.p 0 == 3 && s.hasOp .test
    | .paramStage =>
      s.hasOp .configuration || decide (64 ≤ s.prm.staged.length) && match c.param with
        | some p => s.stageTakes p (c.p 2) (c.word 4)
        | none => false
    | .portReset => s.hasOp t || (s.port (c.p 0)).bus.reset == .host
    | .twiXfer => decide (16 ≤ (s.seg (c.p 0)).queue.length) || (s.seg (c.p 0)).recoverOp.isSome
    | .cfgWriteBegin => false
    | .testRun => s.hasOp .test || s.openOps.any fun o => testHolds (c.p 0) (c.word 4) o.subject
    | .trigLoad =>
      match bankGet s.trig.lists (c.p 0) none with
      | some l => l.armed
      | none => false
    | _ => c.behind || (t != .nothing && s.hasOp t))

/-! REFUSED_POLICY. -/

/-- The families allowed to a client; C2 is allowed every one (Table 15-10). -/
def State.families (s : State) (cl : Client) : Word :=
  match cl with
  | .c0 => s.value .cmdC0Families 0
  | .c1 => s.value .cmdC1Families 0
  | .c3 => s.value .cmdC3Families 0
  | .c2 => 0xFFFFFFFF

/-- The service code of a SERVICE_ENTER is the one that its client needs (R67, R131). The code of zero of C3 is eight bytes
0x00, although Table 03-6 gives p0 to p7 as ASCII digits (DEDUCED, log 99). -/
def State.codeRight (s : State) (cl : Client) (code : List Byte) : Bool :=
  match cl with
  | .c3 => code == List.replicate 8 0
  | .c1 => s.cfg.applied.serviceCode != [] && code == s.cfg.applied.serviceCode
  | _ => false

/-- `VDM.WAGGLE_TETHER` allows a tether of a port to a segment (Table 09-8). -/
def State.tetherAllowed (s : State) (port seg : Nat) : Bool :=
  seg == 0xFF || (s.value .vdmWaggleTether 0).getLsbD (if seg = 2 then port - 1 else port + 15)

/-- A structured Enter Mode or Exit Mode (R206). -/
def modeCommand (h : Word) : Bool := vdmStructured h && (vdmCmd h == 4 || vdmCmd h == 5)

/-- The configuration, the access class, the client or the service code forbids the command. -/
def State.refusedPolicy (s : State) (cl : Client) (c : Command) : Bool :=
  let p0 := c.p 0
  !(s.families cl).getLsbD c.op.family || match c.op with
  | .serviceEnter => !s.codeRight cl c.params
  | .paramSet =>
    match c.param with
    | some p => !p.settable || (p.info.access == .rwOnce && s.cfg.applied.intents.isNone)
    | none => false
  | .paramStage =>
    match c.param with
    | some p => p.info.access != .rwStaged
    | none => false
  | .chanOn => s.cfg.state == .defaults || (isPort p0 && !(s.port p0).attached)
  | .pdRenegotiate => s.cfg.state == .defaults
  | .portSuspend => s.hub.configured2
  | .pdVdmSend => modeCommand (c.objects.headD 0)
  | .pdModeEnter =>
    let seg := c.p 5
    s.cfg.state == .defaults || (s.port p0).pd.mode.isSome || !s.tetherAllowed p0 seg
      || (seg != 0xFF && s.tetheredElsewhere p0 seg)
  | .twiXfer => !s.segEnabled p0
  | .holdTapTest => s.cells == 0
  | .cfgWriteData | .cfgWriteCommit => s.cfg.session.isNone
  | _ => false

/-! REFUSED_BUDGET and FAULT. -/

/-- CHAN_ON would reserve less than 4.5 W (R226). -/
def State.refusedBudget (s : State) (c : Command) : Bool :=
  c.op == .chanOn && isPort (c.p 0) && !(s.chan (c.p 0)).state.conducts && (s.reserve (c.p 0) true).isNone

/-- A fault state that forbids CHAN_ON (R222, R225, R227, R331, Table 13-2). -/
def State.chanFaulted (s : State) (ch : Nat) : Bool :=
  let x := s.chan ch
  !x.state.conducts && (x.state == .retryWait || x.refused || x.comparator || s.sbOff || (isPort ch && !s.railUp 0))

/-- The subject is in a state that forbids the action. A PD_MODE_ENTER with object position 0, which names no mode, answers FAULT:
the spec gives p4 no range (DESIGN CHOICE, log 100). -/
def State.faultNow (s : State) (c : Command) : Bool :=
  let p0 := c.p 0
  let q := s.port p0
  let noContract := !q.explicit || q.pd.fallback
  match c.op with
  | .chanOn => s.chanFaulted p0
  | .pdRenegotiate => !s.pdOn p0 || !q.pd.vsafe
  | .pdHardReset => !q.attached || !(s.chan p0).state.conducts || !s.pdOn p0
  | .pdVdmSend => noContract || (c.p 1 != 0 && !q.vconn)
  | .pdModeEnter => noContract || c.p 4 == 0
  | .pdModeExit => q.pd.mode.isNone
  | .twiRecover => !s.segEnabled p0
  | .cfgApply => s.slotsValid == 0
  | _ => false

/-! The order of the checks (R64). -/

/-- The first status of Table 03-4 whose condition holds, if one does. -/
def State.refusal (s : State) (cl : Client) (c : Command) : Option Status :=
  if s.wrongMode c then some .wrongMode
  else if s.stale c then some .stale
  else if s.foreignWrite cl c then some .busySubject
  else if s.badIndex c then some .badIndex
  else if s.badParameter cl c then some .badParameter
  else if s.dieAbsent c then some .dieAbsent
  else if s.resettingNow c then some .resetting
  else if s.lockedNow cl c then some .locked
  else if s.busyNow c then some .busySubject
  else if s.refusedPolicy cl c then some .refusedPolicy
  else if s.refusedBudget c then some .refusedBudget
  else if s.faultNow c then some .fault
  else none

/-! What a command answers when no check refuses it (Table 03-6). -/

/-- A command that starts an operation answers PENDING. -/
def State.success (s : State) (c : Command) : Status :=
  match c.op with
  | .reset => if c.p 0 = 0 then .done else .pending
  | .paramCommit => if c.p 0 = 1 ∨ s.prm.staged = [] then .done else .pending
  | .portReset | .portSuspend | .portResume | .pdRenegotiate | .pdHardReset | .pdVdmSend | .pdModeEnter | .pdModeExit
  | .twiXfer | .twiRecover | .cfgWriteBegin | .cfgWriteCommit | .cfgApply | .testRun | .holdTapTest => .pending
  | _ => .done

/-- The reply of LEDGER_READ (R329, R330). -/
def State.ledgerReply (s : State) (source count first : Nat) : List Byte :=
  match source with
  | 0 =>
    let held := s.led.ring.reverse.filter fun e => atOrAfter first (lsn64 s.led.boot e.count).toNat
    recordReply ((held.take count).map (·.bytes s.led.boot))
  | 1 => recordReply (((s.led.q61.dropWhile fun r => r.slot != first).take count).map (·.bytes s.led.boot))
  | 2 => recordReply (((s.led.q62.dropWhile fun m => m.slot != first).take count).map (·.bytes))
  | 3 => recordReply (pickEntries s.retainedEntries first count)
  | _ => recordReply (pickEntries s.tailEntries first count)

/-- The reply of TWI_ATTN_READ (R256). -/
def State.attnReply (s : State) (seg item tag : Nat) : List Byte :=
  let g := s.seg seg
  let give := fun (tag : Nat) (st : Nat) (l : List Byte) => b16 l.length ++ b16 tag ++ b8 st ++ l
  match item with
  | 0 => give 0xFFFF 0 (g.mailbox.getD [])
  | 1 =>
    match g.attn with
    | some (st, l) => give 0xFFFF (if st = 0 then Status.done.code else Status.fault.code) l
    | none => give 0xFFFF 0 []
  | _ =>
    match g.resultOf tag with
    | some r => give r.tag.toNat r.status.code r.bytes
    | none => []

/-- The payload of a command that answers DONE, as the device stands when it takes it; measurements are sampled
(R300). Ports and contracts are reported as they stood at the last entry (R41; log 87). -/
def State.payload (s : State) (c : Command) : List Byte × State :=
  let p0 := c.p 0
  match c.op with
  | .echo => (c.params, s)
  | .identify => (s.identity, s)
  | .queueStatus => (s.queueReply, s)
  | .paramGet =>
    match c.param with
    | some p => s.paramReply p (c.p 2)
    | none => ([], s)
  | .paramGetBlock => s.blockReply p0 (c.p 1) (c.p 2) (c.p 3)
  | .portStatus => (s.reported.portReply p0, s)
  | .chanMeasure => s.measureReply p0
  | .pdStatus => (s.reported.pdReply p0, s)
  | .twiAttnRead => (s.attnReply p0 (c.p 1) (c.field 2 2), s)
  | .ledgerRead => (s.ledgerReply p0 (c.p 1) (c.field 2 8), s)
  | .ledgerHead => (s.headReply, s)
  | .pstateStatus => (s.pstateReply, s)
  | .cfgRead => (s.flashBytes (slotBase p0 + c.field 2 4) (c.field 6 2), s)
  | .testStatus => (s.testReply p0, s)
  | .healthRead => ((s.healthReply (c.field 0 2) (c.p 2)).getD [], s)
  | .holdStatus => s.holdReply
  | _ => ([], s)

/-! The effects. -/

/-- LEDGER_MARK (R44, R45, R68): the mark, and what it frees. -/
def State.doMark (s : State) (count : Nat) : State :=
  s.onLed fun l =>
    { l with mark := count, q61Open := l.q61Open && l.mark == count,
             q61 := l.q61.filter fun r => decide (count < r.last),
             q62 := l.q62.filter fun m => decide (count < m.entry) }

/-- RESET of scope 1: a quarantine is released with the reset (R122); a die that is absent for its clock alone takes part
again (R90). -/
def State.doResetDie (s : State) (die : Nat) (tag : BitVec 16) (external : Bool) : State :=
  let s := s.onDie die fun d => { d with quarantined := false, absent := false, awaited := 0 }
  s.resetDie die 4 tag.toNat external false

/-- RESET of scope 2 (R95). -/
def State.doResetBlocks (s : State) (die mask : Nat) (tag : BitVec 16) (external : Bool) : State :=
  (s.onDie die fun d => { d with awaited := BitVec.ofNat 18 mask }).resetBlocks die mask tag external false

/-- PARAM_SET: a `CRITICAL` value goes to its mirrors too (R31, R299). -/
def State.doSet (s : State) (c : Command) (external : Bool) : State :=
  match c.param with
  | some .resetBlockRst => s.doBlockRst (c.word 4) c.tag external
  | some p => (s.doParamSet p (c.p 2) (c.word 4)).when p.info.critical State.mirrored
  | none => s

/-- PARAM_COMMIT (R298). -/
def State.doCommit (s : State) (discard : Bool) : State :=
  if discard then s.discardStaged
  else if s.prm.staged = [] then s
  else if s.commitOk then s.startRound 2 .commit []
  else s.discardStaged.endOps .configuration .badParameter false

/-- CFG_APPLY (R129, R135). -/
def State.doApply (s : State) : State :=
  let s := s.selected
  s.startRound 1 (.apply (s.loadOf s.selectSlot.1)) []

/-- CFG_WRITE_BEGIN (R132, R134): the trailer's sector is erased first; the erase ends at CFG_ERASE_DONE. -/
def State.doBegin (s : State) (cl : Client) (len : Nat) : State :=
  let slot := if s.cfg.applied.slot = 0 then 1 else 0
  let s := s.onCfg fun c =>
    { c with session := some { owner := cl, slot := slot, len := len, written := 0, erasing := true, committing := false } }
  s.eraseFlash (slotBase slot + 0xF000) 0x1000

/-- CFG_WRITE_DATA (R132). -/
def State.doData (s : State) (bytes : List Byte) : State :=
  match s.cfg.session with
  | some x =>
    let s := s.programFlash (slotBase x.slot + x.written) bytes
    s.onCfg fun c => { c with session := some { x with written := x.written + bytes.length } }
  | none => s

/-- CFG_WRITE_COMMIT (R129, R132, R133): a failed check ends the command at once, and the session stays open. -/
def State.doCommitImage (s : State) : State :=
  match s.cfg.session with
  | some x =>
    let code := s.commitCode x
    let s := s.selected.onCfg fun c => { c with commitResult := code, session := some { x with committing := code == 0 } }
    if code = 0 then s else s.endOps .session .fault false
  | none => s

/-- TWI_RECOVER (R268): what runs and waits on the segment ends, and the recovery waits for a free bus. -/
def State.doRecover (s : State) (n : Nat) (op : PendingOp) : State :=
  let old := (s.seg n).recoverOp
  let ts := (s.seg n).transfers
  let s := s.onSeg n fun g =>
    { g with running := none, queue := [], attention := false, stretched := false, recovery := .waitFree, pulsesDone := 0,
             recoverOp := some op }
  let s := ts.foldl (fun s t => s.endTransfer n t .stale [] false) s
  match old with
  | some o => s.completion o .stale false
  | none => s

/-- The transfer of a TWI_XFER. -/
def Command.transfer (c : Command) (op : PendingOp) : Transfer :=
  { op := op, addr := c.p 1, repeated := c.p 2 == 1, write := c.params.drop 6, read := c.field 4 2, losses := 0,
    surplus := [], fetch := 0, rate := 0 }

/-- TRIG_LOAD (R73). -/
def State.doTrigLoad (s : State) (params : List Byte) : State :=
  match parseList params 968 with
  | some (n, t) =>
    { s with trig := { s.trig with lists := bankSet s.trig.lists n (some { t with armed := false, fromLoad := true }) } }
  | none => s

/-- TRIG_ARM and TRIG_DISARM: nothing refuses them on an empty list, which matches no entry (log 49). -/
def State.doArm (s : State) (n : Nat) (on : Bool) : State :=
  let t := (bankGet s.trig.lists n none).getD TrigList.empty
  { s with trig := { s.trig with lists := bankSet s.trig.lists n (some { t with armed := on }) } }

/-- What a command that is not refused does after its `CMD_APPLIED`; an operation that it ends ends before its own
begins (R66). -/
def State.effect (s : State) (cl : Client) (c : Command) (op : PendingOp) : State :=
  let p0 := c.p 0
  let begin := fun s : State => { s with ops := s.ops ++ [op] }
  let ext := cl != .c2
  match c.op with
  | .reset =>
    if p0 = 0 then s.onPw fun w => { w with resetTag := some (w.resetTag.getD c.tag) }
    else if p0 = 1 then (begin s).doResetDie (c.p 1) c.tag ext
    else (begin s).doResetBlocks (c.p 1) (c.field 2 4) c.tag ext
  | .modeRequest => if p0 = 0 then s.beginShutdown else s.setService false
  | .serviceEnter => s.setService true
  | .paramSet => s.doSet c ext
  | .paramStage =>
    match c.param with
    | some p => s.doParamStage p (c.p 2) (c.word 4)
    | none => s
  | .paramCommit => if s.success c = .pending then (begin s).doCommit false else s.doCommit (p0 == 1)
  | .portEnable => s.doPortEnable p0
  | .portDisable => s.doPortDisable p0
  | .portReset => (begin s).doPortReset p0
  | .portSuspend => (begin s).doPortSuspend p0
  | .portResume => (begin s).doPortResume p0
  | .chanOn => s.doChanOn p0
  | .chanOff => s.doChanOff p0
  | .chanClearTrip => s.doClearTrip p0
  | .pdRenegotiate => (begin s).doRenegotiate p0 (c.flags.getLsbD 1)
  | .pdHardReset => (begin (s.endOps (.port p0) .stale false)).doPdHardReset p0
  | .pdVdmSend => (begin s).doVdmSend p0 (c.p 1) c.objects
  | .pdModeEnter => (begin s).modeNext p0 (c.field 2 2) (c.p 4) (c.p 5) false
  | .pdModeExit => (begin s).doModeExit p0
  | .twiXfer => s.onSeg p0 fun g => { g with queue := g.queue ++ [c.transfer op] }
  | .twiRecover => s.doRecover p0 op
  | .ledgerMark => s.doMark (c.field 0 8 % 2 ^ 48)
  | .voteSet => s.setVotes (BitVec.ofNat 4 p0)
  | .voteClear => s.clearVotes (BitVec.ofNat 4 p0)
  | .plSet => s.setLevel p0
  | .padRelease => s.releasePads
  | .cfgWriteBegin => (begin (s.endOps .session .stale false)).doBegin cl (c.field 0 4)
  | .cfgWriteData => s.doData (c.params.drop 4)
  | .cfgWriteCommit => (begin s).doCommitImage
  | .cfgApply => (begin s).doApply
  | .testRun => (begin s).doTestRun p0 (c.word 4)
  | .holdTapTest => (begin s).doTapTest p0
  | .trigLoad => s.doTrigLoad c.params
  | .trigArm => s.doArm p0 true
  | .trigDisarm => s.doArm p0 false
  | _ => s

/-! What ends the steps of a configuration write session (R132, R134). -/

/-- The trailer of an image (Table 06-5). -/
def trailerBytes (img : List Byte) : List Byte :=
  withCrc32 ([0x4E, 0x58, 0x43, 0x54] ++ b32 (imageSeq img) ++ b32 (imageCrc img))

/-- CFG_ERASE_DONE: the other fifteen sectors are erased too. -/
def State.evEraseDone (s : State) : State :=
  match s.cfg.session with
  | some x =>
    if x.erasing then
      let s := s.onCfg fun c => { c with session := some { x with erasing := false } }
      (s.eraseFlash (slotBase x.slot) 0xF000).endOps .session .done true
    else s
  | none => s

/-- CFG_TRAILER_READBACK: a trailer that reads back closes the session; one that does not leaves it open, and the slot not
valid. -/
def State.evTrailerReadback (s : State) (ok : Bool) : State :=
  match s.cfg.session with
  | some x =>
    if !x.committing then s
    else if ok then
      let s := s.programFlash (slotBase x.slot + 0xFFF0) (trailerBytes (s.flashBytes (slotBase x.slot) x.len))
      (s.selected.onCfg fun c => { c with session := none }).endOps .session .done true
    else
      (s.onCfg fun c => { c with session := some { x with committing := false }, commitResult := 10 }).endOps .session .fault
        true
  | none => s

/-- CFG_SESSION_END: `CFG.SESSION_TIMEOUT` has passed with no command of the session pending. -/
def State.evSessionEnd (s : State) : State :=
  match s.cfg.session with
  | some x =>
    if s.hasOp .session then s
    else
      (s.onCfg fun c => { c with session := none }).append true 0 blkCfg .cfgSessionEnd 0
        (b8 0 ++ b8 x.owner.code ++ b8 x.slot ++ b16 x.written)
  | none => s

/-! Taking a command (R36, R40, R50). -/

/-- The die that carries out a command on its subject; Hive's own commands go over no link (R10). -/
def Command.orderedTo (c : Command) : Option Nat :=
  match c.op with
  | .chanOn | .chanOff | .chanClearTrip | .holdTapTest => some 3
  | .twiXfer | .twiRecover => if 1 ≤ c.p 0 ∧ c.p 0 ≤ 3 then some 3 else none
  | .reset => if c.p 0 = 0 then none else some (c.p 1)
  | _ => if c.op.family = 2 ∨ c.op.family = 4 then some (combOf (c.p 0)) else none

/-- The order to that die: a CONTROL frame (R10, R12). -/
def State.ordered (s : State) (c : Command) : State :=
  match c.orderedTo with
  | some d => s.sendFrame d .control (.order c.op c.subject)
  | none => s

/-- A reply joins its client's queue (R61); those of C2 are drained at once (R19, R71). -/
def State.reply (s : State) (cl : Client) (r : Reply) : State :=
  s.onIo fun io =>
    match cl with
    | .c0 => { io with replies0 := io.replies0 ++ [r] }
    | .c1 => { io with replies1 := io.replies1 ++ [r] }
    | .c3 => { io with replies3 := io.replies3 ++ [r] }
    | .c2 => io

/-- `CMD_APPLIED` (Table 02-3). -/
def State.applied (s : State) (cl : Client) (list : Nat) (c : Command) (st : Status) : State :=
  s.append (cl != .c2) 0 blkCmd .cmdApplied c.subject
    (b16 c.op.code ++ b8 cl.code ++ b8 st.code ++ b16 c.crc.toNat ++ b16 c.plen ++ b8 list ++ b8 c.flags.toNat)

/-- The pending operation that a command begins, after its `CMD_APPLIED`. -/
def State.operation (s : State) (cl : Client) (c : Command) : PendingOp :=
  { subject := c.target, number := c.subject, op := c.op, client := cl, tag := c.tag, count := s.headCount,
    quiet := c.flags.getLsbD 2 }

/-- A wrong service code on C1 counts toward the lock (R67); without a code in the configuration there is none to miss
(DEDUCED, log 46). -/
def State.countWrongCode (s : State) (cl : Client) (c : Command) (st : Status) : State :=
  if c.op == .serviceEnter && cl == .c1 && st == .refusedPolicy && s.cfg.applied.serviceCode != [] then
    s.onPw fun w => { w with serviceTries := w.serviceTries + 1 }
  else s

/-- A well-formed command taken: its status, its `CMD_APPLIED`, its reply and its effect. -/
def State.runCommand (s : State) (cl : Client) (list : Nat) (c : Command) : State :=
  let s := s.tagged c.tag
  let s := if cl = .c2 then s else s.onIo fun io => { io with admitted := io.admitted + 1 }
  let answer := fun (s : State) (st : Status) (l : List Byte) =>
    s.reply cl { opcode := BitVec.ofNat 16 c.op.code, status := st, tag := c.tag, lsn := s.head, payload := l }
  match s.refusal cl c with
  | some st =>
    if c.op.readOnly then answer s st []
    else answer ((s.countWrongCode cl c st).applied cl list c st) st []
  | none =>
    if c.op.readOnly then
      let (l, s) := s.payload c
      answer s .done l
    else
      let st := s.success c
      let s := answer (s.applied cl list c st) st []
      (s.ordered c).effect cl c (s.operation cl c)

/-- A reply that is delivered before those that wait in Q52 (chapter 08, the reset of the management function). -/
def State.replyFirst (s : State) (r : Reply) : State := s.onIo fun io => { io with replies0 := r :: io.replies0 }

/-- A malformed packet taken (R65): its `VIOLATION` and its reply. -/
def State.runMalformed (s : State) (cl : ExtClient) (m : Malformed) : State :=
  let s := s.tagged m.tag
  let s := s.onIo fun io => { io with admitted := io.admitted + 1, malformed := io.malformed + 1 }
  let op := m.opcode.getD 0xFFFF
  let s := s.violation 0 blkCmd m.code (extClient cl).code
    (b16 m.received ++ b16 op.toNat ++ b8 (m.flags.getD 0xFF).toNat)
  let r : Reply := { opcode := m.opcode.getD 0, status := m.status, tag := m.tag, lsn := s.head, payload := [] }
  if m.first then s.replyFirst r else s.reply (extClient cl) r

/-- The report of detector events that a die lost (R111). -/
def State.runLost (s : State) (die count : Nat) : State := s.fault true 0 blkSpine 0x0603 die (b16 count)

end Sys2Proof.Machine
end

