-- ==== Sys2Proof/Machine/Transport.lean ====
section
/-! DEFINITION. The transports of the external clients: the management function's endpoints, the SVC window and the JTAG CMD_PORT register (R52 to R58, R177 to R180, R271 to R273). A packet that is whole becomes a waiting input. -/

namespace Sys2Proof.Machine

/-! Packets becoming inputs (R55, R59). -/

/-- Hive's ROM or firmware runs: from step 5 of Table 04-7, outside the sleep states and BANKED. -/
def State.hiveRuns (s : State) : Bool :=
  (match s.phase with
   | .authenticating | .downloading | .verifying | .training | .up => true
   | _ => false)
    && !s.mode.asleep && s.mode != .banked

/-- A submission queue can take a new packet. -/
def State.room (s : State) (c : ExtClient) : Bool := decide (s.io.queued c < 16)

/-- An input joins those that wait. -/
def State.enqueue (s : State) (i : Input) : State := s.onIo fun io => { io with waiting := io.waiting ++ [i] }

/-- A packet as an input: a command, or malformed. -/
def packetInput (c : ExtClient) (l : List Byte) (gap : Bool) : Input :=
  match parsePacket l gap with
  | .inl m => .malformed c m
  | .inr p => .command c p

/-- A partial packet that is discarded is malformed, whatever its bytes would spell (R65; DEDUCED, log 47). -/
def discardedInput (c : ExtClient) (l : List Byte) : Input :=
  match parsePacket l false with
  | .inl m => .malformed c m
  | .inr _ => .malformed c (malformedOf l 0x0502 .formatError)

/-- Its reply goes before those that wait (chapter 08, the reset of the management function). -/
def Input.urgent (i : Input) : Input :=
  match i with
  | .malformed c m => .malformed c { m with first := true }
  | i => i

/-- A byte that joins the packet of C1 or C3, assembled by PLEN (R53, R54). -/
def State.putByte (s : State) (c : ExtClient) (b : Byte) : State :=
  let l := s.io.part c ++ [b]
  let keep := fun (s : State) (l : List Byte) => s.onIo fun io => match c with
    | .c0 => { io with part0 := l }
    | .c1 => { io with part1 := l }
    | .c3 => { io with part3 := l }
  if packetDone l then (keep s []).enqueue (packetInput c l false) else keep s l

/-! C0 (R52, R56, R178, R179). -/

/-- A control endpoint answers: a link that is up and not suspended. -/
def State.controlOpen (s : State) : Bool := s.hiveRuns && s.linked && !s.hub.suspended

/-- The function answers: on that link, once the ROM is no DFU device (R78), and with a configuration for all but the control
endpoint. -/
def State.linkOpen (s : State) : Bool := s.controlOpen && !s.dfuUp
def State.functionOpen (s : State) : Bool := s.linkOpen && s.hub.configuredM

/-- The maximum packet size of the bulk endpoints. -/
def State.bulkSize (s : State) : Nat := if s.hub.fullSpeed then 64 else 512

/-- C0_BULK_OUT_PACKET: a short packet ends the transfer. A command whose length is a multiple of the packet size becomes an input
with the zero-length packet that ends its transfer (R52), not with its last CRC byte (R59; DEDUCED, log 103). -/
def State.evBulkOut (s : State) (bytes : List Byte) : State :=
  let begins := s.io.part0.isEmpty
  if !s.functionOpen || decide (s.bulkSize < bytes.length) then s.answering .timeout
  else if s.hub.haltOut then s.answering .stall
  else if begins && !s.room .c0 then s.answering .nak
  else
    let l := s.io.part0 ++ bytes
    if bytes.length = s.bulkSize then (s.onIo fun io => { io with part0 := l }).answering .ack
    else
      let s := (s.onIo fun io => { io with part0 := [] }).enqueue (packetInput .c0 l false)
      s.answering (if !s.room .c0 && !s.hub.fullSpeed then .nyet else .ack)

/-- C0_PING: a packet that has begun keeps its slot (R55); Full-Speed has no PING. -/
def State.evPing (s : State) : State :=
  if !s.functionOpen || s.hub.fullSpeed then s.answering .timeout
  else if s.hub.haltOut then s.answering .stall
  else s.answering (if s.io.part0.isEmpty && !s.room .c0 then .nak else .ack)

/-- C0_BULK_IN: the next data packet of the oldest reply; a short one ends it. -/
def State.evBulkIn (s : State) : State :=
  if !s.functionOpen then s.answering .timeout
  else if s.hub.haltIn then s.answering .stall
  else match s.io.replies0 with
    | [] => s.answering .nak
    | r :: rest =>
      let chunk := (r.bytes.drop s.io.sent0).take s.bulkSize
      let s :=
        if chunk.length < s.bulkSize then s.onIo fun io => { io with replies0 := rest, sent0 := 0 }
        else s.onIo fun io => { io with sent0 := io.sent0 + chunk.length }
      s.answering (.data chunk)

/-- INTERRUPT_IN_POLL (R180). -/
def State.evInterruptIn (s : State) : State :=
  if !s.functionOpen then s.answering .timeout
  else if s.hub.haltInt then s.answering .stall
  else s.answering (.data s.summary)

/-- The partly received OUT packet is discarded, and the partly sent reply begins anew (R179). -/
def State.discardOut (s : State) : State :=
  let l := s.io.part0
  let s := s.onIo fun io => { io with part0 := [], sent0 := 0 }
  if l.isEmpty then s else s.enqueue (discardedInput .c0 l).urgent

/-- FUNCTION_BUS_RESET (R179). -/
def State.evFunctionReset (s : State) (k : FunctionReset) : State :=
  if !s.controlOpen then s
  else
    let s := s.discardOut
    match k with
    | .busReset => s.onHub fun h =>
      { h with configuredM := false, address := 0, haltOut := false, haltIn := false, haltInt := false, testMode := 0 }
    | .setConfiguration0 => (s.onHub fun h => { h with configuredM := false }).answering .ack
    | .clearHaltOut => (s.onHub fun h => { h with haltOut := false }).answering .ack

/-- A standard request to the DFU device of the ROM: its own descriptors, which the spec leaves open (R78; log 89). -/
def State.dfuRequest (s : State) (r : Setup) : State :=
  if r.requestType == 0x80 && r.request == 6 then
    s.answering (.data ((Config.dfuDescriptor (r.value.toNat / 256) (r.value.toNat % 256)).take r.length.toNat))
  else s.standardRequest r

/-- CONTROL_STANDARD_REQUEST (R177, R78). -/
def State.evControl (s : State) (r : Setup) : State :=
  if !s.controlOpen then s.answering .timeout
  else if s.dfuUp then s.dfuRequest r
  else (if Setup.endsOut r then s.discardOut else s).standardRequest r

/-- CONTROL_CLASS_VENDOR_REQUEST (R177). -/
def State.evClassVendor (s : State) (_r : Setup) : State := s.answering (if s.controlOpen then .stall else .timeout)

/-! Split transactions and TT requests of the host (R174 to R176). -/

/-- A transaction of the host on an open link; there is no answer without one. -/
def State.onLinkOpen (s : State) (f : State → State) : State := if s.linkOpen then f s else s.answering .timeout

/-- TT_START_SPLIT and TT_COMPLETE_SPLIT. -/
def State.evStartSplit (s : State) (p : Nat) (kind : SplitKind) (bytes id : Nat) : State :=
  s.onLinkOpen fun s => s.evTtStart p kind bytes id
def State.evCompleteSplit (s : State) (p : Nat) (kind : SplitKind) (id : Nat) : State :=
  s.onLinkOpen fun s => s.evTtComplete p kind id

/-- CLEAR_TT_BUFFER and RESET_TT; GET_TT_STATE and STOP_TT are answered with STALL (R176). -/
def State.evClearBuffer (s : State) (p : Nat) : State := s.onLinkOpen fun s => s.evClearTt p
def State.evResetAll (s : State) (p : Nat) : State := s.onLinkOpen fun s => s.evResetTt p
def State.evGetTtState (s : State) (_p : Nat) : State := s.onLinkOpen fun s => s.answering .stall
def State.evStopTt (s : State) (_p : Nat) : State := s.onLinkOpen fun s => s.answering .stall

/-! C1: the SVC window (R53, R57, R271 to R273). -/

/-- SVC acknowledges its addresses. In a sleep state it NACKs the one that wakes the device (R148). -/
def State.onSvc (s : State) (f : State → State) : State :=
  if s.hiveRuns then f s
  else if s.mode.asleep then (s.latchWake 4).answering .nak
  else s.answering .nak

/-- The pointer after a byte at it: 0x10 and 0x11 stay (R272). -/
def nextPointer (p : Byte) : Byte := if p = 0x10 ∨ p = 0x11 then p else p + 1

/-- SVC_POINTER_WRITE. -/
def State.evSvcPointer (s : State) (b : Byte) : State :=
  s.onSvc fun s => (s.onIo fun io => { io with svcPointer := b }).answering .ack

/-- The SVC window takes an image instead of packets (R78). -/
def State.svcDownloads (s : State) : Bool :=
  s.ember.bootSel == 3 && (s.phase == .downloading || s.phase == .verifying)

/-- SVC_COMMAND_BYTE: the first byte of a new packet is NACKed while Q49 is full (R57). -/
def State.evSvcByte (s : State) (b : Byte) : State :=
  if s.io.svcPointer ≠ 0x10 ∨ s.svcDownloads = true then s
  else s.onSvc fun s =>
    if s.io.part1.isEmpty && !s.room .c1 then s.answering .nak else (s.putByte .c1 b).answering .ack

/-- The next byte of the oldest reply of C1, 0x00 when none waits; the reply goes with its last byte. -/
def State.svcReplyByte (s : State) : Byte × State :=
  match s.io.replies1 with
  | [] => (0, s)
  | r :: rest =>
    let l := r.bytes
    let b := (l[s.io.sent1]?).getD 0
    if s.io.sent1 + 1 < l.length then (b, s.onIo fun io => { io with sent1 := io.sent1 + 1 })
    else (b, s.onIo fun io => { io with replies1 := rest, sent1 := 0 })

/-- SVC_REPLY_READ. -/
def State.evSvcReply (s : State) : State :=
  if s.io.svcPointer ≠ 0x11 then s
  else s.onSvc fun s =>
    let (b, s) := s.svcReplyByte
    s.answering (.data [b])

/-- Bytes of a read transaction: reads of 0x11 are live, the rest come from the snapshot. -/
def State.svcBytes : Nat → State → List Byte × State
  | 0, s => ([], s)
  | n + 1, s =>
    let p := s.io.svcPointer
    let (b, s) := if p = 0x11 then s.svcReplyByte else ((s.io.svcSnapshot[p.toNat]?).getD 0, s)
    let s := s.onIo fun io => { io with svcPointer := nextPointer p }
    let (l, s) := svcBytes n s
    (b :: l, s)

/-- SVC_WINDOW_READ: the snapshot of 0x00 to 0x3F, and n bytes from the pointer (R273). -/
def State.evSvcRead (s : State) (n : Nat) : State :=
  s.onSvc fun s =>
    let s := s.onIo fun io => { io with svcSnapshot := s.svcWindow }
    let (l, s) := s.svcBytes n
    s.answering (.data l)

/-- SVC_WINDOW_WRITE: ACKed and ignored (R272). -/
def State.evSvcWrite (s : State) (_b : Byte) : State :=
  if s.io.svcPointer = 0x10 then s
  else s.onSvc fun s => (s.onIo fun io => { io with svcPointer := nextPointer io.svcPointer }).answering .ack

/-- CMD_SVC_GAP_EXPIRY (R53). -/
def State.evSvcGap (s : State) : State :=
  let l := s.io.part1
  if l.isEmpty || !s.hiveRuns then s
  else (s.onIo fun io => { io with part1 := [] }).enqueue (packetInput .c1 l true)

/-! C3: the CMD_PORT register (R54, R58). -/

/-- The next byte of the oldest reply of C3, none when none waits. -/
def State.portReplyByte (s : State) : Option Byte × State :=
  match s.io.replies3 with
  | [] => (none, s)
  | r :: rest =>
    let l := r.bytes
    let b := (l[s.io.sent3]?).getD 0
    if s.io.sent3 + 1 < l.length then (some b, s.onIo fun io => { io with sent3 := io.sent3 + 1 })
    else (some b, s.onIo fun io => { io with replies3 := rest, sent3 := 0 })

/-- What CMD_PORT captures: the byte requested by the previous shift, its valid bit, and bit 9 while Q51 has room. -/
def State.portCapture (s : State) : Nat :=
  (match s.io.captureByte with
   | some b => b.toNat + 0x100
   | none => 0) + 0x200 * (s.room .c3).toNat

/-- CMD_PORT_SHIFT: the register captures, then what was shifted in takes effect. While Hive does not run the register
captures 0 and nothing takes effect (DEDUCED, log 48). -/
def State.evCmdPort (s : State) (dr : BitVec 10) : State :=
  if !s.jtagUp then s
  else
    let s := s.leaveExtest.onIo fun io => { io with jtag := 5 }
    if !s.hiveRuns then s.answering (.capture 10 0)
    else
      let room := s.room .c3
      let s := s.answering (.capture 10 s.portCapture)
      let s := s.onIo fun io => { io with captureRoom := room }
      let s := if dr.getLsbD 8 && !(s.io.part3.isEmpty && !room) then s.putByte .c3 (dr.setWidth 8) else s
      let (b, s) := if dr.getLsbD 9 then s.portReplyByte else (none, s)
      s.onIo fun io => { io with captureByte := b }

end Sys2Proof.Machine
end

