-- ==== Sys2Proof/Machine/Arbiter.lean ====
section
/-! DEFINITION. The input arbiter and the trigger lists: which inputs are taken when, what an event does as an input, and the firings that follow an input to depth 4 (R40, R59 to R62, R70 to R74, R111). -/

namespace Sys2Proof.Machine

/-! Trigger lists (R71, R72). -/

/-- The firings that the entries appended so far call for, put before all other work: one deeper than what runs. -/
def State.pushFires (s : State) : State :=
  let new := s.led.fires.map fun f => Task.fire (s.trig.depth + 1) f
  { s with led := { s.led with fires := [] }, trig := { s.trig with work := new ++ s.trig.work } }

/-- A list fires: `TRIG_FIRED`, then its packets, before which what `TRIG_FIRED` itself fires runs. -/
def State.fireList (s : State) (depth : Nat) (f : Firing) : State :=
  let s := s.tagged f.tag
  let s : State := { s with trig := { s.trig with
    depth := depth, firings := saturate 0xFFFFFFFF (s.trig.firings + 1), lastList := f.list, lastDepth := depth,
    work := f.packets.map (Task.packet depth f.list) ++ s.trig.work } }
  s.append false 0 blkTrig .trigFired f.list (b8 depth ++ b8 f.packets.length ++ leBytes 6 f.count)

/-- A firing at depth 5 is not admitted: `FAULT` 0x0705. -/
def State.dropFiring (s : State) (f : Firing) : State :=
  let s : State := { s.tagged f.tag with trig := { s.trig with depthDrops := saturate 0xFFFFFFFF (s.trig.depthDrops + 1) } }
  s.fault false 0 blkTrig 0x0705 f.list (b8 f.list)

/-- One piece of work. -/
def State.runTask (s : State) (t : Task) : State :=
  match t with
  | .fire depth f => if 4 < depth then s.dropFiring f else s.fireList depth f
  | .packet depth list p =>
    let s : State := { s with trig := { s.trig with depth := depth } }
    s.runCommand .c2 list p

/-- All waiting work, each piece followed by what it fires; an agreement round that a packet begins is waited for (R40,
R119). -/
def State.runWork : Nat → State → State
  | 0, s => s
  | fuel + 1, s =>
    if s.spine.round.isSome then s
    else match s.trig.work with
      | [] => { s with trig := { s.trig with depth := 0 } }
      | t :: rest =>
        let s : State := { s with trig := { s.trig with work := rest } }
        runWork fuel (s.runTask t).pushFires

/-- More pieces of work than four depths of sixteen lists of 32 packets can make. -/
def workFuel : Nat := 2 ^ 128

/-- Every firing that an input called for runs (R40), after all the entries that the input itself makes: where `TRIG_FIRED` stands
when an entry that matches is followed by others of the same input the spec leaves open, and R37, R130, R135 and R157 want some
of them next to each other (DESIGN CHOICE, log 102). -/
def State.firesRun (s : State) : State := (s.pushFires.runWork workFuel).tagged 0xFFFF

/-- The end of an input: its firings run, and what it leaves is what is reported (log 87). -/
def State.finish (s : State) : State := s.firesRun.noted

/-! HOLD_ENTER (R62, R246, R248). -/

/-- Hive's ROM or firmware runs and `BOOT` has not been appended. -/
def Phase.booting (p : Phase) : Bool :=
  match p with
  | .authenticating | .downloading | .verifying | .training => true
  | _ => false

/-- HOLD_ENTER, from any state but OFF and at once, an agreement round or not: trigger-list work ends with the entry to BANKED.
Before `BOOT` the device is BANKED with no entry, and where Hive does not run yet it has nothing to write and goes straight
to OFF (DEDUCED, log 35). -/
def State.evLossOfVin (s : State) (vveh vstore : BitVec 16) : State :=
  if s.phase = .up then
    { s with trig := { s.trig with work := [], depth := 0 }, led := { s.led with fires := [] } }.evHoldEnter vveh vstore
  else if s.phase.booting then s.bankedEarly vstore
  else if s.phase.live && s.phase != .heldUp then s.enterOff
  else s

/-! Events as inputs. -/

/-- PARITY_RESET (R31): Hive's copy resets the device, another die's that die. -/
def State.evParity (s : State) (die : Nat) (param : BitVec 16) : State :=
  if die = 0 then s.evParityHive param else s.evParityDie die param

/-- What an event does when it is taken; rows that are no events of this kind do nothing here. -/
def State.runEvent (s : State) (i : Instr) : State :=
  match i with
  | .echo _ _ => s
  | .identify _ _ => s
  | .reset _ _ => s
  | .modeRequest _ _ => s
  | .queueStatus _ _ => s
  | .serviceEnter _ _ => s
  | .paramGet _ _ => s
  | .paramSet _ _ => s
  | .paramGetBlock _ _ => s
  | .paramStage _ _ => s
  | .paramCommit _ _ => s
  | .portEnable _ _ => s
  | .portDisable _ _ => s
  | .portReset _ _ => s
  | .portSuspend _ _ => s
  | .portResume _ _ => s
  | .portStatus _ _ => s
  | .chanOn _ _ => s
  | .chanOff _ _ => s
  | .chanClearTrip _ _ => s
  | .chanMeasure _ _ => s
  | .pdStatus _ _ => s
  | .pdRenegotiate _ _ => s
  | .pdHardReset _ _ => s
  | .pdVdmSend _ _ => s
  | .pdModeEnter _ _ => s
  | .pdModeExit _ _ => s
  | .twiXfer _ _ => s
  | .twiRecover _ _ => s
  | .twiAttnRead _ _ => s
  | .ledgerRead _ _ => s
  | .ledgerMark _ _ => s
  | .ledgerHead _ _ => s
  | .voteSet _ _ => s
  | .voteClear _ _ => s
  | .pstateStatus _ _ => s
  | .plSet _ _ => s
  | .padRelease _ _ => s
  | .cfgRead _ _ => s
  | .cfgWriteBegin _ _ => s
  | .cfgWriteData _ _ => s
  | .cfgWriteCommit _ _ => s
  | .cfgApply _ _ => s
  | .testRun _ _ => s
  | .testStatus _ _ => s
  | .healthRead _ _ => s
  | .holdStatus _ _ => s
  | .holdTapTest _ _ => s
  | .trigLoad _ _ => s
  | .trigArm _ _ => s
  | .trigDisarm _ _ => s
  | .resetCauseClear _ _ => s
  | .resetBlockRstWrite _ _ => s
  | .fuseBurn _ _ => s
  | .spineStatClear _ _ => s
  | .foragerLogClear _ _ => s
  | .trigEnableWrite _ _ => s
  | .c0BulkOutPacket _ => s
  | .c0Ping => s
  | .c0BulkIn => s
  | .interruptInPoll => s
  | .controlStandardRequest _ => s
  | .controlClassVendorRequest _ => s
  | .functionBusReset _ => s
  | .svcPointerWrite _ => s
  | .svcCommandByte _ => s
  | .svcReplyRead => s
  | .svcWindowRead _ => s
  | .svcWindowWrite _ => s
  | .cmdSvcGapExpiry => s
  | .cmdPortShift _ => s
  | .jtagIdcode => s
  | .jtagBypass => s
  | .jtagSamplePreload => s
  | .jtagExtest => s
  | .jtagIntest => s
  | .jtagExtestExit => s
  | .por => s
  | .porRelease _ _ _ => s
  | .pllLock => s
  | .pllLockRetry => s
  | .firmwareAuth _ _ _ => s
  | .spineTraining _ _ => s
  | .dfuDnload _ => s
  | .dfuGetstatus => s
  | .dfuClrstatus => s
  | .dfuGetstate => s
  | .dfuAbort => s
  | .dfuUpload => s
  | .svcImageDownload _ => s
  | .downloadAuth _ _ => s
  | .bor _ => s
  | .pinReset => s
  | .pinResetRelease => s
  | .wdtExpiry _ => s
  | .eccReset _ => s
  | .eccErrorNoncritical addr => s.evEccError addr
  | .parityReset die param => s.evParity die param
  | .resetStretchExpiry => s
  | .deviceResetDelay => s
  | .blockReady die block => s.evBlockReady die block
  | .clockDeadTimeout die block => s.evClockDead die block
  | .frameReceived _ _ _ _ => s
  | .laneDrop link lanes frames => s.evLaneDrop link lanes frames
  | .laneRetrainAttempt _ _ => s
  | .laneRejoin link lane => s.evRejoin link lane
  | .retrainIntervalReset _ _ => s
  | .forgeLossTimeout => s.evForgeLoss
  | .sbTick _ => s
  | .tickFrame _ _ _ => s
  | .stateDigestExchange die digest diffs => s.evStateExchange die digest diffs
  | .answer _ _ _ _ => s
  | .answerTimeout _ => s
  | .holdEnter _ _ => s
  | .gateHoldCheck _ _ => s
  | .retainedWriteDone => s
  | .flashTailDone => s
  | .holdNodeCollapse => s
  | .wakeOffStart => s
  | .crankEnter => s.evCrankEnter
  | .crankDeepShed => s.evDeepShed
  | .crankExit => s.evCrankExit
  | .upstreamVbusArrival => s.evVbusArrival
  | .upstreamVbusLoss => s.evVbusLoss
  | .pstateEnter _ => s
  | .wake _ _ => s
  | .reentryHoldoffExpiry => s
  | .pstateAlarm => s
  | .hubSuspend => s.evHubSuspend
  | .upLink state speed training => s.evUpLink state speed training.lanes training.warm
  | .upLaneRecovery lane => s.evLaneRecovery lane
  | .lpmL1Request => s
  | .hostPortPower port on => s.evHostPortPower port on
  | .hostPortReset port => s.evHostPortReset port
  | .hostSelectiveSuspend port => s.evHostSuspend port
  | .hostPortResume port => s.evHostResume port
  | .portResumeComplete port => s.evResumeComplete port
  | .downstreamRemoteWake port => s.evRemoteWake port
  | .portResetComplete port speed => s.evPortResetComplete port speed
  | .ssLinkU0 port speed => s.evSsLinkU0 port speed
  | .babble port speed => s.evBabble port speed
  | .connectChatter port changes => s.evChatter port changes
  | .ssTrainingFail port => s.evSsTrainingFail port
  | .ssInactive port => s.evSsInactive port
  | .suspendCurrentCheck port average => s.evSuspendCurrent port average
  | .cycleOffExpiry port => s.evCycleOff port
  | .ttStartSplit _ _ _ => s
  | .ttCompleteSplit _ _ => s
  | .ttResultExpiry _ => s
  | .clearTtBuffer _ => s
  | .resetTt _ => s
  | .getTtState _ => s
  | .stopTt _ => s
  | .portAttach port pin ra => s.evPortAttach port pin ra
  | .portDetach port => s.evPortDetach port
  | .vconnOverload port ma => s.evVconnOverload port ma
  | .cableDiscovery port => s.evCableDiscovery port
  | .rampComplete ch => s.evRampComplete ch
  | .reservationArrival port => s.evReservationArrival port
  | .srcCapsRepeat port => s.evSrcCapsRepeat port
  | .request port pos op max rev2 => s.evRequest port pos op max rev2
  | .sameRailPsRdy port => s.evSameRail port
  | .transitionStart port railOk => s.evTransitionStart port railOk
  | .vbusInBand port => s.evVbusInBand port
  | .railTransition port elapsed => s.evRailTransition port elapsed
  | .pdContract port => s.evPdContract port
  | .transMaxExpiry port elapsed => s.evTransMax port elapsed
  | .settleMaxExpiry port elapsed => s.evSettleMax port elapsed
  | .hardResetReceived port => s.evHardResetReceived port
  | .hardResetRestore port => s.evHardResetRestore port
  | .softReset port => s.evSoftReset port
  | .getSourceCap port => s.evGetSourceCap port
  | .getRevision port => s.evGetRevision port
  | .swapRequest port k => s.evSwap port k
  | .unsupportedMessage port k => s.evOther port k
  | .bist port carrier => s.evBist port carrier
  | .requestTimeout port => s.evRequestTimeout port
  | .vdmReceived port sop objects => s.evVdmReceived port sop objects
  | .vdmResponseTimeout port => s.evVdmTimeout port
  | .vdmSendDone port ok => s.evVdmSendDone port ok
  | .sbuSwitchClose port => s.evSbuClose port
  | .sbuOvervoltage port mv => s.evSbuOvervoltage port mv
  | .hardShort ch ma mv => s.evHardShort ch ma mv
  | .currentLimitReached ch => s.evLimitReached ch
  | .overloadTimeout ch ma mv => s.evOverload ch ma mv
  | .overTemperature ch ma mv => s.evOverTemperature ch ma mv
  | .rampFault ch ma mv => s.evRampFault ch ma mv
  | .retryDelayExpiry ch => s.evRetryDelay ch
  | .gateCheckTimeout ch mv => s.evGateTimeout ch mv
  | .dischargeEnd ch => s.evDischargeEnd ch
  | .offCheckTimeout ch mv => s.evOffCheck ch mv
  | .backdrive ch ms => s.evBackdrive ch ms
  | .legLeak ch suspect mv => s.evLegLeak ch suspect mv
  | .railLow rail => s.evRailLow rail
  | .railHigh rail => s.evRailHigh rail
  | .railBackInBand rail => s.evRailBack rail
  | .chargerStart => s
  | .chargerStop => s
  | .chargerFault overvoltage => s.evChargerFault overvoltage
  | .cellBleed _ _ => s
  | .refillWake => s
  | .cellSumMismatch storeTop mv => s.evSumMismatch storeTop mv
  | .cellDeviation tap => s.evCellDeviation tap
  | .tapTest tap mv => s.evTapTest tap mv
  | .holdCell cell signature => s.evHoldCell cell signature
  | .capacitanceEstimate cell dropMv => s.evCapEstimate cell dropMv
  | .energyThreshold below energy => s.evEnergy below energy
  | .transferStart seg sdaLow => s.evTransferStart seg sdaLow
  | .transferComplete seg e => s.evTransferComplete seg e
  | .arbitrationLost seg => s.evArbitrationLost seg
  | .stretchTimeout seg us => s.evStretchTimeout seg us
  | .stretchInsideByte seg => s.evStretchInsideByte seg
  | .stretchHoldTimeout seg => s.evStretchHold seg
  | .inBandRequest seg released => s.evInBand seg released
  | .twAttn seg status bytes => s.evAttn seg status bytes
  | .mailboxWrite seg bytes => s.evMailbox seg bytes
  | .mailboxOverflow seg => s.evMailboxOverflow seg
  | .recoveryPulses seg pulses released => s.evRecoveryPulses seg pulses released
  | .powerLinkOffExpiry seg => s.evLinkOff seg
  | .powerLinkSettle seg => s.evLinkSettle seg
  | .recoverBusFreeWait seg sdaHigh => s.evBusFreeWait seg sdaHigh
  | .foragerCycleStart => s
  | .foragerSlice _ => s
  | .cfgEraseDone => s.evEraseDone
  | .cfgTrailerReadback ok => s.evTrailerReadback ok
  | .cfgSessionEnd => s.evSessionEnd
  | .porAssert => s
  | .retentionLoss => s
  | .regulationEnd ch => s.evRegulationEnd ch
  | .gateCheckPass ch => s.evGatePass ch
  | .goodcrcReceived port => s.evGoodcrc port
  | .softResetAccepted port => s.evSoftResetAccepted port
  | .downstreamConnectChange port connected superSpeed => s.evConnectChange port connected superSpeed
  | .hubControlRequest ss r => s.evHubControl ss r
  | .testComplete passed item => s.evTestComplete passed item
  | .portSuspendComplete port => s.evSuspendComplete port
  | .sbuSwitchOpen port => s.evSbuOpen port
  | .vio33Low => s
  | .vio33Restored => s
/-- The die and block whose detector reports an event; none for Hive's and Ember's own. -/
def eventSource (i : Instr) : Option (Nat × Nat) :=
  match i with
  | .portResumeComplete port | .downstreamRemoteWake port | .portResetComplete port _ | .babble port _
  | .connectChatter port _ | .downstreamConnectChange port _ _
  | .portSuspendComplete port => some (combOf port, blkUsb2)
  | .ssLinkU0 port _ | .ssTrainingFail port | .ssInactive port => some (combOf port, blkUsb3)
  | .portAttach port _ _ | .portDetach port | .vconnOverload port _ | .cableDiscovery port
  | .reservationArrival port | .srcCapsRepeat port | .request port _ _ _ _ | .sameRailPsRdy port
  | .transitionStart port _ | .vbusInBand port | .railTransition port _ | .pdContract port
  | .transMaxExpiry port _ | .settleMaxExpiry port _ | .hardResetReceived port | .hardResetRestore port
  | .softReset port | .getSourceCap port | .getRevision port | .swapRequest port _ | .unsupportedMessage port _
  | .bist port _ | .requestTimeout port | .vdmReceived port _ _ | .vdmResponseTimeout port
  | .vdmSendDone port _ | .sbuSwitchClose port | .sbuOvervoltage port _ | .goodcrcReceived port
  | .softResetAccepted port | .sbuSwitchOpen port => some (combOf port, blkPd)
  | .rampComplete _ | .hardShort _ _ _ | .currentLimitReached _ | .overloadTimeout _ _ _
  | .overTemperature _ _ _ | .rampFault _ _ _ | .retryDelayExpiry _ | .gateCheckTimeout _ _ | .dischargeEnd _
  | .offCheckTimeout _ _ | .backdrive _ _ | .legLeak _ _ _ | .railLow _ | .railHigh _ | .railBackInBand _
  | .regulationEnd _ | .gateCheckPass _ | .suspendCurrentCheck _ _ => some (3, blkChan)
  | .chargerFault _ | .cellSumMismatch _ _ | .cellDeviation _ | .tapTest _ _ | .holdCell _ _
  | .capacitanceEstimate _ _ | .energyThreshold _ _ => some (3, blkStore)
  | .transferStart seg _ | .transferComplete seg _ | .arbitrationLost seg | .stretchTimeout seg _
  | .stretchInsideByte seg | .stretchHoldTimeout seg | .inBandRequest seg _ | .twAttn seg _ _
  | .mailboxWrite seg _ | .mailboxOverflow seg | .recoveryPulses seg _ _ | .powerLinkOffExpiry seg
  | .powerLinkSettle seg | .recoverBusFreeWait seg _ => if seg = 0 ∨ 3 < seg then none else some (3, blkTwi)
  | _ => none

/-- Inputs are taken: the interpreter runs outside BOOT, the sleep states, BANKED and a shutdown, and no agreement round
runs (R40, R62, R119). -/
def State.listening (s : State) : Bool :=
  s.phase == .up && s.spine.round.isNone && s.store.writing == 0
    && match s.mode with
      | .off | .boot | .banked | .sleep | .deepSleep | .busSuspend => false
      | _ => true

/-- An input may be taken: the commands of a client whose reply queue is full wait (R19). -/
def State.admits (s : State) (i : Input) : Bool :=
  match i with
  | .command c _ => !s.io.heldClient c
  | .malformed c _ => !s.io.heldClient c
  | _ => true

/-- An input taken, with everything that follows from it. -/
def State.takeInput (s : State) (i : Input) : State :=
  let s := match i with
    | .command c p => s.runCommand (extClient c) 0xFF p
    | .malformed c m => s.runMalformed c m
    | .event e => s.runEvent e
    | .lost die n => s.runLost die n
    | .skew die n w => s.skewReport die n w
  s.finish

/-- The first input of a list that may be taken, and the rest in order. -/
def State.nextInput (s : State) : List Input → Option (Input × List Input)
  | [] => none
  | i :: l =>
    if s.admits i then some (i, l)
    else match s.nextInput l with
      | some (j, rest) => some (j, i :: rest)
      | none => none

/-- One waiting input taken, where one may be. -/
def State.takeOne (s : State) : Option State :=
  if s.listening then
    match s.nextInput s.io.waiting with
    | some (i, rest) => some ((s.onIo fun io => { io with waiting := rest }).takeInput i)
    | none => none
  else none

/-- Waiting inputs taken in stamp order, up to a number. -/
def State.pump : Nat → State → State
  | 0, s => s
  | fuel + 1, s =>
    match s.takeOne with
    | some s => pump fuel s
    | none => s

/-- Every waiting input that may be taken, those that a returning die delivers among them: at most 65 for each of three
dies (R111). -/
def State.pumpAll (s : State) : State := s.pump (s.io.waiting.length + 195)

/-- What a row that is no input leaves behind is completed, and inputs that may be taken now are taken. -/
def State.settled (s : State) : State := s.finish.pumpAll

/-! IDLE (R24, R138). -/

/-- The core runs, BANKED apart (Table 07-1). -/
def Mode.coreRuns (m : Mode) : Bool :=
  match m with
  | .boot | .safe | .run | .standalone | .service | .crank => true
  | _ => false

/-- The device is in IDLE: the interpreter has no input to take and nothing that follows from one. A Forager slice is one step, so
none is ever seen under way (log 108). -/
def State.idle (s : State) : Bool :=
  s.phase == .up && s.mode.coreRuns && s.spine.round.isNone && s.trig.work.isEmpty && s.takeOne.isNone

/-- The mode of Table 01-6, IDLE among them; what is recorded and reported is the mode that IDLE was entered from (R24). -/
def State.modeNow (s : State) : Mode := if s.idle then .idle else s.mode

/-! Where an event goes. -/

/-- In a sleep state SVC NACKs its addresses, TW0 without wake source 0x05 hears nothing, and in DEEP SLEEP TW1 to TW3
neither (R146, R148, Table 12-1); in BANKED SVC NACKs its addresses too (R271). -/
def State.segDeaf (s : State) (n : Nat) : Bool :=
  (s.mode == .banked && n == 4)
    || (s.mode.asleep && (n == 4 || (n == 0 && !s.wakeEnabled 5) || (1 ≤ n && n ≤ 3 && s.mode == .deepSleep)))

/-- What such a segment would report. -/
def State.unheard (s : State) (i : Instr) : Bool :=
  match i with
  | .inBandRequest n _ => s.segDeaf n
  | .mailboxWrite n _ => s.segDeaf n
  | .mailboxOverflow n => s.segDeaf n
  | _ => false

/-- What the writer of a mailbox sees of a segment that does not hear it: a NACK; SVC's address match is a wake source in a sleep
state (R148). -/
def State.nackMailbox (s : State) (i : Instr) : State :=
  match i with
  | .mailboxWrite n _ =>
    if s.mailboxOn n then (if n == 4 && s.mode.asleep then s.latchWake 4 else s).answering .nak else s
  | _ => s

/-- A mailbox write that a sleep state holds is ACKed (R148, Table 12-1). -/
def State.ackHeld (s : State) (i : Instr) : State :=
  match i with
  | .mailboxWrite n _ => if s.mailboxOn n then s.answering .ack else s
  | _ => s

/-- A detector whose die or block is inside a reset or quarantined reports nothing. -/
def State.sourceDead (s : State) (i : Instr) : Bool :=
  match eventSource i with
  | some (d, b) => (s.die d).quarantined || s.blockDown d b
  | none => false

/-- A detector event of a die that no frame reaches is held there, up to 64 (R111). -/
def State.holdAtDie (s : State) (die : Nat) (i : Instr) : State :=
  s.onDie die fun d =>
    if d.heldEvents.length < 64 then { d with heldEvents := d.heldEvents ++ [i] } else { d with lostEvents := d.lostEvents + 1 }

/-- The events of a die that wait. -/
def State.heldOf (s : State) (die : Nat) : Nat :=
  (s.io.waiting.filter fun i => match i with
    | .event e => (eventSource e).map (·.1) == some die
    | _ => false).length

/-- In the sleep states no link carries frames: a die holds up to 64 events and counts the rest (R111, R146). The events of the
three dies and of Ember keep one order, that of their detection (R149). -/
def State.holdAsleep (s : State) (i : Instr) : State :=
  match eventSource i with
  | some (d, _) =>
    if s.heldOf d < 64 then s.enqueue (.event i) else s.onDie d fun x => { x with lostEvents := x.lostEvents + 1 }
  | none => s.enqueue (.event i)

/-- The source that an event latches in a sleep state (Table 07-4). -/
def State.wakeSourceOf (s : State) (i : Instr) : Option Nat :=
  let source : Option Nat := match i with
    | .upstreamVbusArrival => some 2
    | .upstreamVbusLoss => if s.mode == .deepSleep then none else some 2
    | .upLink _ _ _ => if s.mode == .busSuspend then some 2 else none
    | .hardShort _ _ _ | .overloadTimeout _ _ _ | .overTemperature _ _ _ | .rampFault _ _ _ => some 8
    | .holdCell _ _ | .tapTest _ _ => some 9
    | .inBandRequest 0 _ | .mailboxWrite 0 _ => some 5
    | _ => match eventSource i with
      | some (d, b) => if (d = 1 ∨ d = 2) ∧ (b = blkPd ∨ b = blkUsb2) then some 3 else none
      | none => none
  source.filter (s.sourceIn s.mode)

/-- What Forge does at once in a sleep state; Hive hears of it after the exit: a trip turns the channel off, through an engaged
latch too (R153, R155), a rail above its band has its legs opened (R227), and the suspend-current check acts, with the end of
its cycle (R183). -/
def State.forgeAsleep (s : State) (i : Instr) : State :=
  match i with
  | .hardShort ch _ _ | .overloadTimeout ch _ _ | .overTemperature ch _ _ | .rampFault ch _ _ =>
    s.onChan ch fun c => { c with tripped := true }
  | .railHigh rail => s.legsOff rail
  | .suspendCurrentCheck port average => s.suspendCurrentAsleep port average
  | .cycleOffExpiry port => s.onChan port fun c => { c with tripped := false }
  | _ => s

/-- A suspend-current check of the port waits for the exit already: one is recorded in a suspend (R183). -/
def State.checkHeld (s : State) (port : Nat) : Bool :=
  s.io.waiting.any fun i => match i with
    | .event (.suspendCurrentCheck p _) => p == port
    | _ => false

/-- What no detector reports in a sleep state: lanes, which are parked and not retrained (R108, R150), digest exchanges, memory
and parity errors of a core that is off, the loss of Forge's link, which is not timed (R151), the host's requests, since no
hub core runs, and the upstream link but in BUS SUSPEND, what a die in a domain that is off would report (Table 07-1), and a
second trip of a channel that Forge has turned off. In DEEP SLEEP Forge's comparators and overload
timers serve the latched AUX channels alone (R155), and the Honeystore monitor goes on (Table 07-4). -/
def State.asleepMute (s : State) (i : Instr) : Bool :=
  let deep := s.mode == .deepSleep
  let off := fun ch : Nat => (s.chan ch).tripped || (deep && !(isAux ch && (s.chan ch).state.conducts))
  match i with
  | .laneDrop _ _ _ | .laneRejoin _ _ | .stateDigestExchange _ _ _ | .eccErrorNoncritical _ | .forgeLossTimeout
  | .parityReset 0 _ | .hubSuspend | .hostPortPower _ _ | .hostPortReset _ | .hostSelectiveSuspend _ | .hostPortResume _
  | .hubControlRequest _ _ => true
  | .upLink _ _ _ => s.mode != .busSuspend
  | .suspendCurrentCheck port average => !s.overSuspend port average || s.checkHeld port
  | .mailboxWrite n _ => !s.mailboxOn n
  | .mailboxOverflow n => !s.mailboxOn n
  | .inBandRequest n _ => !s.segEnabled n || !(s.seg n).idle || (s.seg n).midbyte
  | .hardShort ch ma _ => off ch || !s.overShort ch ma.toNat
  | .overloadTimeout ch _ _ | .currentLimitReached ch | .regulationEnd ch => off ch
  | .overTemperature ch _ _ | .rampFault ch _ _ => deep || (s.chan ch).tripped
  | _ => match eventSource i with
    | some (d, b) => deep && (d != 3 || b == blkChan)
    | none => false

/-- An event in a sleep state. -/
def State.eventAsleep (s : State) (i : Instr) : State :=
  if s.asleepMute i then s
  else
    let s := match s.wakeSourceOf i with
      | some n => s.latchWake n
      | none => s
    ((s.forgeAsleep i).ackHeld i).holdAsleep i

/-- Hive is on its way up. -/
def Phase.rising (p : Phase) : Bool :=
  match p with
  | .starting | .authenticating | .downloading | .verifying | .training => true
  | _ => false

/-- The levels that the VBUS, CC and VVEH pins show while no input can be taken because Hive is not up, and the link of the DFU
device (R78): no entry is made; an event that R101 holds waits. -/
def State.levelOnly (s : State) (i : Instr) : State :=
  match i with
  | .upstreamVbusArrival => s.vbusUp.dfuAttach
  | .upstreamVbusLoss => s.linkDrop.onHub fun h => { h with upVbus := false, upPin := 0 }
  | .upLink state _ _ => if state = 0 then s.linkDrop else s.dfuAttach
  | .crankEnter => s.onPw fun w => { w with crank := true }
  | .crankExit => s.onPw fun w => { w with crank := false }
  | _ => if s.phase.rising && heldEvent i then s.enqueue (.event i) else s

/-- An event arrives: it is taken at once, or waits while no input is taken (R59, R62, R149; log 6). -/
def State.arrive (s : State) (i : Instr) : State :=
  match i, s.mode.asleep with
  | .crankEnter, true => s.evCrankEnter
  | .crankExit, true => s.evCrankExit
  | _, true => s.eventAsleep i
  | _, false => (s.enqueue (.event i)).pumpAll

/-- In BANKED only the reset of a failed parity check of Hive's own memory still acts, and ends in OFF (R88); SVC NACKs (R271). -/
def State.eventBanked (s : State) (i : Instr) : State :=
  match i with
  | .parityReset 0 param => s.evParityHive param
  | .mailboxWrite _ _ => if s.unheard i then s.nackMailbox i else s
  | _ => s

/-- A check that the present mode does not make (R183). -/
def State.unchecked (s : State) (i : Instr) : Bool :=
  match i with
  | .suspendCurrentCheck _ _ => !s.mode.checksSuspend
  | _ => false

/-- An event row: ill-formed ones and those that no detector can report change nothing. -/
def State.event (s : State) (i : Instr) : State :=
  if !i.wf then s
  else if s.phase ≠ .up then s.levelOnly i
  else if s.mode = .banked then s.eventBanked i
  else if s.unheard i then s.nackMailbox i
  else if s.sourceDead i = true ∨ s.unchecked i = true then s
  else match eventSource i with
    | some (d, _) => if (s.die d).absent then s.holdAtDie d i else s.arrive i
    | none => s.arrive i

/-- A row that acts at once. -/
def State.direct (s : State) (i : Instr) (f : State → State) : State := if i.wf then (f s).settled else s

/-! Command rows. -/

/-- The packet of a command row as an input (R49, R65): PLEN above 1012 is malformed. -/
def rowInput (h : CmdHeader) (op : Opcode) (params : List Byte) : Input :=
  let c := headerCommand h op params
  if c.plen ≤ 1012 then .command h.client c
  else .malformed h.client
    { code := 0x0506, status := .formatError, tag := h.tag, opcode := some (BitVec.ofNat 16 op.code), flags := some c.flags,
      received := 10 + c.plen }

/-- A command row: the packet that its client's transport has delivered whole takes a slot, where one is free, and is taken
in its turn (R55, R59). -/
def State.submit (s : State) (h : CmdHeader) (op : Opcode) (params : List Byte) : State :=
  if s.hiveRuns && s.room h.client then (s.enqueue (rowInput h op params)).pumpAll else s

/-- The PARAM_SET of a row that names its parameter: index 0, and the value. -/
def State.submitSet (s : State) (h : CmdHeader) (p : Param) (v : Word) : State :=
  s.submit h .paramSet (b16 p.id ++ b8 0 ++ b8 0 ++ b32 v.toNat)

/-! Rows that act at once and depend on the arbiter. -/

/-- SB_TICK: Hive compares its copy while it takes inputs (R115, R116). -/
def State.evTick (s : State) (skew : Word) : State := s.evSbTick skew s.listening

/-- TICK_FRAME: the die compares while its link carries frames; Hive hears of an excess when it takes inputs (R59, R119). -/
def State.evTickNow (s : State) (die : Nat) (skew : Word) (replayed : Bool) : State :=
  if s.linkOn (linkOfDie die) then s.evTickFrame die skew replayed s.listening else s

/-- FORAGER_CYCLE_START and FORAGER_SLICE act only while inputs are taken; at other times there is no slice. -/
def State.evCycleNow (s : State) : State := if s.listening then s.evCycleStart else s
def State.evSliceNow (s : State) (r : SliceResult) : State := if s.listening then s.evSlice r else s

/-- VIO33_LOW and VIO33_RESTORED. -/
def State.evVio33Low (s : State) : State := s.evVio33 true
def State.evVio33Restored (s : State) : State := s.evVio33 false

/-- PSTATE_ENTER (R140 to R147): the sample of AP0, in the cycle of the entry; then the lists that the entry fires run, which
is the input in progress of step 1, and a vote that they set is found at AP1 (DEDUCED, log 36); then the later samples; where
none finds the latch set, the sleep state. Nothing but the latch abandons an entry: a target that changes without a vote does
not. -/
def State.evPstateEnter (s : State) (latched : List Latched) (failed : BitVec 10) : State :=
  match s.target with
  | none => s
  | some m =>
    if !s.listening || !s.io.waiting.isEmpty then s
    else
      let before := s.votes
      let hits := latched.filterMap (s.latchHit m before)
      let hits := if s.alarmDue && s.wakeEnabled 7 then (0, 7) :: hits else hits
      let s := s.enterEntry m
      match firstHit (hits.filter fun h => h.1 == 0) with
      | some (ap, source) => s.abandon ap source failed
      | none =>
        let s := s.firesRun
        let now := s.votes
        let set := (upTo 0 27).any fun v => now.testBit v && s.voteBars m before v
        match firstHit (if set then (1, 0) :: hits else hits) with
        | some (ap, source) => s.abandon ap source failed
        | none => s.fallAsleep m

/-- FUSE_BURN whose power fails while the bank is being programmed (R81): the marker is not programmed and the bank is spent;
of all else only what a loss of supply leaves is left. A write that does not come to program is not cut. -/
def State.burnCut (s t : State) : State :=
  if s.ember.fuseBurn = 0 ∧ t.ember.fuseBurn = 1 then
    (s.onEmber fun e => { e with fuseBurn := 2 }).evPorAssert
  else t

/-- FUSE_BURN (R80, R81). -/
def State.submitBurn (s : State) (h : CmdHeader) (v : Word) (cut : Bool) : State :=
  let t := s.submitSet h .resetFuseBurn v
  if cut then s.burnCut t else t

end Sys2Proof.Machine
end

