-- ==== Sys2Proof/Machine/Commands.lean ====
section
/-! DEFINITION. The command rows of Table 03-6: each hands its packet to the arbiter, and the interpreter gives it its meaning (chapter 03). -/

namespace Sys2Proof.Machine

/-- ECHO (R67). -/
def execEcho (h : CmdHeader) (p : List Byte) (s : State) : Host.Outcome State Fault Refusal :=
  .next (s.submit h .echo p)

/-- IDENTIFY (R67). -/
def execIdentify (h : CmdHeader) (p : List Byte) (s : State) : Host.Outcome State Fault Refusal :=
  .next (s.submit h .identify p)

/-- RESET (R95). -/
def execReset (h : CmdHeader) (p : List Byte) (s : State) : Host.Outcome State Fault Refusal :=
  .next (s.submit h .reset p)

/-- MODE_REQUEST (R284). -/
def execModeRequest (h : CmdHeader) (p : List Byte) (s : State) : Host.Outcome State Fault Refusal :=
  .next (s.submit h .modeRequest p)

/-- QUEUE_STATUS (R18). -/
def execQueueStatus (h : CmdHeader) (p : List Byte) (s : State) : Host.Outcome State Fault Refusal :=
  .next (s.submit h .queueStatus p)

/-- SERVICE_ENTER (R67). -/
def execServiceEnter (h : CmdHeader) (p : List Byte) (s : State) : Host.Outcome State Fault Refusal :=
  .next (s.submit h .serviceEnter p)

/-- PARAM_GET (R300). -/
def execParamGet (h : CmdHeader) (p : List Byte) (s : State) : Host.Outcome State Fault Refusal :=
  .next (s.submit h .paramGet p)

/-- PARAM_SET (R294). -/
def execParamSet (h : CmdHeader) (p : List Byte) (s : State) : Host.Outcome State Fault Refusal :=
  .next (s.submit h .paramSet p)

/-- PARAM_GET_BLOCK (R293). -/
def execParamGetBlock (h : CmdHeader) (p : List Byte) (s : State) : Host.Outcome State Fault Refusal :=
  .next (s.submit h .paramGetBlock p)

/-- PARAM_STAGE (R297). -/
def execParamStage (h : CmdHeader) (p : List Byte) (s : State) : Host.Outcome State Fault Refusal :=
  .next (s.submit h .paramStage p)

/-- PARAM_COMMIT (R298). -/
def execParamCommit (h : CmdHeader) (p : List Byte) (s : State) : Host.Outcome State Fault Refusal :=
  .next (s.submit h .paramCommit p)

/-- PORT_ENABLE (R170). -/
def execPortEnable (h : CmdHeader) (p : List Byte) (s : State) : Host.Outcome State Fault Refusal :=
  .next (s.submit h .portEnable p)

/-- PORT_DISABLE (R170). -/
def execPortDisable (h : CmdHeader) (p : List Byte) (s : State) : Host.Outcome State Fault Refusal :=
  .next (s.submit h .portDisable p)

/-- PORT_RESET (R171). -/
def execPortReset (h : CmdHeader) (p : List Byte) (s : State) : Host.Outcome State Fault Refusal :=
  .next (s.submit h .portReset p)

/-- PORT_SUSPEND (R172). -/
def execPortSuspend (h : CmdHeader) (p : List Byte) (s : State) : Host.Outcome State Fault Refusal :=
  .next (s.submit h .portSuspend p)

/-- PORT_RESUME (R172). -/
def execPortResume (h : CmdHeader) (p : List Byte) (s : State) : Host.Outcome State Fault Refusal :=
  .next (s.submit h .portResume p)

/-- PORT_STATUS (R67). -/
def execPortStatus (h : CmdHeader) (p : List Byte) (s : State) : Host.Outcome State Fault Refusal :=
  .next (s.submit h .portStatus p)

/-- CHAN_ON (R226). -/
def execChanOn (h : CmdHeader) (p : List Byte) (s : State) : Host.Outcome State Fault Refusal :=
  .next (s.submit h .chanOn p)

/-- CHAN_OFF (R226). -/
def execChanOff (h : CmdHeader) (p : List Byte) (s : State) : Host.Outcome State Fault Refusal :=
  .next (s.submit h .chanOff p)

/-- CHAN_CLEAR_TRIP (R226). -/
def execChanClearTrip (h : CmdHeader) (p : List Byte) (s : State) : Host.Outcome State Fault Refusal :=
  .next (s.submit h .chanClearTrip p)

/-- CHAN_MEASURE (R231). -/
def execChanMeasure (h : CmdHeader) (p : List Byte) (s : State) : Host.Outcome State Fault Refusal :=
  .next (s.submit h .chanMeasure p)

/-- PD_STATUS (R67). -/
def execPdStatus (h : CmdHeader) (p : List Byte) (s : State) : Host.Outcome State Fault Refusal :=
  .next (s.submit h .pdStatus p)

/-- PD_RENEGOTIATE (R197). -/
def execPdRenegotiate (h : CmdHeader) (p : List Byte) (s : State) : Host.Outcome State Fault Refusal :=
  .next (s.submit h .pdRenegotiate p)

/-- PD_HARD_RESET (R204). -/
def execPdHardReset (h : CmdHeader) (p : List Byte) (s : State) : Host.Outcome State Fault Refusal :=
  .next (s.submit h .pdHardReset p)

/-- PD_VDM_SEND (R206). -/
def execPdVdmSend (h : CmdHeader) (p : List Byte) (s : State) : Host.Outcome State Fault Refusal :=
  .next (s.submit h .pdVdmSend p)

/-- PD_MODE_ENTER (R208). -/
def execPdModeEnter (h : CmdHeader) (p : List Byte) (s : State) : Host.Outcome State Fault Refusal :=
  .next (s.submit h .pdModeEnter p)

/-- PD_MODE_EXIT (R211). -/
def execPdModeExit (h : CmdHeader) (p : List Byte) (s : State) : Host.Outcome State Fault Refusal :=
  .next (s.submit h .pdModeExit p)

/-- TWI_XFER (R254). -/
def execTwiXfer (h : CmdHeader) (p : List Byte) (s : State) : Host.Outcome State Fault Refusal :=
  .next (s.submit h .twiXfer p)

/-- TWI_RECOVER (R268). -/
def execTwiRecover (h : CmdHeader) (p : List Byte) (s : State) : Host.Outcome State Fault Refusal :=
  .next (s.submit h .twiRecover p)

/-- TWI_ATTN_READ (R256). -/
def execTwiAttnRead (h : CmdHeader) (p : List Byte) (s : State) : Host.Outcome State Fault Refusal :=
  .next (s.submit h .twiAttnRead p)

/-- LEDGER_READ (R329). -/
def execLedgerRead (h : CmdHeader) (p : List Byte) (s : State) : Host.Outcome State Fault Refusal :=
  .next (s.submit h .ledgerRead p)

/-- LEDGER_MARK (R44). -/
def execLedgerMark (h : CmdHeader) (p : List Byte) (s : State) : Host.Outcome State Fault Refusal :=
  .next (s.submit h .ledgerMark p)

/-- LEDGER_HEAD (R67). -/
def execLedgerHead (h : CmdHeader) (p : List Byte) (s : State) : Host.Outcome State Fault Refusal :=
  .next (s.submit h .ledgerHead p)

/-- VOTE_SET (R139). -/
def execVoteSet (h : CmdHeader) (p : List Byte) (s : State) : Host.Outcome State Fault Refusal :=
  .next (s.submit h .voteSet p)

/-- VOTE_CLEAR (R139). -/
def execVoteClear (h : CmdHeader) (p : List Byte) (s : State) : Host.Outcome State Fault Refusal :=
  .next (s.submit h .voteClear p)

/-- PSTATE_STATUS (R140). -/
def execPstateStatus (h : CmdHeader) (p : List Byte) (s : State) : Host.Outcome State Fault Refusal :=
  .next (s.submit h .pstateStatus p)

/-- PL_SET (R157). -/
def execPlSet (h : CmdHeader) (p : List Byte) (s : State) : Host.Outcome State Fault Refusal :=
  .next (s.submit h .plSet p)

/-- PAD_RELEASE (R154). -/
def execPadRelease (h : CmdHeader) (p : List Byte) (s : State) : Host.Outcome State Fault Refusal :=
  .next (s.submit h .padRelease p)

/-- CFG_READ (R134). -/
def execCfgRead (h : CmdHeader) (p : List Byte) (s : State) : Host.Outcome State Fault Refusal :=
  .next (s.submit h .cfgRead p)

/-- CFG_WRITE_BEGIN (R132). -/
def execCfgWriteBegin (h : CmdHeader) (p : List Byte) (s : State) : Host.Outcome State Fault Refusal :=
  .next (s.submit h .cfgWriteBegin p)

/-- CFG_WRITE_DATA (R132). -/
def execCfgWriteData (h : CmdHeader) (p : List Byte) (s : State) : Host.Outcome State Fault Refusal :=
  .next (s.submit h .cfgWriteData p)

/-- CFG_WRITE_COMMIT (R132). -/
def execCfgWriteCommit (h : CmdHeader) (p : List Byte) (s : State) : Host.Outcome State Fault Refusal :=
  .next (s.submit h .cfgWriteCommit p)

/-- CFG_APPLY (R135). -/
def execCfgApply (h : CmdHeader) (p : List Byte) (s : State) : Host.Outcome State Fault Refusal :=
  .next (s.submit h .cfgApply p)

/-- TEST_RUN (R285). -/
def execTestRun (h : CmdHeader) (p : List Byte) (s : State) : Host.Outcome State Fault Refusal :=
  .next (s.submit h .testRun p)

/-- TEST_STATUS (R285). -/
def execTestStatus (h : CmdHeader) (p : List Byte) (s : State) : Host.Outcome State Fault Refusal :=
  .next (s.submit h .testStatus p)

/-- HEALTH_READ (R283). -/
def execHealthRead (h : CmdHeader) (p : List Byte) (s : State) : Host.Outcome State Fault Refusal :=
  .next (s.submit h .healthRead p)

/-- HOLD_STATUS (R67). -/
def execHoldStatus (h : CmdHeader) (p : List Byte) (s : State) : Host.Outcome State Fault Refusal :=
  .next (s.submit h .holdStatus p)

/-- HOLD_TAP_TEST (R241). -/
def execHoldTapTest (h : CmdHeader) (p : List Byte) (s : State) : Host.Outcome State Fault Refusal :=
  .next (s.submit h .holdTapTest p)

/-- TRIG_LOAD (R73). -/
def execTrigLoad (h : CmdHeader) (p : List Byte) (s : State) : Host.Outcome State Fault Refusal :=
  .next (s.submit h .trigLoad p)

/-- TRIG_ARM (R73). -/
def execTrigArm (h : CmdHeader) (p : List Byte) (s : State) : Host.Outcome State Fault Refusal :=
  .next (s.submit h .trigArm p)

/-- TRIG_DISARM (R73). -/
def execTrigDisarm (h : CmdHeader) (p : List Byte) (s : State) : Host.Outcome State Fault Refusal :=
  .next (s.submit h .trigDisarm p)

/-- RESET_CAUSE_CLEAR (R84). -/
def execResetCauseClear (h : CmdHeader) (v : Word) (s : State) : Host.Outcome State Fault Refusal :=
  .next (s.submitSet h .resetCause v)

/-- RESET_BLOCK_RST_WRITE (R95). -/
def execResetBlockRstWrite (h : CmdHeader) (v : Word) (s : State) : Host.Outcome State Fault Refusal :=
  .next (s.submitSet h .resetBlockRst v)

/-- FUSE_BURN (R80). -/
def execFuseBurn (h : CmdHeader) (v : FuseWrite) (s : State) : Host.Outcome State Fault Refusal :=
  .next (s.submitBurn h v.value v.cut)

/-- SPINE_STAT_CLEAR (R125). -/
def execSpineStatClear (h : CmdHeader) (v : Word) (s : State) : Host.Outcome State Fault Refusal :=
  .next (s.submitSet h .spineStatClear v)

/-- FORAGER_LOG_CLEAR (R283). -/
def execForagerLogClear (h : CmdHeader) (v : Word) (s : State) : Host.Outcome State Fault Refusal :=
  .next (s.submitSet h .foragerLogClear v)

/-- TRIG_ENABLE_WRITE (R302). -/
def execTrigEnableWrite (h : CmdHeader) (v : Word) (s : State) : Host.Outcome State Fault Refusal :=
  .next (s.submitSet h .trigEnable v)

end Sys2Proof.Machine
end

