-- ==== Sys2Proof/Machine/Direct.lean ====
section
/-! DEFINITION. The rows that act at once: transports, JTAG, start-up, resets, ticks, sleep, the hold-up and the data paths. -/

namespace Sys2Proof.Machine

/-- C0_BULK_OUT_PACKET (R56). -/
def execC0BulkOutPacket (bytes : List Byte) (s : State) : Host.Outcome State Fault Refusal :=
  .next (s.direct (.c0BulkOutPacket bytes) fun s => s.evBulkOut bytes)

/-- C0_PING (R56). -/
def execC0Ping (s : State) : Host.Outcome State Fault Refusal :=
  .next (s.direct (.c0Ping) fun s => s.evPing)

/-- C0_BULK_IN (R52). -/
def execC0BulkIn (s : State) : Host.Outcome State Fault Refusal :=
  .next (s.direct (.c0BulkIn) fun s => s.evBulkIn)

/-- INTERRUPT_IN_POLL (R180). -/
def execInterruptInPoll (s : State) : Host.Outcome State Fault Refusal :=
  .next (s.direct (.interruptInPoll) fun s => s.evInterruptIn)

/-- CONTROL_STANDARD_REQUEST (R177). -/
def execControlStandardRequest (r : Setup) (s : State) : Host.Outcome State Fault Refusal :=
  .next (s.direct (.controlStandardRequest r) fun s => s.evControl r)

/-- CONTROL_CLASS_VENDOR_REQUEST (R177). -/
def execControlClassVendorRequest (r : Setup) (s : State) : Host.Outcome State Fault Refusal :=
  .next (s.direct (.controlClassVendorRequest r) fun s => s.evClassVendor r)

/-- FUNCTION_BUS_RESET (R179). -/
def execFunctionBusReset (k : FunctionReset) (s : State) : Host.Outcome State Fault Refusal :=
  .next (s.direct (.functionBusReset k) fun s => s.evFunctionReset k)

/-- SVC_POINTER_WRITE (R272). -/
def execSvcPointerWrite (b : Byte) (s : State) : Host.Outcome State Fault Refusal :=
  .next (s.direct (.svcPointerWrite b) fun s => s.evSvcPointer b)

/-- SVC_COMMAND_BYTE (R57). -/
def execSvcCommandByte (b : Byte) (s : State) : Host.Outcome State Fault Refusal :=
  .next (s.direct (.svcCommandByte b) fun s => s.evSvcByte b)

/-- SVC_REPLY_READ (R53). -/
def execSvcReplyRead (s : State) : Host.Outcome State Fault Refusal :=
  .next (s.direct (.svcReplyRead) fun s => s.evSvcReply)

/-- SVC_WINDOW_READ (R273). -/
def execSvcWindowRead (n : Nat) (s : State) : Host.Outcome State Fault Refusal :=
  .next (s.direct (.svcWindowRead n) fun s => s.evSvcRead n)

/-- SVC_WINDOW_WRITE (R272). -/
def execSvcWindowWrite (b : Byte) (s : State) : Host.Outcome State Fault Refusal :=
  .next (s.direct (.svcWindowWrite b) fun s => s.evSvcWrite b)

/-- CMD_SVC_GAP_EXPIRY (R53). -/
def execCmdSvcGapExpiry (s : State) : Host.Outcome State Fault Refusal :=
  .next (s.direct (.cmdSvcGapExpiry) fun s => s.evSvcGap)

/-- CMD_PORT_SHIFT (R54). -/
def execCmdPortShift (dr : BitVec 10) (s : State) : Host.Outcome State Fault Refusal :=
  .next (s.direct (.cmdPortShift dr) fun s => s.evCmdPort dr)

/-- JTAG_IDCODE (R286). -/
def execJtagIdcode (s : State) : Host.Outcome State Fault Refusal :=
  .next (s.direct (.jtagIdcode) fun s => s.evIdcode)

/-- JTAG_BYPASS (R286). -/
def execJtagBypass (s : State) : Host.Outcome State Fault Refusal :=
  .next (s.direct (.jtagBypass) fun s => s.evBypass)

/-- JTAG_SAMPLE_PRELOAD (R286). -/
def execJtagSamplePreload (s : State) : Host.Outcome State Fault Refusal :=
  .next (s.direct (.jtagSamplePreload) fun s => s.evSample)

/-- JTAG_EXTEST (R286). -/
def execJtagExtest (s : State) : Host.Outcome State Fault Refusal :=
  .next (s.direct (.jtagExtest) fun s => s.evExtest)

/-- JTAG_INTEST (R286). -/
def execJtagIntest (s : State) : Host.Outcome State Fault Refusal :=
  .next (s.direct (.jtagIntest) fun s => s.evIntest)

/-- JTAG_EXTEST_EXIT (R286). -/
def execJtagExtestExit (s : State) : Host.Outcome State Fault Refusal :=
  .next (s.direct (.jtagExtestExit) fun s => s.evExtestExit)

/-- POR (R315). -/
def execPor (s : State) : Host.Outcome State Fault Refusal :=
  .next (s.direct (.por) fun s => s.evPor)

/-- POR_RELEASE (R315). -/
def execPorRelease (bootSel clkMode : BitVec 2) (testEn : Bool) (s : State) : Host.Outcome State Fault Refusal :=
  .next (s.direct (.porRelease bootSel clkMode testEn) fun s => s.evPorRelease bootSel clkMode testEn)

/-- PLL_LOCK (R14). -/
def execPllLock (s : State) : Host.Outcome State Fault Refusal :=
  .next (s.direct (.pllLock) fun s => s.evPllLock)

/-- PLL_LOCK_RETRY (R90). -/
def execPllLockRetry (s : State) : Host.Outcome State Fault Refusal :=
  .next (s.direct (.pllLockRetry) fun s => s.evPllRetry)

/-- FIRMWARE_AUTH (R77). -/
def execFirmwareAuth (ok : Bool) (version : BitVec 16) (badHeader : Bool) (s : State) : Host.Outcome State Fault Refusal :=
  .next (s.direct (.firmwareAuth ok version badHeader) fun s => s.evFirmwareAuth ok version badHeader)

/-- SPINE_TRAINING (R112). -/
def execSpineTraining (lanes : BitVec 10) (rails : BitVec 4) (s : State) : Host.Outcome State Fault Refusal :=
  .next (s.direct (.spineTraining lanes rails) fun s => s.evSpineTraining lanes rails)

/-- DFU_DNLOAD (R78). -/
def execDfuDnload (block : List Byte) (s : State) : Host.Outcome State Fault Refusal :=
  .next (s.direct (.dfuDnload block) fun s => s.evDfuDnload block)

/-- DFU_GETSTATUS (R78). -/
def execDfuGetstatus (s : State) : Host.Outcome State Fault Refusal :=
  .next (s.direct (.dfuGetstatus) fun s => s.evDfuGetstatus)

/-- DFU_CLRSTATUS (R78). -/
def execDfuClrstatus (s : State) : Host.Outcome State Fault Refusal :=
  .next (s.direct (.dfuClrstatus) fun s => s.evDfuClrstatus)

/-- DFU_GETSTATE (R78). -/
def execDfuGetstate (s : State) : Host.Outcome State Fault Refusal :=
  .next (s.direct (.dfuGetstate) fun s => s.evDfuGetstate)

/-- DFU_ABORT (R78). -/
def execDfuAbort (s : State) : Host.Outcome State Fault Refusal :=
  .next (s.direct (.dfuAbort) fun s => s.evDfuAbort)

/-- DFU_UPLOAD (R78). -/
def execDfuUpload (s : State) : Host.Outcome State Fault Refusal :=
  .next (s.direct (.dfuUpload) fun s => s.evDfuUpload)

/-- SVC_IMAGE_DOWNLOAD (R78). -/
def execSvcImageDownload (bytes : List Byte) (s : State) : Host.Outcome State Fault Refusal :=
  .next (s.direct (.svcImageDownload bytes) fun s => s.evSvcImage bytes)

/-- DOWNLOAD_AUTH (R78). -/
def execDownloadAuth (ok : Bool) (version : BitVec 16) (s : State) : Host.Outcome State Fault Refusal :=
  .next (s.direct (.downloadAuth ok version) fun s => s.evDownloadAuth ok version)

/-- BOR (R316). -/
def execBor (supply : Nat) (s : State) : Host.Outcome State Fault Refusal :=
  .next (s.direct (.bor supply) fun s => s.evBor supply)

/-- PIN_RESET (R91). -/
def execPinReset (s : State) : Host.Outcome State Fault Refusal :=
  .next (s.direct (.pinReset) fun s => s.evPinReset)

/-- PIN_RESET_RELEASE (R91). -/
def execPinResetRelease (s : State) : Host.Outcome State Fault Refusal :=
  .next (s.direct (.pinResetRelease) fun s => s.evPinRelease)

/-- WDT_EXPIRY (R84). -/
def execWdtExpiry (opcode : BitVec 16) (s : State) : Host.Outcome State Fault Refusal :=
  .next (s.direct (.wdtExpiry opcode) fun s => s.evWdt opcode)

/-- ECC_RESET (R85). -/
def execEccReset (addr : BitVec 24) (s : State) : Host.Outcome State Fault Refusal :=
  .next (s.direct (.eccReset addr) fun s => s.evEcc addr)

/-- RESET_STRETCH_EXPIRY (R92). -/
def execResetStretchExpiry (s : State) : Host.Outcome State Fault Refusal :=
  .next (s.direct (.resetStretchExpiry) fun s => s.evStretch)

/-- DEVICE_RESET_DELAY (R67). -/
def execDeviceResetDelay (s : State) : Host.Outcome State Fault Refusal :=
  .next (s.direct (.deviceResetDelay) fun s => s.evDeviceReset)

/-- FRAME_RECEIVED (R102). -/
def execFrameReceived (link : Nat) (toHive : Bool) (frame : SpineFrame) (crcOk : Bool) (s : State) : Host.Outcome State Fault Refusal :=
  .next (s.direct (.frameReceived link toHive frame crcOk) fun s =>
    s.evFrame link toHive frame.seq crcOk frame.acked frame.credits)

/-- LANE_RETRAIN_ATTEMPT (R107). -/
def execLaneRetrainAttempt (link lane : Nat) (s : State) : Host.Outcome State Fault Refusal :=
  .next (s.direct (.laneRetrainAttempt link lane) fun s => s.evRetrain link lane)

/-- RETRAIN_INTERVAL_RESET (R107). -/
def execRetrainIntervalReset (link lane : Nat) (s : State) : Host.Outcome State Fault Refusal :=
  .next (s.direct (.retrainIntervalReset link lane) fun s => s.evIntervalReset link lane)

/-- SB_TICK (R115). -/
def execSbTick (skew : Word) (s : State) : Host.Outcome State Fault Refusal :=
  .next (s.direct (.sbTick skew) fun s => s.evTick skew)

/-- TICK_FRAME (R116). -/
def execTickFrame (die : Nat) (skew : Word) (replayed : Bool) (s : State) : Host.Outcome State Fault Refusal :=
  .next (s.direct (.tickFrame die skew replayed) fun s => s.evTickNow die skew replayed)

/-- ANSWER (R120). -/
def execAnswer (die : Nat) (stepping microcode : Byte) (digest : BitVec 64) (s : State) : Host.Outcome State Fault Refusal :=
  .next (s.direct (.answer die stepping microcode digest) fun s => s.evAnswer die stepping microcode digest)

/-- ANSWER_TIMEOUT (R120). -/
def execAnswerTimeout (die : Nat) (s : State) : Host.Outcome State Fault Refusal :=
  .next (s.direct (.answerTimeout die) fun s => s.evAnswerTimeout die)

/-- HOLD_ENTER (R246). -/
def execHoldEnter (vveh vstore : BitVec 16) (s : State) : Host.Outcome State Fault Refusal :=
  .next (s.direct (.holdEnter vveh vstore) fun s => s.evLossOfVin vveh vstore)

/-- GATE_HOLD_CHECK (R246). -/
def execGateHoldCheck (node vstore : BitVec 16) (s : State) : Host.Outcome State Fault Refusal :=
  .next (s.direct (.gateHoldCheck node vstore) fun s => s.evGateHold node vstore)

/-- RETAINED_WRITE_DONE (R46). -/
def execRetainedWriteDone (s : State) : Host.Outcome State Fault Refusal :=
  .next (s.direct (.retainedWriteDone) fun s => s.evRetainedDone)

/-- FLASH_TAIL_DONE (R46). -/
def execFlashTailDone (s : State) : Host.Outcome State Fault Refusal :=
  .next (s.direct (.flashTailDone) fun s => s.evTailDone)

/-- HOLD_NODE_COLLAPSE (R250). -/
def execHoldNodeCollapse (s : State) : Host.Outcome State Fault Refusal :=
  .next (s.direct (.holdNodeCollapse) fun s => s.evNodeCollapse)

/-- WAKE_OFF_START (R249). -/
def execWakeOffStart (s : State) : Host.Outcome State Fault Refusal :=
  .next (s.direct (.wakeOffStart) fun s => s.evWakeOff)

/-- PSTATE_ENTER (R140). -/
def execPstateEnter (entry : SleepEntry) (s : State) : Host.Outcome State Fault Refusal :=
  .next (s.direct (.pstateEnter entry) fun s => s.evPstateEnter entry.latched entry.failed)

/-- WAKE (R149). -/
def execWake (source : Nat) (failed : BitVec 10) (s : State) : Host.Outcome State Fault Refusal :=
  .next (s.direct (.wake source failed) fun s => s.evWake source failed)

/-- REENTRY_HOLDOFF_EXPIRY (R145). -/
def execReentryHoldoffExpiry (s : State) : Host.Outcome State Fault Refusal :=
  .next (s.direct (.reentryHoldoffExpiry) fun s => s.evHoldoff)

/-- PSTATE_ALARM (R147). -/
def execPstateAlarm (s : State) : Host.Outcome State Fault Refusal :=
  .next (s.direct (.pstateAlarm) fun s => s.evAlarm)

/-- LPM_L1_REQUEST (R167). -/
def execLpmL1Request (s : State) : Host.Outcome State Fault Refusal :=
  .next (s.direct (.lpmL1Request) fun s => s.evLpm)

/-- TT_START_SPLIT (R174). -/
def execTtStartSplit (port : Nat) (split : Split) (bytes : Nat) (s : State) : Host.Outcome State Fault Refusal :=
  .next (s.direct (.ttStartSplit port split bytes) fun s => s.evStartSplit port split.kind bytes split.id)

/-- TT_COMPLETE_SPLIT (R174). -/
def execTtCompleteSplit (port : Nat) (split : Split) (s : State) : Host.Outcome State Fault Refusal :=
  .next (s.direct (.ttCompleteSplit port split) fun s => s.evCompleteSplit port split.kind split.id)

/-- TT_RESULT_EXPIRY (R174). -/
def execTtResultExpiry (port : Nat) (s : State) : Host.Outcome State Fault Refusal :=
  .next (s.direct (.ttResultExpiry port) fun s => s.evTtExpiry port)

/-- CLEAR_TT_BUFFER (R176). -/
def execClearTtBuffer (port : Nat) (s : State) : Host.Outcome State Fault Refusal :=
  .next (s.direct (.clearTtBuffer port) fun s => s.evClearBuffer port)

/-- RESET_TT (R176). -/
def execResetTt (port : Nat) (s : State) : Host.Outcome State Fault Refusal :=
  .next (s.direct (.resetTt port) fun s => s.evResetAll port)

/-- GET_TT_STATE (R176). -/
def execGetTtState (port : Nat) (s : State) : Host.Outcome State Fault Refusal :=
  .next (s.direct (.getTtState port) fun s => s.evGetTtState port)

/-- STOP_TT (R176). -/
def execStopTt (port : Nat) (s : State) : Host.Outcome State Fault Refusal :=
  .next (s.direct (.stopTt port) fun s => s.evStopTt port)

/-- CHARGER_START (R236). -/
def execChargerStart (s : State) : Host.Outcome State Fault Refusal :=
  .next (s.direct (.chargerStart) fun s => s.evChargerStart)

/-- CHARGER_STOP (R236). -/
def execChargerStop (s : State) : Host.Outcome State Fault Refusal :=
  .next (s.direct (.chargerStop) fun s => s.evChargerStop)

/-- CELL_BLEED (R237). -/
def execCellBleed (cell : Nat) (on : Bool) (s : State) : Host.Outcome State Fault Refusal :=
  .next (s.direct (.cellBleed cell on) fun s => s.evCellBleed cell on)

/-- REFILL_WAKE (R238). -/
def execRefillWake (s : State) : Host.Outcome State Fault Refusal :=
  .next (s.direct (.refillWake) fun s => s.evRefill)

/-- FORAGER_CYCLE_START (R279). -/
def execForagerCycleStart (s : State) : Host.Outcome State Fault Refusal :=
  .next (s.direct (.foragerCycleStart) fun s => s.evCycleNow)

/-- FORAGER_SLICE (R278). -/
def execForagerSlice (r : SliceResult) (s : State) : Host.Outcome State Fault Refusal :=
  .next (s.direct (.foragerSlice r) fun s => s.evSliceNow r)

/-- POR_ASSERT (R315). -/
def execPorAssert (s : State) : Host.Outcome State Fault Refusal :=
  .next (s.direct (.porAssert) fun s => s.evPorAssert)

/-- RETENTION_LOSS (R94). -/
def execRetentionLoss (s : State) : Host.Outcome State Fault Refusal :=
  .next (s.direct (.retentionLoss) fun s => s.evRetentionLoss)

/-- VIO33_LOW (R305). -/
def execVio33Low (s : State) : Host.Outcome State Fault Refusal :=
  .next (s.direct (.vio33Low) fun s => s.evVio33Low)

/-- VIO33_RESTORED (R305). -/
def execVio33Restored (s : State) : Host.Outcome State Fault Refusal :=
  .next (s.direct (.vio33Restored) fun s => s.evVio33Restored)

end Sys2Proof.Machine
end

