-- ==== Sys2Proof/Machine/Inputs.lean ====
section
/-! DEFINITION. The event rows that a detector, a timer or a partner raises: each arrives as an input of the interpreter (R59, chapters 04 to 13). -/

namespace Sys2Proof.Machine

/-- ECC_ERROR_NONCRITICAL (R85). -/
def execEccErrorNoncritical (addr : Word) (s : State) : Host.Outcome State Fault Refusal :=
  .next (s.event (.eccErrorNoncritical addr))

/-- PARITY_RESET (R31). -/
def execParityReset (die : Nat) (param : BitVec 16) (s : State) : Host.Outcome State Fault Refusal :=
  .next (s.event (.parityReset die param))

/-- BLOCK_READY (R98). -/
def execBlockReady (die : Nat) (block : Option Nat) (s : State) : Host.Outcome State Fault Refusal :=
  .next (s.event (.blockReady die block))

/-- CLOCK_DEAD_TIMEOUT (R90). -/
def execClockDeadTimeout (die block : Nat) (s : State) : Host.Outcome State Fault Refusal :=
  .next (s.event (.clockDeadTimeout die block))

/-- LANE_DROP (R105). -/
def execLaneDrop (link : Nat) (lanes : BitVec 4) (frames : Word) (s : State) : Host.Outcome State Fault Refusal :=
  .next (s.event (.laneDrop link lanes frames))

/-- LANE_REJOIN (R107). -/
def execLaneRejoin (link lane : Nat) (s : State) : Host.Outcome State Fault Refusal :=
  .next (s.event (.laneRejoin link lane))

/-- FORGE_LOSS_TIMEOUT (R13). -/
def execForgeLossTimeout (s : State) : Host.Outcome State Fault Refusal :=
  .next (s.event (.forgeLossTimeout))

/-- STATE_DIGEST_EXCHANGE (R123). -/
def execStateDigestExchange (die : Nat) (digest : Word) (diffs : List StateDiff) (s : State) : Host.Outcome State Fault Refusal :=
  .next (s.event (.stateDigestExchange die digest diffs))

/-- CRANK_ENTER (R159). -/
def execCrankEnter (s : State) : Host.Outcome State Fault Refusal :=
  .next (s.event (.crankEnter))

/-- CRANK_DEEP_SHED (R160). -/
def execCrankDeepShed (s : State) : Host.Outcome State Fault Refusal :=
  .next (s.event (.crankDeepShed))

/-- CRANK_EXIT (R161). -/
def execCrankExit (s : State) : Host.Outcome State Fault Refusal :=
  .next (s.event (.crankExit))

/-- UPSTREAM_VBUS_ARRIVAL (R164). -/
def execUpstreamVbusArrival (s : State) : Host.Outcome State Fault Refusal :=
  .next (s.event .upstreamVbusArrival)

/-- UPSTREAM_VBUS_LOSS (R164). -/
def execUpstreamVbusLoss (s : State) : Host.Outcome State Fault Refusal :=
  .next (s.event (.upstreamVbusLoss))

/-- HUB_SUSPEND (R181). -/
def execHubSuspend (s : State) : Host.Outcome State Fault Refusal :=
  .next (s.event (.hubSuspend))

/-- UP_LINK (R165). -/
def execUpLink (state speed : Nat) (training : Training) (s : State) : Host.Outcome State Fault Refusal :=
  .next (s.event (.upLink state speed training))

/-- UP_LANE_RECOVERY (R166). -/
def execUpLaneRecovery (lane : Nat) (s : State) : Host.Outcome State Fault Refusal :=
  .next (s.event (.upLaneRecovery lane))

/-- HOST_PORT_POWER (R168). -/
def execHostPortPower (port : Nat) (on : Bool) (s : State) : Host.Outcome State Fault Refusal :=
  .next (s.event (.hostPortPower port on))

/-- HOST_PORT_RESET (R171). -/
def execHostPortReset (port : Nat) (s : State) : Host.Outcome State Fault Refusal :=
  .next (s.event (.hostPortReset port))

/-- HOST_SELECTIVE_SUSPEND (R181). -/
def execHostSelectiveSuspend (port : Nat) (s : State) : Host.Outcome State Fault Refusal :=
  .next (s.event (.hostSelectiveSuspend port))

/-- HOST_PORT_RESUME (R181). -/
def execHostPortResume (port : Nat) (s : State) : Host.Outcome State Fault Refusal :=
  .next (s.event (.hostPortResume port))

/-- PORT_RESUME_COMPLETE (R172). -/
def execPortResumeComplete (port : Nat) (s : State) : Host.Outcome State Fault Refusal :=
  .next (s.event (.portResumeComplete port))

/-- DOWNSTREAM_REMOTE_WAKE (R182). -/
def execDownstreamRemoteWake (port : Nat) (s : State) : Host.Outcome State Fault Refusal :=
  .next (s.event (.downstreamRemoteWake port))

/-- PORT_RESET_COMPLETE (R171). -/
def execPortResetComplete (port : Nat) (speed : Option Nat) (s : State) : Host.Outcome State Fault Refusal :=
  .next (s.event (.portResetComplete port speed))

/-- SS_LINK_U0 (R173). -/
def execSsLinkU0 (port speed : Nat) (s : State) : Host.Outcome State Fault Refusal :=
  .next (s.event (.ssLinkU0 port speed))

/-- BABBLE (R184). -/
def execBabble (port speed : Nat) (s : State) : Host.Outcome State Fault Refusal :=
  .next (s.event (.babble port speed))

/-- CONNECT_CHATTER (R184). -/
def execConnectChatter (port changes : Nat) (s : State) : Host.Outcome State Fault Refusal :=
  .next (s.event (.connectChatter port changes))

/-- SS_TRAINING_FAIL (R184). -/
def execSsTrainingFail (port : Nat) (s : State) : Host.Outcome State Fault Refusal :=
  .next (s.event (.ssTrainingFail port))

/-- SS_INACTIVE (R184). -/
def execSsInactive (port : Nat) (s : State) : Host.Outcome State Fault Refusal :=
  .next (s.event (.ssInactive port))

/-- SUSPEND_CURRENT_CHECK (R183). -/
def execSuspendCurrentCheck (port : Nat) (average : BitVec 16) (s : State) : Host.Outcome State Fault Refusal :=
  .next (s.event (.suspendCurrentCheck port average))

/-- CYCLE_OFF_EXPIRY (R183). -/
def execCycleOffExpiry (port : Nat) (s : State) : Host.Outcome State Fault Refusal :=
  .next (s.event (.cycleOffExpiry port))

/-- PORT_ATTACH (R186). -/
def execPortAttach (port pin : Nat) (ra : Bool) (s : State) : Host.Outcome State Fault Refusal :=
  .next (s.event (.portAttach port pin ra))

/-- PORT_DETACH (R188). -/
def execPortDetach (port : Nat) (s : State) : Host.Outcome State Fault Refusal :=
  .next (s.event (.portDetach port))

/-- VCONN_OVERLOAD (R187). -/
def execVconnOverload (port : Nat) (ma : BitVec 16) (s : State) : Host.Outcome State Fault Refusal :=
  .next (s.event (.vconnOverload port ma))

/-- CABLE_DISCOVERY (R187). -/
def execCableDiscovery (port : Nat) (s : State) : Host.Outcome State Fault Refusal :=
  .next (s.event (.cableDiscovery port))

/-- RAMP_COMPLETE (R218). -/
def execRampComplete (ch : Nat) (s : State) : Host.Outcome State Fault Refusal :=
  .next (s.event (.rampComplete ch))

/-- RESERVATION_ARRIVAL (R199). -/
def execReservationArrival (port : Nat) (s : State) : Host.Outcome State Fault Refusal :=
  .next (s.event (.reservationArrival port))

/-- SRC_CAPS_REPEAT (R189). -/
def execSrcCapsRepeat (port : Nat) (s : State) : Host.Outcome State Fault Refusal :=
  .next (s.event (.srcCapsRepeat port))

/-- REQUEST (R193). -/
def execRequest (port pos op max : Nat) (rev2 : Bool) (s : State) : Host.Outcome State Fault Refusal :=
  .next (s.event (.request port pos op max rev2))

/-- SAME_RAIL_PS_RDY (R193). -/
def execSameRailPsRdy (port : Nat) (s : State) : Host.Outcome State Fault Refusal :=
  .next (s.event (.sameRailPsRdy port))

/-- TRANSITION_START (R200). -/
def execTransitionStart (port : Nat) (railOk : Bool) (s : State) : Host.Outcome State Fault Refusal :=
  .next (s.event (.transitionStart port railOk))

/-- VBUS_IN_BAND (R201). -/
def execVbusInBand (port : Nat) (s : State) : Host.Outcome State Fault Refusal :=
  .next (s.event (.vbusInBand port))

/-- RAIL_TRANSITION (R201). -/
def execRailTransition (port : Nat) (elapsed : BitVec 16) (s : State) : Host.Outcome State Fault Refusal :=
  .next (s.event (.railTransition port elapsed))

/-- PD_CONTRACT (R194). -/
def execPdContract (port : Nat) (s : State) : Host.Outcome State Fault Refusal :=
  .next (s.event (.pdContract port))

/-- TRANS_MAX_EXPIRY (R202). -/
def execTransMaxExpiry (port : Nat) (elapsed : BitVec 16) (s : State) : Host.Outcome State Fault Refusal :=
  .next (s.event (.transMaxExpiry port elapsed))

/-- SETTLE_MAX_EXPIRY (R202). -/
def execSettleMaxExpiry (port : Nat) (elapsed : BitVec 16) (s : State) : Host.Outcome State Fault Refusal :=
  .next (s.event (.settleMaxExpiry port elapsed))

/-- HARD_RESET_RECEIVED (R204). -/
def execHardResetReceived (port : Nat) (s : State) : Host.Outcome State Fault Refusal :=
  .next (s.event (.hardResetReceived port))

/-- HARD_RESET_RESTORE (R204). -/
def execHardResetRestore (port : Nat) (s : State) : Host.Outcome State Fault Refusal :=
  .next (s.event (.hardResetRestore port))

/-- SOFT_RESET (R189). -/
def execSoftReset (port : Nat) (s : State) : Host.Outcome State Fault Refusal :=
  .next (s.event (.softReset port))

/-- GET_SOURCE_CAP (R189). -/
def execGetSourceCap (port : Nat) (s : State) : Host.Outcome State Fault Refusal :=
  .next (s.event (.getSourceCap port))

/-- GET_REVISION (R189). -/
def execGetRevision (port : Nat) (s : State) : Host.Outcome State Fault Refusal :=
  .next (s.event (.getRevision port))

/-- SWAP_REQUEST (R189). -/
def execSwapRequest (port : Nat) (k : Swap) (s : State) : Host.Outcome State Fault Refusal :=
  .next (s.event (.swapRequest port k))

/-- UNSUPPORTED_MESSAGE (R189). -/
def execUnsupportedMessage (port : Nat) (k : OtherMessage) (s : State) : Host.Outcome State Fault Refusal :=
  .next (s.event (.unsupportedMessage port k))

/-- BIST (R189). -/
def execBist (port : Nat) (carrier : Bool) (s : State) : Host.Outcome State Fault Refusal :=
  .next (s.event (.bist port carrier))

/-- REQUEST_TIMEOUT (R212). -/
def execRequestTimeout (port : Nat) (s : State) : Host.Outcome State Fault Refusal :=
  .next (s.event (.requestTimeout port))

/-- VDM_RECEIVED (R207). -/
def execVdmReceived (port sop : Nat) (objects : List Word) (s : State) : Host.Outcome State Fault Refusal :=
  .next (s.event (.vdmReceived port sop objects))

/-- VDM_RESPONSE_TIMEOUT (R206). -/
def execVdmResponseTimeout (port : Nat) (s : State) : Host.Outcome State Fault Refusal :=
  .next (s.event (.vdmResponseTimeout port))

/-- VDM_SEND_DONE (R206). -/
def execVdmSendDone (port : Nat) (ok : Bool) (s : State) : Host.Outcome State Fault Refusal :=
  .next (s.event (.vdmSendDone port ok))

/-- SBU_SWITCH_CLOSE (R210). -/
def execSbuSwitchClose (port : Nat) (s : State) : Host.Outcome State Fault Refusal :=
  .next (s.event (.sbuSwitchClose port))

/-- SBU_OVERVOLTAGE (R210). -/
def execSbuOvervoltage (port : Nat) (mv : BitVec 16) (s : State) : Host.Outcome State Fault Refusal :=
  .next (s.event (.sbuOvervoltage port mv))

/-- HARD_SHORT (R216). -/
def execHardShort (ch : Nat) (ma mv : BitVec 16) (s : State) : Host.Outcome State Fault Refusal :=
  .next (s.event (.hardShort ch ma mv))

/-- CURRENT_LIMIT_REACHED (R217). -/
def execCurrentLimitReached (ch : Nat) (s : State) : Host.Outcome State Fault Refusal :=
  .next (s.event (.currentLimitReached ch))

/-- OVERLOAD_TIMEOUT (R217). -/
def execOverloadTimeout (ch : Nat) (ma mv : BitVec 16) (s : State) : Host.Outcome State Fault Refusal :=
  .next (s.event (.overloadTimeout ch ma mv))

/-- OVER_TEMPERATURE (R217). -/
def execOverTemperature (ch : Nat) (ma mv : BitVec 16) (s : State) : Host.Outcome State Fault Refusal :=
  .next (s.event (.overTemperature ch ma mv))

/-- RAMP_FAULT (R218). -/
def execRampFault (ch : Nat) (ma mv : BitVec 16) (s : State) : Host.Outcome State Fault Refusal :=
  .next (s.event (.rampFault ch ma mv))

/-- RETRY_DELAY_EXPIRY (R221). -/
def execRetryDelayExpiry (ch : Nat) (s : State) : Host.Outcome State Fault Refusal :=
  .next (s.event (.retryDelayExpiry ch))

/-- GATE_CHECK_TIMEOUT (R224). -/
def execGateCheckTimeout (ch : Nat) (mv : BitVec 16) (s : State) : Host.Outcome State Fault Refusal :=
  .next (s.event (.gateCheckTimeout ch mv))

/-- DISCHARGE_END (R225). -/
def execDischargeEnd (ch : Nat) (s : State) : Host.Outcome State Fault Refusal :=
  .next (s.event (.dischargeEnd ch))

/-- OFF_CHECK_TIMEOUT (R225). -/
def execOffCheckTimeout (ch : Nat) (mv : BitVec 16) (s : State) : Host.Outcome State Fault Refusal :=
  .next (s.event (.offCheckTimeout ch mv))

/-- BACKDRIVE (R225). -/
def execBackdrive (ch : Nat) (ms : BitVec 16) (s : State) : Host.Outcome State Fault Refusal :=
  .next (s.event (.backdrive ch ms))

/-- LEG_LEAK (R225). -/
def execLegLeak (ch : Nat) (suspect : Byte) (mv : BitVec 16) (s : State) : Host.Outcome State Fault Refusal :=
  .next (s.event (.legLeak ch suspect mv))

/-- RAIL_LOW (R227). -/
def execRailLow (rail : Nat) (s : State) : Host.Outcome State Fault Refusal :=
  .next (s.event (.railLow rail))

/-- RAIL_HIGH (R227). -/
def execRailHigh (rail : Nat) (s : State) : Host.Outcome State Fault Refusal :=
  .next (s.event (.railHigh rail))

/-- RAIL_BACK_IN_BAND (R227). -/
def execRailBackInBand (rail : Nat) (s : State) : Host.Outcome State Fault Refusal :=
  .next (s.event (.railBackInBand rail))

/-- CHARGER_FAULT (R236). -/
def execChargerFault (overvoltage : Bool) (s : State) : Host.Outcome State Fault Refusal :=
  .next (s.event (.chargerFault overvoltage))

/-- CELL_SUM_MISMATCH (R240). -/
def execCellSumMismatch (storeTop : Bool) (mv : BitVec 16) (s : State) : Host.Outcome State Fault Refusal :=
  .next (s.event (.cellSumMismatch storeTop mv))

/-- CELL_DEVIATION (R240). -/
def execCellDeviation (tap : Nat) (s : State) : Host.Outcome State Fault Refusal :=
  .next (s.event (.cellDeviation tap))

/-- TAP_TEST (R241). -/
def execTapTest (tap : Nat) (mv : BitVec 16) (s : State) : Host.Outcome State Fault Refusal :=
  .next (s.event (.tapTest tap mv))

/-- HOLD_CELL (R242). -/
def execHoldCell (cell signature : Nat) (s : State) : Host.Outcome State Fault Refusal :=
  .next (s.event (.holdCell cell signature))

/-- CAPACITANCE_ESTIMATE (R243). -/
def execCapacitanceEstimate (cell dropMv : Nat) (s : State) : Host.Outcome State Fault Refusal :=
  .next (s.event (.capacitanceEstimate cell dropMv))

/-- ENERGY_THRESHOLD (R244). -/
def execEnergyThreshold (below : Bool) (energy : BitVec 16) (s : State) : Host.Outcome State Fault Refusal :=
  .next (s.event (.energyThreshold below energy))

/-- TRANSFER_START (R255). -/
def execTransferStart (seg : Nat) (sdaLow : Bool) (s : State) : Host.Outcome State Fault Refusal :=
  .next (s.event (.transferStart seg sdaLow))

/-- TRANSFER_COMPLETE (R255). -/
def execTransferComplete (seg : Nat) (e : BusEnd) (s : State) : Host.Outcome State Fault Refusal :=
  .next (s.event (.transferComplete seg e))

/-- ARBITRATION_LOST (R257). -/
def execArbitrationLost (seg : Nat) (s : State) : Host.Outcome State Fault Refusal :=
  .next (s.event (.arbitrationLost seg))

/-- STRETCH_TIMEOUT (R258). -/
def execStretchTimeout (seg : Nat) (us : Word) (s : State) : Host.Outcome State Fault Refusal :=
  .next (s.event (.stretchTimeout seg us))

/-- STRETCH_INSIDE_BYTE (R258). -/
def execStretchInsideByte (seg : Nat) (s : State) : Host.Outcome State Fault Refusal :=
  .next (s.event (.stretchInsideByte seg))

/-- STRETCH_HOLD_TIMEOUT (R258). -/
def execStretchHoldTimeout (seg : Nat) (s : State) : Host.Outcome State Fault Refusal :=
  .next (s.event (.stretchHoldTimeout seg))

/-- IN_BAND_REQUEST (R262). -/
def execInBandRequest (seg : Nat) (released : Bool) (s : State) : Host.Outcome State Fault Refusal :=
  .next (s.event (.inBandRequest seg released))

/-- TW_ATTN (R263). -/
def execTwAttn (seg : Nat) (status : Nat) (bytes : List Byte) (s : State) : Host.Outcome State Fault Refusal :=
  .next (s.event (.twAttn seg status bytes))

/-- MAILBOX_WRITE (R264). -/
def execMailboxWrite (seg : Nat) (bytes : List Byte) (s : State) : Host.Outcome State Fault Refusal :=
  .next (s.event (.mailboxWrite seg bytes))

/-- MAILBOX_OVERFLOW (R264). -/
def execMailboxOverflow (seg : Nat) (s : State) : Host.Outcome State Fault Refusal :=
  .next (s.event (.mailboxOverflow seg))

/-- RECOVERY_PULSES (R266). -/
def execRecoveryPulses (seg : Nat) (pulses : Nat) (released : Bool) (s : State) : Host.Outcome State Fault Refusal :=
  .next (s.event (.recoveryPulses seg pulses released))

/-- POWER_LINK_OFF_EXPIRY (R267). -/
def execPowerLinkOffExpiry (seg : Nat) (s : State) : Host.Outcome State Fault Refusal :=
  .next (s.event (.powerLinkOffExpiry seg))

/-- POWER_LINK_SETTLE (R267). -/
def execPowerLinkSettle (seg : Nat) (s : State) : Host.Outcome State Fault Refusal :=
  .next (s.event (.powerLinkSettle seg))

/-- RECOVER_BUS_FREE_WAIT (R268). -/
def execRecoverBusFreeWait (seg : Nat) (sdaHigh : Bool) (s : State) : Host.Outcome State Fault Refusal :=
  .next (s.event (.recoverBusFreeWait seg sdaHigh))

/-- CFG_ERASE_DONE (R132). -/
def execCfgEraseDone (s : State) : Host.Outcome State Fault Refusal :=
  .next (s.event (.cfgEraseDone))

/-- CFG_TRAILER_READBACK (R132). -/
def execCfgTrailerReadback (ok : Bool) (s : State) : Host.Outcome State Fault Refusal :=
  .next (s.event (.cfgTrailerReadback ok))

/-- CFG_SESSION_END (R134). -/
def execCfgSessionEnd (s : State) : Host.Outcome State Fault Refusal :=
  .next (s.event (.cfgSessionEnd))

/-- REGULATION_END (R217). -/
def execRegulationEnd (ch : Nat) (s : State) : Host.Outcome State Fault Refusal :=
  .next (s.event (.regulationEnd ch))

/-- GATE_CHECK_PASS (R224). -/
def execGateCheckPass (ch : Nat) (s : State) : Host.Outcome State Fault Refusal :=
  .next (s.event (.gateCheckPass ch))

/-- GOODCRC_RECEIVED (R200). -/
def execGoodcrcReceived (port : Nat) (s : State) : Host.Outcome State Fault Refusal :=
  .next (s.event (.goodcrcReceived port))

/-- SOFT_RESET_ACCEPTED (R212). -/
def execSoftResetAccepted (port : Nat) (s : State) : Host.Outcome State Fault Refusal :=
  .next (s.event (.softResetAccepted port))

/-- DOWNSTREAM_CONNECT_CHANGE (R184). -/
def execDownstreamConnectChange (port : Nat) (connected superSpeed : Bool) (s : State) : Host.Outcome State Fault Refusal :=
  .next (s.event (.downstreamConnectChange port connected superSpeed))

/-- HUB_CONTROL_REQUEST (R182). -/
def execHubControlRequest (ss : Bool) (r : HubRequest) (s : State) : Host.Outcome State Fault Refusal :=
  .next (s.event (.hubControlRequest ss r))

/-- TEST_COMPLETE (R285). -/
def execTestComplete (passed : Bool) (item : Word) (s : State) : Host.Outcome State Fault Refusal :=
  .next (s.event (.testComplete passed item))

/-- PORT_SUSPEND_COMPLETE (R172). -/
def execPortSuspendComplete (port : Nat) (s : State) : Host.Outcome State Fault Refusal :=
  .next (s.event (.portSuspendComplete port))

/-- SBU_SWITCH_OPEN (R211). -/
def execSbuSwitchOpen (port : Nat) (s : State) : Host.Outcome State Fault Refusal :=
  .next (s.event (.sbuSwitchOpen port))

end Sys2Proof.Machine
end

