-- ==== Sys2Proof/Machine/Dispatch.lean ====
section
/-! DEFINITION. The dispatch: one arm for each row of spec/opcode_table.json. -/

namespace Sys2Proof.Machine

def exec (i : Instr) (s : State) : Host.Outcome State Fault Refusal :=
  match i with
  | .echo h p => Sys2Proof.Machine.execEcho h p s
  | .identify h p => Sys2Proof.Machine.execIdentify h p s
  | .reset h p => Sys2Proof.Machine.execReset h p s
  | .modeRequest h p => Sys2Proof.Machine.execModeRequest h p s
  | .queueStatus h p => Sys2Proof.Machine.execQueueStatus h p s
  | .serviceEnter h p => Sys2Proof.Machine.execServiceEnter h p s
  | .paramGet h p => Sys2Proof.Machine.execParamGet h p s
  | .paramSet h p => Sys2Proof.Machine.execParamSet h p s
  | .paramGetBlock h p => Sys2Proof.Machine.execParamGetBlock h p s
  | .paramStage h p => Sys2Proof.Machine.execParamStage h p s
  | .paramCommit h p => Sys2Proof.Machine.execParamCommit h p s
  | .portEnable h p => Sys2Proof.Machine.execPortEnable h p s
  | .portDisable h p => Sys2Proof.Machine.execPortDisable h p s
  | .portReset h p => Sys2Proof.Machine.execPortReset h p s
  | .portSuspend h p => Sys2Proof.Machine.execPortSuspend h p s
  | .portResume h p => Sys2Proof.Machine.execPortResume h p s
  | .portStatus h p => Sys2Proof.Machine.execPortStatus h p s
  | .chanOn h p => Sys2Proof.Machine.execChanOn h p s
  | .chanOff h p => Sys2Proof.Machine.execChanOff h p s
  | .chanClearTrip h p => Sys2Proof.Machine.execChanClearTrip h p s
  | .chanMeasure h p => Sys2Proof.Machine.execChanMeasure h p s
  | .pdStatus h p => Sys2Proof.Machine.execPdStatus h p s
  | .pdRenegotiate h p => Sys2Proof.Machine.execPdRenegotiate h p s
  | .pdHardReset h p => Sys2Proof.Machine.execPdHardReset h p s
  | .pdVdmSend h p => Sys2Proof.Machine.execPdVdmSend h p s
  | .pdModeEnter h p => Sys2Proof.Machine.execPdModeEnter h p s
  | .pdModeExit h p => Sys2Proof.Machine.execPdModeExit h p s
  | .twiXfer h p => Sys2Proof.Machine.execTwiXfer h p s
  | .twiRecover h p => Sys2Proof.Machine.execTwiRecover h p s
  | .twiAttnRead h p => Sys2Proof.Machine.execTwiAttnRead h p s
  | .ledgerRead h p => Sys2Proof.Machine.execLedgerRead h p s
  | .ledgerMark h p => Sys2Proof.Machine.execLedgerMark h p s
  | .ledgerHead h p => Sys2Proof.Machine.execLedgerHead h p s
  | .voteSet h p => Sys2Proof.Machine.execVoteSet h p s
  | .voteClear h p => Sys2Proof.Machine.execVoteClear h p s
  | .pstateStatus h p => Sys2Proof.Machine.execPstateStatus h p s
  | .plSet h p => Sys2Proof.Machine.execPlSet h p s
  | .padRelease h p => Sys2Proof.Machine.execPadRelease h p s
  | .cfgRead h p => Sys2Proof.Machine.execCfgRead h p s
  | .cfgWriteBegin h p => Sys2Proof.Machine.execCfgWriteBegin h p s
  | .cfgWriteData h p => Sys2Proof.Machine.execCfgWriteData h p s
  | .cfgWriteCommit h p => Sys2Proof.Machine.execCfgWriteCommit h p s
  | .cfgApply h p => Sys2Proof.Machine.execCfgApply h p s
  | .testRun h p => Sys2Proof.Machine.execTestRun h p s
  | .testStatus h p => Sys2Proof.Machine.execTestStatus h p s
  | .healthRead h p => Sys2Proof.Machine.execHealthRead h p s
  | .holdStatus h p => Sys2Proof.Machine.execHoldStatus h p s
  | .holdTapTest h p => Sys2Proof.Machine.execHoldTapTest h p s
  | .trigLoad h p => Sys2Proof.Machine.execTrigLoad h p s
  | .trigArm h p => Sys2Proof.Machine.execTrigArm h p s
  | .trigDisarm h p => Sys2Proof.Machine.execTrigDisarm h p s
  | .resetCauseClear h v => Sys2Proof.Machine.execResetCauseClear h v s
  | .resetBlockRstWrite h v => Sys2Proof.Machine.execResetBlockRstWrite h v s
  | .fuseBurn h v => Sys2Proof.Machine.execFuseBurn h v s
  | .spineStatClear h v => Sys2Proof.Machine.execSpineStatClear h v s
  | .foragerLogClear h v => Sys2Proof.Machine.execForagerLogClear h v s
  | .trigEnableWrite h v => Sys2Proof.Machine.execTrigEnableWrite h v s
  | .c0BulkOutPacket bytes => Sys2Proof.Machine.execC0BulkOutPacket bytes s
  | .c0Ping => Sys2Proof.Machine.execC0Ping s
  | .c0BulkIn => Sys2Proof.Machine.execC0BulkIn s
  | .interruptInPoll => Sys2Proof.Machine.execInterruptInPoll s
  | .controlStandardRequest r => Sys2Proof.Machine.execControlStandardRequest r s
  | .controlClassVendorRequest r => Sys2Proof.Machine.execControlClassVendorRequest r s
  | .functionBusReset k => Sys2Proof.Machine.execFunctionBusReset k s
  | .svcPointerWrite b => Sys2Proof.Machine.execSvcPointerWrite b s
  | .svcCommandByte b => Sys2Proof.Machine.execSvcCommandByte b s
  | .svcReplyRead => Sys2Proof.Machine.execSvcReplyRead s
  | .svcWindowRead n => Sys2Proof.Machine.execSvcWindowRead n s
  | .svcWindowWrite b => Sys2Proof.Machine.execSvcWindowWrite b s
  | .cmdSvcGapExpiry => Sys2Proof.Machine.execCmdSvcGapExpiry s
  | .cmdPortShift dr => Sys2Proof.Machine.execCmdPortShift dr s
  | .jtagIdcode => Sys2Proof.Machine.execJtagIdcode s
  | .jtagBypass => Sys2Proof.Machine.execJtagBypass s
  | .jtagSamplePreload => Sys2Proof.Machine.execJtagSamplePreload s
  | .jtagExtest => Sys2Proof.Machine.execJtagExtest s
  | .jtagIntest => Sys2Proof.Machine.execJtagIntest s
  | .jtagExtestExit => Sys2Proof.Machine.execJtagExtestExit s
  | .por => Sys2Proof.Machine.execPor s
  | .porRelease bootSel clkMode testEn => Sys2Proof.Machine.execPorRelease bootSel clkMode testEn s
  | .pllLock => Sys2Proof.Machine.execPllLock s
  | .pllLockRetry => Sys2Proof.Machine.execPllLockRetry s
  | .firmwareAuth ok version badHeader => Sys2Proof.Machine.execFirmwareAuth ok version badHeader s
  | .spineTraining lanes rails => Sys2Proof.Machine.execSpineTraining lanes rails s
  | .dfuDnload block => Sys2Proof.Machine.execDfuDnload block s
  | .dfuGetstatus => Sys2Proof.Machine.execDfuGetstatus s
  | .dfuClrstatus => Sys2Proof.Machine.execDfuClrstatus s
  | .dfuGetstate => Sys2Proof.Machine.execDfuGetstate s
  | .dfuAbort => Sys2Proof.Machine.execDfuAbort s
  | .dfuUpload => Sys2Proof.Machine.execDfuUpload s
  | .svcImageDownload bytes => Sys2Proof.Machine.execSvcImageDownload bytes s
  | .downloadAuth ok version => Sys2Proof.Machine.execDownloadAuth ok version s
  | .bor supply => Sys2Proof.Machine.execBor supply s
  | .pinReset => Sys2Proof.Machine.execPinReset s
  | .pinResetRelease => Sys2Proof.Machine.execPinResetRelease s
  | .wdtExpiry opcode => Sys2Proof.Machine.execWdtExpiry opcode s
  | .eccReset addr => Sys2Proof.Machine.execEccReset addr s
  | .eccErrorNoncritical addr => Sys2Proof.Machine.execEccErrorNoncritical addr s
  | .parityReset die param => Sys2Proof.Machine.execParityReset die param s
  | .resetStretchExpiry => Sys2Proof.Machine.execResetStretchExpiry s
  | .deviceResetDelay => Sys2Proof.Machine.execDeviceResetDelay s
  | .blockReady die block => Sys2Proof.Machine.execBlockReady die block s
  | .clockDeadTimeout die block => Sys2Proof.Machine.execClockDeadTimeout die block s
  | .frameReceived link toHive frame crcOk => Sys2Proof.Machine.execFrameReceived link toHive frame crcOk s
  | .laneDrop link lanes frames => Sys2Proof.Machine.execLaneDrop link lanes frames s
  | .laneRetrainAttempt link lane => Sys2Proof.Machine.execLaneRetrainAttempt link lane s
  | .laneRejoin link lane => Sys2Proof.Machine.execLaneRejoin link lane s
  | .retrainIntervalReset link lane => Sys2Proof.Machine.execRetrainIntervalReset link lane s
  | .forgeLossTimeout => Sys2Proof.Machine.execForgeLossTimeout s
  | .sbTick skew => Sys2Proof.Machine.execSbTick skew s
  | .tickFrame die skew replayed => Sys2Proof.Machine.execTickFrame die skew replayed s
  | .stateDigestExchange die digest diffs => Sys2Proof.Machine.execStateDigestExchange die digest diffs s
  | .answer die stepping microcode digest => Sys2Proof.Machine.execAnswer die stepping microcode digest s
  | .answerTimeout die => Sys2Proof.Machine.execAnswerTimeout die s
  | .holdEnter vveh vstore => Sys2Proof.Machine.execHoldEnter vveh vstore s
  | .gateHoldCheck node vstore => Sys2Proof.Machine.execGateHoldCheck node vstore s
  | .retainedWriteDone => Sys2Proof.Machine.execRetainedWriteDone s
  | .flashTailDone => Sys2Proof.Machine.execFlashTailDone s
  | .holdNodeCollapse => Sys2Proof.Machine.execHoldNodeCollapse s
  | .wakeOffStart => Sys2Proof.Machine.execWakeOffStart s
  | .crankEnter => Sys2Proof.Machine.execCrankEnter s
  | .crankDeepShed => Sys2Proof.Machine.execCrankDeepShed s
  | .crankExit => Sys2Proof.Machine.execCrankExit s
  | .upstreamVbusArrival => Sys2Proof.Machine.execUpstreamVbusArrival s
  | .upstreamVbusLoss => Sys2Proof.Machine.execUpstreamVbusLoss s
  | .pstateEnter entry => Sys2Proof.Machine.execPstateEnter entry s
  | .wake source failed => Sys2Proof.Machine.execWake source failed s
  | .reentryHoldoffExpiry => Sys2Proof.Machine.execReentryHoldoffExpiry s
  | .pstateAlarm => Sys2Proof.Machine.execPstateAlarm s
  | .hubSuspend => Sys2Proof.Machine.execHubSuspend s
  | .upLink state speed training => Sys2Proof.Machine.execUpLink state speed training s
  | .upLaneRecovery lane => Sys2Proof.Machine.execUpLaneRecovery lane s
  | .lpmL1Request => Sys2Proof.Machine.execLpmL1Request s
  | .hostPortPower port on => Sys2Proof.Machine.execHostPortPower port on s
  | .hostPortReset port => Sys2Proof.Machine.execHostPortReset port s
  | .hostSelectiveSuspend port => Sys2Proof.Machine.execHostSelectiveSuspend port s
  | .hostPortResume port => Sys2Proof.Machine.execHostPortResume port s
  | .portResumeComplete port => Sys2Proof.Machine.execPortResumeComplete port s
  | .downstreamRemoteWake port => Sys2Proof.Machine.execDownstreamRemoteWake port s
  | .portResetComplete port speed => Sys2Proof.Machine.execPortResetComplete port speed s
  | .ssLinkU0 port speed => Sys2Proof.Machine.execSsLinkU0 port speed s
  | .babble port speed => Sys2Proof.Machine.execBabble port speed s
  | .connectChatter port changes => Sys2Proof.Machine.execConnectChatter port changes s
  | .ssTrainingFail port => Sys2Proof.Machine.execSsTrainingFail port s
  | .ssInactive port => Sys2Proof.Machine.execSsInactive port s
  | .suspendCurrentCheck port average => Sys2Proof.Machine.execSuspendCurrentCheck port average s
  | .cycleOffExpiry port => Sys2Proof.Machine.execCycleOffExpiry port s
  | .ttStartSplit port split bytes => Sys2Proof.Machine.execTtStartSplit port split bytes s
  | .ttCompleteSplit port split => Sys2Proof.Machine.execTtCompleteSplit port split s
  | .ttResultExpiry port => Sys2Proof.Machine.execTtResultExpiry port s
  | .clearTtBuffer port => Sys2Proof.Machine.execClearTtBuffer port s
  | .resetTt port => Sys2Proof.Machine.execResetTt port s
  | .getTtState port => Sys2Proof.Machine.execGetTtState port s
  | .stopTt port => Sys2Proof.Machine.execStopTt port s
  | .portAttach port pin ra => Sys2Proof.Machine.execPortAttach port pin ra s
  | .portDetach port => Sys2Proof.Machine.execPortDetach port s
  | .vconnOverload port ma => Sys2Proof.Machine.execVconnOverload port ma s
  | .cableDiscovery port => Sys2Proof.Machine.execCableDiscovery port s
  | .rampComplete ch => Sys2Proof.Machine.execRampComplete ch s
  | .reservationArrival port => Sys2Proof.Machine.execReservationArrival port s
  | .srcCapsRepeat port => Sys2Proof.Machine.execSrcCapsRepeat port s
  | .request port pos op max rev2 => Sys2Proof.Machine.execRequest port pos op max rev2 s
  | .sameRailPsRdy port => Sys2Proof.Machine.execSameRailPsRdy port s
  | .transitionStart port railOk => Sys2Proof.Machine.execTransitionStart port railOk s
  | .vbusInBand port => Sys2Proof.Machine.execVbusInBand port s
  | .railTransition port elapsed => Sys2Proof.Machine.execRailTransition port elapsed s
  | .pdContract port => Sys2Proof.Machine.execPdContract port s
  | .transMaxExpiry port elapsed => Sys2Proof.Machine.execTransMaxExpiry port elapsed s
  | .settleMaxExpiry port elapsed => Sys2Proof.Machine.execSettleMaxExpiry port elapsed s
  | .hardResetReceived port => Sys2Proof.Machine.execHardResetReceived port s
  | .hardResetRestore port => Sys2Proof.Machine.execHardResetRestore port s
  | .softReset port => Sys2Proof.Machine.execSoftReset port s
  | .getSourceCap port => Sys2Proof.Machine.execGetSourceCap port s
  | .getRevision port => Sys2Proof.Machine.execGetRevision port s
  | .swapRequest port k => Sys2Proof.Machine.execSwapRequest port k s
  | .unsupportedMessage port k => Sys2Proof.Machine.execUnsupportedMessage port k s
  | .bist port carrier => Sys2Proof.Machine.execBist port carrier s
  | .requestTimeout port => Sys2Proof.Machine.execRequestTimeout port s
  | .vdmReceived port sop objects => Sys2Proof.Machine.execVdmReceived port sop objects s
  | .vdmResponseTimeout port => Sys2Proof.Machine.execVdmResponseTimeout port s
  | .vdmSendDone port ok => Sys2Proof.Machine.execVdmSendDone port ok s
  | .sbuSwitchClose port => Sys2Proof.Machine.execSbuSwitchClose port s
  | .sbuOvervoltage port mv => Sys2Proof.Machine.execSbuOvervoltage port mv s
  | .hardShort ch ma mv => Sys2Proof.Machine.execHardShort ch ma mv s
  | .currentLimitReached ch => Sys2Proof.Machine.execCurrentLimitReached ch s
  | .overloadTimeout ch ma mv => Sys2Proof.Machine.execOverloadTimeout ch ma mv s
  | .overTemperature ch ma mv => Sys2Proof.Machine.execOverTemperature ch ma mv s
  | .rampFault ch ma mv => Sys2Proof.Machine.execRampFault ch ma mv s
  | .retryDelayExpiry ch => Sys2Proof.Machine.execRetryDelayExpiry ch s
  | .gateCheckTimeout ch mv => Sys2Proof.Machine.execGateCheckTimeout ch mv s
  | .dischargeEnd ch => Sys2Proof.Machine.execDischargeEnd ch s
  | .offCheckTimeout ch mv => Sys2Proof.Machine.execOffCheckTimeout ch mv s
  | .backdrive ch ms => Sys2Proof.Machine.execBackdrive ch ms s
  | .legLeak ch suspect mv => Sys2Proof.Machine.execLegLeak ch suspect mv s
  | .railLow rail => Sys2Proof.Machine.execRailLow rail s
  | .railHigh rail => Sys2Proof.Machine.execRailHigh rail s
  | .railBackInBand rail => Sys2Proof.Machine.execRailBackInBand rail s
  | .chargerStart => Sys2Proof.Machine.execChargerStart s
  | .chargerStop => Sys2Proof.Machine.execChargerStop s
  | .chargerFault overvoltage => Sys2Proof.Machine.execChargerFault overvoltage s
  | .cellBleed cell on => Sys2Proof.Machine.execCellBleed cell on s
  | .refillWake => Sys2Proof.Machine.execRefillWake s
  | .cellSumMismatch storeTop mv => Sys2Proof.Machine.execCellSumMismatch storeTop mv s
  | .cellDeviation tap => Sys2Proof.Machine.execCellDeviation tap s
  | .tapTest tap mv => Sys2Proof.Machine.execTapTest tap mv s
  | .holdCell cell signature => Sys2Proof.Machine.execHoldCell cell signature s
  | .capacitanceEstimate cell dropMv => Sys2Proof.Machine.execCapacitanceEstimate cell dropMv s
  | .energyThreshold below energy => Sys2Proof.Machine.execEnergyThreshold below energy s
  | .transferStart seg sdaLow => Sys2Proof.Machine.execTransferStart seg sdaLow s
  | .transferComplete seg e => Sys2Proof.Machine.execTransferComplete seg e s
  | .arbitrationLost seg => Sys2Proof.Machine.execArbitrationLost seg s
  | .stretchTimeout seg us => Sys2Proof.Machine.execStretchTimeout seg us s
  | .stretchInsideByte seg => Sys2Proof.Machine.execStretchInsideByte seg s
  | .stretchHoldTimeout seg => Sys2Proof.Machine.execStretchHoldTimeout seg s
  | .inBandRequest seg released => Sys2Proof.Machine.execInBandRequest seg released s
  | .twAttn seg status bytes => Sys2Proof.Machine.execTwAttn seg status bytes s
  | .mailboxWrite seg bytes => Sys2Proof.Machine.execMailboxWrite seg bytes s
  | .mailboxOverflow seg => Sys2Proof.Machine.execMailboxOverflow seg s
  | .recoveryPulses seg pulses released => Sys2Proof.Machine.execRecoveryPulses seg pulses released s
  | .powerLinkOffExpiry seg => Sys2Proof.Machine.execPowerLinkOffExpiry seg s
  | .powerLinkSettle seg => Sys2Proof.Machine.execPowerLinkSettle seg s
  | .recoverBusFreeWait seg sdaHigh => Sys2Proof.Machine.execRecoverBusFreeWait seg sdaHigh s
  | .foragerCycleStart => Sys2Proof.Machine.execForagerCycleStart s
  | .foragerSlice r => Sys2Proof.Machine.execForagerSlice r s
  | .cfgEraseDone => Sys2Proof.Machine.execCfgEraseDone s
  | .cfgTrailerReadback ok => Sys2Proof.Machine.execCfgTrailerReadback ok s
  | .cfgSessionEnd => Sys2Proof.Machine.execCfgSessionEnd s
  | .porAssert => Sys2Proof.Machine.execPorAssert s
  | .retentionLoss => Sys2Proof.Machine.execRetentionLoss s
  | .regulationEnd ch => Sys2Proof.Machine.execRegulationEnd ch s
  | .gateCheckPass ch => Sys2Proof.Machine.execGateCheckPass ch s
  | .goodcrcReceived port => Sys2Proof.Machine.execGoodcrcReceived port s
  | .softResetAccepted port => Sys2Proof.Machine.execSoftResetAccepted port s
  | .downstreamConnectChange port connected superSpeed => Sys2Proof.Machine.execDownstreamConnectChange port connected superSpeed s
  | .hubControlRequest ss r => Sys2Proof.Machine.execHubControlRequest ss r s
  | .testComplete passed item => Sys2Proof.Machine.execTestComplete passed item s
  | .portSuspendComplete port => Sys2Proof.Machine.execPortSuspendComplete port s
  | .sbuSwitchOpen port => Sys2Proof.Machine.execSbuSwitchOpen port s
  | .vio33Low => Sys2Proof.Machine.execVio33Low s
  | .vio33Restored => Sys2Proof.Machine.execVio33Restored s

end Sys2Proof.Machine
end

