-- ==== Sys2Proof/Machine/Pads.lean ====
section
/-! DEFINITION. What the 96 configurable pads and the fixed outputs show, read from the state: the fuse codes with their substitutions, the gates and legs, the two-wire and SBU switches, RESET_OUT_N, VCORE_SEL and the CC balls (chapters 04, 09 and 16). -/

namespace Sys2Proof.Machine

/-- What a pad does. `function` is a pad that its block drives or receives on. -/
inductive PadDrive where
  | hiZ | pullDown | pullUp | low | high
  /-- A gate driven to turn its FET pair on. -/
  | gateOn
  | function
  /-- An SBU pad that its closed switch joins to the segment's SCL or SDA (R210). -/
  | scl | sda
  deriving DecidableEq, Repr

/-- The factory bank (Table 16-7). -/
def padFactory (i : Nat) : Nat :=
  if i < 34 then 0 else if i = 34 then 2 else if i = 35 then 1 else if i < 40 then 2
  else if i < 64 then 3 else 0

/-- The code that acts where a pad type cannot take one (Table 16-7, R307). -/
def padSubstitute (i code : Nat) : Nat :=
  if 24 ≤ i && i < 34 then (if code = 4 then 0 else code)
  else if 40 ≤ i && i < 64 then (if code = 1 then 1 else 3)
  else if 64 ≤ i then (if code = 3 || code = 4 then 0 else code)
  else code

/-- Table 04-2. -/
def padOfCode (code : Nat) : PadDrive :=
  match code with
  | 1 => .pullDown
  | 2 => .pullUp
  | 3 => .low
  | 4 => .high
  | _ => .hiZ

/-- The code of a pad in the bank that the sequencer last read (R80). -/
def State.padCode (s : State) (i : Nat) : Nat :=
  padSubstitute i (if s.ember.fuseInForce then (s.ember.fuseBank.getD i 0).toNat % 8 else padFactory i)

/-- No supply, or OFF: the states of R309 hold. -/
def State.padsDark (s : State) : Bool :=
  match s.phase with
  | .unpowered | .off => true
  | _ => false

/-- The channel and the rail that a GATE pad serves: AUX1 to AUX8, then four gates each of PORT13 to PORT16. -/
def gateOf (i : Nat) : Nat × Option Nat :=
  if i < 48 then (i - 40 + 17, none) else ((i - 48) / 4 + 13, some ((i - 48) % 4))

/-- Forge conducts on a channel: it is on, and no trip waits for Hive (R10). -/
def State.conductsAt (s : State) (ch : Nat) : Bool := (s.chan ch).state.conducts && !(s.chan ch).tripped

/-- The leg of a port that is closed or, on PORT13 to PORT16, whose gate is driven: one at a time (R200, R204, R213). -/
def State.legClosed (s : State) (p : Nat) : Option Nat := if s.conductsAt p then (s.chan p).gate else none

/-- The gate is driven on: its channel conducts, over this leg where the channel has legs (R213, R214). -/
def State.gateDriven (s : State) (i : Nat) : Bool :=
  match gateOf i with
  | (ch, none) => s.conductsAt ch
  | (ch, some leg) => s.legClosed ch == some leg

/-- The two-wire segment whose SCL or SDA a pad is; 4 for SVC. -/
def segOf (i : Nat) : Nat := (i - 24) / 2

/-- A Hive or Comb pad before the supplies of its die are good: they are at the release of POR (R79, R309; DEDUCED, log 110). -/
def State.padsEarly (s : State) : Bool := s.padsDark || s.phase == .porHeld

/-- The pads of TW0 to TW3 and SVC: hi-Z while the segment is disabled (R251, R252) or, but for TW0 and SVC, unpowered in DEEP
SLEEP (R309); the fuse state while nothing has driven them since a reset. -/
def State.twoWirePad (s : State) (n : Nat) (fuse : PadDrive) : PadDrive :=
  if n = 4 then (if s.hiveRuns || s.mode.asleep then .function else fuse)
  else if s.phase != .up then fuse
  else if n != 0 && s.domain .forgeCtl == .off then .hiZ
  else if s.segDown n then fuse
  else if s.segEnabled n then .function
  else .hiZ

/-- The SBU pads of a port: hi-Z on an unpowered die, joined to SCL or SDA by the closed switch so that the SBU1 of the plug
carries SCL whichever way it is turned (R210, R308), and else the fuse state. -/
def State.sbuPad (s : State) (p pin : Nat) (fuse : PadDrive) : PadDrive :=
  if s.padsEarly || (!s.mode.asleep && (s.die (combOf p)).absent) then .hiZ
  else if (s.port p).pd.sbuClosed then (if (pin == 1) == ((s.port p).pin == 1) then .scl else .sda)
  else fuse

/-- The configurable pads (R79, R305, R307 to R309, R152). -/
def State.pad (s : State) (i : Nat) : PadDrive :=
  let fuse := padOfCode (s.padCode i)
  if 40 ≤ i && i < 64 then
    if s.padsDark then .pullDown else if s.gateDriven i then .gateOn else fuse
  else if s.padsDark then .hiZ
  else if i < 24 then (if s.ember.vio33Low then .hiZ else fuse)
  else if i < 34 then s.twoWirePad (segOf i) fuse
  else if 64 ≤ i then s.sbuPad ((i - 64) / 2 + 1) (i % 2 + 1) fuse
  else if s.padsEarly then .hiZ
  else if s.hiveRuns || s.mode == .banked then .function
  else fuse

/-! The CC balls (R3, R185, R187, R309). -/

/-- What a CC ball presents: an Rp level, Rd, VCONN. -/
structure CcBall where
  rp : Option Nat
  rd : Bool
  vconn : Bool
  deriving DecidableEq, Repr

def CcBall.none : CcBall := ⟨Option.none, false, false⟩

/-- UP_CC1 and UP_CC2: Rd on both while their domain has power, and nothing else ever (R3, R309). -/
def State.upCc (s : State) : CcBall :=
  if s.padsEarly || s.domain .upPhy == .off then CcBall.none else { CcBall.none with rd := true }

/-- CC1 and CC2 of a downstream port: Rp on both, or VCONN in place of it on the pin that showed Ra (R185, R187, R225); never Rd.
-/
def State.cc (s : State) (p pin : Nat) : CcBall :=
  let q := s.port p
  if s.padsEarly || s.phase != .up || s.dieGone (combOf p) || s.blockDown (combOf p) blkPd
    || s.domain (if combOf p = 1 then .combA else .combB) == .off then CcBall.none
  else if q.attached && q.vconn && pin != q.pin then { CcBall.none with vconn := true }
  else if q.rpRemoved then CcBall.none
  else { CcBall.none with rp := some (s.rpShown p) }

/-- RESET_OUT_N (R92, R309): driven low, or left to its pull-up. -/
def State.resetOut (s : State) : PadDrive := if s.ember.resetOutLow || s.padsDark then .low else .hiZ

/-- VCORE_SEL[1:0] (R27, R304, R309). -/
def State.vcorePins (s : State) : Nat := if s.padsDark then 1 else s.pw.vcoreSel

end Sys2Proof.Machine
end

