-- ==== Sys2Proof/Safety.lean ====
section
/-! DEFINITION. The terms that statements about the machine are made in: the invariant that every step keeps, when an input is taken at once, and what a run of entries adds to the ledger. -/

namespace Sys2Proof.Machine

/-! The invariant. -/

/-- The ring holds consecutive counts, newest first, and the newest is the one before `next` (R32, R44). -/
def countsDown : Nat → List Entry → Prop
  | _, [] => True
  | next, e :: l => e.count + 1 = next ∧ countsDown e.count l

/-- What every step keeps: the bounds of Q60, Q61 and Q62 (R20, R22, R45), the sequence of counts (R32), the canonical
form of the two memories and of the parameter values, and that the recorded mode is never IDLE (R24: it is the mode that IDLE
is entered from). -/
structure State.Inv (s : State) : Prop where
  ring : s.led.ring.length ≤ 4096
  counts : countsDown s.led.next s.led.ring
  q61 : s.led.q61.length ≤ 64
  q62 : s.led.q62.length ≤ 32
  flash : Memory.wf flashDefault s.flash
  retained : Memory.wf retainedDefault s.ember.retained
  values : sparseWf paramDefault 0 s.prm.values = true
  mode : s.mode ≠ .idle
  left : s.pw.left ≠ .idle

/-! When an input is taken at once. -/

/-- No entry of the present input is half told: no firing waits, and entries carry no command's tag. It holds between
any two steps. -/
def State.Rested (s : State) : Prop := s.led.tag = 0xFFFF ∧ s.led.fires = []

/-- An input that arrives is taken at once: inputs are taken, and none that waits may be taken before it (R19, R40,
R59). -/
structure State.Open (s : State) : Prop where
  listening : s.listening = true
  waits : s.nextInput s.io.waiting = none
  rested : s.Rested

/-- What becomes of the state that an input's own effect leaves: the trigger lists that its entries fire run, then inputs
that wait and may be taken now. -/
def State.after (s u : State) : State := u.finish.pump (s.io.waiting.length + 195)

/-- Nothing follows an input: no list fires, no list work waits, no round runs, and no waiting input may be taken. -/
structure State.Still (u : State) : Prop where
  fires : u.led.fires = []
  work : u.trig.work = []
  depth : u.trig.depth = 0
  round : u.spine.round = none
  waits : u.nextInput u.io.waiting = none

/-- A die takes part and a block of it is not inside a reset: its detectors report, and their frames reach Hive (R96,
R111). -/
structure State.Hears (s : State) (die block : Nat) : Prop where
  quarantined : (s.die die).quarantined = false
  block : s.blockDown die block = false
  absent : (s.die die).absent = false

/-- The detector that reports an event is heard, where a die has it. -/
def State.Heard (s : State) (i : Instr) : Prop := ∀ d b, eventSource i = some (d, b) → s.Hears d b

/-- No port waits for power and none holds a claim: a redistribution finds nothing to do (R230). -/
def State.NoneWaits (s : State) : Prop :=
  ∀ p, isPort p = true → (s.port p).waiting = false ∧ (s.port p).claim = 0

/-- No recovery of a segment rests on a channel as its power link (R267). -/
def State.Unlinked (s : State) (ch : Nat) : Prop :=
  ∀ n, n ≤ 3 → s.nat .twiPowerLink n = ch → (s.seg n).recovery ≠ .linkSettle

/-- No operation of a subject is pending. -/
def State.NoOp (s : State) (subj : Subject) : Prop := s.ops.filter (fun o => o.subject == subj) = []

/-- Nothing rests on a port's contract: no P1 action is open, no mode is entered, no operation is pending. -/
structure State.Plain (s : State) (p : Nat) : Prop where
  p1 : (s.port p).pd.p1.state ≠ 1
  mode : (s.port p).pd.mode = none
  op : s.NoOp (.port p)

/-- A channel that is off: its legs open, on CH1 to CH12 the off check begun; what Forge knew of it stays for a report that is on
its way (R11, R220, R225). -/
def Chan.wentOff (integrated : Bool) (c : Chan) : Chan :=
  { c with state := .off, leg := none, gate := none, gateCheck := false, retryWaits := false, tripped := false
           crossing := if c.state.conducts = true then some (c.gateCheck, c.retries) else none
           offCheck := if integrated = true then .discharging else .none }

/-- A channel that is locked with a reason (R220). -/
def Chan.wentLocked (reason : Nat) (c : Chan) : Chan :=
  { c with state := .locked, lock := some reason, leg := none, gate := none, offCheck := .none, gateCheck := false
           retryWaits := false, tripped := false, crossing := none }

/-- A channel that ramps since the entry with a count; on a port the 5 V leg closes (R218, R220). -/
def Chan.wentOn (port : Bool) (count : Nat) (c : Chan) : Chan :=
  { c with state := .ramping, leg := if port = true then some 0 else none, gate := if port = true then some 0 else none
           offCheck := .none, gateCheck := false, retryWaits := false, tripped := false, crossing := none, onCount := count }

/-- The event ends in a next state: its own effect `u`, of which `R` holds, and what follows from it. -/
def State.Does (s : State) (i : Instr) (R : State → Prop) : Prop :=
  ∃ u, exec i s = .next (s.after u) ∧ R u

/-- The row acts at once and ends in a next state: its own effect `u`, of which `R` holds, and what follows from it. -/
def State.Acts (s : State) (i : Instr) (R : State → Prop) : Prop :=
  ∃ u, exec i s = .next u.settled ∧ R u

/-! Commands. -/

/-- The header, opcode and parameter bytes of a command row; a FUSE_BURN whose power fails while it programs is more than its
command. -/
def commandOf (i : Instr) : Option (CmdHeader × Opcode × List Byte) :=
  let set := fun (p : Param) (v : Word) => b16 p.id ++ b8 0 ++ b8 0 ++ b32 v.toNat
  match i with
  | .echo h p => some (h, .echo, p)
  | .identify h p => some (h, .identify, p)
  | .reset h p => some (h, .reset, p)
  | .modeRequest h p => some (h, .modeRequest, p)
  | .queueStatus h p => some (h, .queueStatus, p)
  | .serviceEnter h p => some (h, .serviceEnter, p)
  | .paramGet h p => some (h, .paramGet, p)
  | .paramSet h p => some (h, .paramSet, p)
  | .paramGetBlock h p => some (h, .paramGetBlock, p)
  | .paramStage h p => some (h, .paramStage, p)
  | .paramCommit h p => some (h, .paramCommit, p)
  | .portEnable h p => some (h, .portEnable, p)
  | .portDisable h p => some (h, .portDisable, p)
  | .portReset h p => some (h, .portReset, p)
  | .portSuspend h p => some (h, .portSuspend, p)
  | .portResume h p => some (h, .portResume, p)
  | .portStatus h p => some (h, .portStatus, p)
  | .chanOn h p => some (h, .chanOn, p)
  | .chanOff h p => some (h, .chanOff, p)
  | .chanClearTrip h p => some (h, .chanClearTrip, p)
  | .chanMeasure h p => some (h, .chanMeasure, p)
  | .pdStatus h p => some (h, .pdStatus, p)
  | .pdRenegotiate h p => some (h, .pdRenegotiate, p)
  | .pdHardReset h p => some (h, .pdHardReset, p)
  | .pdVdmSend h p => some (h, .pdVdmSend, p)
  | .pdModeEnter h p => some (h, .pdModeEnter, p)
  | .pdModeExit h p => some (h, .pdModeExit, p)
  | .twiXfer h p => some (h, .twiXfer, p)
  | .twiRecover h p => some (h, .twiRecover, p)
  | .twiAttnRead h p => some (h, .twiAttnRead, p)
  | .ledgerRead h p => some (h, .ledgerRead, p)
  | .ledgerMark h p => some (h, .ledgerMark, p)
  | .ledgerHead h p => some (h, .ledgerHead, p)
  | .voteSet h p => some (h, .voteSet, p)
  | .voteClear h p => some (h, .voteClear, p)
  | .pstateStatus h p => some (h, .pstateStatus, p)
  | .plSet h p => some (h, .plSet, p)
  | .padRelease h p => some (h, .padRelease, p)
  | .cfgRead h p => some (h, .cfgRead, p)
  | .cfgWriteBegin h p => some (h, .cfgWriteBegin, p)
  | .cfgWriteData h p => some (h, .cfgWriteData, p)
  | .cfgWriteCommit h p => some (h, .cfgWriteCommit, p)
  | .cfgApply h p => some (h, .cfgApply, p)
  | .testRun h p => some (h, .testRun, p)
  | .testStatus h p => some (h, .testStatus, p)
  | .healthRead h p => some (h, .healthRead, p)
  | .holdStatus h p => some (h, .holdStatus, p)
  | .holdTapTest h p => some (h, .holdTapTest, p)
  | .trigLoad h p => some (h, .trigLoad, p)
  | .trigArm h p => some (h, .trigArm, p)
  | .trigDisarm h p => some (h, .trigDisarm, p)
  | .resetCauseClear h v => some (h, .paramSet, set .resetCause v)
  | .resetBlockRstWrite h v => some (h, .paramSet, set .resetBlockRst v)
  | .fuseBurn h ⟨v, false⟩ => some (h, .paramSet, set .resetFuseBurn v)
  | .fuseBurn _ ⟨_, true⟩ => none
  | .spineStatClear h v => some (h, .paramSet, set .spineStatClear v)
  | .foragerLogClear h v => some (h, .paramSet, set .foragerLogClear v)
  | .trigEnableWrite h v => some (h, .paramSet, set .trigEnable v)
  | _ => none

/-- A command of a client is taken at once: an input may be taken, its reply queue has room (R19), and its packet is one
(R49). -/
structure State.Takes (s : State) (cl : ExtClient) (c : Command) : Prop where
  isOpen : s.Open
  free : s.io.heldClient cl = false
  fits : c.plen ≤ 1012

/-- The state as the interpreter takes a command: its tag in force, and it counted (R36, `CMD.ADMITTED`). -/
def State.taken (s : State) (c : Command) : State :=
  (s.tagged c.tag).onIo fun io => { io with admitted := io.admitted + 1 }

/-- The reply of a command, with the head as it is at the reply (R61, R63). -/
def State.replyOf (s : State) (c : Command) (st : Status) (payload : List Byte) : Reply :=
  { opcode := BitVec.ofNat 16 c.op.code, status := st, tag := c.tag, lsn := s.head, payload := payload }

/-- `CMD_APPLIED` appended and the reply queued: where a command's effect begins, and where a refused one ends. -/
def State.answered (s : State) (cl : ExtClient) (c : Command) (st : Status) : State :=
  let v := s.applied (extClient cl) 0xFF c st
  v.reply (extClient cl) (v.replyOf c st [])

/-- A command that is not refused and has an effect ends in a next state: from `v`, its `CMD_APPLIED` and reply made and its
order queued for the die that carries it out (R12), its own effect `u`, and what follows. -/
def State.Carries (s : State) (i : Instr) (R : State → State → Prop) : Prop :=
  ∀ h op p, commandOf i = some (h, op, p) →
    let c := headerCommand h op p
    s.Takes h.client c → (s.taken c).refusal (extClient h.client) c = none →
    ∃ u, exec i s = .next (s.after u) ∧
      R (((s.taken c).answered h.client c ((s.taken c).success c)).ordered c) u

/-- A read-only command that is not refused ends in a next state: nothing changes but that it is counted, its reply waits
with a payload of which `R` holds, and free values for what it measures are used up. -/
def State.Replies (s : State) (i : Instr) (R : List Byte → Prop) : Prop :=
  ∀ h op p, commandOf i = some (h, op, p) →
    let c := headerCommand h op p
    s.Takes h.client c → (s.taken c).refusal (extClient h.client) c = none →
    ∃ n payload,
      exec i s = .next (s.after (let v : State := { s.taken c with free := n }
        v.reply (extClient h.client) (v.replyOf c .done payload))) ∧
      R payload

/-! The ledger. -/

/-- What an entry says, apart from its count and its uptime. -/
structure Note where
  external : Bool
  die : Nat
  block : Nat
  kind : Kind
  subject : Nat
  tag : BitVec 16
  data : List Byte
  deriving DecidableEq, Repr

/-- The note of an entry. -/
def Entry.note (e : Entry) : Note := ⟨e.external, e.die, e.block, e.kind, e.subject, e.tag, e.data⟩

/-- The note of an entry made with a tag; d0 to d9 are filled with 0x00. -/
def noteOf (tag : BitVec 16) (external : Bool) (die block : Nat) (kind : Kind) (subject : Nat) (data : List Byte) : Note :=
  ⟨external, die, block, kind, subject, tag, padTo 10 data⟩

/-- The entries appended between `s` and `u` say these notes, oldest first: their counts follow on, and the ring holds the
newest 4096 (R20, R32). -/
def Logs (s u : State) (l : List Note) : Prop :=
  u.led.next = s.led.next + l.length ∧
    ∃ es : List Entry, es.map Entry.note = l ∧ es.map Entry.count = (List.range l.length).map (s.led.next + ·) ∧
      u.led.ring = (es.reverse ++ s.led.ring).take 4096

/-- `s` with what appending entries changes taken from `u`: the ledger's ring, losses, counters and firings, and the
uptime within the millisecond. -/
def State.told (s u : State) : State :=
  { s with
    free := u.free, ember := { s.ember with sub := u.ember.sub },
    led := { s.led with next := u.led.next, ring := u.led.ring, q61 := u.led.q61, q61Next := u.led.q61Next,
                        q61Open := u.led.q61Open, lost := u.led.lost, external := u.led.external,
                        violations := u.led.violations, lastViolation := u.led.lastViolation,
                        lastFault := u.led.lastFault, fires := u.led.fires } }

/-- A latched fault outstanding (R290). -/
def State.faulted (s : State) (code subject d3 : Nat) : State :=
  s.onLed fun l => { l with openFaults := l.openFaults ++ [⟨code, subject, d3⟩] }

/-- `u` is `s` with entries appended that say these notes, and nothing else changed. -/
def Tells (s u : State) (l : List Note) : Prop := Logs s u l ∧ u = s.told u

end Sys2Proof.Machine
end

