-- ==== Sys2Proof/Certificates/Slice0/Obligations.lean ====
section
/-! DEFINITION. The statements about the machine: each is proved or refuted by the provers. -/

section

open Sys2Proof Sys2Proof.Machine

/-! Channels and rails (chapter 10). -/

/-- R216, R217, R218, R221: a hard short counts from the current of `CHAN.ISHORT` times the limit in force on. A trip with retries
used below `CHAN.RETRY_MAX` appends `CHAN_TRIP` with its cause, the retries
used before it, the current and the voltage, and the channel enters RETRY_WAIT. On a port the contract and VCONN end
and both hubs show over-current; nothing else changes. -/
def Obligations.TripEntersRetryWait : Prop :=
  ∀ (s : State) (ch : Nat) (ma mv : BitVec 16), s.Open → s.Hears 3 blkChan → isChan ch = true → s.Unlinked ch →
    (isPort ch = true → s.Plain ch) → (s.chan ch).retries < s.nat .chanRetryMax ch →
    let waits := s.onChan ch fun c =>
      { c with state := .retryWait, leg := none, gate := none, gateCheck := false, retryWaits := false, tripped := false
               trips := saturate 0xFFFFFFFF (c.trips + 1) }
    let ends := if isPort ch then
        waits.onPort ch fun q =>
          { q with vconn := false, pd := q.pd.endContract
                   bus := { q.bus.unpowered with overCurrent := true, cOverCurrent := true, overCurrents := q.bus.overCurrents + 1 } }
      else waits
    let trips := fun (cause : Nat) (u : State) =>
      Tells ends u [noteOf 0xFFFF true 3 blkChan .chanTrip ch
        (b8 cause ++ b8 (s.chan ch).retries ++ b16 ma.toNat ++ b16 mv.toNat)]
    ((s.chan ch).state.conducts = true →
      (s.overShort ch ma.toNat = true → s.Does (.hardShort ch ma mv) (trips 0)) ∧
      (s.overShort ch ma.toNat = false → s.Does (.hardShort ch ma mv) fun u => u = s)) ∧
    ((s.chan ch).state = .on ∨ (s.chan ch).state = .regulating → s.Does (.overloadTimeout ch ma mv) (trips 1)) ∧
    ((s.chan ch).state = .ramping → s.Does (.rampFault ch ma mv) (trips 2)) ∧
    (isIntegrated ch = true → (s.chan ch).state.conducts = true → s.Does (.overTemperature ch ma mv) (trips 3))

/-- R221, R332: a trip with every retry used locks the channel: `CHAN_TRIP` and then, as an internal entry, `CHAN_LOCKED`
with reason 0. On a port the grant is released with `ALLOT_CHANGE` cause 2. -/
def Obligations.TripWithoutRetriesLocks : Prop :=
  ∀ (s : State) (ch : Nat) (ma mv : BitVec 16), s.Open → s.Hears 3 blkChan → isChan ch = true → s.Unlinked ch →
    (isPort ch = true → s.Plain ch) → s.NoneWaits → s.nat .chanRetryMax ch ≤ (s.chan ch).retries →
    (s.chan ch).state.conducts = true → s.overShort ch ma.toNat = true →
    let locks := s.onChan ch fun c => { c.wentLocked 0 with trips := saturate 0xFFFFFFFF (c.trips + 1) }
    let ends := if isPort ch then
        locks.onPort ch fun q =>
          { q with vconn := false, pd := q.pd.endContract, waiting := false, grant := 0, claim := 0
                   bus := { q.bus.unpowered with overCurrent := true, cOverCurrent := true, overCurrents := q.bus.overCurrents + 1 } }
      else locks
    let released := if isPort ch = true ∧ 0 < (s.port ch).grant then
        [noteOf 0xFFFF false 0 blkAllot .allotChange ch
          (b8 2 ++ b16 (s.port ch).grant ++ b16 0 ++ b16 ends.remaining ++ b8 0)]
      else []
    s.Does (.hardShort ch ma mv) fun u =>
      Tells ends u ([noteOf 0xFFFF true 3 blkChan .chanTrip ch
          (b8 0 ++ b8 (s.chan ch).retries ++ b16 ma.toNat ++ b16 mv.toNat),
        noteOf 0xFFFF false 3 blkChan .chanLocked ch (b8 0)] ++ released)

/-- R218, R220, R221, R224, R225: the events that move a channel from state to state with no other effect than their
entries. -/
def Obligations.ChannelStateEvents : Prop :=
  ∀ (s : State) (ch : Nat), s.Open → s.Hears 3 blkChan → isChan ch = true →
    ((s.chan ch).state = .on → s.Does (.currentLimitReached ch) fun u =>
      u = s.onChan ch fun c => { c with state := .regulating }) ∧
    ((s.chan ch).state = .regulating → s.Does (.regulationEnd ch) fun u =>
      u = s.onChan ch fun c => { c with state := .on }) ∧
    (isExternal ch = true → (s.chan ch).state = .ramping → s.Does (.rampComplete ch) fun u =>
      u = s.onChan ch fun c => { c with gateCheck := true }) ∧
    (isIntegrated ch = true → (s.chan ch).state = .ramping → (s.port ch).pd.phase = .quiet → s.pdOn ch = true →
      (s.port ch).pd.cable = false → (s.port ch).pd.provCaps = none → (s.port ch).pd.arrived = false →
      s.Does (.rampComplete ch) fun u =>
        u = (s.onChan ch fun c => { c with state := .on }).onPd ch fun d => { d with phase := .waitGrant }) ∧
    (isAux ch = true → (s.chan ch).state = .ramping → (s.chan ch).gateCheck = true → s.Does (.gateCheckPass ch) fun u =>
      u = s.onChan ch fun c => { c with state := .on, gateCheck := false }) ∧
    (isIntegrated ch = true → (s.chan ch).offCheck = .discharging → s.Does (.dischargeEnd ch) fun u =>
      u = s.onChan ch fun c => { c with offCheck := .window, crossing := none }) ∧
    (isAux ch = true → (s.chan ch).state = .retryWait → s.ember.latched = true → s.Does (.retryDelayExpiry ch) fun u =>
      u = s.onChan ch fun c => { c with retryWaits := true }) ∧
    (isAux ch = true → (s.chan ch).state = .retryWait → s.ember.latched = false → s.Does (.retryDelayExpiry ch) fun u =>
      Tells (s.onChan ch fun c => { c.wentOn false (s.led.next + 1) with retries := c.retries + 1 }) u
        [noteOf 0xFFFF true 3 blkChan .chanRetry ch
          (b8 ((s.chan ch).retries + 1) ++ b16 (s.nat .chanRetryDelay ch * 2 ^ (s.chan ch).retries)),
         noteOf 0xFFFF false 3 blkChan .chanOn ch (b8 2 ++ b8 0xFF)])

/-- R224, R225: a failed gate check locks the channel with `GATE_FAIL` and `CHAN_LOCKED` reason 1; VBUS that does not fall
on a detached port, or on an attached one without a backdriving partner, locks it with `LEG_LEAK` and `CHAN_LOCKED`
reason 2; an attached port loses Rp first, and a partner that was backdriving is recorded with `VIOLATION` 0x0403. -/
def Obligations.GateAndOffChecks : Prop :=
  ∀ (s : State) (ch : Nat) (mv ms : BitVec 16) (suspect : Byte), s.Open → s.Hears 3 blkChan → s.NoneWaits →
    (isAux ch = true → s.Unlinked ch → (s.chan ch).state.conducts = true → (s.chan ch).gateCheck = true →
      s.Does (.gateCheckTimeout ch mv) fun u =>
        Tells (s.onChan ch (Chan.wentLocked 1)) u
          [noteOf 0xFFFF true 3 blkChan .gateFail ch (b16 mv.toNat), noteOf 0xFFFF false 3 blkChan .chanLocked ch (b8 1)]) ∧
    (isIntegrated ch = true → (s.chan ch).offCheck = .window → (s.chan ch).state = .off → (s.port ch).attached = true →
      s.Does (.offCheckTimeout ch mv) fun u =>
        u = (s.onChan ch fun c => { c with offCheck := .rpOff, offMv := mv }).onPort ch fun q => { q with rpRemoved := true }) ∧
    (isIntegrated ch = true → (s.chan ch).offCheck = .rpOff → s.Does (.backdrive ch ms) fun u =>
        Tells ((s.onChan ch fun c => { c with offCheck := .none, refused := true }).onPort ch fun q =>
            { q with rpRemoved := false, waiting := false
                     bus := { q.bus with lastViolation := 0x0403, violations := q.bus.violations + 1 } }) u
          [noteOf 0xFFFF true 3 blkChan .violation ch (b16 0x0403 ++ b16 (s.chan ch).offMv.toNat ++ b16 ms.toNat)]) ∧
    (isIntegrated ch = true → s.Plain ch → (s.port ch).grant = 0 →
      let locked := (s.onChan ch (Chan.wentLocked 2)).onPort ch fun q =>
        { q with rpRemoved := false, waiting := false, vconn := false, claim := 0, bus := q.bus.unpowered
                 pd := q.pd.endContract }
      ((s.chan ch).offCheck = .rpOff → s.Does (.legLeak ch suspect mv) fun u =>
        Tells locked u [noteOf 0xFFFF true 3 blkChan .legLeak ch (b8 suspect.toNat ++ b16 mv.toNat),
          noteOf 0xFFFF false 3 blkChan .chanLocked ch (b8 2)]) ∧
      ((s.chan ch).offCheck = .window → (s.chan ch).state = .off → (s.port ch).attached = false →
        s.Does (.offCheckTimeout ch mv) fun u =>
          ∃ rail, (rail ≤ 3 ∨ rail = 0xFF) ∧
            Tells locked u [noteOf 0xFFFF true 3 blkChan .legLeak ch (b8 rail ++ b16 mv.toNat),
              noteOf 0xFFFF false 3 blkChan .chanLocked ch (b8 2)]))

/-- R227: a rail that leaves its band clears its bit of `RAIL.PRESENT` at `FAULT` 0x0420 with 0 for low and 1 for high, and
one that is back in band sets it with 2. Ports whose contracts use a lost rail above RAIL_5V go to Hard Reset; without RAIL_5V
every port's channel goes off. Forge opens the legs of a rail that is too high at once. -/
def Obligations.RailsFollowTheirFaults : Prop :=
  ∀ (s : State) (rail : Nat), s.Open → s.Hears 3 blkChan → rail ≤ 3 →
    let entry := fun how => noteOf 0xFFFF true 3 blkChan .fault 0 (b16 0x0420 ++ b8 0 ++ b8 rail ++ b8 how)
    let down := fun s : State => { s with rails := s.rails &&& ~~~(1#4 <<< rail) }
    let opened := s.each allPorts fun p t => t.onChan p fun c => { c with gate := if c.gate = some rail then none else c.gate }
    let up : State := { s with rails := s.rails ||| 1#4 <<< rail }
    (s.railUp rail = true →
      ∀ i how from', (i = .railLow rail ∧ how = 0 ∧ from' = s ∨ i = .railHigh rail ∧ how = 1 ∧ from' = opened) →
        s.Does i fun u => ∃ t, Tells (down from') t [entry how] ∧ u =
          if rail = 0 then
            t.each allPorts fun p t =>
              if (t.chan p).state.active then (t.policyOff p false .fault true).onPort p fun q => { q with waiting := q.attached }
              else t
          else
            t.each allPorts fun p t =>
              if (t.port p).explicit && (t.port p).contractRail == some rail then t.hardReset p 0 0x0420 false else t) ∧
    (s.railUp rail = false → s.Does (.railLow rail) (fun u => u = s) ∧ s.Does (.railHigh rail) fun u => u = s) ∧
    (s.rails.getLsbD rail = false → (s.value .railMask 0).getLsbD rail = true →
      s.Does (.railBackInBand rail) fun u => ∃ t, Tells up t [entry 2] ∧ u = if rail = 0 then t.redistribute else t)

/-! The Honeystore (chapter 11). -/

/-- R236, R237, R238, R240: the charger runs exactly where its conditions hold, a cell is bled unless a tap beside it is recorded
open or the device is in DEEP SLEEP, and the refill comparator latches wake source 0x09 in DEEP SLEEP. None makes an
entry. The charger keeps each cell below `HOLD.VCELL_TARGET`, and two neighbours as one, below twice the target, exactly where the
tap between them is recorded open. -/
def Obligations.ChargerAndBalancer : Prop :=
  ∀ s : State,
    s.Acts .chargerStart (fun u => u =
      if s.monitorUp = true ∧ s.mode.charges = true ∧ s.faultOpen 0x0432 0 = false ∧ s.store.latchedCells = 0 then
        s.onStore fun g => { g with charging := true }
      else s) ∧
    s.Acts .chargerStop (fun u => u = s.onStore fun g => { g with charging := false }) ∧
    (∀ cell, 1 ≤ cell → cell ≤ s.cells → cell ≤ 6 →
      s.Acts (.cellBleed cell false) (fun u => u = s.onStore fun g => { g with bleeding := g.bleeding &&& ~~~(cellBit cell) }) ∧
      s.Acts (.cellBleed cell true) fun u => u =
        if s.monitorUp = true ∧ s.mode ≠ .deepSleep ∧ s.store.besideOpen cell = false then
          s.onStore fun g => { g with bleeding := g.bleeding ||| cellBit cell }
        else s) ∧
    (s.Acts .refillWake fun u => u =
      if s.mode = .deepSleep ∧ s.wakeEnabled 9 = true then s.onPw fun w => { w with wakeLatch := w.wakeLatch ||| (1#10 <<< 9) }
      else s) ∧
    (∀ x ∈ s.chargeLimits, x.2 = x.1.length * s.nat .holdVcellTarget 0) ∧
    (∀ k, 1 ≤ k → k ≤ s.cells → ∃ x ∈ s.chargeLimits, k ∈ x.1) ∧
    ∀ k, 1 ≤ k → k < s.cells →
      ((∃ x ∈ s.chargeLimits, k ∈ x.1 ∧ k + 1 ∈ x.1) ↔ s.store.tapsOpen.getLsbD k = true)

/-- R240 to R244, Tables 11-3 and 11-6: what the monitor of the Honeystore finds is recorded as the rules say, once where they
say so, and puts taps under test, opens taps, stops charger and bleeding, and changes C and E. -/
def Obligations.MonitorFindings : Prop :=
  ∀ (s : State), s.Open → s.Hears 3 blkStore → s.monitorUp = true →
    (∀ ov : Bool, ov = true ∨ s.store.charging = true → s.faultOpen 0x0432 0 = false → s.Does (.chargerFault ov) fun u =>
      Tells ((s.onStore fun g => { g with charging := false }).faulted 0x0432 0 (byteOf (b8 ov.toNat) 0)) u
        [noteOf 0xFFFF true 3 blkStore .fault 0 (b16 0x0432 ++ b8 1 ++ b8 ov.toNat)]) ∧
    (∀ (top : Bool) (mv : BitVec 16), s.faultOpen 0x0431 0 = false → s.Does (.cellSumMismatch top mv) fun u =>
      Tells ((s.onStore fun g =>
          { g with topOpen := g.topOpen || top, tapTesting := g.tapTesting ||| (tapBit 0 ||| tapBit s.cells) }).faulted 0x0431 0
            (byteOf (b8 top.toNat) 0)) u
        [noteOf 0xFFFF true 3 blkStore .fault 0 (b16 0x0431 ++ b8 1 ++ (b8 top.toNat ++ b16 mv.toNat))]) ∧
    (∀ tap, 1 ≤ tap → tap < s.cells → tap ≤ 6 → s.Does (.cellDeviation tap) fun u =>
      u = s.onStore fun g => { g with tapTesting := g.tapTesting ||| tapBit tap }) ∧
    (∀ (tap : Nat) (mv : BitVec 16), tap ≤ 6 → s.store.tapTesting.getLsbD tap = true → s.store.tapCommand = 0 →
      s.NoOp .honeystore →
      (2 ≤ mv.toNat → s.store.tapRecorded.getLsbD tap = false → s.Does (.tapTest tap mv) fun u =>
        Tells (s.onStore fun g =>
            { g with tapTesting := g.tapTesting &&& ~~~(tapBit tap), tapsOpen := g.tapsOpen ||| tapBit tap
                     tapRecorded := g.tapRecorded ||| tapBit tap
                     bleeding := g.bleeding &&& ~~~(cellBit (tap + 1)) &&& ~~~(if tap = 0 then 0 else cellBit tap) }) u
          [noteOf 0xFFFF true 3 blkStore .holdTapOpen tap (b16 mv.toNat)]) ∧
      (mv.toNat < 2 → tap ≠ 0 → tap ≠ s.cells → s.Does (.tapTest tap mv) fun u =>
        u = s.onStore fun g =>
          { g with tapTesting := g.tapTesting &&& ~~~(tapBit tap), tapsOpen := g.tapsOpen &&& ~~~(tapBit tap) })) ∧
    (∀ cell sig, 1 ≤ cell → cell ≤ s.cells → cell ≤ 6 → 1 ≤ sig → sig ≤ 5 → s.store.besideOpen cell = false →
      (sig = 1 → s.deviates cell = true) → s.store.recorded.contains (cell, sig) = false → s.Does (.holdCell cell sig) fun u =>
      Tells (s.onStore fun g =>
          { g with recorded := g.recorded ++ [(cell, sig)], charging := g.charging && decide (sig < 4)
                   latchedCells := if sig = 4 then g.latchedCells ||| cellBit cell else g.latchedCells
                   bleeding := if sig = 5 ∧ s.mode ≠ .deepSleep then g.bleeding ||| cellBit cell else g.bleeding }) u
        [noteOf 0xFFFF true 3 blkStore .holdCell cell (b8 sig ++ b16 (s.cellCap cell))]) ∧
    (∀ cell drop, 1 ≤ cell → cell ≤ s.cells → cell ≤ 6 → 0 < drop → s.store.charging = false → s.store.tapsOpen = 0 →
      s.mode ≠ .crank → s.Does (.capacitanceEstimate cell drop) fun u =>
      ∃ n vstore, vstore < 0x10000 ∧
        let t := s.onStore fun g => { g with caps := bankSet g.caps (cell - 1) (some (6000, drop)) }
        u = { t with free := n, store := { t.store with energy := t.energyAt vstore } }) ∧
    (∀ (below : Bool) (energy : BitVec 16), (below = true ↔ energy.toNat < s.nat .holdEMin 0) → s.store.below ≠ below →
      (below = true → s.store.charging = false) → s.Does (.energyThreshold below energy) fun u =>
      Tells (s.onStore fun g => { g with energy := energy.toNat, below := below }) u
        [noteOf 0xFFFF true 3 blkStore .fault 0 (b16 0x0430 ++ b8 0 ++ (b8 below.toNat ++ b16 energy.toNat))])

/-! The two-wire segments (chapter 12). -/

/-- R254 to R258, R263, R269: how a transfer starts, at 400 kHz at most where its segment is tethered, completes, loses arbitration
and fails. Its end is a result with its tag and a `CMD_COMPLETE`, and a violation carries the tag of the transfer; how many bytes
were ACKed where no row tells is a free value (log 1). A stretch violation of an attention poll is an entry, and the hold is handled as after a
transfer. -/
def Obligations.TransfersRunAndEnd : Prop :=
  ∀ (s : State) (n : Nat) (t : Transfer), s.Open → n ≤ 3 → (n ≠ 0 → s.Hears 3 blkTwi) →
    (∀ rest, (s.seg n).queue = t :: rest → (s.seg n).idle = true → (s.seg n).midbyte = false → s.segEnabled n = true →
      s.segDown n = false → ¬ (t.write = [] ∧ 0 < t.read) → s.Does (.transferStart n false) fun u =>
      u = s.onSeg n fun g =>
        { g.setHeld t.addr [] with
          queue := rest, midbyte := false, stretched := false
          running := some { t with surplus := t.surplus ++ g.heldFor t.addr
                                   fetch := if t.read = 0 then 0 else s.aheadDepth n t.addr
                                   rate := if (s.seg n).tether = 0 then s.nat .twiRate n else min 1 (s.nat .twiRate n) } }) ∧
    ((s.seg n).running = some t → t.surplus = [] → t.op.quiet = false →
      let ended := fun (st : Status) (bytes : List Byte) =>
        s.onSeg n fun g => ({ g with running := none, stretched := false } : Seg).addResult ⟨t.op.tag, st, bytes⟩
      let told := fun (st : Status) =>
        noteOf t.op.tag true 0 blkCmd .cmdComplete t.op.number
          (b16 t.op.op.code ++ b8 t.op.client.code ++ b8 st.code ++ leBytes 6 t.op.count)
      (∀ bytes, (s.seg n).stretched = false → (s.seg n).heldFor t.addr = [] → (s.seg n).ahead = [] → t.fetch = 0 →
        bytes.length = t.read → s.Does (.transferComplete n (.stop bytes)) fun u => Tells (ended .done bytes) u [told .done]) ∧
      let cut := fun (reason : Nat) (u : State) =>
        ∃ k, k ≤ t.write.length ∧ Tells (ended .fault (b8 reason ++ b8 k)) u [told .fault]
      (s.Does (.transferComplete n .addressNack) fun u =>
        ∃ k, (k = 0 ∨ t.read ≠ 0 ∧ k = t.write.length) ∧ Tells (ended .fault (b8 1 ++ b8 k)) u [told .fault]) ∧
      (∀ acked, acked < t.write.length → s.Does (.transferComplete n (.byteNack acked)) fun u =>
        Tells (ended .fault (b8 2 ++ b8 acked)) u [told .fault]) ∧
      (t.losses < 2 → s.Does (.arbitrationLost n) fun u =>
        u = s.onSeg n fun g => { g with running := none, queue := { t with losses := t.losses + 1 } :: g.queue }) ∧
      (2 ≤ t.losses → s.Does (.arbitrationLost n) (cut 4)) ∧
      (s.value .twiStretchMode n = 0 → ∀ us : Word,
        let broken := fun (code d3 : Nat) (u : State) => ∃ k, k ≤ t.write.length ∧
          Tells (((ended .fault (b8 3 ++ b8 k)).onSeg n fun g => { g with stretched := true }).tagged t.op.tag) u
            [noteOf t.op.tag true 3 blkTwi .violation n (b16 code ++ (b8 t.addr ++ b32 d3)), told .fault]
        s.Does (.stretchTimeout n us) (broken 0x0301 us.toNat) ∧ s.Does (.stretchInsideByte n) (broken 0x0302 0))) ∧
    ((s.seg n).running = none → (s.seg n).attention = true → s.nat .twiAttnAddr n ≠ 0 → s.value .twiStretchMode n = 0 →
      ∀ us : Word, s.Does (.stretchTimeout n us) fun u =>
        Tells (s.onSeg n fun g => { g with stretched := true }) u
          [noteOf 0xFFFF true 3 blkTwi .violation n (b16 0x0301 ++ (b8 (s.nat .twiAttnAddr n) ++ b32 us.toNat))]) ∧
    (s.value .twiStretchMode n ≠ 0 → ∀ us : Word,
      s.Does (.stretchTimeout n us) (fun u => u = s) ∧ s.Does (.stretchInsideByte n) fun u => u = s)

/-- R262 to R264, R271: attention and mailboxes. A mailbox write is ACKed, an empty one without an entry, and byte 33 is NACKed; SVC
has a mailbox too. -/
def Obligations.AttentionAndMailboxes : Prop :=
  ∀ (s : State) (n : Nat), s.Open → n ≤ 3 → (n ≠ 0 → s.Hears 3 blkTwi) → s.segEnabled n = true → s.segDown n = false →
    ((s.seg n).idle = true → (s.seg n).midbyte = false →
      (s.Does (.inBandRequest n true) fun u => u = s.onSeg n fun g => { g with attention := true }) ∧
      s.Does (.inBandRequest n false) fun u =>
        Tells (s.onSeg n fun g => { g with recovery := .pulses false, pulsesDone := 1 }) u
          [noteOf 0xFFFF true 3 blkTwi .violation n (b16 0x0304 ++ b8 0xFF)]) ∧
    ((s.seg n).attention = true → ∀ bytes : List Byte,
      (s.nat .twiAttnAddr n = 0 → s.Does (.twAttn n 0 bytes) fun u =>
        Tells (s.onSeg n fun g => { g with attention := false }) u [noteOf 0xFFFF true 3 blkTwi .twAttn n (b8 0xFF ++ b8 0)]) ∧
      (∀ status, status ≤ 2 → s.nat .twiAttnAddr n ≠ 0 → s.Does (.twAttn n status bytes) fun u =>
        Tells (s.onSeg n fun g =>
            { g with attention := false
                     attn := some (status, if status = 0 then bytes.take (s.nat .twiAttnLen n) else []) }) u
          [noteOf 0xFFFF true 3 blkTwi .twAttn n (b8 (s.nat .twiAttnAddr n) ++ b8 status)])) ∧
    (s.value .twiMboxAddr n ≠ 0 →
      (∀ bytes, bytes ≠ [] → bytes.length ≤ 32 → s.Does (.mailboxWrite n bytes) fun u =>
        Tells ((s.onSeg n fun g => { g with mailbox := some bytes }).answering .ack) u
          [noteOf 0xFFFF true 3 blkTwi .twMbox n (b8 bytes.length ++ bytes.take 8)]) ∧
      (s.Does (.mailboxWrite n []) fun u => u = s.answering .ack) ∧
      s.Does (.mailboxOverflow n) fun u =>
        Tells (s.answering .nak) u [noteOf 0xFFFF true 3 blkTwi .violation n (b16 0x0303 ++ b8 (s.nat .twiMboxAddr n))]) ∧
    (s.value .twiMboxAddr 4 ≠ 0 → ∀ bytes, bytes ≠ [] → bytes.length ≤ 32 → s.Does (.mailboxWrite 4 bytes) fun u =>
      Tells ((s.onSeg 4 fun g => { g with mailbox := some bytes }).answering .ack) u
        [noteOf 0xFFFF true 3 blkTwi .twMbox 4 (b8 bytes.length ++ bytes.take 8)])

/-- R13, R258, R265 to R268: a segment that stays held, or that a cut byte left in doubt, is recovered by pulses, then through its
power link, and ends in `TW_RECOVERED` or `TW_HELD`; while SB_OFF is asserted the link is not turned on again. -/
def Obligations.SegmentRecovery : Prop :=
  ∀ (s : State) (n : Nat), s.Open → n ≤ 3 → (n ≠ 0 → s.Hears 3 blkTwi) → (s.seg n).ahead = [] → (s.seg n).recoverOp = none →
    let closed := fun held => s.onSeg n fun g =>
      { g with recovery := .none, pulsesDone := 0, midbyte := false, held := held, recoverOp := none }
    ((s.seg n).stretched = true → (s.seg n).idle = true → s.Does (.stretchHoldTimeout n) fun u =>
      u = s.onSeg n fun g => { g with stretched := false, recovery := .pulses false }) ∧
    (∀ linked pulses, (s.seg n).recovery = .pulses linked ∨ linked = false ∧ (s.seg n).midbyte = true ∧ (s.seg n).idle = true ∧
        s.segEnabled n = true ∧ s.segDown n = false →
      (s.seg n).pulsesDone + pulses ≤ s.nat .twiRecoverPulses n →
      (s.Does (.recoveryPulses n pulses true) fun u =>
        Tells (closed false) u [noteOf 0xFFFF true 3 blkTwi .twRecovered n (b8 ((s.seg n).pulsesDone + pulses))]) ∧
      (linked = true ∨ s.linkApplies n = false → s.Does (.recoveryPulses n pulses false) fun u =>
        Tells (closed true) u
          [noteOf 0xFFFF true 3 blkTwi .twHeld n (b8 ((s.seg n).pulsesDone + pulses) ++ b8 linked.toNat)]) ∧
      (linked = false → s.linkApplies n = true → isAux (s.nat .twiPowerLink n) = true →
        s.Does (.recoveryPulses n pulses false) fun u =>
          Tells ((s.onChan (s.nat .twiPowerLink n) fun c => { c.wentOff false with retries := 0 }).onSeg n fun g =>
                { g with recovery := .linkOff }) u
            [noteOf 0xFFFF true 3 blkChan .chanOff (s.nat .twiPowerLink n) (b8 1)])) ∧
    ((s.seg n).recovery = .linkOff → isAux (s.nat .twiPowerLink n) = true → (s.chan (s.nat .twiPowerLink n)).state = .off →
      (s.sbOff = false → s.Does (.powerLinkOffExpiry n) fun u =>
        Tells ((s.onChan (s.nat .twiPowerLink n) (Chan.wentOn false s.led.next)).onSeg n fun g => { g with recovery := .linkSettle }) u
          [noteOf 0xFFFF true 3 blkChan .chanOn (s.nat .twiPowerLink n) (b8 1 ++ b8 0xFF)]) ∧
      (s.sbOff = true → s.Does (.powerLinkOffExpiry n) fun u =>
        Tells (closed true) u [noteOf 0xFFFF true 3 blkTwi .twHeld n (b8 (s.nat .twiRecoverPulses n) ++ b8 1)])) ∧
    ((s.seg n).recovery = .linkSettle → (s.chan (s.nat .twiPowerLink n)).state.conducts = true →
      s.Does (.powerLinkSettle n) fun u => u = s.onSeg n fun g => { g with recovery := .pulses true, pulsesDone := 0 }) ∧
    ((s.seg n).recovery = .waitFree →
      (s.Does (.recoverBusFreeWait n true) fun u => Tells (closed false) u [noteOf 0xFFFF true 3 blkTwi .twRecovered n (b8 0)]) ∧
      s.Does (.recoverBusFreeWait n false) fun u =>
        u = s.onSeg n fun g => { g with recovery := .pulses false, pulsesDone := 0 })

/-! Transports (chapters 03, 08, 12). -/

/-- R52, R55, R56, R178, R180: what the endpoints of the configured management function answer and do; a halted one answers
STALL. -/
def Obligations.ManagementEndpoints : Prop :=
  ∀ s : State, s.functionOpen = true →
    s.Acts .interruptInPoll (fun u => u = s.answering (if s.hub.haltInt = true then .stall else .data s.summary)) ∧
    (s.hub.haltIn = true → s.Acts .c0BulkIn fun u => u = s.answering .stall) ∧
    (s.hub.haltIn = false →
      (s.io.replies0 = [] → s.Acts .c0BulkIn fun u => u = s.answering .nak) ∧
      ∀ r rest, s.io.replies0 = r :: rest →
        let chunk := (r.bytes.drop s.io.sent0).take s.bulkSize
        s.Acts .c0BulkIn fun u => u = s.onIo fun io =>
          { io with answer := .data chunk
                    replies0 := if chunk.length < s.bulkSize then rest else io.replies0
                    sent0 := if chunk.length < s.bulkSize then 0 else io.sent0 + chunk.length }) ∧
    (s.hub.fullSpeed = false → s.hub.haltOut = false →
      s.Acts .c0Ping fun u => u = s.answering (if s.io.part0 = [] ∧ 16 ≤ s.io.queued .c0 then .nak else .ack)) ∧
    (s.hub.haltOut = true → s.hub.fullSpeed = false → s.Acts .c0Ping fun u => u = s.answering .stall) ∧
    ∀ bytes : List Byte, bytes.length ≤ s.bulkSize →
      (s.hub.haltOut = true → s.Acts (.c0BulkOutPacket bytes) fun u => u = s.answering .stall) ∧
      (s.hub.haltOut = false →
        (s.io.part0 = [] → 16 ≤ s.io.queued .c0 → s.Acts (.c0BulkOutPacket bytes) fun u => u = s.answering .nak) ∧
        (s.io.part0 ≠ [] ∨ s.io.queued .c0 < 16 →
          (bytes.length = s.bulkSize → s.Acts (.c0BulkOutPacket bytes) fun u =>
            u = s.onIo fun io => { io with part0 := io.part0 ++ bytes, answer := .ack }) ∧
          (bytes.length < s.bulkSize → s.Acts (.c0BulkOutPacket bytes) fun u =>
            let t := s.onIo fun io =>
              { io with part0 := [], waiting := io.waiting ++ [packetInput .c0 (io.part0 ++ bytes) false] }
            u = t.answering (if 16 ≤ t.io.queued .c0 ∧ s.hub.fullSpeed = false then .nyet else .ack))))

/-- R177, R179: the control endpoint. A class or vendor request is answered with STALL; SET_CONFIGURATION, halts, test modes and
descriptors, those of the other speed among them, are those of Table 08-4; a bus reset, a SET_CONFIGURATION of 0 and a
CLEAR_FEATURE on bulk OUT begin the OUT packet and the partly sent reply anew, and the reply of a packet cut so goes before those
that wait. -/
def Obligations.ControlEndpoint : Prop :=
  ∀ s : State, s.linkOpen = true →
    (∀ r, s.Acts (.controlClassVendorRequest r) fun u => u = s.answering .stall) ∧
    (∀ value index, s.Acts (.controlStandardRequest ⟨0x00, 9, 1, index, 0⟩) (fun u =>
        u = (s.onHub fun h => { h with configuredM := true, haltOut := false, haltIn := false, haltInt := false }).answering .ack) ∧
      (2 ≤ value.toNat → s.Acts (.controlStandardRequest ⟨0x00, 9, value, index, 0⟩) fun u => u = s.answering .stall) ∧
      (s.Acts (.controlStandardRequest ⟨0x00, 5, value, index, 0⟩) fun u =>
        u = (s.onHub fun h => { h with address := value.toNat % 128 }).answering .ack)) ∧
    (∀ length, s.Acts (.controlStandardRequest ⟨0x80, 6, 0x0100, 0, length⟩) (fun u =>
        u = s.answering (.data (deviceDescriptor.take length.toNat))) ∧
      (s.Acts (.controlStandardRequest ⟨0x80, 6, 0x0200, 0, length⟩) fun u =>
        u = s.answering (.data ((configDescriptor s.hub.fullSpeed).take length.toNat))) ∧
      (s.Acts (.controlStandardRequest ⟨0x80, 6, 0x0303, 0, length⟩) fun u =>
        u = s.answering (.data ((serialString s.ident.serial).take length.toNat))) ∧
      (s.Acts (.controlStandardRequest ⟨0x80, 6, 0x0F00, 0, length⟩) fun u =>
        u = s.answering (.data (bosDescriptor.take length.toNat))) ∧
      (s.Acts (.controlStandardRequest ⟨0x80, 6, 0x0600, 0, length⟩) fun u =>
        u = s.answering (.data (qualifierDescriptor.take length.toNat))) ∧
      (s.Acts (.controlStandardRequest ⟨0x80, 6, 0x0700, 0, length⟩) fun u =>
        u = s.answering (.data ((otherSpeedDescriptor s.hub.fullSpeed).take length.toNat)))) ∧
    (s.hub.configuredM = true →
      (∀ v : Bool, ∀ r : BitVec 8, r = (if v = true then 3 else 1) →
        (s.Acts (.controlStandardRequest ⟨0x02, r, 0, 0x0081, 0⟩) fun u =>
          u = (s.onHub fun h => { h with haltIn := v }).answering .ack) ∧
        s.Acts (.controlStandardRequest ⟨0x02, r, 0, 0x0082, 0⟩) fun u =>
          u = (s.onHub fun h => { h with haltInt := v }).answering .ack) ∧
      (s.Acts (.controlStandardRequest ⟨0x02, 3, 0, 0x0001, 0⟩) fun u =>
        u = (s.onHub fun h => { h with haltOut := true }).answering .ack) ∧
      s.Acts (.controlStandardRequest ⟨0x82, 0, 0, 0x0082, 2⟩) fun u =>
        u = s.answering (.data [if s.hub.haltInt = true then 1 else 0, 0])) ∧
    (∀ mode : BitVec 16, 1 ≤ mode.toNat → mode.toNat ≤ 5 →
      s.Acts (.controlStandardRequest ⟨0x00, 3, 2, mode <<< 8, 0⟩) fun u =>
        u = (s.onHub fun h => { h with testMode := mode.toNat }).answering .ack) ∧
    (s.io.part0 = [] →
      let fresh := s.onIo fun io => { io with sent0 := 0 }
      (s.Acts (.functionBusReset .busReset) fun u =>
        u = fresh.onHub fun h =>
          { h with configuredM := false, address := 0, haltOut := false, haltIn := false, haltInt := false, testMode := 0 }) ∧
      (s.Acts (.functionBusReset .setConfiguration0) fun u =>
        u = (fresh.onHub fun h => { h with configuredM := false }).answering .ack) ∧
      (s.Acts (.functionBusReset .clearHaltOut) fun u =>
        u = (fresh.onHub fun h => { h with haltOut := false }).answering .ack)) ∧
    (s.io.part0 ≠ [] → s.Acts (.functionBusReset .clearHaltOut) fun u =>
      ∃ m : Malformed, m.received = s.io.part0.length ∧ m.first = true ∧
        u = ((s.onIo fun io => { io with part0 := [], sent0 := 0, waiting := io.waiting ++ [.malformed .c0 m] }).onHub fun h =>
          { h with haltOut := false }).answering .ack)

/-- R53, R57, R272, R273: the SVC window. A write sets the pointer; bytes written at 0x10 build a packet; a read gives bytes
of one snapshot, and at 0x11 the bytes of the oldest reply, 0x00 with none; other writes are acknowledged and ignored; a
gap of `CMD.SVC_GAP` ends a packet. -/
def Obligations.SvcWindow : Prop :=
  ∀ s : State, s.hiveRuns = true →
    (∀ b, s.Acts (.svcPointerWrite b) fun u => u = s.onIo fun io => { io with svcPointer := b, answer := .ack }) ∧
    (∀ b, s.io.svcPointer ≠ 0x10 → s.Acts (.svcWindowWrite b) fun u =>
      u = s.onIo fun io =>
        { io with svcPointer := if io.svcPointer = 0x11 then 0x11 else io.svcPointer + 1, answer := .ack }) ∧
    (∀ b, s.io.svcPointer = 0x10 → s.svcDownloads = false →
      (s.io.part1 = [] → 16 ≤ s.io.queued .c1 → s.Acts (.svcCommandByte b) fun u => u = s.answering .nak) ∧
      (s.io.part1 ≠ [] ∨ s.io.queued .c1 < 16 →
        let l := s.io.part1 ++ [b]
        s.Acts (.svcCommandByte b) fun u => u = s.onIo fun io =>
          if packetDone l = true then
            { io with part1 := [], waiting := io.waiting ++ [packetInput .c1 l false], answer := .ack }
          else { io with part1 := l, answer := .ack })) ∧
    (s.io.svcPointer = 0x11 →
      (s.io.replies1 = [] → s.Acts .svcReplyRead fun u => u = s.answering (.data [0])) ∧
      ∀ r rest, s.io.replies1 = r :: rest → s.Acts .svcReplyRead fun u =>
        u = s.onIo fun io =>
          { io with answer := .data [(r.bytes[io.sent1]?).getD 0]
                    replies1 := if io.sent1 + 1 < r.bytes.length then io.replies1 else rest
                    sent1 := if io.sent1 + 1 < r.bytes.length then io.sent1 + 1 else 0 }) ∧
    (∀ n, s.io.svcPointer.toNat + n ≤ 0x10 → s.Acts (.svcWindowRead n) fun u =>
      u = s.onIo fun io =>
        { io with svcSnapshot := s.svcWindow, svcPointer := io.svcPointer + BitVec.ofNat 8 n
                  answer := .data ((List.range n).map fun k => (s.svcWindow[io.svcPointer.toNat + k]?).getD 0) }) ∧
    (s.io.part1 = [] → s.Acts .cmdSvcGapExpiry fun u => u = s) ∧
    (s.io.part1 ≠ [] → s.Acts .cmdSvcGapExpiry fun u =>
      u = s.onIo fun io => { io with part1 := [], waiting := io.waiting ++ [packetInput .c1 io.part1 true] })

/-- R54, R58: a shift of CMD_PORT captures the byte asked for before, whether there is one, and whether a new packet would be
taken; bit 8 gives a byte of a packet, bit 9 asks for a byte of the oldest reply. -/
def Obligations.CommandPort : Prop :=
  ∀ (s : State) (dr : BitVec 10), s.jtagUp = true → s.hiveRuns = true → s.io.jtag ≠ 3 →
    let room := decide (s.io.queued .c3 < 16)
    let byte := match s.io.captureByte with
      | some b => b.toNat + 256
      | none => 0
    let seen := s.onIo fun io =>
      { io with jtag := 5, captureRoom := room, answer := .capture 10 (byte + if room = true then 512 else 0) }
    (dr.getLsbD 8 = false → dr.getLsbD 9 = false → s.Acts (.cmdPortShift dr) fun u =>
      u = seen.onIo fun io => { io with captureByte := none }) ∧
    (dr.getLsbD 8 = true → dr.getLsbD 9 = false → s.io.part3 ≠ [] ∨ room = true →
      let l := s.io.part3 ++ [dr.setWidth 8]
      s.Acts (.cmdPortShift dr) fun u => u = seen.onIo fun io =>
        if packetDone l = true then
          { io with part3 := [], waiting := io.waiting ++ [packetInput .c3 l false], captureByte := none }
        else { io with part3 := l, captureByte := none }) ∧
    (dr.getLsbD 8 = false → dr.getLsbD 9 = true → ∀ r rest, s.io.replies3 = r :: rest → s.Acts (.cmdPortShift dr) fun u =>
      u = seen.onIo fun io =>
        { io with captureByte := some ((r.bytes[io.sent3]?).getD 0)
                  replies3 := if io.sent3 + 1 < r.bytes.length then io.replies3 else rest
                  sent3 := if io.sent3 + 1 < r.bytes.length then io.sent3 + 1 else 0 })

/-- R76, R286, R311: the JTAG instructions. EXTEST and INTEST are carried out in SERVICE or while Hive has no clock, else the
register falls back to BYPASS; leaving EXTEST is an L1 reset with source TEST and detail 0xFF. -/
def Obligations.JtagInstructions : Prop :=
  ∀ s : State, s.jtagUp = true →
    (s.io.jtag ≠ 3 →
      let take := fun (n : Nat) (bits v : Nat) => s.onIo fun io => { io with jtag := n, answer := .capture bits v }
      s.Acts .jtagIdcode (fun u => u = take 0 32 Config.idcode.toNat) ∧
      s.Acts .jtagBypass (fun u => u = take 1 1 0) ∧
      s.Acts .jtagSamplePreload (fun u => u = take 2 4 1) ∧
      s.Acts .jtagIntest (fun u => u = if s.scanAllowed = true then take 4 4 1 else take 1 4 5) ∧
      (s.scanAllowed = false → s.Acts .jtagExtest fun u => u = take 1 4 5) ∧
      (s.mode ≠ .service → s.phase = .noClock → s.Acts .jtagExtest fun u => u = take 3 4 1) ∧
      (s.mode = .service → s.NoneWaits → (∀ ch, (s.chan ch).state.active = false) → s.Acts .jtagExtest fun u =>
        u = { take 3 4 1 with spine := { s.spine with extestOff := true } }) ∧
      s.Acts .jtagExtestExit (fun u => u = s)) ∧
    (s.io.jtag = 3 → s.phase.live = true → s.mode ≠ .banked → s.Acts .jtagExtestExit fun u =>
      u.mode = .boot ∧ u.phase = s.ember.startPhase ∧ u.io.jtag = 1 ∧ u.ember.resetOutLow = true ∧
      u.ember.cause = s.ember.cause ||| 0x0400#16 ∧ u.ember.detail = 0x0A0000FF#32 ∧
      u.led = { Ledger.init with openFaults := s.led.openFaults.filter fun f => f.code == 0x070C } ∧
      u.flash = s.flash ∧ u.ident.serial = s.ident.serial)

/-! Start-up, resets and OFF (chapter 04, R46, R245 to R250). -/

/-- R82 to R85, R88, R91, R316: the L1 sources. Outside BANKED the start begins again: all four dies cleared but for the locks,
Ember with the cause added, `RESET.DETAIL` written, the pad latches open, RESET_OUT_N low and the fuse map read again;
flash, fuses, backup registers, the retained memory and a latched 0x070C stand. In BANKED the device goes to OFF. PIN_RESET holds
it, and during an L0 start it joins the start (log 107). -/
def Obligations.WholeDeviceResets : Prop :=
  ∀ s : State,
    let kept := fun c : Chan => if c.state = .locked then { Chan.init with state := .locked, lock := c.lock } else Chan.init
    let ember := fun bit detail =>
      { s.ember with
        cause := s.ember.cause ||| (1#16 <<< bit), detail := BitVec.ofNat 32 (bit * 0x1000000 + detail % 0x1000000)
        stretchNow := s.ember.stretch, latched := false, staged := [], resetOutLow := true
        fuseInForce := s.ember.fuseBurn == 1, cold := false }
    let again := fun (e : Ember) (phase : Phase) (mode : Mode) (u : State) =>
      u = { State.reset with
        pending := s.pending, free := s.free, mode := mode, phase := phase, ember := e, flash := s.flash
        ident := { s.ident with flashFirmware := false, version := s.ident.romVersion, authFailed := none }
        io := { Transports.init with jtag := s.io.jtag }, chans := s.chans.map kept, forager := Forager.init
        led := { Ledger.init with openFaults := s.led.openFaults.filter fun f => f.code == 0x070C }
        hub := { Hub.init with upVbus := s.hub.upVbus, upPin := s.hub.upPin }, pw := { Power.init with crank := s.pw.crank } }
    let clocked : Phase := if s.ember.clkMode = 3 then .noClock else .starting
    let start : Phase := if s.ember.resetInLow = true then .pinHeld else clocked
    let dark := { s.ember with latched := false, staged := [], resetOutLow := true }
    let off := again dark .off .off
    s.forager.runTest ≠ 0x20 →
    (s.coreOn = true → s.mode ≠ .banked →
      (∀ supply, supply ≤ 1 → s.Acts (.bor supply) (again (ember 1 supply) start .boot)) ∧
      (∀ op, s.Acts (.wdtExpiry op) (again (ember 3 op.toNat) start .boot)) ∧
      (∀ addr, s.Acts (.eccReset addr) (again (ember 5 addr.toNat) start .boot))) ∧
    (s.phase.live = true → s.mode ≠ .banked →
      s.Acts .pinReset (again { ember 2 0 with resetInLow := true } .pinHeld .boot) ∧
      ∀ tag, s.pw.resetTag = some tag → s.Acts .deviceResetDelay fun u =>
        again { ember 4 tag.toNat with retained := (s.writeRetained 0).ember.retained } start .boot u) ∧
    (s.phase.live = true → s.mode = .banked →
      s.Acts .pinReset (again { dark with resetInLow := true } .off .off) ∧ s.Acts .holdNodeCollapse off ∧
      (s.store.writing = 2 → s.Acts .flashTailDone fun u =>
        off { u with flash := s.flash } ∧ u.flash = (s.writeTail s.sparePage).flash)) ∧
    (s.phase = .porHeld ∨ s.phase = .testHeld → s.Acts .pinReset fun u =>
      u = { s with ember := { s.ember with
        resetInLow := true, cause := s.ember.cause ||| 0x0004#16, detail := 0x02000000#32 } }) ∧
    (s.Acts .pinResetRelease fun u =>
      u = { s with phase := if s.phase = .pinHeld then clocked else s.phase
                   ember := { s.ember with resetInLow := false } }) ∧
    (s.phase = .up → s.Acts .resetStretchExpiry fun u => u = { s with ember := { s.ember with resetOutLow := false } })

/-- R94, R245, R249, R315: POR and WAKE_OFF are L0 starts. They clear everything but flash, the fuses, the locks, what
production put in, and the retained memory where its supply held; the cause is the start's own. Without supply the
retained memory is lost once the monitor says so; the straps are latched as RESET_OUT_N's hold ends (R75, R76), and RESET_IN_N
low holds the start (R91).
Table 04-7, R14, R17, R77, R90, R99, R100: the root PLL, the boot number that the ROM programs at once, and the firmware. -/
def Obligations.ColdStartsAndStartUp : Prop :=
  (∀ s : State,
     let started := fun (bit : Nat) (u : State) =>
       u.phase = .porHeld ∧ u.mode = .boot ∧ u.flash = s.flash ∧ u.ident.serial = s.ident.serial ∧
       u.ember = { Ember.init with
         cause := 1#16 <<< bit, detail := BitVec.ofNat 32 (bit * 0x1000000)
         retained := if s.ember.retentionHeld = true then s.ember.retained else []
         fuseBank := s.ember.fuseBank, fuseBurn := s.ember.fuseBurn, fuseInForce := s.ember.fuseBurn == 1
         resetInLow := s.ember.resetInLow, vio33Low := s.ember.vio33Low } ∧
       u.led = Ledger.init ∧ u.spine = Spine.init ∧ u.prm = State.reset.prm ∧ u.ports = State.reset.ports ∧ u.ops = [] ∧
       ∀ ch, isChan ch = true →
         ((u.chan ch).state = .locked ↔ (s.chan ch).state = .locked) ∧
         ((s.chan ch).state = .locked → (u.chan ch).lock = (s.chan ch).lock)
     s.Acts .por (started 0) ∧
     (s.phase = .off → s.Acts .wakeOffStart (started 11)) ∧
     s.Acts .porAssert (fun u => u.phase = .unpowered ∧ u.ember = s.ember ∧ u.flash = s.flash ∧ u.led = Ledger.init) ∧
     (s.phase = .off ∨ s.phase = .unpowered → s.Acts .retentionLoss fun u =>
       u = { s with ember := { s.ember with retentionHeld := false } }) ∧
     (s.phase = .porHeld → ∀ boot clk : BitVec 2, s.Acts (.porRelease boot clk false) fun u =>
       u = { s with ember := { s.ember with bootSel := boot, clkMode := clk, testEn := false }
                    phase := if s.ember.resetInLow = true then .pinHeld else if clk = 3 then .noClock else .starting }) ∧
     (s.phase = .porHeld → ∀ boot clk : BitVec 2, s.Acts (.porRelease boot clk true) fun u =>
       u = { s with ember := { s.ember with bootSel := boot, clkMode := clk, testEn := true }, phase := .testHeld })) ∧
  (∀ s : State,
     (s.phase = .starting →
       s.Acts .pllLock (fun u => u = { s with
         flash := s.nextBoot.2.flash, led := { s.led with boot := BitVec.ofNat 16 s.nextBoot.1 }
         cfg := { s.cfg with holdend := s.holdend }
         phase := if s.ember.bootSel = 0 then .training else if s.ember.bootSel = 1 then .authenticating else .downloading
         hub := if s.ember.bootSel = 2 ∧ s.hub.upVbus = true then { s.hub with link := 1, speed := 2 } else s.hub
         pw := { s.pw with pllStarts := s.pw.pllStarts + 1 } }) ∧
       (Memory.wf flashDefault s.flash → (∃ i, i < 2048 ∧ s.nextBoot.2.bootSlot i = some s.nextBoot.1) ∧
         (∀ i n, s.newestBoot = some (i, n) → s.nextBoot.1 = (n + 1) % 0x10000) ∧ (s.newestBoot = none → s.nextBoot.1 = 0)) ∧
       s.Acts .pllLockRetry fun u => u = { s with
         pw := { s.pw with pllStarts := s.pw.pllStarts + 1 }, ember := { s.ember with resetOutLow := true } }) ∧
     (s.phase = .authenticating → ∀ (version : BitVec 16) (bad : Bool),
       s.Acts (.firmwareAuth true version bad) (fun u =>
         u = { s with phase := .training, ident := { s.ident with flashFirmware := true, version := version } }) ∧
       s.Acts (.firmwareAuth false version bad) fun u =>
         u = { s with
           phase := .training
           ident := { s.ident with flashFirmware := false, version := s.ident.romVersion, authFailed := some bad } }))

/-- R78: the downloads over a USB link and over SVC. Blocks join the image, an empty block or the length given ends it, an image that
is authenticated is written to flash offset 0 and runs, and a rejected one is reported while the device waits again. The
DFU codes are those of DFU 1.1 (PRESUMED, log 42). -/
def Obligations.FirmwareDownloads : Prop :=
  ∀ s : State,
    (s.ember.bootSel = 2 → s.phase = .downloading → s.hub.link ≠ 0 →
      (∀ block, block ≠ [] → s.io.dfuState < 2 → s.Acts (.dfuDnload block) fun u =>
        u = s.onIo fun io =>
          { io with dfuState := 1, answer := .ack, dfuImage := if io.dfuState = 0 then block else io.dfuImage ++ block }) ∧
      (s.io.dfuState = 1 → s.Acts (.dfuDnload []) fun u =>
        u = { s.onIo fun io => { io with dfuState := 2, answer := .ack } with phase := .verifying }) ∧
      (s.io.dfuState = 3 → s.Acts .dfuClrstatus fun u =>
        u = s.onIo fun io => { io with dfuState := 0, dfuStatus := 0, dfuImage := [], answer := .ack }) ∧
      (s.io.dfuState < 2 → s.Acts .dfuAbort fun u =>
        u = s.onIo fun io => { io with dfuState := 0, dfuImage := [], answer := .ack })) ∧
    (s.ember.bootSel = 2 → s.phase = .downloading ∨ s.phase = .verifying → s.hub.link ≠ 0 →
      let code := match s.io.dfuState with | 0 => 2 | 1 => 5 | 2 => 7 | _ => 10
      s.Acts .dfuGetstate (fun u => u = s.answering (.data (b8 code))) ∧
      s.Acts .dfuGetstatus (fun u => u = s.answering (.data (b8 s.io.dfuStatus ++ [0, 0, 0] ++ b8 code ++ [0]))) ∧
      (s.io.dfuState ≠ 3 → s.Acts .dfuUpload fun u =>
        u = s.onIo fun io => { io with answer := .stall, dfuState := 3, dfuStatus := 0x0F })) ∧
    (s.ember.bootSel = 3 → s.phase = .downloading → ∀ bytes, bytes ≠ [] →
      let l := (if s.io.svcDownload = 1 then s.io.svcImage else []) ++ bytes
      (l.length < 4 ∨ l.length < 4 + leAt l 0 4 → s.Acts (.svcImageDownload bytes) fun u =>
        u = s.onIo fun io => { io with svcImage := l, svcDownload := 1 }) ∧
      (4 ≤ l.length → 4 + leAt l 0 4 ≤ l.length → s.Acts (.svcImageDownload bytes) fun u =>
        u = { s.onIo fun io => { io with svcImage := l.take (4 + leAt l 0 4), svcDownload := 2 } with phase := .verifying })) ∧
    (s.phase = .verifying → Memory.wf flashDefault s.flash → ∀ version : BitVec 16,
      (s.Acts (.downloadAuth true version) fun u =>
        u.phase = .training ∧ u.ident = { s.ident with flashFirmware := true, version := version } ∧ u.hub.link = 0 ∧
        let image := if s.ember.bootSel = 2 then s.io.dfuImage else s.io.svcImage.drop 4
        ∀ a, readByte flashDefault u.flash a =
          if a < 0x100000 then (image[a]?).getD 0xFF else readByte flashDefault s.flash a) ∧
      s.Acts (.downloadAuth false version) fun u =>
        u.phase = .downloading ∧ u.flash = s.flash ∧ u.ident = s.ident ∧ u.io.svcDownload = 4 ∧ u.io.dfuImage = [] ∧
        (s.ember.bootSel = 2 → u.io.dfuState = 3 ∧ u.io.dfuStatus = 7))

/-- Table 04-7 steps 7 to 9, R32, R99, R101, R109, R112, R119, R131: with neither slot valid, every lane trained and no fault
found on the way, SPINE_TRAINING ends the boot in DEFAULTS. The first entry of the boot is `BOOT` with count 0; the ring
of retained lists and parameter values is that of the ROM; and the round of trigger 0 asks the dies 1, 2 and 3. -/
def Obligations.BootReachesAgreement : Prop :=
  ∀ (s : State) (rails : BitVec 4), s.phase = .training → Memory.wf flashDefault s.flash → s.io.waiting = [] →
    s.slotOk 0 = false → s.slotOk 1 = false → s.led.openFaults = [] →
    s.ident.authFailed = none → (∀ d, 1 ≤ d → d ≤ 3 → s.dieGone d = false ∧ (s.die d).resetting = false) →
    s.Acts (.spineTraining 0x3FF rails) fun u =>
      u.phase = .up ∧ u.mode = .boot ∧ u.led.boot = s.led.boot ∧ u.led.next = 1 ∧
      (∃ e, u.led.ring = [e] ∧ e.count = 0 ∧ e.kind = .boot ∧ e.external = true ∧ e.tag = 0xFFFF ∧
        e.data = padTo 10 (b8 0x43 ++ b8 s.ident.flashFirmware.toNat ++ b16 s.ident.version.toNat ++ b16 u.ember.cause.toNat
          ++ b8 2 ++ b8 (2 * s.cfg.holdend.toNat) ++ b8 (s.ember.bootSel.toNat + 4 * s.ember.clkMode.toNat) ++ b8 u.rails.toNat)) ∧
      u.ember.cause = (if s.cfg.holdend = true then s.ember.cause ||| 0x0200 else s.ember.cause) ∧ u.ember.detail = s.ember.detail ∧
      u.cfg.state = .defaults ∧ u.cfg.slotValid = 0 ∧ u.cfg.applied = Loaded.defaults ∧ u.prm.values = [] ∧ u.prm.staged = [] ∧
      u.spine.epoch = s.spine.epoch + 1 ∧
      ∃ r, u.spine.round = some r ∧ r.trigger = 0 ∧ r.ballots.map (fun b => (b.die, b.tries, b.verdict)) = [(1, 0, 0), (2, 0, 0), (3, 0, 0)]

/-- R13, R46, R62, R246 to R248: HOLD_ENTER drops what is pending, enters BANKED with the plan that E at VSTORE allows, and
records it; the retained memory is written first, and then, in the full plan, the flash tail. A gate hold that moves by
0.5 V is `FAULT` 0x0433. -/
def Obligations.HoldUp : Prop :=
  ∀ s : State,
    (∀ vveh vstore : BitVec 16, s.phase = .up → s.mode ≠ .off → s.mode ≠ .banked →
      let e := if s.monitorUp = true then s.energyAt vstore.toNat else s.store.energy
      let plan := if 0 < s.cells ∧ s.nat .holdEMin 0 ≤ e then 0 else 1
      let note := fun (external : Bool) (block : Nat) (k : Kind) (n : Nat) (l : List Byte) =>
        noteOf s.led.tag external 3 block k n l
      let held := fun u : State => u.mode = .banked ∧ u.store.plan = plan ∧ u.store.energy = e ∧ u.store.writing = 1 ∧
        u.store.gateHold = true ∧ u.store.charging = false ∧ u.store.bleeding = s.store.bleeding ∧ u.ops = [] ∧
        u.io.waiting = [] ∧ u.cfg.session = none ∧ u.trig.work = [] ∧ u.spine.round = none ∧ u.flash = s.flash ∧
        u.rails = s.rails
      let entered := note true blkStore .holdEnter 0 (b8 plan ++ b16 vveh.toNat ++ b16 vstore.toNat)
      let mode := fun reason => note true blkPower .modeChange 0 (b8 s.mode.code ++ b8 Mode.banked.code ++ b8 reason)
      ((∀ ch, (s.chan ch).state.conducts = false) →
        (s.mode.asleep = false → s.Acts (.holdEnter vveh vstore) fun u =>
          held u ∧ u.chans = s.chans ∧ Logs s u [mode 1, entered]) ∧
        (s.mode.asleep = true →
          let first := lowestSource (s.pw.wakeLatch ||| (1#10 <<< 6)) 6
          s.Acts (.holdEnter vveh vstore) fun u =>
            held u ∧ u.chans = s.chans ∧ u.pw.vcoreSel = s.pw.level ∧
              Logs s u [mode 2, note true blkPower .wake 0 (b8 first ++ b8 s.mode.code), entered])) ∧
      (∀ aux, isAux aux = true → s.auxOrder.count aux = 1 → s.mode.asleep = false → (s.chan aux).tripped = false →
        (∀ ch, (s.chan ch).state.conducts = true ↔ ch = aux) → s.Acts (.holdEnter vveh vstore) fun u =>
          held u ∧ u.chan aux = (s.chan aux).wentOff false ∧
            Logs s u [mode 1, entered, noteOf s.led.tag false 3 blkStore .holdShed aux (b8 1),
              noteOf s.led.tag false 3 blkChan .chanOff aux (b8 3)])) ∧
    (∀ vveh vstore : BitVec 16, s.phase = .verifying ∨ s.phase = .training → s.Acts (.holdEnter vveh vstore) fun u =>
      u.phase = .heldUp ∧ u.mode = .banked ∧ u.store.gateHold = true ∧ u.store.writing = 1 ∧ u.led = s.led) ∧
    (s.phase = .up → s.mode = .banked → s.store.gateHold = true → 0 < s.cells → s.faultOpen 0x0433 0 = false → ∀ node vstore : BitVec 16,
      (node.toNat + 500 < vstore.toNat ∨ vstore.toNat + 500 < node.toNat → s.Acts (.gateHoldCheck node vstore) fun u =>
        Tells (s.faulted 0x0433 0 (byteOf (b16 node.toNat) 0)) u
          [noteOf s.led.tag true 3 blkStore .fault 0 (b16 0x0433 ++ b8 1 ++ (b16 node.toNat ++ b16 vstore.toNat))]) ∧
      (node.toNat ≤ vstore.toNat + 500 → vstore.toNat ≤ node.toNat + 500 →
        s.Acts (.gateHoldCheck node vstore) fun u => u = s)) ∧
    (s.store.writing = 1 →
      (s.mode ≠ .banked → s.Acts .retainedWriteDone fun u => u = (s.writeRetained 0).onStore fun g => { g with writing := 2 }) ∧
      (s.mode = .banked → s.store.plan = 0 → s.Acts .retainedWriteDone fun u =>
        u = (s.writeRetained 1).onStore fun g => { g with writing := 2 }) ∧
      (s.mode = .banked → s.store.plan = 1 → s.Acts .retainedWriteDone fun u =>
        u.phase = .off ∧ u.mode = .off ∧ u.ember.retained = (s.writeRetained 2).ember.retained ∧ u.flash = s.flash ∧
        u.ember.resetOutLow = true))

/-- R46, R48: what the retained memory holds after it is written: a shutdown record that checks, with the boot number and the
reason, and the newest 96 entries, oldest first.
R46, R47: what a flash tail page holds after it is written: the newest 256 entries, oldest first, and no byte outside the
page changes. -/
def Obligations.TailsHoldTheNewestEntries : Prop :=
  (∀ (s : State) (reason : Nat), reason ≤ 2 → Memory.wf retainedDefault s.ember.retained →
     let t := s.writeRetained reason
     t.retainedOk = true ∧
       t.retainedEntries = ((s.led.ring.take 96).reverse.map (Entry.bytes s.led.boot)) ∧
       t.retainedWord = BitVec.ofNat 32 (1 + reason * 0x100 + s.led.boot.toNat * 0x10000) ∧
       ∀ a, 0xC40 ≤ a → readByte retainedDefault t.ember.retained a = readByte retainedDefault s.ember.retained a) ∧
  (∀ (s : State) (page : Nat), page ≤ 1 → s.led.ring ≠ [] → Memory.wf flashDefault s.flash →
     let es := (s.led.ring.take 256).reverse
     let t := s.writeTail page
     t.tailCount page = some es.length ∧ t.tailBoot page = s.led.boot.toNat ∧
       (List.range es.length).map (fun i => t.flashBytes (tailBase page + 0x40 + 32 * i) 32) = es.map (Entry.bytes s.led.boot) ∧
       ∀ a, a < tailBase page ∨ tailBase page + 0x4000 ≤ a →
         readByte flashDefault t.flash a = readByte flashDefault s.flash a)

/-! Dies, Spine and agreement (chapters 04 and 05). -/

/-- R12, R102, R103, R105, R106: a frame is accepted when its CRC is right and it is the next one expected in its direction; one
accepted before is a duplicate and is acknowledged again; any other is not accepted. Its content acts once. A lost link
carries none. A sender sends at a frame boundary alone, the highest class that waits first, and ASYNC on a degraded link
only with a credit; it holds a frame until a cumulative acknowledgement covers it, and after a lane has gone sends every one it
holds again before any new one.
R104, R105, R107, R108: a lane that fails leaves service with one `LANE_DROP`, the frames replayed in it, and a removal within 1 s
of its rejoin doubles its retrain interval up to sixteen; attempts count until it rejoins with `LANE_REJOIN`; 1 s in
service takes the interval back. -/
def Obligations.SpineFramesAndLanes : Prop :=
  (∀ (s : State) (link : Nat) (toHive : Bool) (seq : BitVec 16), link ≤ 2 → s.linkOn link = true →
     let l := s.link link
     let next := fun x : Sender => (x.arrived seq).boundary (s.degraded link)
     (∀ acked credits, s.Acts (.frameReceived link toHive ⟨seq, acked, credits⟩ false) fun u =>
       u = s.onSpine fun sp => { sp with crcFailed := saturate 0xFFFFFFFF (sp.crcFailed + 1) }) ∧
     (seq = l.want toHive →
       (toHive = true ∨ (∀ f ∈ (l.sender false).unacked, f.seq ≠ seq) →
         (s.Acts (.frameReceived link toHive ⟨seq, false, 0⟩ true) fun u =>
           u = s.onLink link fun l => (l.expect toHive seq).onSender toHive next) ∧
         ∀ credits, s.Acts (.frameReceived link toHive ⟨seq, true, credits⟩ true) fun u =>
           u = s.onLink link fun l => (l.expect toHive seq).onSender toHive fun x =>
             Sender.boundary { (x.arrived seq).acked seq with credits := (x.arrived seq).credits + credits } (s.degraded link)) ∧
       (∀ f, toHive = false → (l.sender false).unacked = [f] → f.seq = seq →
         s.Acts (.frameReceived link false ⟨seq, false, 0⟩ true) fun u =>
           let t := s.onLink link fun l => (l.expect false seq).onSender false next
           (∀ us, f.body = .tick us → u = t.onDie (link + 1) fun d => { d with ticks := d.ticks ++ [(us, f.replayed)] }) ∧
           (∀ epoch digest compat set, f.body = .propose epoch digest compat (some set) →
             u = t.onDie (link + 1) fun d => { d with set := some set, hasEpoch := true }))) ∧
     (seq ≠ l.want toHive → ((l.want toHive) - seq).toNat < 0x8000 →
       s.Acts (.frameReceived link toHive ⟨seq, false, 0⟩ true) fun u =>
         u = (s.onSpine fun sp => { sp with duplicates := saturate 0xFFFFFFFF (sp.duplicates + 1) }).onLink link fun l =>
           l.onSender toHive next) ∧
     (0x8000 ≤ ((l.want toHive) - seq).toNat → ∀ acked credits,
       s.Acts (.frameReceived link toHive ⟨seq, acked, credits⟩ true) fun u => u = s)) ∧
  (∀ (s : State) (link : Nat), link ≤ 2 → (s.link link).lost = true → ∀ toHive seq ok acked credits,
     s.Acts (.frameReceived link toHive ⟨seq, acked, credits⟩ ok) fun u => u = s) ∧
  (∀ (x : Sender) (degraded : Bool) (seq : BitVec 16),
     (x.busy = true → x.boundary degraded = x) ∧
     (∀ (c : TrafficClass) (p : Payload) (rest : List (TrafficClass × Payload)), x.busy = false → x.queue = (c, p) :: rest →
       (c = .control ∨
         (∀ y ∈ rest, y.1 ≠ .control) ∧
           (c = .periodic ∨ (∀ y ∈ rest, y.1 ≠ .periodic) ∧ (degraded = false ∨ 0 < x.credits))) →
       x.boundary degraded =
         { queue := rest, nextSeq := x.nextSeq + 1, busy := true, unacked := x.unacked ++ [⟨c, x.nextSeq, p, false⟩]
           credits := if degraded = true ∧ c = .async then x.credits - 1 else x.credits }) ∧
     (∀ p, x.busy = false → (.control, p) ∈ x.queue →
       ∃ q, (.control, q) ∈ x.queue ∧ (x.boundary degraded).unacked = x.unacked ++ [⟨.control, x.nextSeq, q, false⟩]) ∧
     (degraded = true → x.credits = 0 → (∀ y ∈ x.queue, y.1 = .async) → x.boundary true = x) ∧
     (x.acked seq).unacked = x.unacked.filter (fun f => decide (0x8000 ≤ (seq - f.seq).toNat)) ∧
     x.replay.unacked.map (fun f => (f.cls, f.seq, f.body, f.replayed)) = x.unacked.map (fun f => (f.cls, f.seq, f.body, true)) ∧
     (x.unacked ≠ [] → x.replay.boundary degraded = x.replay)) ∧
  (∀ (s : State) (link lane : Nat), link ≤ 2 → lane < (if link = 2 then 2 else 4) →
     let l := (s.link link).lane lane
     let inUse := fun k : Link => (k.lanes.toList.filter (·.inService)).length
     let change := fun (f : Lane → Lane) (s : State) =>
       s.onLink link fun k => { k with lanes := bankSet k.lanes lane (f (k.lane lane)) }
     (l.inService = true →
       s.Acts (.retrainIntervalReset link lane) (fun u => u = change (fun l => { l with factor := 1, rejoined := none }) s) ∧
       let quick := match l.rejoined with
         | some t => decide (s.ember.ms < t + 1000)
         | none => false
       let gone := change fun l =>
         { l with inService := false, attempts := 0, factor := if quick = true then min 16 (2 * l.factor) else l.factor
                  rejoined := none }
       let again := s.onLink link fun k => { k with toHive := k.toHive.replay, fromHive := k.fromHive.replay }
       (s.Open → (s.link link).lost = false → s.nat .spineMinLanes 0 ≤ inUse ((gone s).link link) → ∀ frames : Word,
         s.Does (.laneDrop link (1#4 <<< lane) frames) fun u =>
           Tells ((gone again).onSpine fun sp => { sp with replayed := saturate 0xFFFFFFFF (sp.replayed + frames.toNat) }) u
             [noteOf 0xFFFF true 0 blkSpine .laneDrop link (b8 lane ++ b8 (inUse ((gone s).link link)) ++ b32 frames.toNat)]) ∧
       (s.Open → (s.link link).lost = true → ∀ frames : Word, s.Does (.laneDrop link (1#4 <<< lane) frames) fun u => u = gone s)) ∧
     (l.inService = false →
       (s.spineOn = true → s.Acts (.laneRetrainAttempt link lane) fun u => u = change (fun l => { l with attempts := l.attempts + 1 }) s) ∧
       (s.mode.asleep = true ∨ s.mode = .banked → s.Acts (.laneRetrainAttempt link lane) fun u => u = s) ∧
       let back := change (fun l => { l with inService := true, attempts := 0, rejoined := some s.ember.ms }) s
       (s.Open → (s.link link).lost = false → s.Does (.laneRejoin link lane) fun u =>
         Tells back u
           [noteOf 0xFFFF true 0 blkSpine .laneRejoin link
             (b8 lane ++ b8 (inUse (back.link link)) ++ b16 (saturate 0xFFFF l.attempts))])))

/-- R97, R98, R109, Table 05-6: a link of a Comb die with fewer lanes than `SPINE.MIN_LANES` is lost. After its `LANE_DROP`
come the latched `FAULT` 0x0601 and `RESET_BLOCK`; with no port of the die attached nothing else is turned off. The die is
absent and inside its reset. -/
def Obligations.LinkLoss : Prop :=
  ∀ (s : State) (link lane : Nat) (frames : Word), s.Open → link ≤ 1 → lane < 4 → (s.link link).lost = false →
    ((s.link link).lane lane).inService = true →
    ((s.link link).lanes.toList.filter (·.inService)).length - 1 < s.nat .spineMinLanes 0 →
    s.faultOpen 0x0601 link = false → s.NoneWaits → s.chosenMode = s.mode →
    (∀ p, isPort p = true → (s.port p).attached = false ∧ s.NoOp (.port p)) → s.NoOp .test →
    s.Does (.laneDrop link (1#4 <<< lane) frames) fun u =>
      ∃ t, Tells t u
          [noteOf 0xFFFF true 0 blkSpine .laneDrop link
            (b8 lane ++ b8 (((s.link link).lanes.toList.filter (·.inService)).length - 1) ++ b32 frames.toNat),
           noteOf 0xFFFF false 0 blkSpine .fault link (b16 0x0601 ++ b8 1 ++ b8 link),
           noteOf 0xFFFF true 3 blkReset .resetBlock (link + 1) (b8 2 ++ b32 (dieBlocks (link + 1)) ++ b8 7)] ∧
        (t.link link).lost = true ∧ (t.link link).toHive.unacked = [] ∧ (t.link link).fromHive.unacked = [] ∧
        (t.link link).nextToHive = (s.link link).nextToHive ∧ (t.die (link + 1)).absent = true ∧ (t.die (link + 1)).resetting = true ∧
        (t.die (link + 1)).hasEpoch = false ∧ (t.die (link + 1)).set = none ∧ t.ember.cause = s.ember.cause ||| 0x80 ∧
        t.led.openFaults = s.led.openFaults ++ [⟨0x0601, link, byteOf (b8 link) 0⟩] ∧
        t.mode = s.mode ∧ t.ports = s.ports ∧ t.chans = s.chans ∧ t.ops = s.ops ∧ t.flash = s.flash

/-- R13, R113, Table 01-7: when no lane of SPINE-F works any more Forge asserts SB_OFF itself, and the mode becomes SAFE. With every
channel off that is all. While a lane works nothing happens. -/
def Obligations.ForgeLossEntersSafe : Prop :=
  ∀ s : State, s.Open → s.spine.forgeOff = false → s.mode = .run ∨ s.mode = .standalone ∨ s.mode = .service → s.NoneWaits →
    (∀ ch, (s.chan ch).state.active = false) →
    (0 < ((s.link 2).lanes.toList.filter (·.inService)).length → s.Does .forgeLossTimeout fun u => u = s) ∧
    ((s.link 2).lanes.toList.filter (·.inService) = [] → s.Does .forgeLossTimeout fun u =>
      Tells { s.onSpine fun sp => { sp with forgeOff := true } with mode := .safe } u
        [noteOf 0xFFFF false 0 blkPower .modeChange 0 (b8 s.mode.code ++ b8 Mode.safe.code ++ b8 1)])

/-- R31, R85, R97, R98: errors of the memories. A corrected word that no reset follows is `FAULT` 0x0702; a parity error in
Hive's copy is an L1 reset, in BANKED the way to OFF (R88), and in a Comb die's mirror an L2 reset of that die, which loses its
mirror and its set, with nothing else turned off where none of its ports is attached. -/
def Obligations.MemoryErrors : Prop :=
  (∀ (s : State) (param : BitVec 16), s.phase = .up → s.mode = .banked → s.forager.runTest ≠ 0x20 →
    ∃ u, exec (.parityReset 0 param) s = .next u ∧ u.phase = .off ∧ u.mode = .off ∧ u.flash = s.flash ∧
      u.ember.cause = s.ember.cause ∧ u.ember.resetOutLow = true) ∧
  ∀ s : State, s.Open →
    (∀ addr : Word, s.Does (.eccErrorNoncritical addr) fun u =>
      Tells s u [noteOf 0xFFFF true 0 blkEcc .fault 0 (b16 0x0702 ++ b8 0 ++ b32 addr.toNat)]) ∧
    (∀ param : BitVec 16, s.Does (.parityReset 0 param) fun u =>
      u.mode = .boot ∧ u.phase = s.ember.startPhase ∧ u.ember.cause = s.ember.cause ||| 0x40 ∧
      u.ember.detail = BitVec.ofNat 32 (0x6000000 + param.toNat) ∧
      u.led = { Ledger.init with openFaults := s.led.openFaults.filter fun f => f.code == 0x070C } ∧ u.flash = s.flash ∧ u.ops = []) ∧
    (∀ (die : Nat) (param : BitVec 16), die = 1 ∨ die = 2 → s.dieGone die = false → (s.die die).resetting = false →
      s.NoneWaits → s.chosenMode = s.mode → (∀ p, isPort p = true → (s.port p).attached = false ∧ s.NoOp (.port p)) →
      s.NoOp .test → s.Does (.parityReset die param) fun u =>
        Tells ((s.onEmber fun e =>
            { e with cause := e.cause ||| 0x40, detail := BitVec.ofNat 32 (0x6000000 + (die * 0x10000 + param.toNat)) }).onDie die
          fun d =>
            { d with resetting := true, blocks := 0, awaited := 0, skewCount := 0, settleCount := 0
                     lostEvents := d.lostEvents + d.heldEvents.length, heldEvents := [], hasEpoch := false, set := none
                     mirror := [], ticks := [] }) u
          [noteOf 0xFFFF true 3 blkReset .resetBlock die (b8 2 ++ b32 (dieBlocks die) ++ b8 6)])

/-- R31, R90, R98: a block that reports ready is open again, and the parameter block with a fresh mirror; a block whose clock is
dead stays closed, and the latched `FAULT` 0x0709 names it; a wider RESET that finds it still dead ends `FAULT`. A die that
reports ready is asked to agree in a round of trigger 3, for which PROPOSE goes to it; while its link is lost it only leaves
the reset.
R15, R115, R116, R117: a tick moves uptime to the next whole millisecond, or, where the LPRC alone counts, to the edge past it;
Hive relays it to the Comb dies, and each copy is compared. A skew within `SPINE.SKEW_MAX` ends a run of larger ones; the
first two of a run are `SKEW_RESYNC`, and the copy is loaded. An excess found while no input is taken waits. In a sleep state
a tick counts toward the time asleep. -/
def Obligations.BlocksTicksAndSkew : Prop :=
  (∀ (s : State) (die block : Nat), s.Open → 1 ≤ die → die ≤ 3 → block < 18 →
     (s.NoOp (.die die) → (s.die die).blocks.getLsbD block = true → (s.die die).clockDead.getLsbD block = false →
       (block ≠ blkTwi → s.Does (.blockReady die (some block)) fun u =>
         u = s.onDie die fun d =>
           { d with blocks := d.blocks &&& ~~~(1#18 <<< block), awaited := d.awaited &&& ~~~(1#18 <<< block)
                    mirror := if block = blkParam then mirrorOf die s.prm.values else d.mirror }) ∧
       (s.faultOpen 0x0709 die = false → s.Does (.clockDeadTimeout die block) fun u =>
         Tells ((s.onDie die fun d =>
             { d with clockDead := d.clockDead ||| (1#18 <<< block), blocks := d.blocks &&& ~~~(1#18 <<< block)
                      awaited := if d.awaited = 0 ∨ d.awaited.getLsbD block = true then 0 else d.awaited }).faulted 0x0709 die
               (byteOf (b8 die) 0)) u
           [noteOf 0xFFFF true 3 blkReset .fault die (b16 0x0709 ++ b8 1 ++ (b8 die ++ b8 block))])) ∧
     ((s.die die).resetting = true → (s.die die).clockDead.getLsbD block = true → ∀ o : PendingOp,
       s.ops.filter (fun x => x.subject == .die die) = [o] → o.quiet = false → s.Does (.clockDeadTimeout die block) fun u =>
         Tells { s with ops := s.ops.filter fun x => x.subject != .die die } u
           [noteOf o.tag true 0 blkCmd .cmdComplete o.number
             (b16 o.op.code ++ b8 o.client.code ++ b8 Status.fault.code ++ leBytes 6 o.count)]) ∧
     (die ≠ 3 → s.NoOp (.die die) → (s.die die).resetting = true → (s.die die).quarantined = false →
       ((s.link (die - 1)).lost = true → s.Does (.blockReady die none) fun u =>
         (u.die die).resetting = false ∧ (u.die die).clockDead = 0 ∧ u.spine.round = none ∧ u.led.next = s.led.next ∧
         u.ports = s.ports ∧ u.chans = s.chans) ∧
       ((s.link (die - 1)).lost = false → s.Does (.blockReady die none) fun u =>
         (∃ r b, u.spine.round = some r ∧ r.trigger = 3 ∧ r.returning = [die] ∧ r.ballots.find? (fun b => b.die == die) = some b ∧
           b.verdict = 0 ∧ b.tries = 0 ∧ u.spine.epoch = s.spine.epoch ∧ (u.die die).resetting = true ∧
           u.led.next = s.led.next ∧ u.ports = s.ports ∧ u.chans = s.chans) ∧
         let set : AgreementSet := ⟨s.cfg.applied, s.prm.values⟩
         let body := Payload.propose s.spine.epoch (s.setDigest s.cfg.applied s.prm.values) s.ident.compat (some set)
         ((.control, body) ∈ (u.link (die - 1)).fromHive.queue ∨ ∃ f ∈ (u.link (die - 1)).fromHive.unacked, f.body = body)))) ∧
  (∀ (s : State) (skew : Word),
     let peak := max s.spine.skewPeak skew.toInt.natAbs
     let excess := decide (s.nat .spineSkewMax 0 < skew.toInt.natAbs)
     let counted := fun (s : State) (die n : Nat) (copy : Int) =>
       (s.onSpine fun sp => { sp with skewPeak := peak }).onDie die fun d => { d with skewCount := n, copy := copy }
     let ms := if s.ember.ms < 2 ^ 48 / 1000 then s.ember.ms + 1 else 0
     let ticked : State := { s with
       free := s.free + 1, ember := { s.ember with ms := ms, sub := 0, frac := 0, lprcTrim := Config.measured s.free } }
     (s.phase = .off ∨ s.phase = .unpowered → s.Acts (.sbTick skew) fun u => u = s) ∧
     (s.phase = .up → s.mode = .sleep ∨ s.mode = .busSuspend → s.Acts (.sbTick skew) fun u =>
       u = { s with ember := { s.ember with ms := ms, sub := 0, frac := 0 }
                    pw := { s.pw with sleepMs := saturate 0xFFFFFFFF (s.pw.sleepMs + 1) } }) ∧
     (s.phase = .up → s.mode = .deepSleep → 0 < s.ember.lprcTrim.toNat → s.ember.frac < 0x10000 → s.ember.ms < 2 ^ 48 / 1000 →
       s.ember.sub ≤ 999 → s.Acts (.sbTick skew) fun u =>
       ∃ sub frac, sub * 0x10000 + frac < s.ember.lprcTrim.toNat ∧
         u = { s with ember := { s.ember with ms := ms, sub := sub, frac := frac }
                      pw := { s.pw with sleepMs := saturate 0xFFFFFFFF (s.pw.sleepMs + 1) } }) ∧
     (s.listening = true →
       (excess = false → s.Acts (.sbTick skew) fun u => u = counted ticked.relayTick 0 0 (ms * 1000 * 1000)) ∧
       (excess = true → (s.die 0).skewCount < 2 → s.Acts (.sbTick skew) fun u =>
         Tells (counted ticked.relayTick 0 ((s.die 0).skewCount + 1) (ms * 1000 * 1000)) u
           [noteOf s.led.tag true 0 blkSpine .skewResync 0 (b8 ((s.die 0).skewCount + 1) ++ b32 skew.toNat)]) ∧
       ∀ d, d = 1 ∨ d = 2 → s.dieGone d = false → (s.die d).resetting = false → (s.link (d - 1)).lost = false →
         (.control, Payload.tick (ms * 1000)) ∈ (ticked.relayTick.link (d - 1)).fromHive.queue ∨
           ∃ f ∈ (ticked.relayTick.link (d - 1)).fromHive.unacked, f.body = .tick (ms * 1000)) ∧
     ∀ die, 1 ≤ die → die ≤ 3 → s.dieGone die = false → (s.die die).resetting = false → s.linkOn (die - 1) = true →
       let taken := s.onDie die fun d => { d with ticks := d.ticks.tail }
       let at' : Nat := match (s.die die).ticks with
         | x :: _ => x.1
         | [] => s.ember.ms * 1000
       let n := (s.die die).skewCount
       s.Acts (.tickFrame die skew true) (fun u => u = taken) ∧
       ((∀ x ∈ (s.die die).ticks.head?, x.2 = true) → (s.die die).ticks ≠ [] → s.Acts (.tickFrame die skew false) fun u => u = taken) ∧
       ((∀ x ∈ (s.die die).ticks.head?, x.2 = false) →
         (excess = false → s.Acts (.tickFrame die skew false) fun u => u = counted taken die 0 (at' * 1000 + skew.toInt)) ∧
         (excess = true → s.listening = true → n < 2 → s.Acts (.tickFrame die skew false) fun u =>
           Tells (counted taken die (n + 1) (at' * 1000)) u
             [noteOf s.led.tag true 0 blkSpine .skewResync die (b8 (n + 1) ++ b32 skew.toNat)]) ∧
         (excess = true → s.listening = false → s.Acts (.tickFrame die skew false) fun u =>
           u = (counted taken die (n + 1) (at' * 1000)).onIo fun io => { io with waiting := io.waiting ++ [.skew die (n + 1) skew] })))

/-- R30, R118, R120 to R123, Table 05-4: answers and digests. An answer that agrees and is the last ends the round with
`AGREE_ROUND`, and the die holds the set; an answer that never comes is a digest mismatch, and the set is proposed again; one
that comes before its die's turn waits for it, and one that comes after its time-out counts for nothing. A die of another
stepping is quarantined and reset. A state digest that matches ends a run of mismatches, and one that does not is
`AGREE_FAIL` with its place in the run; the die's view of its own subjects is adopted with the entry of each change. -/
def Obligations.AgreementAnswers : Prop :=
  (∀ (s : State) (die : Nat), 1 ≤ die → die ≤ 2 →
    (∀ (r : Round) (k : Nat), s.spine.round = some r → r.ballots = [⟨die, k, 0, none⟩] → r.trigger = 3 → r.change = .nothing →
      r.op = none → r.returning = [] → s.chosenMode = s.mode →
      let digest := s.setDigest s.cfg.applied s.prm.values
      let ended := fun mask => noteOf r.tag false 0 blkSpine .agreeRound 0
        (b8 3 ++ b8 mask ++ b32 s.spine.epoch.toNat ++ b32 (digest.toNat % 2 ^ 32))
      (∀ microcode : Byte, s.versionBad 0x43 microcode = false → s.Acts (.answer die 0x43 microcode digest) fun u =>
        ∃ t : State, Tells t u [ended (1 + 2 ^ die)] ∧
          t.spine.round = none ∧ (t.die die).hasEpoch = true ∧ (t.die die).set = some ⟨s.cfg.applied, s.prm.values⟩ ∧
          t.mode = s.mode ∧ t.ports = s.ports ∧ t.chans = s.chans ∧ bankGet t.ident.microcode die 0 = microcode) ∧
      (s.NoneWaits → (∀ p, isPort p = true → (s.port p).attached = false ∧ s.NoOp (.port p)) → s.NoOp .test →
        ∀ (stepping microcode : Byte) (digest' : BitVec 64), s.versionBad stepping microcode = true →
        s.Acts (.answer die stepping microcode digest') fun u =>
          ∃ t : State, Tells t u
              [noteOf r.tag true 0 blkSpine .agreeFail die (b8 0 ++ b8 0 ++ b32 (digest'.toNat % 2 ^ 32)), ended 1,
               noteOf r.tag false 0 blkSpine .dieQuarantine die (b8 0 ++ b8 0),
               noteOf r.tag true 3 blkReset .resetBlock die (b8 2 ++ b32 (dieBlocks die) ++ b8 8)] ∧
            t.spine.round = none ∧ (t.die die).quarantined = true ∧ (t.die die).resetting = true ∧ (t.die die).set = none ∧
            t.ember.cause = s.ember.cause ||| 0x100 ∧ t.mode = s.mode ∧ t.ports = s.ports ∧ t.chans = s.chans)) ∧
    (∀ (r : Round) (b : Ballot), s.spine.round = some r → r.next = some b → b.early = none →
      (b.die = die → b.tries < 3 → (∀ x ∈ r.ballots, x.die = die → x = b) → s.Acts (.answerTimeout die) fun u =>
        ∃ r' t, Tells (s.tagged r.tag) t [noteOf r.tag true 0 blkSpine .agreeFail die (b8 1 ++ b8 b.tries ++ b32 0)] ∧
          u = (t.propose 3 r.change die).onSpine (fun sp => { sp with round := some r' }) ∧
          r'.next = some { b with tries := b.tries + 1, early := none }) ∧
      (∀ x : Ballot, b.die ≠ die → x.die = die → x.verdict = 0 → r.ballots.filter (fun y => y.die == die) = [x] →
        (x.early = none → s.Acts (.answerTimeout die) fun u =>
          u = (s.tagged r.tag).onSpine fun sp => { sp with round := some (r.put { x with early := some .timeout }) }) ∧
        (x.early = some .timeout → ∀ stepping microcode digest, s.Acts (.answer die stepping microcode digest) fun u =>
          u = s.tagged r.tag))) ∧
    (s.Open → s.Hears die blkSpine → ∀ digest : Word,
      let run := s.onDie die fun d => { d with settleCount := d.settleCount + 1 }
      let failed := noteOf 0xFFFF true 0 blkSpine .agreeFail die (b8 3 ++ b8 ((s.die die).settleCount + 1) ++ b32 digest.toNat)
      (s.Does (.stateDigestExchange die digest []) fun u => u = s.onDie die fun d => { d with settleCount := 0 }) ∧
      (s.NoneWaits → (s.die die).settleCount < 7 →
        (s.Does (.stateDigestExchange die digest [.policy]) fun u => Tells run u [failed]) ∧
        ∀ p, combOf p = die → isPort p = true → s.connectedPort p = true →
          (∀ v, v ≤ 4 → (s.port p).bus.speed ≠ some v → s.Does (.stateDigestExchange die digest [.linkSpeed p v]) fun u =>
            Tells (run.onBus p fun b => { b with enabled := true, speed := some v }) u
              [failed, noteOf 0xFFFF true 0 blkUsb2 .portSpeed p (b8 v)]) ∧
          ((s.port p).bus.suspended = true → s.Does (.stateDigestExchange die digest [.linkAwake p]) fun u =>
            Tells (run.onBus p fun b => { b with suspended := false, busSuspended := false, resuming := false, limited := false }) u
              [failed, noteOf 0xFFFF true 0 blkUsb2 .portResume p (b8 0)])))) ∧
  ∀ (s : State) (ch reason : Nat) (digest : Word), s.Open → s.Hears 3 blkSpine → s.NoneWaits → (s.die 3).settleCount < 7 →
    isAux ch = true → reason ≤ 2 →
    let run := s.onDie 3 fun d => { d with settleCount := d.settleCount + 1 }
    let failed := noteOf 0xFFFF true 0 blkSpine .agreeFail 3 (b8 3 ++ b8 ((s.die 3).settleCount + 1) ++ b32 digest.toNat)
    ((s.chan ch).state = .locked → s.Does (.stateDigestExchange 3 digest [.unlocked ch]) fun u =>
      Tells (run.onChan ch fun c => { c with state := .off, lock := none, retries := 0 }) u [failed]) ∧
    ((s.chan ch).state ≠ .locked → s.Unlinked ch → s.Does (.stateDigestExchange 3 digest [.locked ch reason]) fun u =>
      Tells (run.onChan ch (Chan.wentLocked reason)) u [failed, noteOf 0xFFFF false 3 blkChan .chanLocked ch (b8 reason)])

/-! Votes, sleep states, CRANK and the upstream port (chapters 07 and 08). -/

/-- R140 to R147, R152, R156: with no list that runs and no source latched, PSTATE_ENTER enters the target of the votes:
`PSTATE_ENTER` with the target and the vote word, and `MODE_CHANGE` with reason 1; the pad latches engage. A source or a vote
latched at an abort point abandons the entry there, the first point and at it the lowest source before the others, and the
device stays awake in the re-entry holdoff. An alarm that has passed is found at AP0. With no target nothing happens. -/
def Obligations.SleepStatesAreEntered : Prop :=
  ∀ s : State,
    (s.target = none → ∀ x failed, s.Acts (.pstateEnter ⟨x, failed⟩) fun u => u = s) ∧
    ∀ m, s.target = some m → s.Open → s.io.waiting = [] → s.value .trigEnable 0 ≠ 1 → s.trig.work = [] → s.trig.depth = 0 →
      let whole := s.nat .spineMinLanes 0 ≤ 2 ∧ ∀ link, link ≤ 2 → (s.link link).lost = false ∧
        ∀ lane, lane < laneCount link → ((s.link link).lane lane).inService = true
      let enter := noteOf 0xFFFF true 3 blkPower .pstateEnter 0 (b8 m.code ++ b32 s.votes)
      let stays := fun (ap source : Nat) (u : State) =>
        let t := if source = 7 then s.setValue .pstateAlarm 0 0 else s
        Tells { t with
            pw := { s.pw with
              lastEnter := BitVec.ofNat 32 m.code ||| 0x100, wakeLatch := 0, holdoff := true
              lastWake := BitVec.ofNat 32 (source + ap * 0x100)
              abandons := bankSet s.pw.abandons ap (bankGet s.pw.abandons ap 0 + 1) } } u
          [enter, noteOf 0xFFFF true 3 blkPower .pstateAbandon 0 (b8 ap ++ b8 source)]
      let wakes := fun source : Nat => source ≤ 9 ∧ source ≠ 7 ∧ s.wakeEnabled source = true ∧ s.sourceIn m source = true
      (s.alarmDue = true → s.wakeEnabled 7 = true → ∀ failed, s.Acts (.pstateEnter ⟨[], failed⟩) (stays 0 7)) ∧
      (s.alarmDue = false → (∀ failed, s.Acts (.pstateEnter ⟨[], failed⟩) fun u =>
        Tells { s with
            mode := m
            store := { s.store with
              charging := s.store.charging && decide (m ≠ .deepSleep)
              bleeding := if m = .deepSleep then 0 else s.store.bleeding }
            ember := { s.ember with latched := true, resetOutLow := false }
            pw := { s.pw with
              lastEnter := BitVec.ofNat 32 m.code, wakeLatch := 0, left := s.mode, entries := s.pw.entries + 1
              vcoreSel := if m = .deepSleep then 0 else s.pw.vcoreSel } } u
          [enter, noteOf 0xFFFF true 3 blkPower .modeChange 0 (b8 s.mode.code ++ b8 m.code ++ b8 1)]) ∧
        ∀ ap source, ap ≤ 4 → (2 ≤ ap → whole) →
          (wakes source → s.Acts (.pstateEnter ⟨[.source ap source], 0⟩) (stays ap source) ∧
            ∀ ap' source', ap' ≤ 4 → wakes source' → ap < ap' ∨ ap = ap' ∧ source < source' →
              s.Acts (.pstateEnter ⟨[.source ap' source', .source ap source], 0⟩) (stays ap source)) ∧
          ∀ v, v ≤ 19 ∨ v = 21 → s.votes.testBit v = false → s.voteLimit v < m.depth →
            s.Acts (.pstateEnter ⟨[.vote ap v], 0⟩) (stays ap 0))

/-- R26, R108, R117, R145 to R149, R156: an enabled source that ends the sleep state wakes the device: `MODE_CHANGE` with reason 2
and `WAKE` with the source and the state left; the copies of the Comb dies are loaded, and no lane that was in
service and trains again has an entry. The pads stay latched after DEEP SLEEP alone. The alarm latches source 7 where it is
enabled, and the holdoff ends when its time has passed. -/
def Obligations.WakeFromSleep : Prop :=
  ∀ s : State,
    s.Acts .reentryHoldoffExpiry (fun u => u = s.onPw fun w => { w with holdoff := false }) ∧
    (s.mode.asleep = true → s.alarmDue = true → s.Acts .pstateAlarm fun u =>
      u = if s.wakeEnabled 7 = true then s.onPw fun w => { w with wakeLatch := w.wakeLatch ||| (1#10 <<< 7) } else s) ∧
    (s.mode.asleep = true → s.pw.left = .run ∨ s.pw.left = .standalone → s.pw.wakeLatch = 0 → s.safeCondition = false →
      s.pw.crank = false → ∀ source, 1 ≤ source → source ≤ 9 → source ≠ 7 → s.wakeEnabled source = true →
      s.wakesFrom source = true → (∀ d, 1 ≤ d → d ≤ 3 → (s.die d).lostEvents = 0) → s.nat .spineMinLanes 0 ≤ 2 →
      (∀ link, link ≤ 2 → (s.link link).lost = false ∧
        ∀ lane, lane < laneCount link → ((s.link link).lane lane).inService = true) →
      let load := fun d : Die => { d with skewCount := 0, copy := s.uptime * 1000 }
      s.Acts (.wake source 0) fun u =>
        Tells { s with
            mode := s.pw.left, ember := { s.ember with latched := s.ember.latched && s.mode == .deepSleep }
            spine := ((s.onDie 1 load).onDie 2 load).spine
            pw := { s.pw with
              wakes := s.pw.wakes + 1, lastWake := BitVec.ofNat 32 (source + 0xFF00), wakeLatch := 0, holdoff := true
              vcoreSel := s.pw.level, pllStarts := s.pw.pllStarts + 1, heldEvents := heldInputs s.io.waiting } } u
          [noteOf s.led.tag true 3 blkPower .modeChange 0 (b8 s.mode.code ++ b8 s.pw.left.code ++ b8 2),
           noteOf s.led.tag true 3 blkPower .wake 0 (b8 source ++ b8 s.mode.code)])

/-- R25, R159 to R161, Table 01-7: CRANK begins and ends. With no port to shed the mode changes with reason 1; each deep shed turns
the ports of class 1 off that have power, here one, and keeps it on the list of shed ports. -/
def Obligations.CrankShedsAndRestores : Prop :=
  ∀ s : State, s.Open → s.NoneWaits → s.safeCondition = false →
    ((∀ ch, (s.chan ch).state.active = false) → (∀ p, isPort p = true → (s.port p).bus.cyclePower = false) →
      (s.mode = .run ∨ s.mode = .standalone → s.pw.crank = false → s.Does .crankEnter fun u =>
        Tells { s with
            mode := .crank, store := { s.store with charging := false }
            pw := { s.pw with crank := true, cranks := s.pw.cranks + 1 } } u
          [noteOf 0xFFFF true 3 blkPower .modeChange 0 (b8 s.mode.code ++ b8 Mode.crank.code ++ b8 1)]) ∧
      (s.mode = .crank → s.pw.crank = true → s.pw.shedOrder = [] → s.pw.service = false → s.Does .crankExit fun u =>
        let m : Mode := if s.hub.upVbus = true then .run else .standalone
        Tells { s with mode := m, pw := { s.pw with crank := false } } u
          [noteOf 0xFFFF true 3 blkPower .modeChange 0 (b8 Mode.crank.code ++ b8 m.code ++ b8 1)])) ∧
    (∀ p, isPort p = true → s.Plain p → s.mode = .crank → s.classOf p = 1 →
      (s.chan p).state.active = true → 0 < (s.port p).grant →
      (∀ q, isPort q = true → q ≠ p → s.classOf q = 1 → (s.chan q).state.active = false ∧ (s.port q).bus.cyclePower = false) →
      let off := ((s.onPw fun w => { w with shedOrder := p :: w.shedOrder }).onChan p
          (Chan.wentOff (isIntegrated p))).onPort p fun q =>
          { q with vconn := false, grant := 0, claim := 0, shed := true, waiting := false
                   bus := { q.bus.unpowered with cyclePower := false }, pd := q.pd.endContract }
      s.Does .crankDeepShed fun u =>
        Tells off u
          [noteOf 0xFFFF false 3 blkChan .chanOff p (b8 3),
           noteOf 0xFFFF false 0 blkAllot .allotChange p (b8 2 ++ b16 (s.port p).grant ++ b16 0 ++ b16 off.remaining ++ b8 0)])

/-- R25, R164, R165: VBUS upstream chooses between RUN and STANDALONE; its loss disconnects the link first.
R162 to R167, R181, R182: the upstream link. Its states are `UP_LINK`, those of power management only where
`HUB.LINK_PM_LOG` asks for them; SuperSpeed training is followed by `UP_LANES`; lane recoveries end in operation on one lane,
until a warm reset trains the link at full width again; an L1 request is accepted when nothing is under way and no port is busy at
USB 2.0; the hub's suspend, by command or with U3, suspends the ports that are enabled. The hubs answer the host's requests. -/
def Obligations.UpstreamPort : Prop :=
  (∀ s : State, s.Open → s.safeCondition = false → s.pw.crank = false → s.pw.service = false →
     (s.mode = .standalone → s.hub.upVbus = false → (s.plugPin = 1 ∨ s.plugPin = 2) ∧ s.Does .upstreamVbusArrival fun u =>
       Tells { s with mode := .run, free := s.free + 1, hub := { s.hub with upVbus := true, upPin := s.plugPin } } u
         [noteOf 0xFFFF true 3 blkPower .modeChange 0 (b8 Mode.standalone.code ++ b8 Mode.run.code ++ b8 1)]) ∧
     (s.mode = .run → s.hub.upVbus = true → s.hub.link = 0 → s.Does .upstreamVbusLoss fun u =>
       Tells { s with mode := .standalone, hub := { s.hub with upVbus := false, upPin := 0 } } u
         [noteOf 0xFFFF true 3 blkPower .modeChange 0 (b8 Mode.run.code ++ b8 Mode.standalone.code ++ b8 1)]) ∧
     (s.mode = .run → s.hub.upVbus = true → s.hub.link ≠ 0 → s.Does .upstreamVbusLoss fun u =>
       ∃ t, Tells t u
           [noteOf 0xFFFF true 0 blkUp .upLink 0 (b8 0 ++ b8 0),
            noteOf 0xFFFF true 3 blkPower .modeChange 0 (b8 Mode.run.code ++ b8 Mode.standalone.code ++ b8 1)] ∧
         t.mode = .standalone ∧ t.hub.link = 0 ∧ t.hub.upVbus = false ∧ t.hub.configuredM = false ∧ t.chans = s.chans ∧
         ∀ p, isPort p = true → t.port p = { s.port p with bus := (s.port p).bus.dropped })) ∧
  (∀ s : State, s.Open →
     (s.hub.upVbus = true → s.mode.presents = true → s.hub.link = 0 →
       s.hub.suspended = false → ∀ lanes, lanes ≤ 2 →
       (∀ speed, speed = 1 ∨ speed = 2 → s.hub.speed ≠ 2 → s.Does (.upLink 1 speed ⟨lanes, false⟩) fun u =>
         Tells (s.onHub fun h => { h with link := 1, speed := 2, lanes := 0, fullSpeed := speed == 1 }) u
           [noteOf 0xFFFF true 0 blkUp .upLink 0 (b8 1 ++ b8 2)]) ∧
       (∀ speed, 3 ≤ speed → speed ≤ upSpeedMax (s.nat .hubUpMaxSpeed 0) → s.hub.x1 = false →
         let used := max 1 (min lanes (upLanesMax (s.nat .hubUpMaxSpeed 0)))
         s.hub.lastLanes ≠ some used → s.Does (.upLink 1 speed ⟨lanes, false⟩) fun u =>
           Tells (s.onHub fun h =>
               { h with link := 1, speed := speed, lanes := used, lastLanes := some used, fullSpeed := false }) u
             [noteOf 0xFFFF true 0 blkUp .upLink 0 (b8 1 ++ b8 speed),
              noteOf 0xFFFF true 0 blkUp .upLanes 0 (b8 used ++ b8 s.hub.retries)])) ∧
     (s.hub.upVbus = true → s.mode.presents = true → s.hub.link = 1 →
       (s.value .hubLinkPmLog 0 ≠ 1 → s.hub.speed = 2 → s.Does (.upLink 2 2 ⟨0, false⟩) fun u =>
         u = s.onHub fun h => { h with link := 2, lanes := 0, fullSpeed := false }) ∧
       (3 ≤ s.hub.speed → s.hub.speed ≤ upSpeedMax (s.nat .hubUpMaxSpeed 0) → s.hub.suspended = false → ∀ lanes, lanes ≤ 2 →
         let used := max 1 (min lanes (upLanesMax (s.nat .hubUpMaxSpeed 0)))
         s.hub.lastLanes ≠ some used → s.Does (.upLink 1 s.hub.speed ⟨lanes, true⟩) fun u =>
           Tells (s.onHub fun h =>
               { h with x1 := false, retries := 0, lanes := used, lastLanes := some used, fullSpeed := false }) u
             [noteOf 0xFFFF true 0 blkUp .upLanes 0 (b8 used ++ b8 0)]) ∧
       (s.hub.speed = 2 → s.hub.suspended = false → (∀ p, isPort p = true → (s.port p).bus.enabled = false) →
         s.Does (.upLink 4 2 ⟨0, false⟩) fun u =>
           Tells (s.onHub fun h => { h with link := 4, lanes := 0, fullSpeed := false, suspended := true }) u
             [noteOf 0xFFFF true 0 blkUp .upLink 0 (b8 4 ++ b8 2)])) ∧
     (∀ lane, lane ≤ 1 → 3 ≤ s.hub.speed → s.hub.link ≠ 4 → s.hub.lanes = 2 →
       (s.hub.retries + 1 < s.nat .hubUpLaneRetries 0 → s.Does (.upLaneRecovery lane) fun u =>
         u = s.onHub fun h => { h with retries := h.retries + 1 }) ∧
       (s.nat .hubUpLaneRetries 0 ≤ s.hub.retries + 1 → s.Does (.upLaneRecovery lane) fun u =>
         Tells (s.onHub fun h => { h with retries := h.retries + 1, x1 := true, lanes := 1, lastLanes := some 1 }) u
           [noteOf 0xFFFF true 0 blkUp .upLanes 0 (b8 1 ++ b8 (s.hub.retries + 1))])) ∧
     (s.hub.link ≠ 0 → s.hub.suspended = false → s.Acts .lpmL1Request fun u => u = s.answering
       (if (∀ p ∈ allPorts, (s.port p).bus.enabled = true → (∀ v ∈ (s.port p).bus.speed, v < 3) →
             (s.port p).bus.suspended = true ∨ (s.port p).bus.l1 = true) ∧ s.io.part0 = [] ∧ s.io.sent0 = 0
        then .ack else .nyet)) ∧
     (s.hub.link = 0 ∨ s.hub.suspended = true → s.Acts .lpmL1Request fun u => u = s.answering .timeout) ∧
     (∀ p, isPort p = true → s.hub.link ≠ 0 → s.hub.suspended = false → (s.port p).bus.enabled = true →
       (s.port p).bus.suspended = false → (∀ q, isPort q = true → q ≠ p → (s.port q).bus.enabled = false) →
       s.Does .hubSuspend fun u =>
         Tells ((s.onHub fun h => { h with suspended := true }).onBus p fun b =>
             { b with suspended := true, busSuspended := true, l1 := false, currentRecorded := false, wakeRecorded := false }) u
           [noteOf 0xFFFF true 0 blkUsb2 .portSuspend p (b8 3)]) ∧
     (s.hub.link ≠ 0 → s.hub.suspended = false →
       (∀ v : Byte, s.Does (.hubControlRequest false (.setConfiguration v)) fun u =>
         u = (s.onHub fun h => { h with configured2 := v != 0 }).answering .ack) ∧
       (∀ v : Byte, s.Does (.hubControlRequest true (.setConfiguration v)) fun u =>
         u = (s.onHub fun h => { h with configured3 := v != 0 }).answering .ack) ∧
       (s.Does (.hubControlRequest false .setRemoteWake) fun u =>
         u = (s.onHub fun h => { h with wake2 := true }).answering .ack) ∧
       (s.Does (.hubControlRequest true .clearRemoteWake) fun u =>
         u = (s.onHub fun h => { h with wake3 := false }).answering .ack) ∧
       (∀ (ss : Bool) (length : BitVec 16), s.Does (.hubControlRequest ss (.getHubDescriptor length)) fun u =>
         u = s.answering (.data ((s.hubDescriptor ss).take length.toNat))) ∧
       (∀ (ss : Bool) (length : BitVec 16), s.Does (.hubControlRequest ss (.getDescriptor 15 0 length)) fun u =>
         u = s.answering (.data (s.hubBos.take length.toNat)) ∧
         (s.hubBos.drop 16).take 16 = leBytes 8 s.ident.serial.toNat ++ [0x4E, 0x58, 0x31, 0x36, 0x36, 0x34, 0x48, 0x42]) ∧
       (∀ p, isPort p = true → s.Does (.hubControlRequest false (.portL1 p true)) fun u =>
         u = (s.onBus p fun b => { b with l1 := b.enabled && !b.suspended }).answering .ack)))

/-! Downstream ports on USB (R168 to R184). -/

/-- R168, R171, R181, R182: what the host asks of a downstream port: its power, reported
or followed, a reset, a selective suspend and a resume. Resume signalling of a suspended device is
propagated with `PORT_RESUME` where remote wake is enabled, and else is `VIOLATION` 0x0105 once per suspend. -/
def Obligations.HostPortRequests : Prop :=
  ∀ (s : State) (p : Nat), s.Open → isPort p = true → s.NoOp (.port p) →
    (s.value .hubPortPowerMode 0 ≠ 1 →
      ((s.port p).bus.portPower = false → s.Does (.hostPortPower p true) fun u =>
        Tells (s.onBus p fun b => { b with portPower := true }) u [noteOf 0xFFFF true 0 blkUsb2 .portEnabled p (b8 1 ++ b16 0)]) ∧
      ((s.port p).bus.portPower = true → s.Does (.hostPortPower p false) fun u =>
        Tells (s.onBus p fun b => { b.dropped with portPower := false }) u
          [noteOf 0xFFFF true 0 blkUsb2 .portDisabled p (b8 1 ++ b16 0)])) ∧
    (s.value .hubPortPowerMode 0 = 1 → (s.port p).bus.portPower = true → s.Plain p → s.NoneWaits →
      (s.chan p).state.conducts = true → 0 < (s.port p).grant →
      let off := (s.onChan p fun c => { c.wentOff (isIntegrated p) with retries := 0 }).onPort p fun q =>
        { q with vconn := false, grant := 0, claim := 0, waiting := false, pd := q.pd.endContract
                 bus := { q.bus.dropped.unpowered with portPower := false, awaitsPower := true } }
      s.Does (.hostPortPower p false) fun u =>
        Tells off u
          [noteOf 0xFFFF true 0 blkUsb2 .portDisabled p (b8 1 ++ b16 0), noteOf 0xFFFF false 3 blkChan .chanOff p (b8 1),
           noteOf 0xFFFF false 0 blkAllot .allotChange p
             (b8 2 ++ b16 (s.port p).grant ++ b16 0 ++ b16 off.remaining ++ b8 0)]) ∧
    (s.connectedPort p = true → (s.port p).bus.reset = .none → s.Does (.hostPortReset p) fun u =>
      u = s.onBus p fun b => { b with reset := .host }) ∧
    ((s.port p).bus.enabled = true → (s.port p).bus.suspended = false → s.shown p = true →
      s.Does (.hostSelectiveSuspend p) fun u =>
        Tells (s.onBus p fun b =>
            { b with suspended := true, busSuspended := false, l1 := false, currentRecorded := false, wakeRecorded := false }) u
          [noteOf 0xFFFF true 0 blkUsb2 .portSuspend p (b8 0)]) ∧
    ((s.port p).bus.suspended = true →
      let resumed := s.onBus p fun b => { b with suspended := false, busSuspended := false, resuming := true, limited := false }
      (s.Does (.hostPortResume p) fun u => Tells resumed u [noteOf 0xFFFF true 0 blkUsb2 .portResume p (b8 0)]) ∧
      (s.Hears (combOf p) blkUsb2 →
        let armed := match (s.port p).bus.speed with
          | some v => if 3 ≤ v then s.hub.wake3 else s.hub.wake2
          | none => s.hub.wake2
        (armed = true → s.Does (.downstreamRemoteWake p) fun u =>
          Tells resumed u [noteOf 0xFFFF true 0 blkUsb2 .portResume p (b8 1)]) ∧
        (armed = false → (s.port p).bus.wakeRecorded = false → s.Does (.downstreamRemoteWake p) fun u =>
          Tells (s.onBus p fun b => { b with lastViolation := 0x0105, violations := b.violations + 1, wakeRecorded := true }) u
            [noteOf 0xFFFF true 0 blkUsb2 .violation p (b16 0x0105)]) ∧
        (armed = false → (s.port p).bus.wakeRecorded = true → s.Does (.downstreamRemoteWake p) fun u => u = s)))

/-- R171 to R173, R184: how resets, suspends, resumes and connections of a port end, and the SuperSpeed link of a port that has
one. -/
def Obligations.PortConnectionEvents : Prop :=
  ∀ (s : State) (p : Nat), s.Open → isPort p = true → s.Hears (combOf p) blkUsb2 → s.Hears (combOf p) blkUsb3 →
    s.NoOp (.port p) →
    ((s.port p).bus.reset = .host →
      (∀ v, s.Does (.portResetComplete p (some v)) fun u =>
        Tells (s.onBus p fun b =>
            { b with reset := .none, cReset := true, enabled := true, suspended := false, busSuspended := false
                     speed := some v, resets := b.resets + 1 }) u
          [noteOf 0xFFFF true 0 blkUsb2 .portSpeed p (b8 v)]) ∧
      (s.Does (.portResetComplete p none) fun u => u = s.onBus p fun b => { b with reset := .none, cReset := true })) ∧
    ((s.port p).bus.resuming = true → s.Does (.portResumeComplete p) fun u =>
      u = s.onBus p fun b => { b with resuming := false, cSuspend := true }) ∧
    ((s.port p).bus.suspending = true → s.Does (.portSuspendComplete p) fun u =>
      u = s.onBus p fun b => { b with suspending := false }) ∧
    ((s.port p).attached = true → (s.Does (.downstreamConnectChange p true false) fun u =>
      u = s.onBus p fun b => { b with fsPresent := true })) ∧
    ((s.port p).bus.ssPresent = false → s.Does (.downstreamConnectChange p false false) fun u =>
      u = s.onBus p fun b => { b.dropped with fsPresent := false }) ∧
    (s.ssPort p = true → (s.port p).attached = true → (s.port p).bus.ssDisabled = false →
      (∀ v, v = 3 ∨ v = 4 → s.Does (.ssLinkU0 p v) fun u =>
        Tells (s.onBus p fun b => { b with ssPresent := true, enabled := true, speed := some v }) u
          [noteOf 0xFFFF true (combOf p) blkUsb3 .portSpeed p (b8 v)]) ∧
      (s.Does (.ssTrainingFail p) fun u =>
        Tells (s.onBus p fun b =>
            { b with lastViolation := 0x0103, violations := b.violations + 1, ssDisabled := true, ssPresent := false }) u
          [noteOf 0xFFFF true (combOf p) blkUsb3 .violation p (b16 0x0103)]))

/-- R170, R183, R184: misbehaviour on USB. Babble holds the port, beside a command that holds it already; chatter, a failed training and SS.Inactive are recorded; a suspended
port that draws more than its limit is recorded with the action of `PORT.SUSP_ACTION`, and CYCLE turns its channel off and
holds it until the cycle ends. The check runs in RUN, and in no other mode that takes inputs. -/
def Obligations.UsbMisbehaviour : Prop :=
  ∀ (s : State) (p : Nat), s.Open → isPort p = true → s.Hears (combOf p) blkUsb2 → s.Hears (combOf p) blkUsb3 →
    s.Hears 3 blkChan →
    let seen := fun (code : Nat) (b : Bus) => { b with lastViolation := code, violations := b.violations + 1 : Bus }
    (∀ speed, (s.port p).bus.enabled = true → s.Does (.babble p speed) fun u =>
      Tells (s.onBus p fun b =>
          { (seen 0x0101 b).dropped with
            cEnable := true, held := if b.held = .command ∨ b.held = .both then .both else .violation }) u
        [noteOf 0xFFFF true 0 blkUsb2 .violation p (b16 0x0101 ++ b8 speed),
         noteOf 0xFFFF false 0 blkUsb2 .portDisabled p (b8 2 ++ b16 0x0101)]) ∧
    (∀ changes, (s.port p).bus.chatter = false → s.nat .hubChatterLimit 0 < changes → s.Does (.connectChatter p changes) fun u =>
      Tells (s.onBus p fun b => { seen 0x0102 b with chatter := true }) u
        [noteOf 0xFFFF true (combOf p) blkUsb2 .violation p (b16 0x0102 ++ b8 (min 0xFF changes))]) ∧
    ((s.port p).bus.ssPresent = true → s.Does (.ssInactive p) fun u =>
      Tells (s.onBus p fun b => { seen 0x0106 b with cLinkState := true }) u
        [noteOf 0xFFFF true (combOf p) blkUsb3 .violation p (b16 0x0106)]) ∧
    (s.mode ≠ .run → ∀ average, exec (.suspendCurrentCheck p average) s = .next s) ∧
    (∀ average : BitVec 16, s.mode = .run → (s.port p).bus.suspended = true → (s.port p).bus.currentRecorded = false →
      (s.port p).explicit = false → (s.port p).rp = 0 → (s.chan p).state.conducts = true →
      s.nat .portSuspIlim p < average.toNat * 100 →
      let noted := fun (action : Nat) => noteOf 0xFFFF true 0 blkUsb2 .violation p (b16 0x0104 ++ (b16 average.toNat ++ b8 action))
      (s.nat .portSuspAction p = 1 → s.Does (.suspendCurrentCheck p average) fun u =>
        Tells (s.onBus p fun b => { seen 0x0104 b with currentRecorded := true, limited := true }) u [noted 1]) ∧
      (s.nat .portSuspAction p = 2 → (s.port p).bus.cycleUsed = false → s.Plain p → s.Does (.suspendCurrentCheck p average) fun u =>
        Tells ((s.onChan p fun c => { c.wentOff (isIntegrated p) with retries := 0 }).onPort p fun q =>
            { q with vconn := false, pd := q.pd.endContract
                     bus := { (seen 0x0104 q.bus).dropped.unpowered with
                       currentRecorded := true, cycling := true, cyclePower := true, cycleUsed := true
                       held := if q.bus.held = .command ∨ q.bus.held = .both then .both else .violation } }) u
          [noted 2, noteOf 0xFFFF false 0 blkUsb2 .portDisabled p (b8 2 ++ b16 0x0104),
           noteOf 0xFFFF false 3 blkChan .chanOff p (b8 1)])) ∧
    ((s.port p).bus.cycling = true → (s.port p).bus.cyclePower = false → (s.port p).bus.held = .violation →
      s.Does (.cycleOffExpiry p) fun u =>
        Tells (s.onBus p fun b => { b with cycling := false, cyclePower := false, held := .none }) u
          [noteOf 0xFFFF true 0 blkUsb2 .portEnabled p (b8 1 ++ b16 0)])

/-- R106, R174 to R176: the Transaction Translator of a port. What its bus has served since the last request is a free value
(log 1); but for its own buffers, the answer and the frame to its Comb die nothing changes. A start-split that does not fit
is dropped without a handshake, and the complete-split of that transaction, and of no other, is answered ERR; while ASYNC
has no credit the hub answers NAK. -/
def Obligations.TransactionTranslators : Prop :=
  ∀ (s : State) (p : Nat), isPort p = true →
    let only := fun (sp : Spine) (u : State) =>
      u = { s with free := u.free, tts := u.tts, spine := sp, io := { s.io with answer := u.io.answer } } ∧
        ∀ q, isPort q = true → q ≠ p → u.tt q = s.tt q
    let sent := fun (k : SplitKind) (bytes : Nat) => (s.sendFrame (combOf p) (splitClass k) (.usb p bytes)).spine
    let ids := fun t : Tt => t.buffers.map (·.1)
    (s.linkOpen = true →
      (∀ k, k ≠ .asynchronous → s.degraded (linkOfDie (combOf p)) = false →
        (∀ bytes id, (s.tt p).ssFill + bytes ≤ 4096 → s.Acts (.ttStartSplit p ⟨k, id⟩ bytes) fun u =>
          only (sent k bytes) u ∧ u.io.answer = .nothing ∧ (u.tt p).dropped = (s.tt p).dropped ∧ ids (u.tt p) = ids (s.tt p) ∧
            ((u.tt p).ssFill = (s.tt p).ssFill + bytes ∨ (u.tt p).ssFill = bytes)) ∧
        (∀ bytes id, 4096 < bytes → s.Acts (.ttStartSplit p ⟨k, id⟩ bytes) fun u =>
          only s.spine u ∧ u.io.answer = .nothing ∧ (u.tt p).dropped = (s.tt p).dropped ++ [id] ∧ ids (u.tt p) = ids (s.tt p) ∧
            (u.tt p).droppedCount = saturate 0xFFFFFFFF ((s.tt p).droppedCount + 1)) ∧
        (∀ id, id ∉ (s.tt p).dropped → (s.tt p).ssFill = 0 → s.Acts (.ttCompleteSplit p ⟨k, id⟩) fun u =>
          only s.spine u ∧ u.io.answer = (if (s.tt p).csFill = 0 then .nyet else .ack) ∧ (u.tt p).csFill = 0 ∧
            (u.tt p).dropped = (s.tt p).dropped)) ∧
      (∀ k id, k ≠ .asynchronous → id ∈ (s.tt p).dropped → s.Acts (.ttCompleteSplit p ⟨k, id⟩) fun u =>
        only s.spine u ∧ u.io.answer = .err ∧ (u.tt p).dropped = (s.tt p).dropped.erase id) ∧
      (s.asyncHeld (combOf p) = false →
        (∀ bytes id, (s.tt p).buffers.length < 2 → s.Acts (.ttStartSplit p ⟨.asynchronous, id⟩ bytes) fun u =>
          only (sent .asynchronous bytes) u ∧ u.io.answer = .ack ∧ ids (u.tt p) = ids (s.tt p) ++ [id]) ∧
        (∀ bytes id, 2 ≤ (s.tt p).buffers.length → s.Acts (.ttStartSplit p ⟨.asynchronous, id⟩ bytes) fun u =>
          only s.spine u ∧ u.io.answer = .nak ∧ ids (u.tt p) = ids (s.tt p)) ∧
        (∀ id, (id, true) ∈ (s.tt p).buffers → s.Acts (.ttCompleteSplit p ⟨.asynchronous, id⟩) fun u =>
          only s.spine u ∧ u.io.answer = .ack ∧ (u.tt p).buffers.length + 1 = (s.tt p).buffers.length) ∧
        (∀ id, id ∉ ids (s.tt p) → s.Acts (.ttCompleteSplit p ⟨.asynchronous, id⟩) fun u =>
          only s.spine u ∧ u.io.answer = .nyet ∧ ids (u.tt p) = ids (s.tt p))) ∧
      (s.asyncHeld (combOf p) = true →
        (∀ bytes id, s.Acts (.ttStartSplit p ⟨.asynchronous, id⟩ bytes) fun u =>
          only s.spine u ∧ u.io.answer = .nak ∧ ids (u.tt p) = ids (s.tt p)) ∧
        (∀ id, s.Acts (.ttCompleteSplit p ⟨.asynchronous, id⟩) fun u =>
          only s.spine u ∧ u.io.answer = .nak ∧ ids (u.tt p) = ids (s.tt p))) ∧
      s.Acts (.clearTtBuffer p) (fun u =>
        u = (s.onTt p fun t => { t with buffers := t.buffers.drop 1, resets := t.resets + 1 }).answering .ack) ∧
      s.Acts (.resetTt p) (fun u =>
        u = (s.onTt p fun t =>
          { t with ssFill := 0, csFill := 0, buffers := [], dropped := [], resets := t.resets + 1 }).answering .ack) ∧
      s.Acts (.getTtState p) (fun u => u = s.answering .stall) ∧
      s.Acts (.stopTt p) (fun u => u = s.answering .stall)) ∧
    ((s.tt p).ssFill = 0 → (s.tt p).csFill ≠ 0 → s.Acts (.ttResultExpiry p) fun u =>
      only s.spine u ∧ (u.tt p).csFill = 0 ∧ ids (u.tt p) = ids (s.tt p) ∧
        (u.tt p).expired = saturate 0xFFFFFFFF ((s.tt p).expired + 1))

/-! Type-C and Power Delivery (chapter 09). -/

/-- R131, R185, R186, R192, R230: an attach is `PORT_ATTACH`. On a port of legs that may be powered and whose ceiling is still
free, `ALLOT_CHANGE` grants it and `CHAN_ON` with cause 1 turns its channel on; here no cable is asked and no
provisional set goes out. In DEFAULTS, under SB_OFF, where a lock or a refusal bars the port and where RAIL_5V is missing, the
port stays off, and in the last case it waits; a clear PORT_POWER in the FOLLOW mode leaves it to the host. -/
def Obligations.AttachPowersThePort : Prop :=
  ∀ (s : State) (p pin : Nat) (ra : Bool), s.Open → isPort p = true → pin = 1 ∨ pin = 2 → s.Hears (combOf p) blkPd →
    (s.port p).attached = false → s.value .portEnablePolicy p ≠ 0 →
    let attach := noteOf 0xFFFF true (combOf p) blkPd .portAttach p
      (b8 pin ++ b8 ra.toNat ++ b8 (if s.cfg.state = .defaults then 0 else s.nat .pdRpLevel p))
    let fresh := s.onPort p fun q => q.fresh pin ra s.led.next
    (s.cfg.state = .defaults ∨ s.sbOff = true → s.Does (.portAttach p pin ra) fun u => Tells fresh u [attach]) ∧
    (s.cfg.state ≠ .defaults → s.sbOff = false →
      ((s.chan p).state = .locked ∨ (s.chan p).refused = true → s.Does (.portAttach p pin ra) fun u => Tells fresh u [attach]) ∧
      ((s.chan p).state ≠ .locked → (s.chan p).refused = false → s.value .hubPortPowerMode 0 = 1 →
        (s.port p).bus.portPower = false → s.Does (.portAttach p pin ra) fun u =>
          Tells (fresh.onBus p fun b => { b with awaitsPower := true }) u [attach])) ∧
    (s.cfg.state ≠ .defaults → s.barred p = false → s.sbOff = false →
      (s.railUp 0 = false → s.Does (.portAttach p pin ra) fun u =>
        Tells (fresh.onPort p fun q => { q with rp := s.nat .pdRpLevel p, waiting := true }) u [attach]) ∧
      (s.railUp 0 = true → p ≤ 12 → s.value .pdProvisional p ≠ 1 → (s.port p).grant = 0 → (s.port p).claim = 0 →
        45 ≤ s.ceiling p → s.ceiling p ≤ s.remaining →
        let a := s.ceiling p
        s.Does (.portAttach p pin ra) fun u =>
          Tells ((fresh.onPort p fun q =>
              { q with rp := s.rpFor p a, grant := a, vconn := ra && (s.value .typecVconnEn 0).getLsbD (p - 1)
                       bus := { q.bus with overCurrent := false, awaitsPower := false }
                       pd := { q.pd with reserved := a } }).onChan p fun c => c.wentOn true (s.led.next + 2)) u
            [attach, noteOf 0xFFFF false 0 blkAllot .allotChange p (b8 0 ++ b16 0 ++ b16 a ++ b16 (s.remaining - a) ++ b8 0),
             noteOf 0xFFFF false 3 blkChan .chanOn p (b8 1 ++ b8 0)]))

/-- R188, R225, R330: a detach, while Rp is presented, is `PORT_DETACH`, then `CHAN_OFF` with cause 4 and the release of the
grant; what the attach began is forgotten, but for the hold of a command (R170). -/
def Obligations.DetachReleasesThePort : Prop :=
  ∀ (s : State) (p : Nat), s.Open → isPort p = true → s.Hears (combOf p) blkPd → s.NoneWaits → s.Plain p →
    (s.port p).attached = true → (s.port p).rpRemoved = false → (s.chan p).state.active = true → 0 < (s.port p).grant →
    s.Does (.portDetach p) fun u =>
      ∃ t, Tells t u
          [noteOf 0xFFFF true (combOf p) blkPd .portDetach p (b8 0), noteOf 0xFFFF false 3 blkChan .chanOff p (b8 4),
           noteOf 0xFFFF false 0 blkAllot .allotChange p (b8 2 ++ b16 (s.port p).grant ++ b16 0 ++ b16 t.remaining ++ b8 0)] ∧
        (t.port p).attached = false ∧ (t.port p).grant = 0 ∧ (t.port p).vconn = false ∧ (t.port p).pd = Pd.init ∧
        (t.port p).bus.fsPresent = false ∧ (t.port p).bus.enabled = false ∧
        (t.port p).bus.held = (if (s.port p).bus.held = .command ∨ (s.port p).bus.held = .both then .command else .none) ∧
        t.chan p = { (s.chan p).wentOff (isIntegrated p) with retries := 0, refused := false } ∧ t.mode = s.mode ∧ t.rails = s.rails ∧
        ∀ q, isPort q = true → q ≠ p → t.port q = s.port q ∧ t.chan q = s.chan q

/-- R187, Table 09-1: VCONN and the cable.
R208 to R212, R270: the SBU switches of a mode with a tether: they close when the segment is idle, and open again before
Exit Mode is sent; an overvoltage opens them at once, with `VIOLATION` 0x0206, and until detach they do not close again. Exit
Mode follows, after a VDM exchange that runs. -/
def Obligations.VconnCableAndSbu : Prop :=
  (∀ (s : State) (p : Nat), s.Open → isPort p = true → s.Hears (combOf p) blkPd →
     (∀ ma : BitVec 16, (s.port p).vconn = true → (s.port p).pd.cable = false → s.Does (.vconnOverload p ma) fun u =>
       let n := (s.inWindow p s.ember.ms).length
       Tells (s.onPort p fun q =>
           { q with vconn := false, vconnFault := true, cable5A := false, pd := { q.pd with violCount := n }
                    bus := { q.bus with lastViolation := 0x0205, violations := q.bus.violations + 1 } }) u
         [noteOf 0xFFFF true (combOf p) blkPd .violation p (b16 0x0205 ++ (b8 0xFF ++ b8 0 ++ b8 n ++ b8 0 ++ b16 ma.toNat))]) ∧
     ((s.port p).vconn = true → (s.port p).pd.phase = .cableWait → s.Does (.cableDiscovery p) fun u =>
       u = (s.onPd p fun d => { d with phase := .cableAsked }).answering (.pd p 10))) ∧
  (∀ (s : State) (p g : Nat) (m : AltMode), s.Open → isPort p = true → g ≤ 3 → s.Hears (combOf p) blkPd →
     (s.port p).pd.mode = some m → m.seg = some g → (s.seg g).running = none →
     let d := (s.port p).pd
     (d.sbuClosing = true → d.sbuFault = false → s.Does (.sbuSwitchClose p) fun u =>
       u = s.onPd p fun d => { d with sbuClosing := false, sbuClosed := true }) ∧
     (d.sbuFault = true → s.Does (.sbuSwitchClose p) fun u => u = s) ∧
     (d.wait = .exitOpen → s.Does (.sbuSwitchOpen p) fun u =>
       u = ((s.onSeg g fun x => { x with tether := 0 }).onPd p fun d =>
         { d with sbuClosed := false, sbuClosing := false, wait := .exit }).answering (.pd p 10)) ∧
     (∀ mv : BitVec 16, d.sbuClosed = true →
       let n := (s.inWindow p s.ember.ms).length
       let opened := fun f : Pd → Pd => (s.onPort p fun q =>
           { q with bus := { q.bus with lastViolation := 0x0206, violations := q.bus.violations + 1 }
                    pd := f { q.pd with sbuClosed := false, sbuFault := true, violCount := n } }).onSeg g fun x =>
           { x with tether := 0 }
       let violation :=
         noteOf 0xFFFF true (combOf p) blkPd .violation p (b16 0x0206 ++ (b8 0xFF ++ b8 0 ++ b8 n ++ b8 0 ++ b16 mv.toNat))
       (d.wait = .none → s.Does (.sbuOvervoltage p mv) fun u =>
         Tells ((opened fun d => { d with wait := .exit }).answering (.pd p 10)) u [violation]) ∧
       (∀ sop cmd svid, d.wait = .request sop cmd svid ∨ d.wait = .plain → s.Does (.sbuOvervoltage p mv) fun u =>
         Tells (opened fun d => { d with exitDue := true }) u [violation])))

/-- R189, R191, R192, R200: how capabilities go out: the set of the reservation once it has arrived, up to fifty sends, then the
Type-C contract; a GoodCRC moves the negotiation on. -/
def Obligations.CapabilitiesAreSent : Prop :=
  ∀ (s : State) (p : Nat), s.Open → isPort p = true → s.Hears (combOf p) blkPd →
    let d := (s.port p).pd
    let offers := fun s : State => (s.onPd p fun d =>
      { d with phase := .offered, caps := s.pdoSet p d.reserved, flags := s.pdoFlags, capsProvisional := false, provCaps := none
               sends := 1, readvertise := false, owesCaps := false, arrived := true }).answering (.pd p 1)
    (d.phase = .waitGrant → d.arrived = false → (s.port p).attached = true → s.Does (.reservationArrival p) fun u => u = offers s) ∧
    (d.phase = .offered → d.sends < 50 → s.Does (.srcCapsRepeat p) fun u =>
      u = (s.onPd p fun d => { d with sends := d.sends + 1 }).answering (.pd p 1)) ∧
    (d.phase = .offered → 50 ≤ d.sends → s.Plain p → (s.port p).grant = rpPower (s.port p).rp → s.Does (.srcCapsRepeat p) fun u =>
      let rp := (s.port p).rp
      let c : Contract := ⟨0, 0, rpCurrent rp, rpCurrent rp, rpPower rp⟩
      Tells ((s.onPd p fun d =>
          { d with phase := .typeC, contract := some c, contractCount := s.led.next
                   reserved := if d.readvertise = true then min d.reserved (rpPower rp) else rpPower rp, caps := []
                   capsProvisional := false, provCaps := none, cable := false, readvertise := false, owesCaps := false
                   gotIdentity := false, svids := none, modes := [] }).onChan p fun x => { x with leg := some 0 }) u
        [noteOf 0xFFFF true (combOf p) blkPd .pdContract p
          (b8 0 ++ b8 0 ++ b16 (rpCurrent rp) ++ b16 (rpCurrent rp) ++ b16 (rpPower rp) ++ b8 (s.classOf p)
            ++ b8 (s.port p).cable5A.toNat)]) ∧
    (d.phase = .offered → s.Does (.goodcrcReceived p) fun u => u = s.onPd p fun d => { d with phase := .awaitRequest }) ∧
    (d.phase = .accepted → s.Does (.goodcrcReceived p) fun u => u = s.onPd p fun d => { d with phase := .transDelay }) ∧
    (d.phase = .softReset → d.cable = false → d.capsProvisional = false → d.provCaps = none → d.arrived = true →
      s.Does (.softResetAccepted p) fun u => u = offers s)

/-- R193, R194, R212: a Request that names an object of the set last sent within its current is accepted, as a change of rail or
without one; the contract follows the PS_RDY. What the partner answered in discovery is forgotten with the contract before. A Request outside the set is `VIOLATION` 0x0201
and is rejected. -/
def Obligations.RequestsAndContracts : Prop :=
  ∀ (s : State) (p : Nat), s.Open → isPort p = true → s.Hears (combOf p) blkPd →
    let d := (s.port p).pd
    (s.listens p = true → d.phase = .awaitRequest ∨ d.phase = .ready → d.capsProvisional = false → d.revision ≠ 0 →
      ∀ (pos op max : Nat) (rev2 : Bool), pos ≤ 15 →
      (∀ x : Pdo, d.caps[pos - 1]? = some x → 1 ≤ pos → op ≤ x.current → max ≤ x.current →
        s.Does (.request p pos op max rev2) fun u =>
          u = (s.onPd p fun d =>
            { d with phase := if (s.chan p).gate = some x.rail then .sameRail else .accepted, reqPos := pos, reqOp := op
                     reqMax := max }).answering (.pd p 2)) ∧
      (d.caps ≠ [] → pos = 0 ∨ d.caps.length < pos → d.readvertise = false → d.owesCaps = false → d.provCaps = none →
        (s.inWindow p s.ember.ms).length + 1 < s.nat .pdViolLimit p → s.Does (.request p pos op max rev2) fun u =>
          let n := (s.inWindow p s.ember.ms).length + 1
          Tells ((s.onPort p fun q =>
              { q with bus := { q.bus with lastViolation := 0x0201, violations := q.bus.violations + 1 }
                       pd := { q.pd with phase := .ready, counted := s.ember.ms :: s.inWindow p s.ember.ms, violCount := n } }).answering
              (.pd p 3)) u
            [noteOf 0xFFFF true (combOf p) blkPd .violation p (b16 0x0201 ++ (b8 2 ++ b8 1 ++ b8 n ++ b8 0 ++ b16 0))])) ∧
    (d.phase = .sameRail → s.Does (.sameRailPsRdy p) fun u =>
      u = (s.onPd p fun d => { d with phase := .psRdy }).answering (.pd p 5)) ∧
    (∀ x : Pdo, d.phase = .psRdy → 1 ≤ d.reqPos → d.caps[d.reqPos - 1]? = some x → s.Plain p → d.readvertise = false →
      d.owesCaps = false → d.capsProvisional = false → d.provCaps = none → (railVolts x.rail * d.reqMax) % 10 = 0 →
      let power := railVolts x.rail * d.reqMax / 10
      (s.port p).grant = power → s.Does (.pdContract p) fun u =>
        Tells ((s.onPd p fun d =>
            { d with phase := .ready, contract := some ⟨x.rail, d.reqPos, d.reqOp, d.reqMax, power⟩
                     contractCount := s.led.next, reserved := power, gotIdentity := false, svids := none
                     modes := [] }).onChan p fun c => { c with leg := some x.rail }) u
          [noteOf 0xFFFF true (combOf p) blkPd .pdContract p
            (b8 x.rail ++ b8 d.reqPos ++ b16 d.reqOp ++ b16 d.reqMax ++ b16 power ++ b8 (s.classOf p)
              ++ b8 (s.port p).cable5A.toNat)])

/-- R200 to R202, R204: a rail transition: from the check of the new rail to VBUS in its band, and `RAIL_TRANSITION` with result
0 and PS_RDY. The old leg opens first; the new one slews VBUS up, and down only the discharge does. A missed timer is result
1 or 2 and a Hard Reset with code 0x0410 or 0x0411, for which Forge opens every leg. -/
def Obligations.RailTransitions : Prop :=
  ∀ (s : State) (p : Nat), s.Open → isPort p = true → s.Hears (combOf p) blkPd →
    let d := (s.port p).pd
    let entry := fun (result : Nat) (elapsed : BitVec 16) => noteOf 0xFFFF true (combOf p) blkPd .railTransition p
      (b8 ((s.chan p).leg.getD 0) ++ b8 (s.nextRail p) ++ b8 result ++ b16 elapsed.toNat)
    (d.phase = .transDelay → s.railUp (s.nextRail p) = true → s.Does (.transitionStart p true) fun u =>
      u = (s.onPd p fun d => { d with phase := .slewing }).onChan p fun c =>
        { c with gate := if c.gate.getD 0 < s.nextRail p then some (s.nextRail p) else none }) ∧
    (d.phase = .slewing → s.Does (.vbusInBand p) fun u =>
      u = (s.onPd p fun d => { d with phase := .settling }).onChan p fun c =>
        { c with gate := some (s.nextRail p), gateCheck := isExternal p }) ∧
    (∀ elapsed, d.phase = .settling → (s.chan p).gateCheck = false → s.Does (.railTransition p elapsed) fun u =>
      Tells (((s.onPd p fun d => { d with phase := .psRdy }).onChan p fun c => { c with leg := some (s.nextRail p) }).answering
          (.pd p 5)) u [entry 0 elapsed]) ∧
    (s.Plain p → (s.port p).grant = s.nextGrant p →
      let reset := ((s.onPort p fun q =>
          { q with vconn := false, pd := { q.pd.startHardReset with reserved := q.grant, arrived := false } }).onChan p fun c =>
            { c with leg := none, gate := none, gateCheck := false }).answering (.pd p 7)
      let hard := fun code => noteOf 0xFFFF true (combOf p) blkPd .pdHardreset p (b8 0 ++ b16 code)
      (d.phase = .transDelay → s.Does (.transitionStart p false) fun u => Tells reset u [entry 2 0, hard 0x0411]) ∧
      (∀ elapsed, d.inTransition = true → s.Does (.transMaxExpiry p elapsed) fun u =>
        Tells reset u [entry 1 elapsed, hard 0x0410]) ∧
      (∀ elapsed, d.phase = .slewing → s.Does (.settleMaxExpiry p elapsed) fun u =>
        Tells reset u [entry 2 elapsed, hard 0x0411]))

/-- R204, R212: a Hard Reset of the partner, and of a partner that never sends its Request, ends the contract with
`PD_HARDRESET`, and every leg opens; VBUS is restored with VCONN on the 5 V leg, and capabilities follow once the reservation
has arrived. -/
def Obligations.HardResets : Prop :=
  ∀ (s : State) (p : Nat), s.Open → isPort p = true → s.Hears (combOf p) blkPd → s.Plain p →
    let d := (s.port p).pd
    ((s.port p).grant = s.nextGrant p →
      let reset := fun s : State => (s.onPort p fun q =>
          { q with vconn := false, pd := { q.pd.startHardReset with reserved := q.grant, arrived := false } }).onChan p fun c =>
            { c with leg := none, gate := none, gateCheck := false }
      ((s.port p).attached = true → (s.chan p).state.conducts = true → d.phase ≠ .quiet → d.phase ≠ .hardReset →
        s.value .pdEnable p = 1 → s.Does (.hardResetReceived p) fun u =>
          Tells (reset s) u [noteOf 0xFFFF true (combOf p) blkPd .pdHardreset p (b8 1 ++ b16 0)]) ∧
      (d.phase = .awaitRequest → (s.inWindow p s.ember.ms).length + 1 < s.nat .pdViolLimit p → s.Does (.requestTimeout p) fun u =>
        let n := (s.inWindow p s.ember.ms).length + 1
        Tells ((reset (s.onPort p fun q =>
            { q with bus := { q.bus with lastViolation := 0x0203, violations := q.bus.violations + 1 }
                     pd := { q.pd with counted := s.ember.ms :: s.inWindow p s.ember.ms, violCount := n } })).answering (.pd p 7)) u
          [noteOf 0xFFFF true (combOf p) blkPd .violation p (b16 0x0203 ++ (b8 0xFF ++ b8 0 ++ b8 n ++ b8 0 ++ b16 0)),
           noteOf 0xFFFF true (combOf p) blkPd .pdHardreset p (b8 0 ++ b16 0x0203)])) ∧
    (d.phase = .hardReset → d.fallback = false → d.provCaps = none → d.arrived = false → s.Does (.hardResetRestore p) fun u =>
      u = (s.onPort p fun q =>
        { q with vconn := q.ra && !q.vconnFault && (s.value .typecVconnEn 0).getLsbD (p - 1)
                 pd := { q.pd with phase := .waitGrant } }).onChan p fun c =>
          { c with gate := if c.state.conducts = true then some 0 else none })

/-- R189, R203, Table 09-2: the messages a port answers at vSafe5V outside a rail transition; BIST is served on the wire only, and
an Alert changes nothing. That a Get_Source_Cap inside another sequence is answered after it is the model's choice (log
93). -/
def Obligations.PdMessages : Prop :=
  ∀ (s : State) (p : Nat), s.Open → isPort p = true → s.Hears (combOf p) blkPd → s.listens p = true →
    let d := (s.port p).pd
    let sent := fun msg u => u = s.answering (.pd p msg)
    d.inTransition = false →
      s.Does (.getRevision p) (sent 9) ∧
      (∀ k, s.Does (.swapRequest p k) (sent 3)) ∧
      (∀ t n, s.Does (.unsupportedMessage p (.unsupported t n)) (sent (if d.revision = 2 then 3 else 8))) ∧
      s.Does (.unsupportedMessage p .alert) (fun u => u = s) ∧
      (∀ carrier, s.Does (.bist p carrier) fun u => u = s) ∧
      (d.phase = .waitGrant → s.Does (.softReset p) (sent 2)) ∧
      (d.phase = .ready → d.cable = false → d.capsProvisional = false → d.provCaps = none → d.arrived = true →
        let offers := fun u => u = (s.onPd p fun d =>
          { d with phase := .offered, caps := s.pdoSet p d.reserved, flags := s.pdoFlags, capsProvisional := false
                   provCaps := none, sends := 1, readvertise := false, owesCaps := false }).answering (.pd p 1)
        s.Does (.getSourceCap p) offers ∧ s.Does (.softReset p) offers) ∧
      (d.phase ≠ .offered → d.phase ≠ .awaitRequest → d.phase ≠ .ready → d.phase ≠ .typeC → s.Does (.getSourceCap p) fun u =>
        u = s.onPd p fun d => { d with owesCaps := true })

/-- R22, R206, R207, R212: vendor-defined messages. A partner's request under an explicit contract is stored in Q62 with
`PD_VDM` and answered NAK; the answer that a PD_VDM_SEND waits for, its GoodCRC, or the lack of an answer, ends the
exchange, and with no operation left that is all; an ACK of a discovery request counts as answered in this contract (R209). A
message without an explicit contract has its `PD_VDM`, then `VIOLATION` 0x0202. While Q62 is full a message is dropped and
its `PD_VDM` says so. -/
def Obligations.VendorMessages : Prop :=
  ∀ (s : State) (p : Nat), s.Open → isPort p = true → s.Hears (combOf p) blkPd → s.NoOp (.port p) →
    let d := (s.port p).pd
    let idle := d.exitDue = false ∧
      (d.phase = .ready → d.readvertise = false ∧ d.owesCaps = false ∧ d.capsProvisional = false ∧ d.provCaps = none)
    let heard := fun (h : Word) (l : List Word) (response : Bool) (st : Bool) => s.onLed fun led =>
      { led with q62 := led.q62 ++ [⟨led.q62Next, led.next, p, 0, !st, response, h :: l⟩], q62Next := (led.q62Next + 1) % 32 }
    (∀ (h : Word) (l : List Word), l.length ≤ 6 → s.listens p = true → d.explicit = true → d.inTransition = false →
      d.phase ≠ .cableAsked → s.led.q62.length < 32 → vdmStructured h = true →
      (vdmType h = 0 → vdmCmd h ≠ 6 → s.Does (.vdmReceived p 0 (h :: l)) fun u =>
        Tells ((heard h l false true).answering (.pd p 11)) u
          [noteOf 0xFFFF true (combOf p) blkPd .pdVdm p
            (b8 0 ++ b8 (vdmCmd h) ++ b16 (vdmSvid h) ++ b8 (vdmPos h) ++ b8 0 ++ b8 s.led.q62Next)]) ∧
      (vdmType h ≠ 0 → d.wait = .request 0 (vdmCmd h) (vdmSvid h) → idle → s.Does (.vdmReceived p 0 (h :: l)) fun u =>
        let ack := vdmType h = 1
        Tells ((heard h l true true).onPd p fun d =>
            { d with wait := .none, gotIdentity := if ack ∧ vdmCmd h = 1 then true else d.gotIdentity
                     svids := if ack ∧ vdmCmd h = 2 then some (svidsOf l) else d.svids
                     modes := if ack ∧ vdmCmd h = 3 then (d.modes.filter fun x => x.1 != vdmSvid h) ++ [(vdmSvid h, l)]
                       else d.modes }) u
          [noteOf 0xFFFF true (combOf p) blkPd .pdVdm p
            (b8 0 ++ b8 (vdmCmd h) ++ b16 (vdmSvid h) ++ b8 (vdmPos h) ++ b8 0 ++ b8 s.led.q62Next)])) ∧
    (∀ (h : Word) (l : List Word), l.length ≤ 6 → s.listens p = true → d.explicit = false → d.inTransition = false →
      d.phase ≠ .cableAsked → s.led.q62.length < 32 → vdmStructured h = true → vdmCmd h ≠ 6 →
      (s.inWindow p s.ember.ms).length + 1 < s.nat .pdViolLimit p → s.Does (.vdmReceived p 0 (h :: l)) fun u =>
        let recent := s.ember.ms :: s.inWindow p s.ember.ms
        Tells (((heard h l false true).onPort p fun q =>
            { q with bus := { q.bus with lastViolation := 0x0202, violations := q.bus.violations + 1 }
                     pd := { q.pd with phase := .softReset, counted := recent, violCount := recent.length } }).answering
            (.pd p 6)) u
          [noteOf 0xFFFF true (combOf p) blkPd .pdVdm p
            (b8 0 ++ b8 (vdmCmd h) ++ b16 (vdmSvid h) ++ b8 (vdmPos h) ++ b8 0 ++ b8 s.led.q62Next),
           noteOf 0xFFFF true (combOf p) blkPd .violation p
            (b16 0x0202 ++ (b8 0x0F ++ b8 (l.length + 1) ++ b8 recent.length ++ b8 0 ++ b16 0))]) ∧
    (∀ sop cmd svid, d.wait = .request sop cmd svid → d.phase ≠ .cableAsked → idle →
      s.Does (.vdmResponseTimeout p) fun u =>
        let n := (s.inWindow p s.ember.ms).length
        Tells (s.onPort p fun q =>
            { q with bus := { q.bus with lastViolation := 0x0204, violations := q.bus.violations + 1 }
                     pd := { q.pd with violCount := n, wait := .none } }) u
          [noteOf 0xFFFF true (combOf p) blkPd .violation p (b16 0x0204 ++ (b8 0xFF ++ b8 0 ++ b8 n ++ b8 0 ++ b16 0))]) ∧
    (d.wait = .plain → idle → ∀ ok, s.Does (.vdmSendDone p ok) fun u =>
      u = s.onPd p fun d => { d with wait := .none }) ∧
    (∀ (sop : Nat) (h : Word) (l : List Word), sop ≤ 2 → sop = 0 ∨ (s.port p).vconn = true → l.length ≤ 6 → s.listens p = true →
      d.phase ≠ .cableAsked → 32 ≤ s.led.q62.length → s.Does (.vdmReceived p sop (h :: l)) fun u =>
        u.led.q62 = s.led.q62 ∧ u.led.vdmDrops = s.led.vdmDrops + 1 ∧ ∃ data rest, byteOf data 5 % 2 = 1 ∧
          Logs s u (noteOf 0xFFFF true (combOf p) blkPd .pdVdm p data :: rest))

/-! Commands (chapter 03). -/

/-- R36, R49, R61, R64, R65, R67: how a command is answered. One that a check refuses is counted, its reply carries the
status of the first check of Table 03-4 whose condition holds, and but for a read-only command there is a `CMD_APPLIED`; a
wrong service code on C1 is counted; a packet longer than 1012 bytes is `VIOLATION` 0x0506 and FORMAT_ERROR. The conditions of the first checks are said too. -/
def Obligations.CommandsAreJudged : Prop :=
  ∀ (s : State) (i : Instr) (h : CmdHeader) (op : Opcode) (p : List Byte), commandOf i = some (h, op, p) → s.Open →
    s.io.heldClient h.client = false →
    let c := headerCommand h op p
    let cl := extClient h.client
    (c.plen ≤ 1012 → ∀ st, (s.taken c).refusal cl c = some st →
      (op.readOnly = true → exec i s = .next (s.after ((s.taken c).reply cl ((s.taken c).replyOf c st [])))) ∧
      (op.readOnly = false → op ≠ .serviceEnter → exec i s = .next (s.after ((s.taken c).answered h.client c st))) ∧
      (op = .serviceEnter →
        let counts := cl = .c1 ∧ st = .refusedPolicy ∧ s.cfg.applied.serviceCode ≠ []
        let tried : State := if counts then (s.taken c).onPw fun w => { w with serviceTries := w.serviceTries + 1 } else s.taken c
        exec i s = .next (s.after (tried.answered h.client c st)))) ∧
    (c.plen ≤ 1012 → s.mode = .safe → op.family ≠ 0 → op.family ≠ 6 → op.family ≠ 8 → op.family ≠ 9 →
      (s.taken c).refusal cl c = some .wrongMode) ∧
    (c.plen ≤ 1012 → s.mode ≠ .service → op = .testRun → (s.taken c).refusal cl c = some .wrongMode) ∧
    (∀ l, c.plen ≤ 1012 → s.mode = .run → op ≠ .testRun → op ≠ .paramSet → h.cond = some l → l ≠ s.head →
      (s.taken c).refusal cl c = some .stale) ∧
    (1012 < c.plen → s.Does i fun u =>
      let v := (s.tagged h.tag).onIo fun io => { io with admitted := io.admitted + 1, malformed := io.malformed + 1 }
      ∃ t, Tells v t [noteOf h.tag true 0 blkCmd .violation cl.code
          (b16 0x0506 ++ (b16 (10 + c.plen) ++ b16 op.code ++ b8 (headerFlags h).toNat))] ∧
        u = t.reply cl { opcode := BitVec.ofNat 16 op.code, status := .formatError, tag := h.tag, lsn := t.head, payload := [] })

/-- R18, R67, R140, R231, R256, R293, R300, R329: the sixteen commands that only read. Each that no check refuses ends in a next
state whose reply holds these bytes, and nothing else changes. Ports and contracts are reported as they stood at the last
ledger entry, which is the model's reading of R5 (log 87); a measurement is a free value (log 1). -/
def Obligations.ReadCommandsReply : Prop :=
  ∀ (s : State) (h : CmdHeader),
    (∀ p, s.Replies (.echo h p) fun l => l = p) ∧
    s.Replies (.identify h []) (fun l =>
      l = [0x64, 0x16, 0x43, 0xB2] ++ b16 s.ident.version.toNat ++ b8 s.ident.flashFirmware.toNat ++ b8 s.diesPresent
        ++ s.ident.microcode.toList ++ b16 s.led.boot.toNat ++ leBytes 8 s.ident.serial.toNat ++ b8 s.cfg.applied.slot ++ [0]
        ++ b32 s.cfg.applied.seq.toNat) ∧
    s.Replies (.queueStatus h []) (fun l =>
      l = ((List.range 64).map fun q => BitVec.ofNat 8 (s.queueFill q))
        ++ b8 (bitsOf [s.io.heldClient .c0, s.io.heldClient .c1, false, s.io.heldClient .c3])) ∧
    s.Replies (.ledgerHead h []) (fun l =>
      l = leBytes 8 s.head.toNat ++ leBytes 8 (lsn64 s.led.boot s.led.mark).toNat
        ++ leBytes 8 (lsn64 s.led.boot ((s.led.ring.getLast?.map (·.count)).getD 0)).toNat
        ++ b8 s.led.q61.length ++ b8 s.led.q62.length) ∧
    (∀ src n lsn, src ≤ 4 → n ≤ 31 → lsn < 2 ^ 64 → s.Replies (.ledgerRead h (b8 src ++ b8 n ++ leBytes 8 lsn)) fun l =>
      l = recordReply (match src with
        | 0 => ((s.led.ring.reverse.filter fun e => atOrAfter lsn (lsn64 s.led.boot e.count).toNat).take n).map
            fun e => e.bytes s.led.boot
        | 1 => ((s.led.q61.dropWhile fun r => r.slot != lsn).take n).map fun r => r.bytes s.led.boot
        | 2 => ((s.led.q62.dropWhile fun m => m.slot != lsn).take n).map fun m => m.bytes
        | 3 => (s.retainedEntries.filter fun e => atOrAfter lsn (lsnOf e)).take n
        | _ => (s.tailEntries.filter fun e => atOrAfter lsn (lsnOf e)).take n)) ∧
    s.Replies (.pstateStatus h []) (fun l =>
      l = b32 s.votes ++ b8 s.targetCode ++ b8 s.pw.level ++ b32 (s.nat .pstateWakeEn 0) ++ b16 s.ember.staged.length) ∧
    (∀ n, n ≤ 255 → s.Replies (.testStatus h (b8 n)) fun l =>
      l = if s.forager.runTest = n then b8 s.forager.runState ++ b32 s.forager.runItem.toNat else [0, 0, 0, 0, 0]) ∧
    (∀ first n, first < 2 ^ 16 → n ≤ 31 → s.Replies (.healthRead h (b16 first ++ b8 n)) fun l =>
      l = recordReply (((s.forager.log.dropWhile fun r => r.number != first).take n).map Health.bytes)) ∧
    s.Replies (.holdStatus h []) (fun l => ∃ (v : Nat) (cells : List Nat), cells.length = 6 ∧
      (∀ k, s.cells ≤ k → k < 6 → cells[k]? = some 0) ∧
      l = b8 s.cells ++ b16 v ++ cells.flatMap b16 ++ b16 s.stackCap ++ b16 (s.energyAt v) ++ b8 s.holdFlags) ∧
    (∀ slot off n, slot ≤ 1 → off + n ≤ 0x10000 → n ≤ 1006 → s.Replies (.cfgRead h (b8 slot ++ b8 0 ++ b32 off ++ b16 n)) fun l =>
      l = s.flashBytes (slotBase slot + off) n) ∧
    (∀ (q : Param) (n : Nat), n ≤ 255 → s.Replies (.paramGet h (b16 q.id ++ b8 n)) fun l =>
      (q.info.access = .rwStaged → q ≠ .chanIlim → s.paramRead q n = s.value q n) ∧
      l = b32 (s.paramRead q n).toNat ++ b8 q.info.access.code
        ++ b8 (q.info.critical.toNat + 2 * (s.stagedFor q n).isSome.toNat)) ∧
    (∀ block n first count, block ≤ 255 → n ≤ 255 → first ≤ 255 → count ≤ 32 →
      s.Replies (.paramGetBlock h (b8 block ++ b8 n ++ b8 first ++ b8 count)) fun l =>
        l.length = 4 * count ∧
        l = (((Param.block block).drop first).take count).flatMap fun q =>
          b32 (if q.indexOk n = true then (s.paramRead q n).toNat else 0)) ∧
    (∀ p, p ≤ 16 → s.Replies (.portStatus h (b8 p)) fun l =>
      let q := s.reported.port p
      l = b8 (bitsOf [q.attached, s.reported.enabledPort p, q.bus.suspended, s.dieGone (combOf p),
            (s.chan p).state == .locked, q.pd.fallback])
        ++ b8 (q.bus.speed.getD 0xFF) ++ b8 q.pin ++ b8 (if q.attached = true then q.rp else s.rpIdle p)
        ++ b8 ((s.chan p).leg.getD 0xFF) ++ b16 q.grant ++ b8 (s.classOf p) ++ b16 q.bus.lastViolation) ∧
    (∀ p, p ≤ 16 → s.Replies (.pdStatus h (b8 p)) fun l =>
      let q := s.reported.port p
      let k : Contract := q.pd.contract.getD ⟨0xFF, 0, 0, 0, 0⟩
      l = b8 (bitsOf [q.pd.contract.isSome, q.cable5A, q.pd.fallback, q.pd.mode.isSome, q.pd.p1.state == 1])
        ++ b8 k.rail ++ b8 k.pos ++ b16 k.op ++ b16 q.grant ++ b8 (s.classOf p)
        ++ b16 ((q.pd.mode.map (·.svid)).getD 0) ++ b8 ((q.pd.mode.bind (·.seg)).getD 0xFF) ++ b8 q.pd.violCount) ∧
    (∀ ch, ch ≤ 24 → s.Replies (.chanMeasure h (b8 ch)) fun l => ∃ ma mv t : Nat,
      l = b16 ma ++ b16 mv ++ b16 (if isIntegrated ch = true then t else 0x8000)
        ++ b8 (s.chan ch).state.code ++ b8 (s.chan ch).retries ++ b8 ((s.chan ch).lock.getD 0xFF)) ∧
    (∀ n, n ≤ 4 → s.Replies (.twiAttnRead h (b8 n ++ b8 0)) fun l =>
      l = b16 ((s.seg n).mailbox.getD []).length ++ b16 0xFFFF ++ b8 0 ++ (s.seg n).mailbox.getD []) ∧
    (∀ n, n ≤ 3 → s.Replies (.twiAttnRead h (b8 n ++ b8 1)) fun l =>
      ((s.seg n).attn = none → l = b16 0 ++ b16 0xFFFF ++ b8 0) ∧
      (∀ st bytes, (s.seg n).attn = some (st, bytes) →
        l = b16 bytes.length ++ b16 0xFFFF ++ b8 (if st = 0 then Status.done else Status.fault).code ++ bytes)) ∧
    (∀ n tag, n ≤ 3 → tag < 2 ^ 16 → s.Replies (.twiAttnRead h (b8 n ++ b8 2 ++ b16 tag)) fun l =>
      ∃ r : Result, (s.seg n).results.reverse.find? (fun r => r.tag.toNat == tag) = some r ∧
        l = b16 r.bytes.length ++ b16 r.tag.toNat ++ b8 r.status.code ++ r.bytes)

/-- R44, R95, R131, R139, R153, R241, R284, R285: the commands on the device as a whole. A vote, a level, the release of the
latched pads, a ledger mark, RESET of each scope, MODE_REQUEST, SERVICE_ENTER, TEST_RUN and HOLD_TAP_TEST. -/
def Obligations.DeviceCommands : Prop :=
  ∀ (s : State) (h : CmdHeader),
    let op := fun (v : State) (o : Opcode) (p : List Byte) => v.operation (extClient h.client) (headerCommand h o p)
    let begins := fun (v : State) (o : Opcode) (p : List Byte) => { v with ops := v.ops ++ [op v o p] }
    (∀ n, n ≤ 15 →
      s.Carries (.voteSet h (b8 n)) (fun v u =>
        u = v.onPw fun w => { w with hostVotes := w.hostVotes ||| BitVec.ofNat 4 n }) ∧
      s.Carries (.voteClear h (b8 n)) (fun v u =>
        u = v.onPw fun w => { w with hostVotes := w.hostVotes &&& ~~~(BitVec.ofNat 4 n) })) ∧
    (∀ n, n ≤ 3 → s.Carries (.plSet h (b8 n)) fun v u =>
      (s.pw.level = n → u = v) ∧
      (s.pw.level ≠ n → Tells (v.onPw fun w => { w with level := n, vcoreSel := n, plChanges := w.plChanges + 1 }) u
        [noteOf h.tag false 0 blkPower .plChange 0 (b8 s.pw.level ++ b8 n)])) ∧
    s.Carries (.padRelease h []) (fun v u =>
      (s.ember.latched = false → u = v) ∧
      (s.ember.latched = true → s.ember.staged = [] → (∀ ch, isAux ch = true → (s.chan ch).retryWaits = false) →
        Tells (v.onEmber fun e => { e with latched := false }) u [noteOf h.tag false 0 blkPower .padRelease 0 (b16 0)])) ∧
    (∀ lsn, lsn < 2 ^ 64 → s.Carries (.ledgerMark h (leBytes 8 lsn)) fun v u =>
      let n := lsn % 2 ^ 48
      u.led.mark = n ∧ u.led.q61 = v.led.q61.filter (fun r => decide (n < r.last)) ∧
        u.led.q62 = v.led.q62.filter (fun m => decide (n < m.entry)) ∧ u.led.ring = v.led.ring ∧
        u = v.onLed fun l => { l with mark := n, q61 := u.led.q61, q62 := u.led.q62, q61Open := u.led.q61Open }) ∧
    s.Carries (.modeRequest h (b8 0)) (fun v u => u = v.onStore fun g => { g with writing := 1 }) ∧
    (s.safeCondition = false → s.pw.crank = false →
      (s.mode = .run ∨ s.mode = .standalone → ∀ code, s.Carries (.serviceEnter h code) fun v u =>
        Tells { v with mode := .service, pw := { v.pw with service := true }, store := v.store.inMode .service } u
          [noteOf h.tag false 0 blkPower .modeChange 0 (b8 s.mode.code ++ b8 Mode.service.code ++ b8 0)]) ∧
      (s.mode = .service → s.Carries (.modeRequest h (b8 3)) fun v u =>
        let m := if s.hub.upVbus = true then Mode.run else .standalone
        Tells { v with mode := m, pw := { v.pw with service := false }, store := v.store.inMode m } u
          [noteOf h.tag false 0 blkPower .modeChange 0 (b8 Mode.service.code ++ b8 m.code ++ b8 0)])) ∧
    s.Carries (.reset h (b8 0 ++ b8 0 ++ b32 0)) (fun v u =>
      u = v.onPw fun w => { w with resetTag := some (w.resetTag.getD h.tag) }) ∧
    (∀ d, 1 ≤ d → d ≤ 3 → s.Carries (.reset h (b8 1 ++ b8 d ++ b32 0)) fun v u =>
      (∃ l, Logs v u (noteOf h.tag true 3 blkReset .resetBlock d (b8 2 ++ b32 (dieBlocks d) ++ b8 4) :: l)) ∧
        (u.die d).resetting = true ∧ (u.die d).quarantined = false ∧ u.ember.cause = v.ember.cause ||| 0x10 ∧
        u.ember.detail = BitVec.ofNat 32 (4 * 0x1000000 + h.tag.toNat)) ∧
    (∀ d mask, 1 ≤ d → d ≤ 3 → mask < 2 ^ 18 → s.Carries (.reset h (b8 2 ++ b8 d ++ b32 mask)) fun v u =>
      (∃ l, Logs v u (noteOf h.tag true 3 blkReset .resetBlock d (b8 3 ++ b32 mask ++ b8 4) :: l)) ∧
        (u.die d).blocks = (v.die d).blocks ||| BitVec.ofNat 18 mask ∧ u.ember.cause = v.ember.cause ||| 0x10) ∧
    (∀ (n : Nat) (arg : Word), n ≤ 255 → s.Carries (.testRun h (b8 n ++ [0, 0, 0] ++ b32 arg.toNat)) fun v u =>
      u = (begins v .testRun (b8 n ++ [0, 0, 0] ++ b32 arg.toNat)).onForager fun f =>
        { f with runTest := n, runArg := arg, runState := 1, runItem := 0 }) ∧
    (∀ n, n ≤ 6 → s.Carries (.holdTapTest h (b8 n)) fun v u =>
      u = (begins v .holdTapTest (b8 n)).onStore fun g =>
        { g with tapFailed := false, tapTesting := g.tapTesting ||| tapBit n, tapCommand := g.tapCommand ||| tapBit n })

/-- R84, R95, R290, R294, R297, R298: the commands on parameters. A PARAM_SET of a live parameter writes its value and no other;
PARAM_STAGE stages a value; PARAM_COMMIT opens the agreement round or discards; the six parameters with a row of their own have
their effects. A value of a `CRITICAL` parameter goes to its mirrors; a FUSE_BURN whose power fails while the bank is
programmed leaves it spent, with no marker (R31, R81). -/
def Obligations.ParameterCommands : Prop :=
  ∀ (s : State) (h : CmdHeader), s.Inv →
    let op := fun (v : State) (o : Opcode) (p : List Byte) => v.operation (extClient h.client) (headerCommand h o p)
    let blockReset := fun (i : Instr) (x : Word) =>
      let d := x.toNat / 2 ^ 30
      s.Carries i fun v u =>
        (v.dieGone d = false → (v.die d).resetting = false → (v.die d).blocks = 0 → (v.die d).clockDead = 0 →
          (∃ l, Logs v u (noteOf h.tag true 3 blkReset .resetBlock d (b8 3 ++ b32 (x.toNat % 2 ^ 18) ++ b8 4) :: l)) ∧
            (u.die d).blocks = x.setWidth 18 ∧ u.prm.blockRstDie = d) ∧
        (v.dieGone d = true ∨ (v.die d).resetting = true → u = { v with prm := { v.prm with blockRstDie := d } })
    (∀ (q : Param) (n : Nat) (x : Word), q.info.access = .rwLive → q ≠ .resetBlockRst → n ≤ 255 →
      s.Carries (.paramSet h (b16 q.id ++ b8 n ++ b8 0 ++ b32 x.toNat)) fun v u =>
        u.paramRead q n = q.kept x ∧ (∀ r j, j ≤ 255 → (r, j) ≠ (q, n) → u.value r j = v.value r j) ∧ u.led = v.led ∧ u.ops = v.ops ∧
          (v.paramRead q n = x → u.prm = v.prm ∧ u.ember = v.ember) ∧ (q.info.critical = false → u.spine = v.spine) ∧
          (q.info.critical = true → ∀ d, 1 ≤ d → d ≤ 3 → v.dieGone d = false → (v.die d).resetting = false →
            (u.die d).mirror = mirrorOf d u.prm.values)) ∧
    (∀ (q : Param) (n : Nat) (x : Word), n ≤ 255 → s.Carries (.paramStage h (b16 q.id ++ b8 n ++ b8 0 ++ b32 x.toNat)) fun v u =>
      ((s.value q n = x → (s.stagedFor q n).isSome = true) → u.stagedFor q n = some x) ∧
        (∀ r j, j ≤ 255 → (r, j) ≠ (q, n) → u.stagedFor r j = v.stagedFor r j) ∧ (∀ r j, u.value r j = v.value r j)) ∧
    s.Carries (.paramCommit h (b8 1)) (fun v u => u = { v with prm := { v.prm with staged := [] } }) ∧
    s.Carries (.paramCommit h (b8 0)) (fun v u =>
      (s.prm.staged = [] → u = v) ∧
      (s.prm.staged ≠ [] → s.commitOk = true → s.participants [] ≠ [] → ∃ r : Round, r.trigger = 2 ∧ r.change = .commit ∧
        r.ballots.map (·.die) = s.participants [] ∧ u.spine.epoch = v.spine.epoch + 1 ∧ u.spine.round = some r ∧
        u = { v with ops := v.ops ++ [op v .paramCommit (b8 0)], spine := u.spine })) ∧
    (∀ x : Word,
      s.Carries (.resetCauseClear h x) (fun v u => u = v.onEmber fun e => { e with cause := e.cause &&& ~~~(x.setWidth 16) }) ∧
      (∀ l, s.cfg.applied.intents = some l → s.Carries (.fuseBurn h ⟨x, false⟩) fun v u =>
        u = v.onEmber fun e => { e with fuseBank := l, fuseBurn := 1 }) ∧
      (∀ l, s.cfg.applied.intents = some l →
        let c := headerCommand h .paramSet (b16 Param.resetFuseBurn.id ++ b8 0 ++ b8 0 ++ b32 x.toNat)
        s.Takes h.client c → (s.taken c).refusal (extClient h.client) c = none → ∃ t, exec (.fuseBurn h ⟨x, true⟩) s = .next t ∧
          t.ember.fuseBurn = 2 ∧ t.ember.fuseBank = s.ember.fuseBank ∧ t.phase = .unpowered ∧ t.led.ring = [] ∧ t.flash = s.flash) ∧
      (s.ember.fuseBurn ≠ 0 → exec (.fuseBurn h ⟨x, true⟩) s = exec (.fuseBurn h ⟨x, false⟩) s) ∧
      s.Carries (.spineStatClear h x) (fun v u =>
        (x.getLsbD 0 = true → u = v.onSpine fun p => { p with replayed := 0, crcFailed := 0, duplicates := 0, skewPeak := 0 }) ∧
        (x.getLsbD 0 = false → u = v)) ∧
      s.Carries (.foragerLogClear h x) (fun v u =>
        (x.getLsbD 0 = true → u = v.onForager fun f => { f with log := [] }) ∧ (x.getLsbD 0 = false → u = v)) ∧
      s.Carries (.trigEnableWrite h x) (fun v u => u.value .trigEnable 0 = x ∧
        ∀ r j, j ≤ 255 → (r, j) ≠ (Param.trigEnable, 0) → u.value r j = v.value r j) ∧
      blockReset (.resetBlockRstWrite h x) x)

/-- R70, R73, R129, R132 to R134: trigger lists, configuration write sessions and CFG_APPLY. -/
def Obligations.TriggerAndConfigurationCommands : Prop :=
  ∀ (s : State) (h : CmdHeader),
    let op := fun (v : State) (o : Opcode) (p : List Byte) => v.operation (extClient h.client) (headerCommand h o p)
    let sets := fun (v : State) (n : Nat) (t : TrigList) => { v with trig := { v.trig with lists := bankSet v.trig.lists n (some t) } }
    let ends := fun (t u : State) (o : PendingOp) (st : Status) (external : Bool) =>
      (o.quiet = false → Tells { t with ops := t.ops.filter fun o => !(o.subject == .session) } u
        [noteOf o.tag external 0 blkCmd .cmdComplete o.number (b16 o.op.code ++ b8 o.client.code ++ b8 st.code ++ leBytes 6 o.count)]) ∧
      (o.quiet = true → u = { t with ops := t.ops.filter fun o => !(o.subject == .session) })
    let pending := fun (v : State) (o : PendingOp) => v.ops.filter (fun o => o.subject == .session) = [o]
    (∀ p n t, parseList p 968 = some (n, t) → s.Carries (.trigLoad h p) fun v u =>
      u = sets v n { t with armed := false, fromLoad := true }) ∧
    (∀ n t, n ≤ 15 → bankGet s.trig.lists n none = some t →
      s.Carries (.trigArm h (b8 n)) (fun v u => u = sets v n { t with armed := true }) ∧
      s.Carries (.trigDisarm h (b8 n)) (fun v u => u = sets v n { t with armed := false })) ∧
    (∀ len, len < 2 ^ 32 → s.NoOp .session → s.Carries (.cfgWriteBegin h (b32 len)) fun v u =>
      let slot := if s.cfg.applied.slot = 0 then 1 else 0
      u = { v with ops := v.ops ++ [op v .cfgWriteBegin (b32 len)], flash := eraseRange v.flash (slotBase slot + 0xF000) 0x1000,
                   cfg := { v.cfg with session := some ⟨extClient h.client, slot, len, 0, true, false⟩ } }) ∧
    (∀ x : Session, s.cfg.session = some x →
      (∀ l off, off < 2 ^ 32 → s.Carries (.cfgWriteData h (b32 off ++ l)) fun v u =>
        u = { v with flash := writeBytes flashDefault v.flash (slotBase x.slot + x.written) l,
                     cfg := { v.cfg with session := some { x with written := x.written + l.length } } }) ∧
      (s.NoOp .session → s.Carries (.cfgWriteCommit h []) fun v u =>
        let code := s.commitCode x
        let t := { v with ops := v.ops ++ [op v .cfgWriteCommit []],
                          cfg := { v.cfg with slotValid := s.slotsValid, tie := s.selectSlot.2, commitResult := code
                                              session := some { x with committing := code == 0 } } }
        (code = 0 → u = t) ∧ (code ≠ 0 → ends t u (op v .cfgWriteCommit []) .fault false)) ∧
      (∀ o, s.Open → pending s o → x.erasing = true → s.Does .cfgEraseDone fun u =>
        ends { s with flash := eraseRange s.flash (slotBase x.slot) 0xF000,
                      cfg := { s.cfg with session := some { x with erasing := false } } } u o .done true) ∧
      (∀ o, s.Open → pending s o → x.committing = true →
        s.Does (.cfgTrailerReadback true) (fun u =>
          let trailer := trailerBytes (s.flashBytes (slotBase x.slot) x.len)
          let t := { s with flash := writeBytes flashDefault s.flash (slotBase x.slot + 0xFFF0) trailer }
          ends { t with cfg := { s.cfg with session := none, slotValid := t.slotsValid, tie := t.selectSlot.2 } } u o .done true) ∧
        s.Does (.cfgTrailerReadback false) (fun u =>
          ends { s with cfg := { s.cfg with session := some { x with committing := false }, commitResult := 10 } } u o .fault
            true)) ∧
      (s.Open → s.hasOp .session = false → s.Does .cfgSessionEnd fun u =>
        Tells { s with cfg := { s.cfg with session := none } } u
          [noteOf 0xFFFF true 0 blkCfg .cfgSessionEnd 0 (b8 0 ++ b8 x.owner.code ++ b8 x.slot ++ b16 x.written)])) ∧
    (s.participants [] ≠ [] → s.Carries (.cfgApply h []) fun v u =>
      ∃ r : Round, r.trigger = 1 ∧ r.ballots.map (·.die) = s.participants [] ∧ r.change = .apply (s.loadOf s.selectSlot.1) ∧
        u.spine.epoch = v.spine.epoch + 1 ∧ u.spine.round = some r ∧
        u = { v with ops := v.ops ++ [op v .cfgApply []], spine := u.spine
                     cfg := { v.cfg with slotValid := s.slotsValid, tie := s.selectSlot.2 } })

/-- R66, R170 to R172, R225: PORT_ENABLE, PORT_DISABLE, PORT_RESET, PORT_SUSPEND and PORT_RESUME. -/
def Obligations.PortCommands : Prop :=
  ∀ (s : State) (h : CmdHeader) (p : Nat), isPort p = true →
    let begins := fun (v : State) (o : Opcode) =>
      { v with ops := v.ops ++ [v.operation (extClient h.client) (headerCommand h o (b8 p))] }
    let note := fun (k : Kind) (d : List Byte) => noteOf h.tag false 0 blkUsb2 k p d
    s.Carries (.portEnable h (b8 p)) (fun v u =>
      ((s.port p).bus.held = .none → u = v) ∧
      ((s.port p).bus.held ≠ .none → Tells (v.onBus p fun b => { b with held := .none }) u [note .portEnabled (b8 0 ++ b16 0)])) ∧
    (s.NoOp (.port p) → (s.port p).pd.wait = .none → s.Carries (.portDisable h (b8 p)) fun v u =>
      ((s.port p).bus.held = .none →
        Tells (v.onBus p fun b => { b.dropped with held := .command, reset := .none }) u [note .portDisabled (b8 0 ++ b16 0)]) ∧
      ((s.port p).bus.held = .violation → u = v.onBus p fun b => { b with held := .both, reset := .none }) ∧
      ((s.port p).bus.held = .command ∨ (s.port p).bus.held = .both → u = v.onBus p fun b => { b with reset := .none })) ∧
    s.Carries (.portReset h (b8 p)) (fun v u => u = (begins v .portReset).onBus p fun b => { b with reset := .command false }) ∧
    s.Carries (.portSuspend h (b8 p)) (fun v u =>
      ((s.port p).bus.suspended = true → u = (begins v .portSuspend).onBus p fun b => { b with suspending := true }) ∧
      ((s.port p).bus.suspended = false → Tells ((begins v .portSuspend).onBus p fun b =>
          { b with suspended := true, busSuspended := false, l1 := false, currentRecorded := false, wakeRecorded := false
                   suspending := true }) u [note .portSuspend (b8 2)])) ∧
    s.Carries (.portResume h (b8 p)) (fun v u =>
      ((s.port p).bus.suspended = false → u = (begins v .portResume).onBus p fun b => { b with resuming := true }) ∧
      ((s.port p).bus.suspended = true → Tells ((begins v .portResume).onBus p fun b =>
          { b with suspended := false, busSuspended := false, resuming := true, limited := false }) u [note .portResume (b8 2)]))

/-- R153, R217, R220, R226, R230: CHAN_ON, CHAN_OFF and CHAN_CLEAR_TRIP, on an AUX channel and on the channel of a port whose
ceiling is free; while the gate pads are latched a write is staged. CHAN_OFF of a port whose channel is off inside a CYCLE releases
the grant that the port kept (R183). -/
def Obligations.ChannelCommands : Prop :=
  ∀ (s : State) (h : CmdHeader) (ch : Nat),
    let note := fun (k : Kind) (d : List Byte) => noteOf h.tag false 3 blkChan k ch d
    let off := fun (c : Chan) => { c.wentOff (isIntegrated ch) with retries := 0 }
    (isAux ch = true → s.NoOp (.aux ch) →
      (s.ember.latched = false →
        s.Carries (.chanOn h (b8 ch)) (fun v u =>
          ((s.chan ch).state.conducts = true → u = v) ∧
          ((s.chan ch).state.conducts = false → Tells (v.onChan ch fun c => c.wentOn false v.led.next) u
            [note .chanOn (b8 0 ++ b8 0xFF)])) ∧
        s.Carries (.chanOff h (b8 ch)) (fun v u =>
          ((s.chan ch).state = .locked → u = v) ∧
          ((s.chan ch).state = .off → u = v.onChan ch fun c => { c with retries := 0 }) ∧
          ((s.chan ch).state.active = true → Tells (v.onChan ch off) u [note .chanOff (b8 0)])) ∧
        s.Carries (.chanClearTrip h (b8 ch)) (fun v u =>
          (s.chan ch).state = .retryWait → Tells (v.onChan ch off) u [note .chanOff (b8 0)])) ∧
      (s.ember.latched = true → s.ember.staged = [] →
        s.Carries (.chanOn h (b8 ch)) (fun v u => u = v.onEmber fun e => { e with staged := [(ch, true)] }) ∧
        ((s.chan ch).state ≠ .locked → s.Carries (.chanOff h (b8 ch)) fun v u =>
          u = v.onEmber fun e => { e with staged := [(ch, false)] }))) ∧
    s.Carries (.chanClearTrip h (b8 ch)) (fun v u =>
      ((s.chan ch).state = .locked → u = v.onChan ch fun c => { c with state := .off, lock := none, retries := 0, offCheck := .none }) ∧
      ((s.chan ch).state = .off → u = v.onChan ch fun c => { c with retries := 0 })) ∧
    (isPort ch = true → ch ≤ 12 → s.value .pdProvisional ch ≠ 1 → (s.port ch).grant = 0 → (s.port ch).claim = 0 →
      45 ≤ s.ceiling ch → s.ceiling ch ≤ s.remaining → (s.chan ch).state.conducts = false → s.Carries (.chanOn h (b8 ch)) fun v u =>
        let a := s.ceiling ch
        Tells ((v.onPort ch fun q =>
            { q with rp := s.rpFor ch a, rpRemoved := false, waiting := false, grant := a
                     vconn := q.ra && !q.vconnFault && (s.value .typecVconnEn 0).getLsbD (ch - 1)
                     bus := { q.bus with overCurrent := false, awaitsPower := false }
                     pd := { q.pd with reserved := a, arrived := false, cable := false, noP1 := false } }).onChan ch fun c =>
            c.wentOn true (v.led.next + 1)) u
          [noteOf h.tag false 0 blkAllot .allotChange ch (b8 0 ++ b16 0 ++ b16 a ++ b16 (s.remaining - a) ++ b8 0),
           note .chanOn (b8 0 ++ b8 0)]) ∧
    (isPort ch = true → s.NoneWaits → s.Plain ch → (s.chan ch).state.active = true → 0 < (s.port ch).grant →
      s.Carries (.chanOff h (b8 ch)) fun _ u =>
        ∃ t, Tells t u [note .chanOff (b8 0), noteOf h.tag false 0 blkAllot .allotChange ch
            (b8 2 ++ b16 (s.port ch).grant ++ b16 0 ++ b16 t.remaining ++ b8 0)] ∧
          (t.port ch).grant = 0 ∧ (t.port ch).attached = (s.port ch).attached ∧ (t.port ch).vconn = false ∧
          (t.port ch).pd.contract = none ∧ (t.port ch).waiting = false ∧ (t.port ch).shed = false ∧
          t.chan ch = off (s.chan ch) ∧ t.mode = s.mode ∧
          ∀ q, isPort q = true → q ≠ ch → t.port q = s.port q ∧ t.chan q = s.chan q) ∧
    (isPort ch = true → s.NoneWaits → s.NoOp (.port ch) → (s.chan ch).state = .off → 0 < (s.port ch).grant →
      s.Carries (.chanOff h (b8 ch)) fun v u =>
        let t := ((v.onPort ch fun q =>
            { q with grant := 0, claim := 0, waiting := false, shed := false
                     bus := { q.bus with cyclePower := false, awaitsPower := false } }).onChan ch fun c => { c with retries := 0 }).onPw
              fun w => { w with shedOrder := w.shedOrder.filter (· != ch) }
        Tells t u [noteOf h.tag false 0 blkAllot .allotChange ch
          (b8 2 ++ b16 (s.port ch).grant ++ b16 0 ++ b16 t.remaining ++ b8 0)])

/-- R197, R204, R206, R208 to R211: PD_RENEGOTIATE, PD_HARD_RESET, PD_VDM_SEND, PD_MODE_ENTER and PD_MODE_EXIT. -/
def Obligations.PdCommands : Prop :=
  ∀ (s : State) (h : CmdHeader) (p : Nat), isPort p = true →
    let begins := fun (v : State) (o : Opcode) (l : List Byte) =>
      { v with ops := v.ops ++ [v.operation (extClient h.client) (headerCommand h o l)] }
    (h.allowProvisional = false → (s.port p).pd.phase = .ready → (s.port p).pd.provCaps = none → (s.port p).grant = s.ceiling p → 45 ≤ s.ceiling p →
      s.ceiling p ≤ s.remaining + (s.port p).grant → s.Carries (.pdRenegotiate h (b8 p)) fun v u =>
        u = (begins v .pdRenegotiate (b8 p)).onPd p fun d =>
          { d with reserved := (s.port p).grant, arrived := false, readvertise := true }) ∧
    (s.Plain p → (s.port p).pd.wait = .none → (s.port p).pd.phase ≠ .hardReset → (s.port p).grant = s.nextGrant p →
      s.Carries (.pdHardReset h (b8 p)) fun v u =>
        Tells ((((begins v .pdHardReset (b8 p)).onPort p fun q =>
            { q with vconn := false, pd := { q.pd.startHardReset with reserved := q.grant, arrived := false } }).onChan p fun c =>
            { c with leg := none, gate := none, gateCheck := false }).answering (.pd p 7)) u
          [noteOf h.tag false (combOf p) blkPd .pdHardreset p (b8 2 ++ b16 0)]) ∧
    (∀ (sop : Nat) (l : List Word), sop ≤ 2 → 1 ≤ l.length → l.length ≤ 7 →
      let bytes := b8 p ++ b8 sop ++ b8 l.length ++ b8 0 ++ l.flatMap fun w => b32 w.toNat
      s.Carries (.pdVdmSend h bytes) fun v u =>
        let x := l.headD 0
        u = ((begins v .pdVdmSend bytes).onPd p fun d =>
          { d with wait := if vdmStructured x = true ∧ vdmType x = 0 ∧ vdmCmd x ≠ 6 then .request sop (vdmCmd x) (vdmSvid x)
                           else .plain }).answering (.pd p 10)) ∧
    (∀ svid pos seg, svid < 2 ^ 16 → pos ≤ 255 → seg ≤ 255 →
      let bytes := b8 p ++ b8 0 ++ b16 svid ++ b8 pos ++ b8 seg
      let asks := fun (v u : State) (k : Nat) =>
        u = ((begins v .pdModeEnter bytes).onPd p fun d => { d with wait := .enter k svid pos seg }).answering (.pd p 10)
      s.Carries (.pdModeEnter h bytes) fun v u =>
        ((s.port p).pd.gotIdentity = false → asks v u 1) ∧
        ((s.port p).pd.gotIdentity = true → (s.port p).pd.svids = none → asks v u 2) ∧
        (∀ l, (s.port p).pd.gotIdentity = true → (s.port p).pd.svids = some l → l.contains svid = true →
          (∀ x ∈ (s.port p).pd.modes, x.1 ≠ svid) → asks v u 3) ∧
        (∀ l ms m, (s.port p).pd.gotIdentity = true → (s.port p).pd.svids = some l → l.contains svid = true →
          (s.port p).pd.modes.find? (fun x => x.1 == svid) = some (svid, ms) → ms[pos - 1]? = some m →
          svid ≠ s.nat .vdmWaggleSvid 0 ∨ (m &&& 0xFF).toNat = s.nat .vdmWaggleMode 0 → asks v u 4)) ∧
    (∀ m : AltMode, (s.port p).pd.mode = some m → s.Carries (.pdModeExit h (b8 p)) fun v u =>
      ((s.port p).pd.sbuClosed = true → u = (begins v .pdModeExit (b8 p)).onPd p fun d => { d with wait := .exitOpen }) ∧
      (m.seg = none → (s.port p).pd.sbuClosed = false →
        u = ((begins v .pdModeExit (b8 p)).onPd p fun d => { d with sbuClosing := false, wait := .exit }).answering (.pd p 10)))

/-- R254, R268: a TWI_XFER joins the queue of its segment; TWI_RECOVER drops what its segment runs and waits for the bus to be
free. -/
def Obligations.SegmentCommands : Prop :=
  ∀ (s : State) (h : CmdHeader) (n : Nat), n ≤ 3 →
    (∀ (addr again count : Nat) (l : List Byte), addr ≤ 127 → again ≤ 1 → count ≤ 256 → l.length ≤ 255 →
      let bytes := b8 n ++ b8 addr ++ b8 again ++ b8 l.length ++ b16 count ++ l
      s.Carries (.twiXfer h bytes) fun v u =>
        u = v.onSeg n fun g => { g with queue := g.queue ++
          [⟨v.operation (extClient h.client) (headerCommand h .twiXfer bytes), addr, again == 1, l, count, 0, [], 0, 0⟩] }) ∧
    ((s.seg n).running = none → (s.seg n).queue = [] → (s.seg n).recoverOp = none → s.Carries (.twiRecover h (b8 n)) fun v u =>
      u = v.onSeg n fun g =>
        { g with attention := false, stretched := false, recovery := .waitFree, pulsesDone := 0
                 recoverOp := some (v.operation (extClient h.client) (headerCommand h .twiRecover (b8 n))) })

/-! Forager, and the supply of the pads (chapters 01, 13, 17). -/

/-- R281 to R285, R305: a cycle starts with the first test that is selected and that the mode admits; a slice is counted, and a
finding is `FORAGER_FAIL` once for each item, a tap that passes is open no more, and what lies on a die that is gone is skipped; but one of the parity of Hive's own parameters is the L1 reset, in which
that entry is lost with the ring; a TEST_RUN ends with its result. While VIO33 is low a GPIO pad is
hi-Z whatever its fuse state, and when it returns so does the pad. -/
def Obligations.ForagerAndPadSupply : Prop :=
  ∀ s : State, s.Rested →
    (∀ n, s.listening = true → s.foragerOn = true → s.forager.test = 0 → 1 ≤ n → n ≤ 12 →
      (s.value .foragerTestMask 0).getLsbD n = true → s.mode.tests n = true →
      (n = 9 ∨ n = 10 → 0 < s.cells) →
      (∀ k, 1 ≤ k → k < n → (s.value .foragerTestMask 0).getLsbD k = false ∨ s.mode.tests k = false ∨
        ((k = 9 ∨ k = 10) ∧ s.cells = 0)) →
      s.Acts .foragerCycleStart fun u => u = s.onForager fun f =>
        { f with cycleStart := s.ember.ms, failing := 0, test := n, item := true, firstFail := none, slices := 0 }) ∧
    (∀ r : SliceResult, (Instr.foragerSlice r).wf = true → s.listening = true → s.foragerOn = true → s.forager.item = true →
      s.forager.test = r.test → s.mode.tests r.test = true → s.io.waiting = [] → r.last = false →
      (r.result ≠ 1 → r.test ≠ 9 → s.Acts (.foragerSlice r) fun u => u = s.onForager fun f => { f with slices := f.slices + 1 }) ∧
      (5 ≤ r.test → r.test ≤ 10 → s.dieGone 3 = true → s.Acts (.foragerSlice r) fun u =>
        u = s.onForager fun f => { f with slices := f.slices + 1 }) ∧
      (r.result = 0 → r.test = 9 → r.item.toNat ≤ s.cells → s.dieGone 3 = false → s.blockDown 3 blkStore = false →
        s.Acts (.foragerSlice r) fun u => u.led.ring = s.led.ring ∧
          u.store = { s.store with tapsOpen := s.store.tapsOpen &&& ~~~(tapBit r.item.toNat) }) ∧
      (r.result = 1 → r.test = 3 → r.detail.toNat % 4 = 0 → s.Acts (.foragerSlice r) fun u =>
        u.mode = .boot ∧ u.led.ring = [] ∧ u.ember.cause = s.ember.cause ||| 0x40 ∧
          u.ember.detail = BitVec.ofNat 32 (6 * 0x1000000 + r.item.toNat % 0x10000)) ∧
      (r.result = 1 → r.test = 3 → r.detail.toNat % 4 ≠ 0 → (s.forager.recorded.contains (3, r.item.toNat)) = false →
        s.Acts (.foragerSlice r) fun u =>
          ∃ l, Logs s u (noteOf 0xFFFF true 0 blkForager .foragerFail 3 (b32 r.item.toNat ++ b16 0) :: l)) ∧
      (r.result = 1 → r.test = 12 → (s.forager.recorded.contains (12, r.item.toNat)) = false → s.faultOpen 0x070C 0 = false →
        s.Acts (.foragerSlice r) fun u => ∃ l, Logs s u
          (noteOf 0xFFFF true 0 blkForager .foragerFail 12 (b32 r.item.toNat ++ b16 0x070C) :: l))) ∧
    (∀ (o : PendingOp) (item : Word), s.Open → s.ops.filter (fun o => o.subject == .test) = [o] → o.quiet = false →
      s.forager.runTest ≠ 0x20 →
      let rest := fun (t : State) => { t with ops := t.ops.filter fun o => !(o.subject == .test) }
      let done := fun (st : Status) =>
        noteOf o.tag true 0 blkCmd .cmdComplete o.number (b16 o.op.code ++ b8 o.client.code ++ b8 st.code ++ leBytes 6 o.count)
      s.Does (.testComplete true item) (fun u =>
        Tells (rest (s.onForager fun f => { f with runState := 2, runItem := 0 })) u [done .done]) ∧
      s.Does (.testComplete false item) (fun u =>
        Tells (rest (s.onForager fun f => { f with runState := 3, runItem := item })) u
          [noteOf o.tag true 0 blkForager .foragerFail s.forager.runTest (b32 item.toNat ++ b16 0), done .fault])) ∧
    s.Acts .vio33Low (fun u => u = s.onEmber (fun e => { e with vio33Low := true }) ∧ ∀ i, i < 24 → u.pad i = .hiZ) ∧
    s.Acts .vio33Restored (fun u => u = s.onEmber (fun e => { e with vio33Low := false }) ∧
      ∀ i, i < 24 → u.pad i = if s.padsDark = true then .hiZ else padOfCode (s.padCode i))

/-! The machine. -/

/-- A step takes the command at the front of the queue and is its `exec` with the rest of the queue. On an empty queue the block
idles, which is the model's choice (log 4). -/
def Obligations.StepTakesTheFront : Prop :=
  (∀ (c : Instr) (l : List Instr) (s : State), step { s with pending := c :: l } = exec c { s with pending := l }) ∧
  ∀ s : State, s.pending = [] → step s = .next s

/-- R24, R25, R84, R95, R183, R295: what the machine is right after reset: BOOT, `RESET.CAUSE` POR, an empty ledger, every
parameter at its after-reset value, every channel off and every port free, SB_OFF asserted. The invariant holds there. -/
def Obligations.ResetState : Prop :=
  State.reset.Inv ∧ State.reset.mode = .boot ∧ State.reset.ember.cause = 1 ∧ State.reset.led.ring = [] ∧
    State.reset.cfg.state = .defaults ∧ State.reset.spine.epoch = 0 ∧ State.reset.sbOff = true ∧ State.reset.pending = [] ∧
    State.reset.ops = [] ∧ State.reset.ember.stretch = 10 ∧ State.reset.pw.hostVotes = 0 ∧
    (∀ (p : Param) (n : Nat), n ≤ 255 → State.reset.value p n = p.info.reset) ∧
    (∀ p, isPort p = true → (State.reset.port p).attached = false ∧ (State.reset.port p).grant = 0 ∧
      (State.reset.port p).pd.contract = none) ∧
    (∀ ch, isChan ch = true → (State.reset.chan ch).state = .off ∧ (State.reset.chan ch).retries = 0 ∧
      (State.reset.chan ch).lock = none)

/-- R20, R22, R24, R32, R45, R295: what every step keeps, from every state and not only from those that a run reaches: at most
4096 entries, 64 records and 32 messages are held, the counts of the ring follow on without a gap, the parameter values, the flash
and the retained memory are in canonical form, and the mode is never IDLE. -/
def Obligations.InvariantIsKept : Prop :=
  ∀ s t : State, s.Inv → step s = .next t → t.Inv

/-- Nothing stops the block: every step ends in a next state, and takes exactly the command at the front of the queue, whatever
that command sets off. -/
def Obligations.NothingStops : Prop :=
  ∀ s : State, ∃ t, step s = .next t ∧ t.pending = s.pending.tail

/-- R80, R81: a customer fuse bank once programmed is never programmed again, by no command and through no trigger list; the
serial number and the version of the ROM firmware never change. -/
def Obligations.FusesAreProgrammedOnce : Prop :=
  ∀ s t : State, step s = .next t →
    t.ident.serial = s.ident.serial ∧ t.ident.romVersion = s.ident.romVersion ∧
    (s.ember.fuseBurn ≠ 0 → t.ember.fuseBank = s.ember.fuseBank ∧ t.ember.fuseBurn = s.ember.fuseBurn)

/-- R59, R76, R90, R96, R111, R122: where nothing reaches Hive, nothing changes: a command while Hive does not run or its client has
no slot, an event of an operand out of its range, and an event of a detector whose block is inside a reset or whose die is
quarantined, but that a mailbox may answer NACK; an event of an absent die is held there, up to 64. -/
def Obligations.WhatIsNotHeardChangesNothing : Prop :=
  ∀ (s : State) (i : Instr),
    (∀ h op p, commandOf i = some (h, op, p) → s.hiveRuns = false ∨ s.room h.client = false → exec i s = .next s) ∧
    (commandOf i = none → i.wf = false → exec i s = .next s) ∧
    (∀ d b, eventSource i = some (d, b) → s.phase = .up → (s.die d).quarantined = true ∨ s.blockDown d b = true →
      ((∀ n l, i ≠ .mailboxWrite n l) → exec i s = .next s) ∧
      (∀ n l, i = .mailboxWrite n l → exec i s = .next s ∨ exec i s = .next (s.answering .nak))) ∧
    (∀ d b, eventSource i = some (d, b) → i.wf = true → s.phase = .up → s.mode = .run →
      (s.die d).absent = true → (s.die d).quarantined = false → s.blockDown d b = false →
      exec i s = .next (s.onDie d fun x =>
        if x.heldEvents.length < 64 then { x with heldEvents := x.heldEvents ++ [i] }
        else { x with lostEvents := x.lostEvents + 1 }))

end
end

