-- ==== Sys2Proof/Laws/Closed.lean ====
section
/-! SUPPORT. What a step can do to the guarded part of the state, said once: a property that is closed under the few operations that touch it is kept by every function of the model, and so by every command. -/

namespace Sys2Proof.Machine

/-- The part of the state that few operations touch, without the mode and the mode a sleep state left. -/
structure Guard where
  pending : List Instr
  next : Nat
  ring : List Entry
  q61 : List LossRecord
  q62 : List VdmMessage
  flash : List Host.Cell
  retained : List Host.Cell
  fuseBank : List Byte
  fuseBurn : Nat
  values : List (Nat × Word)
  serial : BitVec 64
  romVersion : BitVec 16

/-- The guarded part of a state. -/
@[reducible] def State.guard (s : State) : Guard :=
  ⟨s.pending, s.led.next, s.led.ring, s.led.q61, s.led.q62, s.flash, s.ember.retained, s.ember.fuseBank,
   s.ember.fuseBurn, s.prm.values, s.ident.serial, s.ident.romVersion⟩

/-- A property of states that the operations on the guarded part keep. -/
structure Closed (P : State → Prop) : Prop where
  same : ∀ s t : State, t.guard = s.guard → t.mode = s.mode → t.pw.left = s.pw.left → P s → P t
  mode : ∀ s t : State, t.guard = s.guard →
    t.mode = s.mode ∨ t.mode = s.pw.left ∨ t.mode ≠ .idle →
    t.pw.left = s.mode ∨ t.pw.left = s.pw.left ∨ t.pw.left ≠ .idle → P s → P t
  append : ∀ (s : State) (ext : Bool) (die block : Nat) (k : Kind) (subject : Nat) (data : List Byte),
    P s → P (s.append ext die block k subject data)
  led : ∀ (s : State) (l : Ledger), l.next = s.led.next → l.ring = s.led.ring →
    l.q61.length ≤ max 64 s.led.q61.length → l.q62.length ≤ max 32 s.led.q62.length → P s → P { s with led := l }
  newLed : ∀ (s : State) (l : Ledger), l.next = 0 → l.ring = [] → l.q61 = [] → l.q62 = [] → P s → P { s with led := l }
  erase : ∀ (s : State) (a n : Nat), P s → P (s.eraseFlash a n)
  program : ∀ (s : State) (a : Nat) (l : List Byte), P s → P (s.programFlash a l)
  retain : ∀ (s : State) (a : Nat) (l : List Byte), P s →
    P (s.onEmber fun e => { e with retained := writeBytes retainedDefault e.retained a l })
  set : ∀ (s : State) (p : Param) (i : Nat) (v : Word), P s → P (s.setValue p i v)
  setAll : ∀ (s t : State) (l : List (Nat × Word)), t.guard = { s.guard with values := setAll s.prm.values l } →
    t.mode = s.mode → t.pw.left = s.pw.left → P s → P t
  fresh : ∀ (s t : State) (l : List (Nat × Word)), t.guard = { s.guard with values := Machine.setAll [] l } →
    t.mode = s.mode → t.pw.left = s.pw.left → P s → P t
  burn : ∀ (s : State) (l : List Byte), s.ember.fuseBurn = 0 → P s → P (s.onEmber fun e => { e with fuseBank := l, fuseBurn := 1 })
  spend : ∀ s : State, s.ember.fuseBurn = 0 → P s → P (s.onEmber fun e => { e with fuseBurn := 2 })
  reset : ∀ s t : State,
    t.guard = { s.guard with next := 0, ring := [], q61 := [], q62 := [], values := [], retained := t.ember.retained } →
    t.ember.retained = s.ember.retained ∨ t.ember.retained = [] → t.mode ≠ .idle → t.pw.left ≠ .idle → P s → P t

end Sys2Proof.Machine
end

