-- ==== Sys2Proof/Laws/KeepOps.lean ====
section
/-! SUPPORT. The named operations of Machine/Ops.lean keep a closed property. -/

namespace Sys2Proof.Machine

variable {P : State → Prop} {s : State}

theorem ite_keeps {b : Prop} {_ : Decidable b} {s t : State} (hs : P s) (ht : P t) : P (if b then s else t) := by
  split <;> assumption

theorem bind_keeps {y : State} {Q : Prop} (hy : P y) (hq : P y → Q) : Q := hq hy

theorem pair_keeps {α : Type} {x : α × State} {a : α} {t : State} (e : x = (a, t)) (h : P x.2) : P t := by
  subst e
  exact h

theorem foldl_keeps {α : Type} {l : List α} {f : State → α → State} (hf : ∀ s a, P s → P (f s a)) (h : P s) :
    P (l.foldl f s) := by
  induction l generalizing s with
  | nil => exact h
  | cons a l ih => exact ih (hf s a h)

theorem each_keeps {l : List Nat} {f : Nat → State → State} (hf : ∀ s n, P s → P (f n s)) (h : P s) : P (s.each l f) :=
  foldl_keeps (f := fun s n => f n s) hf h

theorem when_keeps {b : Bool} {f : State → State} (hf : ∀ s, P s → P (f s)) (h : P s) : P (s.when b f) := by
  unfold State.when
  split
  · exact hf s h
  · exact h

/-- A change of nothing that is guarded. -/
theorem Closed.free (c : Closed P) {s t : State} (h : P s) (g : t.guard = s.guard) (m : t.mode = s.mode)
    (l : t.pw.left = s.pw.left) : P t := c.same s t g m l h

/-- The unguarded fields of a state replaced; the unifier finds the state that was changed. -/
theorem Closed.put (c : Closed P) {s : State} {free phase io prm cfg trig ops spine ports tts chans rails store segs forager hub seen}
    (hp : prm.values = s.prm.values) (h : P s) :
    P { s with free := free, phase := phase, io := io, prm := prm, cfg := cfg, trig := trig, ops := ops, spine := spine,
               ports := ports, tts := tts, chans := chans, rails := rails, store := store, segs := segs,
               forager := forager, hub := hub, seen := seen } :=
  c.same s _ (by simp [State.guard, hp]) rfl rfl h

theorem setPort_keeps (c : Closed P) (n : Nat) (p : Port) (h : P s) : P (s.setPort n p) := by
  unfold State.setPort
  split
  · exact h
  · exact c.free h rfl rfl rfl
theorem onPort_keeps (c : Closed P) (n : Nat) (f : Port → Port) (h : P s) : P (s.onPort n f) := setPort_keeps c n _ h
theorem onBus_keeps (c : Closed P) (n : Nat) (f : Bus → Bus) (h : P s) : P (s.onBus n f) := onPort_keeps c n _ h
theorem onPd_keeps (c : Closed P) (n : Nat) (f : Pd → Pd) (h : P s) : P (s.onPd n f) := onPort_keeps c n _ h
theorem setChan_keeps (c : Closed P) (n : Nat) (x : Chan) (h : P s) : P (s.setChan n x) := by
  unfold State.setChan
  split
  · exact h
  · exact c.free h rfl rfl rfl
theorem onChan_keeps (c : Closed P) (n : Nat) (f : Chan → Chan) (h : P s) : P (s.onChan n f) := setChan_keeps c n _ h
theorem onTt_keeps (c : Closed P) (n : Nat) (f : Tt → Tt) (h : P s) : P (s.onTt n f) := by
  unfold State.onTt
  split
  · exact h
  · exact c.free h rfl rfl rfl
theorem onSeg_keeps (c : Closed P) (n : Nat) (f : Seg → Seg) (h : P s) : P (s.onSeg n f) := c.free h rfl rfl rfl
theorem onSpine_keeps (c : Closed P) (f : Spine → Spine) (h : P s) : P (s.onSpine f) := c.free h rfl rfl rfl
theorem onDie_keeps (c : Closed P) (n : Nat) (f : Die → Die) (h : P s) : P (s.onDie n f) := c.free h rfl rfl rfl
theorem onLink_keeps (c : Closed P) (n : Nat) (f : Link → Link) (h : P s) : P (s.onLink n f) := c.free h rfl rfl rfl
theorem onIo_keeps (c : Closed P) (f : Transports → Transports) (h : P s) : P (s.onIo f) := c.free h rfl rfl rfl
theorem onHub_keeps (c : Closed P) (f : Hub → Hub) (h : P s) : P (s.onHub f) := c.free h rfl rfl rfl
theorem onStore_keeps (c : Closed P) (f : Store → Store) (h : P s) : P (s.onStore f) := c.free h rfl rfl rfl
theorem onForager_keeps (c : Closed P) (f : Forager → Forager) (h : P s) : P (s.onForager f) := c.free h rfl rfl rfl
theorem onCfg_keeps (c : Closed P) (f : Cfg → Cfg) (h : P s) : P (s.onCfg f) := c.free h rfl rfl rfl
theorem answering_keeps (c : Closed P) (a : Answer) (h : P s) : P (s.answering a) := onIo_keeps c _ h

theorem onPw_keeps (c : Closed P) (f : Power → Power) (hf : (f s.pw).left = s.pw.left) (h : P s) : P (s.onPw f) :=
  c.free h rfl rfl hf

theorem onEmber_keeps (c : Closed P) (f : Ember → Ember) (h1 : (f s.ember).retained = s.ember.retained)
    (h2 : (f s.ember).fuseBank = s.ember.fuseBank) (h3 : (f s.ember).fuseBurn = s.ember.fuseBurn) (h : P s) :
    P (s.onEmber f) := c.free h (by simp [State.onEmber, h1, h2, h3]) rfl rfl

/-- The parts of the ledger that are not guarded changed. -/
theorem onLed_keeps (c : Closed P) (f : Ledger → Ledger) (h1 : (f s.led).next = s.led.next)
    (h2 : (f s.led).ring = s.led.ring) (h3 : (f s.led).q61 = s.led.q61) (h4 : (f s.led).q62 = s.led.q62) (h : P s) :
    P (s.onLed f) := c.led s _ h1 h2 (by simp [h3]) (by simp [h4]) h

theorem fresh_keeps (c : Closed P) (h : P s) : P s.fresh.2 := c.free h rfl rfl rfl
theorem passTime_keeps (c : Closed P) (h : P s) : P s.passTime := c.free h rfl rfl rfl
theorem tagged_keeps (c : Closed P) (t : BitVec 16) (h : P s) : P (s.tagged t) := c.free h rfl rfl rfl
theorem setValue_keeps (c : Closed P) (p : Param) (i : Nat) (v : Word) (h : P s) : P (s.setValue p i v) := c.set s p i v h
theorem append_keeps (c : Closed P) (ext : Bool) (die block : Nat) (k : Kind) (subject : Nat) (data : List Byte) (h : P s) :
    P (s.append ext die block k subject data) := c.append s ext die block k subject data h

theorem violation_keeps (c : Closed P) (die block code subject : Nat) (l : List Byte) (h : P s) :
    P (s.violation die block code subject l) := c.append _ _ _ _ _ _ _ h
theorem fault_keeps (c : Closed P) (ext : Bool) (die block code subject : Nat) (l : List Byte) (h : P s) :
    P (s.fault ext die block code subject l) := c.append _ _ _ _ _ _ _ h
theorem latch_keeps (c : Closed P) (ext : Bool) (die block code subject : Nat) (l : List Byte) (h : P s) :
    P (s.latch ext die block code subject l) := by
  unfold State.latch
  split
  · exact h
  · exact onLed_keeps c _ rfl rfl rfl rfl (c.append _ _ _ _ _ _ _ h)
theorem unlatch_keeps (c : Closed P) (sel : OpenFault → Bool) (h : P s) : P (s.unlatch sel) :=
  onLed_keeps c _ rfl rfl rfl rfl h
theorem completion_keeps (c : Closed P) (o : PendingOp) (st : Status) (ext : Bool) (h : P s) : P (s.completion o st ext) := by
  unfold State.completion
  split
  · exact h
  · exact tagged_keeps c _ (c.append _ _ _ _ _ _ _ (tagged_keeps c _ h))
theorem endOps_keeps (c : Closed P) (subj : Subject) (st : Status) (ext : Bool) (h : P s) : P (s.endOps subj st ext) :=
  foldl_keeps (fun _ _ h => completion_keeps c _ _ _ h) (c.free h rfl rfl rfl)
theorem endOpsOf_keeps (c : Closed P) (subj : Subject) (codes : List Opcode) (st : Status) (ext : Bool) (h : P s) :
    P (s.endOpsOf subj codes st ext) :=
  foldl_keeps (fun _ _ h => completion_keeps c _ _ _ h) (c.free h rfl rfl rfl)
theorem eraseFlash_keeps (c : Closed P) (a n : Nat) (h : P s) : P (s.eraseFlash a n) := c.erase s a n h
theorem programFlash_keeps (c : Closed P) (a : Nat) (l : List Byte) (h : P s) : P (s.programFlash a l) := c.program s a l h

end Sys2Proof.Machine
end

