-- ==== Sys2Proof/Laws/KeepSpine.lean ====
section
/-! SUPPORT. The functions of Machine/Spine.lean keep a closed property. -/

namespace Sys2Proof.Machine

variable {P : State → Prop} {s : State}

theorem onLane_keeps (c : Closed P) (link n : Nat) (f : Lane → Lane) (h : P s) : P (s.onLane link n f) := by
  unfold State.onLane
  repeat' first
    | with_reducible assumption
    | with_reducible apply onLink_keeps c

theorem sendFrame_keeps (hc : Closed P) (die : Nat) (c : TrafficClass) (p : Payload) (h : P s) : P (s.sendFrame die c p) := by
  unfold State.sendFrame
  repeat' first
    | with_reducible assumption
    | (lift_lets; intro y; clear_value y)
    | with_reducible apply onLink_keeps hc
    | with_reducible refine ite_keeps ?_ ?_

theorem mirrored_keeps (c : Closed P) (h : P s) : P (s.mirrored) := by
  unfold State.mirrored
  repeat' first
    | with_reducible assumption
    | with_reducible refine each_keeps (fun _ _ _ => ?_) ?_
    | with_reducible apply onDie_keeps c
    | fail_if_no_progress (with_reducible refine c.put rfl ?_)
    | with_reducible refine ite_keeps ?_ ?_

theorem takeFrame_keeps (c : Closed P) (die : Nat) (f : Frame) (h : P s) : P (s.takeFrame die f) := by
  unfold State.takeFrame
  repeat' first
    | with_reducible assumption
    | with_reducible apply onDie_keeps c
    | fail_if_no_progress (with_reducible refine c.put rfl ?_)
    | split

theorem evFrame_keeps (c : Closed P) (link : Nat) (toHive : Bool) (seq : BitVec 16) (crcOk acked : Bool) (credits : Nat) (h : P s) : P (s.evFrame link toHive seq crcOk acked credits) := by
  unfold State.evFrame
  repeat' first
    | with_reducible assumption
    | (lift_lets; intro y; clear_value y)
    | (intro y; refine bind_keeps (P := P) (y := y) ?_ ?_; (on_goal 2 => (intro _; clear_value y)); (on_goal 1 => unfold y))
    | (intro y; clear_value y)
    | with_reducible apply onSpine_keeps c
    | with_reducible apply onLink_keeps c
    | with_reducible apply takeFrame_keeps c
    | fail_if_no_progress (with_reducible refine c.put rfl ?_)
    | with_reducible refine ite_keeps ?_ ?_
    | split

end Sys2Proof.Machine
end

