-- ==== Sys2Proof/Laws/KeepRecords.lean ====
section
/-! SUPPORT. The functions of Machine/Records.lean keep a closed property. -/

namespace Sys2Proof.Machine

variable {P : State → Prop} {s : State}

theorem writeRetained_keeps (c : Closed P) (reason : Nat) (h : P s) : P (s.writeRetained reason) := by
  unfold State.writeRetained
  lift_lets
  intro _ _
  with_reducible exact c.retain s _ _ h

theorem writeTail_keeps (c : Closed P) (page : Nat) (h : P s) : P (s.writeTail page) := by
  unfold State.writeTail
  repeat' first
    | with_reducible assumption
    | (lift_lets; intro y; clear_value y)
    | (intro y; clear_value y)
    | with_reducible apply programFlash_keeps c

theorem nextBoot_keeps (c : Closed P) (h : P s) : P s.nextBoot.2 := by
  unfold State.nextBoot
  repeat' first
    | with_reducible exact h
    | with_reducible refine programFlash_keeps c _ _ ?_
    | with_reducible refine eraseFlash_keeps c _ _ ?_
    | split

end Sys2Proof.Machine
end

