-- ==== Sys2Proof/Laws/KeepAllot.lean ====
section
/-! SUPPORT. The functions of Machine/Allot.lean keep a closed property. -/

namespace Sys2Proof.Machine

variable {P : State → Prop} {s : State}

theorem setGrant_keeps (c : Closed P) (p cause new other : Nat) (h : P s) : P (s.setGrant p cause new other) := by
  unfold State.setGrant
  repeat' first
    | with_reducible assumption
    | (lift_lets; intro y; clear_value y)
    | (intro y; refine bind_keeps (P := P) (y := y) ?_ ?_; (on_goal 2 => (intro _; clear_value y)); (on_goal 1 => unfold y))
    | with_reducible apply onPort_keeps c
    | with_reducible apply append_keeps c

theorem releaseGrant_keeps (c : Closed P) (p : Nat) (h : P s) : P (s.releaseGrant p) := by
  unfold State.releaseGrant
  repeat' first
    | with_reducible assumption
    | with_reducible apply onPort_keeps c
    | with_reducible apply setGrant_keeps c
    | fail_if_no_progress (with_reducible refine c.put rfl ?_)
    | with_reducible refine ite_keeps ?_ ?_

theorem callCaps_keeps (c : Closed P) (p : Nat) (h : P s) : P (s.callCaps p) := by
  unfold State.callCaps
  repeat' first
    | with_reducible assumption
    | with_reducible apply onPort_keeps c

theorem takeFrom_keeps (c : Closed P) (p : Nat) (d : Nat × Nat) (h : P s) : P (s.takeFrom p d) := by
  unfold State.takeFrom
  repeat' first
    | with_reducible assumption
    | (lift_lets; intro y; clear_value y)
    | (intro y; refine bind_keeps (P := P) (y := y) ?_ ?_; (on_goal 2 => (intro _; clear_value y)); (on_goal 1 => unfold y))
    | with_reducible apply onPort_keeps c
    | with_reducible apply setGrant_keeps c
    | with_reducible apply callCaps_keeps c

theorem reserve_keeps (c : Closed P) {p : Nat} {reclaim : Bool} {t : State} (ht : s.reserve p reclaim = some t) (h : P s) :
    P t := by
  unfold State.reserve at ht
  extract_lets _ _ plan a u at ht
  have hu : P u := foldl_keeps (fun _ _ h => takeFrom_keeps c _ _ h) h
  clear_value u
  split at ht
  · exact absurd ht (by simp)
  · obtain rfl := Option.some.inj ht
    exact ite_keeps hu (setGrant_keeps c _ _ _ _ hu)

theorem reserveAgain_keeps (c : Closed P) (p : Nat) (h : P s) : P (s.reserveAgain p) := by
  unfold State.reserveAgain
  repeat' first
    | with_reducible assumption
    | (lift_lets; intro y; clear_value y)
    | (intro y; refine bind_keeps (P := P) (y := y) ?_ ?_; (on_goal 2 => (intro _; clear_value y)); (on_goal 1 => unfold y))
    | with_reducible apply setGrant_keeps c
    | with_reducible apply onPd_keeps c
    | fail_if_no_progress (with_reducible refine c.put rfl ?_)
    | with_reducible refine ite_keeps ?_ ?_

theorem chanOffEntry_keeps (c : Closed P) (ch cause : Nat) (external : Bool) (h : P s) : P (s.chanOffEntry ch cause external) := by
  unfold State.chanOffEntry
  repeat' first
    | with_reducible assumption
    | with_reducible apply append_keeps c

theorem openLegs_keeps (c : Closed P) (ch : Nat) (h : P s) : P (s.openLegs ch) := by
  unfold State.openLegs
  repeat' first
    | with_reducible assumption
    | with_reducible apply onChan_keeps c

theorem chanDown_keeps (c : Closed P) (ch cause : Nat) (external : Bool) (h : P s) : P (s.chanDown ch cause external) := by
  unfold State.chanDown
  repeat' first
    | with_reducible assumption
    | (lift_lets; intro y; refine bind_keeps (P := P) (y := y) ?_ ?_; (on_goal 2 => (intro _; clear_value y)); (on_goal 1 => unfold y))
    | with_reducible apply openLegs_keeps c
    | with_reducible apply onChan_keeps c
    | with_reducible apply chanOffEntry_keeps c
    | fail_if_no_progress (with_reducible refine c.put rfl ?_)
    | with_reducible refine ite_keeps ?_ ?_

theorem chanUp_keeps (c : Closed P) (ch cause : Nat) (external : Bool) (h : P s) : P (s.chanUp ch cause external) := by
  unfold State.chanUp
  repeat' first
    | with_reducible assumption
    | (lift_lets; intro y; refine bind_keeps (P := P) (y := y) ?_ ?_; (on_goal 2 => (intro _; clear_value y)); (on_goal 1 => unfold y))
    | (intro y; refine bind_keeps (P := P) (y := y) ?_ ?_; (on_goal 2 => (intro _; clear_value y)); (on_goal 1 => unfold y))
    | with_reducible refine when_keeps (fun _ _ => ?_) ?_
    | with_reducible apply onChan_keeps c
    | with_reducible apply onBus_keeps c
    | with_reducible apply append_keeps c

theorem stagePad_keeps (c : Closed P) (ch : Nat) (on : Bool) (h : P s) : P (s.stagePad ch on) := by
  unfold State.stagePad
  repeat' first
    | with_reducible assumption
    | with_reducible refine onEmber_keeps c _ rfl rfl rfl ?_

theorem surplusEntries_keeps (c : Closed P) (n seg addr : Nat) (l : List Byte) (h : P s) :
    P (State.surplusEntries n s seg addr l) := by
  induction n generalizing s l with
  | zero => exact h
  | succ n ih =>
    unfold State.surplusEntries
    split
    · exact h
    · exact ih _ (append_keeps c _ _ _ _ _ _ h)

theorem surplusOf_keeps (c : Closed P) (seg addr : Nat) (bytes : List Byte) (h : P s) : P (s.surplusOf seg addr bytes) := by
  unfold State.surplusOf
  repeat' first
    | with_reducible assumption
    | with_reducible apply surplusEntries_keeps c

theorem endTransfer_keeps (c : Closed P) (seg : Nat) (t : Transfer) (st : Status) (bytes : List Byte) (external : Bool) (h : P s) : P (s.endTransfer seg t st bytes external) := by
  unfold State.endTransfer
  repeat' first
    | with_reducible assumption
    | (lift_lets; intro y; clear_value y)
    | (intro y; refine bind_keeps (P := P) (y := y) ?_ ?_; (on_goal 2 => (intro _; clear_value y)); (on_goal 1 => unfold y))
    | with_reducible apply tagged_keeps c
    | with_reducible apply surplusOf_keeps c
    | with_reducible apply onSeg_keeps c
    | with_reducible apply completion_keeps c

theorem ackedBytes_keeps (c : Closed P) (t : Transfer) (h : P s) : P (s.ackedBytes t).2 := c.free h rfl rfl rfl

theorem failTransfer_keeps (c : Closed P) (seg reason : Nat) (acked : Option Nat) (h : P s) : P (s.failTransfer seg reason acked) := by
  unfold State.failTransfer
  split
  · exact h
  · refine endTransfer_keeps c _ _ _ _ _ (onSeg_keeps c _ _ ?_)
    split
    · exact h
    · exact ackedBytes_keeps c _ h

theorem untether_keeps (c : Closed P) (seg : Nat) (closed : Bool) (h : P s) : P (s.untether seg closed) := by
  unfold State.untether
  repeat' first
    | with_reducible assumption
    | (lift_lets; intro y; refine bind_keeps (P := P) (y := y) ?_ ?_; (on_goal 2 => (intro _; clear_value y)); (on_goal 1 => unfold y))
    | with_reducible apply onSeg_keeps c
    | with_reducible apply failTransfer_keeps c
    | fail_if_no_progress (with_reducible refine c.put rfl ?_)
    | with_reducible refine ite_keeps ?_ ?_

theorem pdEntry_keeps (c : Closed P) (p : Nat) (external : Bool) (k : Kind) (data : List Byte) (h : P s) : P (s.pdEntry p external k data) := by
  unfold State.pdEntry
  repeat' first
    | with_reducible assumption
    | with_reducible apply append_keeps c

theorem provEntry_keeps (c : Closed P) (p : Nat) (k : Kind) (data : List Byte) (h : P s) : P (s.provEntry p k data) := by
  unfold State.provEntry
  repeat' first
    | with_reducible assumption
    | with_reducible apply append_keeps c

theorem closeP1_keeps (c : Closed P) (p grant : Nat) (h : P s) : P (s.closeP1 p grant) := by
  unfold State.closeP1
  repeat' first
    | with_reducible assumption
    | (lift_lets; intro y; clear_value y)
    | with_reducible apply onPd_keeps c
    | with_reducible apply provEntry_keeps c
    | fail_if_no_progress (with_reducible refine c.put rfl ?_)
    | with_reducible refine ite_keeps ?_ ?_

theorem exitMode_keeps (c : Closed P) (p : Nat) (h : P s) : P (s.exitMode p) := by
  unfold State.exitMode
  repeat' first
    | with_reducible assumption
    | (lift_lets; intro y; refine bind_keeps (P := P) (y := y) ?_ ?_; (on_goal 2 => (intro _; clear_value y)); (on_goal 1 => unfold y))
    | (lift_lets; intro y; clear_value y)
    | (intro y; refine bind_keeps (P := P) (y := y) ?_ ?_; (on_goal 2 => (intro _; clear_value y)); (on_goal 1 => unfold y))
    | with_reducible apply onPd_keeps c
    | with_reducible apply pdEntry_keeps c
    | with_reducible apply untether_keeps c
    | fail_if_no_progress (with_reducible refine c.put rfl ?_)
    | split

theorem endPower_keeps (c : Closed P) (p : Nat) (h : P s) : P (s.endPower p) := by
  unfold State.endPower
  repeat' first
    | with_reducible assumption
    | with_reducible apply exitMode_keeps c
    | with_reducible apply onPort_keeps c

end Sys2Proof.Machine
end

