-- ==== Sys2Proof/Laws/KeepCaps.lean ====
section
/-! SUPPORT. The functions of Machine/Caps.lean keep a closed property. -/

namespace Sys2Proof.Machine

variable {P : State → Prop} {s : State}

theorem sends_keeps (c : Closed P) (p msg : Nat) (h : P s) : P (s.sends p msg) := by
  unfold State.sends
  repeat' first
    | with_reducible assumption
    | with_reducible apply answering_keeps c

theorem sendSet_keeps (c : Closed P) (p : Nat) (l : List Pdo) (provisional : Bool) (h : P s) : P (s.sendSet p l provisional) := by
  unfold State.sendSet
  repeat' first
    | with_reducible assumption
    | with_reducible apply onPd_keeps c
    | with_reducible apply sends_keeps c

theorem sendCaps_keeps (c : Closed P) (p : Nat) (h : P s) : P (s.sendCaps p) := by
  unfold State.sendCaps
  repeat' first
    | with_reducible assumption
    | with_reducible apply sendSet_keeps c

theorem sendDue_keeps (c : Closed P) (p : Nat) (h : P s) : P (s.sendDue p) := by
  unfold State.sendDue
  repeat' first
    | with_reducible assumption
    | (lift_lets; intro y; clear_value y)
    | with_reducible apply sendCaps_keeps c
    | with_reducible apply sendSet_keeps c
    | with_reducible apply onPd_keeps c
    | fail_if_no_progress (with_reducible refine c.put rfl ?_)
    | with_reducible refine ite_keeps ?_ ?_
    | split

theorem pdIdle_keeps (c : Closed P) (p : Nat) (h : P s) : P (s.pdIdle p) := by
  unfold State.pdIdle
  repeat' first
    | with_reducible assumption
    | (lift_lets; intro y; refine bind_keeps (P := P) (y := y) ?_ ?_; (on_goal 2 => (intro _; clear_value y)); (on_goal 1 => unfold y))
    | (intro y; clear_value y)
    | with_reducible apply onPd_keeps c
    | with_reducible apply sendDue_keeps c
    | fail_if_no_progress (with_reducible refine c.put rfl ?_)
    | with_reducible refine ite_keeps ?_ ?_

theorem issueP1_keeps (c : Closed P) (p : Nat) (h : P s) : P (s.issueP1 p) := by
  unfold State.issueP1
  repeat' first
    | with_reducible assumption
    | (lift_lets; intro y; clear_value y)
    | (intro y; refine bind_keeps (P := P) (y := y) ?_ ?_; (on_goal 2 => (intro _; clear_value y)); (on_goal 1 => unfold y))
    | (intro y; clear_value y)
    | with_reducible apply onPd_keeps c
    | with_reducible apply provEntry_keeps c
    | with_reducible apply closeP1_keeps c
    | fail_if_no_progress (with_reducible refine c.put rfl ?_)
    | with_reducible refine ite_keeps ?_ ?_

theorem vconnUp_keeps (c : Closed P) (p : Nat) (h : P s) : P (s.vconnUp p) := by
  unfold State.vconnUp
  repeat' first
    | with_reducible assumption
    | with_reducible apply onPort_keeps c

theorem negotiate_keeps (c : Closed P) (p : Nat) (p1 : Bool) (h : P s) : P (s.negotiate p p1) := by
  unfold State.negotiate
  repeat' first
    | with_reducible assumption
    | (lift_lets; intro y; refine bind_keeps (P := P) (y := y) ?_ ?_; (on_goal 2 => (intro _; clear_value y)); (on_goal 1 => unfold y))
    | (intro y; refine bind_keeps (P := P) (y := y) ?_ ?_; (on_goal 2 => (intro _; clear_value y)); (on_goal 1 => unfold y))
    | (intro y; clear_value y)
    | with_reducible apply vconnUp_keeps c
    | with_reducible apply onPd_keeps c
    | with_reducible apply issueP1_keeps c
    | fail_if_no_progress (with_reducible refine c.put rfl ?_)
    | with_reducible refine ite_keeps ?_ ?_

theorem portViolation_keeps (c : Closed P) (die block code p : Nat) (detail : List Byte) (h : P s) : P (s.portViolation die block code p detail) := by
  unfold State.portViolation
  repeat' first
    | with_reducible assumption
    | with_reducible apply violation_keeps c
    | with_reducible apply onBus_keeps c

theorem cableDone_keeps (c : Closed P) (p : Nat) (h : P s) : P (s.cableDone p) := by
  unfold State.cableDone
  repeat' first
    | with_reducible assumption
    | (lift_lets; intro y; clear_value y)
    | (intro y; refine bind_keeps (P := P) (y := y) ?_ ?_; (on_goal 2 => (intro _; clear_value y)); (on_goal 1 => unfold y))
    | (intro y; clear_value y)
    | with_reducible refine when_keeps (fun _ _ => ?_) ?_
    | with_reducible apply onPd_keeps c
    | with_reducible apply closeP1_keeps c
    | with_reducible apply reserveAgain_keeps c
    | with_reducible apply issueP1_keeps c
    | with_reducible apply sendDue_keeps c
    | fail_if_no_progress (with_reducible refine c.put rfl ?_)
    | with_reducible refine ite_keeps ?_ ?_

end Sys2Proof.Machine
end

