-- ==== Sys2Proof/Laws/KeepPorts.lean ====
section
/-! SUPPORT. The functions of Machine/Ports.lean keep a closed property. -/

namespace Sys2Proof.Machine

variable {P : State → Prop} {s : State}

theorem noteAwaits_keeps (c : Closed P) (p : Nat) (h : P s) : P (s.noteAwaits p) := by
  unfold State.noteAwaits
  repeat' first
    | with_reducible assumption
    | with_reducible apply onBus_keeps c
    | fail_if_no_progress (with_reducible refine c.put rfl ?_)
    | with_reducible refine ite_keeps ?_ ?_

theorem powerPort_keeps (c : Closed P) (p cause : Nat) (external p1 : Bool) (h : P s) : P (s.powerPort p cause external p1) := by
  unfold State.powerPort
  repeat' first
    | with_reducible assumption
    | (lift_lets; intro y; refine bind_keeps (P := P) (y := y) ?_ ?_; (on_goal 2 => (intro _; clear_value y)); (on_goal 1 => unfold y))
    | with_reducible apply onPort_keeps c
    | with_reducible apply chanUp_keeps c
    | with_reducible apply negotiate_keeps c

theorem reserveAndPower_keeps (c : Closed P) (p cause : Nat) (external reclaim p1 : Bool) (h : P s) : P (s.reserveAndPower p cause external reclaim p1) := by
  unfold State.reserveAndPower
  repeat' first
    | with_reducible assumption
    | with_reducible refine reserve_keeps c (by with_reducible assumption) ?_
    | with_reducible apply powerPort_keeps c
    | with_reducible apply onPort_keeps c
    | fail_if_no_progress (with_reducible refine c.put rfl ?_)
    | split

theorem serveWaiting_keeps (c : Closed P) (p : Nat) (h : P s) : P (s.serveWaiting p) := by
  unfold State.serveWaiting
  repeat' first
    | with_reducible assumption
    | with_reducible refine reserve_keeps c (by with_reducible assumption) ?_
    | with_reducible apply powerPort_keeps c
    | with_reducible refine ite_keeps ?_ ?_
    | split

theorem serveClaim_keeps (c : Closed P) (p : Nat) (h : P s) : P (s.serveClaim p) := by
  unfold State.serveClaim
  repeat' first
    | with_reducible assumption
    | (lift_lets; intro y; clear_value y)
    | (intro y; clear_value y)
    | with_reducible apply setGrant_keeps c
    | with_reducible apply callCaps_keeps c
    | with_reducible refine ite_keeps ?_ ?_

theorem redistribute_keeps (c : Closed P) (h : P s) : P (s.redistribute) := by
  unfold State.redistribute
  repeat' first
    | with_reducible assumption
    | (lift_lets; intro y; refine bind_keeps (P := P) (y := y) ?_ ?_; (on_goal 2 => (intro _; clear_value y)); (on_goal 1 => unfold y))
    | with_reducible refine each_keeps (fun _ _ _ => ?_) ?_
    | with_reducible apply serveWaiting_keeps c
    | with_reducible apply serveClaim_keeps c

theorem portOff_keeps (c : Closed P) (p cause : Nat) (external : Bool) (st : Status) (byEvent : Bool) (h : P s) : P (s.portOff p cause external st byEvent) := by
  unfold State.portOff
  repeat' first
    | with_reducible assumption
    | (lift_lets; intro y; refine bind_keeps (P := P) (y := y) ?_ ?_; (on_goal 2 => (intro _; clear_value y)); (on_goal 1 => unfold y))
    | with_reducible apply closeP1_keeps c
    | with_reducible apply chanDown_keeps c
    | with_reducible apply endPower_keeps c
    | with_reducible apply releaseGrant_keeps c
    | with_reducible apply endOps_keeps c

theorem clearRetries_keeps (c : Closed P) (ch : Nat) (h : P s) : P (s.clearRetries ch) := by
  unfold State.clearRetries
  repeat' first
    | with_reducible assumption
    | with_reducible apply onChan_keeps c

theorem lockChan_keeps (c : Closed P) (ch reason : Nat) (h : P s) : P (s.lockChan ch reason) := by
  unfold State.lockChan
  repeat' first
    | with_reducible assumption
    | (lift_lets; intro y; refine bind_keeps (P := P) (y := y) ?_ ?_; (on_goal 2 => (intro _; clear_value y)); (on_goal 1 => unfold y))
    | (intro y; refine bind_keeps (P := P) (y := y) ?_ ?_; (on_goal 2 => (intro _; clear_value y)); (on_goal 1 => unfold y))
    | with_reducible refine when_keeps (fun _ _ => ?_) ?_
    | with_reducible apply closeP1_keeps c
    | with_reducible apply onChan_keeps c
    | with_reducible apply append_keeps c
    | with_reducible apply endPower_keeps c
    | with_reducible apply onPort_keeps c
    | with_reducible apply releaseGrant_keeps c
    | with_reducible apply endOps_keeps c
    | with_reducible apply fault_keeps c
    | fail_if_no_progress (with_reducible refine c.put rfl ?_)
    | with_reducible refine ite_keeps ?_ ?_

theorem sbOffAll_keeps (c : Closed P) (st : Status) (byEvent : Bool) (h : P s) : P (s.sbOffAll st byEvent) := by
  unfold State.sbOffAll
  repeat' first
    | with_reducible assumption
    | with_reducible refine each_keeps (fun _ _ _ => ?_) ?_
    | with_reducible apply portOff_keeps c
    | with_reducible apply chanDown_keeps c
    | with_reducible refine ite_keeps ?_ ?_

theorem policyOff_keeps (c : Closed P) (p : Nat) (external : Bool) (st : Status) (byEvent : Bool) (h : P s) : P (s.policyOff p external st byEvent) := by
  unfold State.policyOff
  repeat' first
    | with_reducible assumption
    | with_reducible apply portOff_keeps c
    | with_reducible apply clearRetries_keeps c

theorem domainsUp_keeps (c : Closed P) (source : Nat) (h : P s) : P (s.domainsUp source) := by
  unfold State.domainsUp
  repeat' first
    | with_reducible assumption
    | (lift_lets; intro y; clear_value y)
    | (intro y; refine bind_keeps (P := P) (y := y) ?_ ?_; (on_goal 2 => (intro _; clear_value y)); (on_goal 1 => unfold y))
    | with_reducible refine onEmber_keeps c _ rfl rfl rfl ?_
    | with_reducible refine onPw_keeps c _ rfl ?_

theorem modeTo_keeps (c : Closed P) (m : Mode) (reason : Nat) (external : Bool)
    (hm : m = s.mode ∨ m = s.pw.left ∨ m ≠ .idle) (h : P s) : P (s.modeTo m reason external) := by
  unfold State.modeTo
  exact ite_keeps h (append_keeps c _ _ _ _ _ _ (c.mode s _ rfl hm (.inr (.inl rfl)) h))

/-- The mode of Table 01-7 is never IDLE. -/
theorem chosenMode_ne_idle (s : State) : s.chosenMode ≠ .idle := by
  unfold State.chosenMode
  repeat' first
    | split
    | exact Mode.noConfusion

theorem auxAuto_keeps (c : Closed P) (h : P s) : P (s.auxAuto) := by
  unfold State.auxAuto
  repeat' first
    | with_reducible assumption
    | with_reducible refine each_keeps (fun _ _ _ => ?_) ?_
    | with_reducible apply stagePad_keeps c
    | with_reducible apply chanUp_keeps c
    | with_reducible refine ite_keeps ?_ ?_

theorem shedPort_keeps (c : Closed P) (p : Nat) (h : P s) : P (s.shedPort p) := by
  unfold State.shedPort
  repeat' first
    | with_reducible assumption
    | (lift_lets; intro y; refine bind_keeps (P := P) (y := y) ?_ ?_; (on_goal 2 => (intro _; clear_value y)); (on_goal 1 => unfold y))
    | with_reducible apply portOff_keeps c
    | with_reducible apply fault_keeps c
    | with_reducible apply onPort_keeps c
    | with_reducible refine onPw_keeps c _ rfl ?_

theorem shedClasses_keeps (c : Closed P) (classes : List Nat) (h : P s) : P (s.shedClasses classes) := by
  unfold State.shedClasses
  repeat' first
    | with_reducible assumption
    | (lift_lets; intro y; refine bind_keeps (P := P) (y := y) ?_ ?_; (on_goal 2 => (intro _; clear_value y)); (on_goal 1 => unfold y))
    | with_reducible refine each_keeps (fun _ _ _ => ?_) ?_
    | with_reducible refine foldl_keeps (fun _ _ _ => ?_) ?_
    | with_reducible apply shedPort_keeps c
    | with_reducible apply redistribute_keeps c

theorem restoreShed_keeps (c : Closed P) (h : P s) : P (s.restoreShed) := by
  unfold State.restoreShed
  repeat' first
    | with_reducible assumption
    | (lift_lets; intro y; clear_value y)
    | (intro y; refine bind_keeps (P := P) (y := y) ?_ ?_; (on_goal 2 => (intro _; clear_value y)); (on_goal 1 => unfold y))
    | with_reducible refine each_keeps (fun _ _ _ => ?_) ?_
    | with_reducible refine onPw_keeps c _ rfl ?_
    | with_reducible apply onPort_keeps c
    | with_reducible apply noteAwaits_keeps c
    | with_reducible apply reserveAndPower_keeps c
    | fail_if_no_progress (with_reducible refine c.put rfl ?_)
    | with_reducible refine ite_keeps ?_ ?_

theorem entered_keeps (c : Closed P) (old : Mode) (h : P s) : P (s.entered old) := by
  unfold State.entered
  repeat' first
    | with_reducible assumption
    | (lift_lets; intro y; refine bind_keeps (P := P) (y := y) ?_ ?_; (on_goal 2 => (intro _; clear_value y)); (on_goal 1 => unfold y))
    | (intro y; refine bind_keeps (P := P) (y := y) ?_ ?_; (on_goal 2 => (intro _; clear_value y)); (on_goal 1 => unfold y))
    | with_reducible refine when_keeps (fun _ _ => ?_) ?_
    | with_reducible apply sbOffAll_keeps c
    | with_reducible apply fault_keeps c
    | with_reducible refine onPw_keeps c _ rfl ?_
    | with_reducible apply shedClasses_keeps c
    | with_reducible apply restoreShed_keeps c
    | with_reducible apply auxAuto_keeps c

theorem reselect_keeps (c : Closed P) (reason : Nat) (external : Bool) (h : P s) : P (s.reselect reason external) := by
  unfold State.reselect
  split
  iterate 5 exact h
  · exact ite_keeps (entered_keeps c _ (modeTo_keeps c _ _ _ (.inr (.inr (by decide))) h)) h
  · exact ite_keeps h (entered_keeps c _ (modeTo_keeps c _ _ _ (.inr (.inr (chosenMode_ne_idle s))) h))

end Sys2Proof.Machine
end

