-- ==== Sys2Proof/Laws/KeepTwi.lean ====
section
/-! SUPPORT. The functions of Machine/Twi.lean keep a closed property. -/

namespace Sys2Proof.Machine

variable {P : State → Prop} {s : State}

theorem flushAhead_keeps (c : Closed P) (n : Nat) (h : P s) : P (s.flushAhead n) := by
  unfold State.flushAhead
  repeat' first
    | with_reducible assumption
    | (lift_lets; intro y; clear_value y)
    | (intro y; refine bind_keeps (P := P) (y := y) ?_ ?_; (on_goal 2 => (intro _; clear_value y)); (on_goal 1 => unfold y))
    | (intro y; clear_value y)
    | with_reducible refine foldl_keeps (fun _ _ _ => ?_) ?_
    | with_reducible apply onSeg_keeps c
    | with_reducible apply tagged_keeps c
    | with_reducible apply surplusOf_keeps c

theorem endRecovery_keeps (c : Closed P) (n pulses : Nat) (linked ok : Bool) (h : P s) : P (s.endRecovery n pulses linked ok) := by
  unfold State.endRecovery
  repeat' first
    | with_reducible assumption
    | (lift_lets; intro y; refine bind_keeps (P := P) (y := y) ?_ ?_; (on_goal 2 => (intro _; clear_value y)); (on_goal 1 => unfold y))
    | (intro y; refine bind_keeps (P := P) (y := y) ?_ ?_; (on_goal 2 => (intro _; clear_value y)); (on_goal 1 => unfold y))
    | (intro y; clear_value y)
    | with_reducible apply flushAhead_keeps c
    | with_reducible apply tagged_keeps c
    | with_reducible apply onSeg_keeps c
    | with_reducible apply append_keeps c
    | with_reducible apply completion_keeps c
    | with_reducible apply fault_keeps c
    | fail_if_no_progress (with_reducible refine c.put rfl ?_)
    | with_reducible refine ite_keeps ?_ ?_
    | split

theorem linkTripped_keeps (c : Closed P) (ch : Nat) (h : P s) : P (s.linkTripped ch) := by
  unfold State.linkTripped
  repeat' first
    | with_reducible assumption
    | with_reducible refine each_keeps (fun _ _ _ => ?_) ?_
    | with_reducible apply endRecovery_keeps c
    | with_reducible refine ite_keeps ?_ ?_

theorem cutInside_keeps (c : Closed P) (h : P s) : P s.cutInside.2 := c.free h rfl rfl rfl

theorem stopSegment_keeps (c : Closed P) (n : Nat) (st : Status) (external : Bool) (h : P s) :
    P (s.stopSegment n st external) := by
  unfold State.stopSegment
  extract_lets g
  have e := cutInside_keeps c h
  generalize s.cutInside = x at e ⊢
  obtain ⟨d, t⟩ := x
  dsimp -zeta only at e ⊢
  extract_lets u v
  have hv : P v := foldl_keeps (fun _ _ h => endTransfer_keeps c _ _ _ _ _ h) (onSeg_keeps c _ _ e)
  split
  · exact completion_keeps c _ _ _ hv
  · exact hv

theorem disableSegment_keeps (c : Closed P) (n : Nat) (h : P s) : P (s.disableSegment n) := by
  unfold State.disableSegment
  repeat' first
    | with_reducible assumption
    | with_reducible apply stopSegment_keeps c
    | with_reducible apply flushAhead_keeps c

theorem resetSegments_keeps (c : Closed P) (ns : List Nat) (external : Bool) (h : P s) : P (s.resetSegments ns external) := by
  unfold State.resetSegments
  repeat' first
    | with_reducible assumption
    | with_reducible refine each_keeps (fun _ _ _ => ?_) ?_
    | with_reducible apply stopSegment_keeps c

theorem readySegments_keeps (c : Closed P) (h : P s) : P (s.readySegments) := by
  unfold State.readySegments
  repeat' first
    | with_reducible assumption
    | with_reducible refine each_keeps (fun _ _ _ => ?_) ?_
    | with_reducible apply flushAhead_keeps c

theorem evTransferStart_keeps (c : Closed P) (n : Nat) (sdaLow : Bool) (h : P s) : P (s.evTransferStart n sdaLow) := by
  unfold State.evTransferStart
  dsimp only
  repeat' first
    | with_reducible assumption
    | with_reducible apply onSeg_keeps c
    | with_reducible apply failTransfer_keeps c
    | fail_if_no_progress (with_reducible refine c.put rfl ?_)
    | with_reducible refine ite_keeps ?_ ?_
    | split

theorem addressNacked_keeps (c : Closed P) (n : Nat) (t : Transfer) (h : P s) : P (s.addressNacked n t) := by
  unfold State.addressNacked
  repeat' first
    | with_reducible assumption
    | (lift_lets; intro y; clear_value y)
    | with_reducible apply failTransfer_keeps c
    | fail_if_no_progress (with_reducible refine c.put rfl ?_)

theorem evTransferComplete_keeps (c : Closed P) (n : Nat) (e : BusEnd) (h : P s) : P (s.evTransferComplete n e) := by
  unfold State.evTransferComplete
  repeat' first
    | with_reducible assumption
    | (lift_lets; intro y; clear_value y)
    | with_reducible apply addressNacked_keeps c
    | with_reducible apply failTransfer_keeps c
    | with_reducible apply onBus_keeps c
    | with_reducible apply onSeg_keeps c
    | with_reducible apply endTransfer_keeps c
    | fail_if_no_progress (with_reducible refine c.put rfl ?_)
    | with_reducible refine ite_keeps ?_ ?_
    | split

theorem evArbitrationLost_keeps (c : Closed P) (n : Nat) (h : P s) : P (s.evArbitrationLost n) := by
  unfold State.evArbitrationLost
  repeat' first
    | with_reducible assumption
    | with_reducible apply failTransfer_keeps c
    | with_reducible apply onSeg_keeps c
    | fail_if_no_progress (with_reducible refine c.put rfl ?_)
    | with_reducible refine ite_keeps ?_ ?_
    | split

theorem stretchViolation_keeps (c : Closed P) (n code : Nat) (us : Nat) (h : P s) : P (s.stretchViolation n code us) := by
  unfold State.stretchViolation
  repeat' first
    | with_reducible assumption
    | (lift_lets; intro y; refine bind_keeps (P := P) (y := y) ?_ ?_; (on_goal 2 => (intro _; clear_value y)); (on_goal 1 => unfold y))
    | (lift_lets; intro y; clear_value y)
    | with_reducible apply violation_keeps c
    | with_reducible apply tagged_keeps c
    | with_reducible apply failTransfer_keeps c
    | with_reducible apply onSeg_keeps c
    | fail_if_no_progress (with_reducible refine c.put rfl ?_)
    | with_reducible refine ite_keeps ?_ ?_
    | split

theorem evStretchTimeout_keeps (c : Closed P) (n : Nat) (us : Word) (h : P s) : P (s.evStretchTimeout n us) := by
  unfold State.evStretchTimeout
  repeat' first
    | with_reducible assumption
    | with_reducible apply stretchViolation_keeps c

theorem evStretchInsideByte_keeps (c : Closed P) (n : Nat) (h : P s) : P (s.evStretchInsideByte n) := by
  unfold State.evStretchInsideByte
  repeat' first
    | with_reducible assumption
    | with_reducible apply stretchViolation_keeps c

theorem evStretchHold_keeps (c : Closed P) (n : Nat) (h : P s) : P (s.evStretchHold n) := by
  unfold State.evStretchHold
  repeat' first
    | with_reducible assumption
    | with_reducible apply onSeg_keeps c
    | fail_if_no_progress (with_reducible refine c.put rfl ?_)
    | with_reducible refine ite_keeps ?_ ?_

theorem evInBand_keeps (c : Closed P) (n : Nat) (released : Bool) (h : P s) : P (s.evInBand n released) := by
  unfold State.evInBand
  repeat' first
    | with_reducible assumption
    | (lift_lets; intro y; clear_value y)
    | with_reducible apply onSeg_keeps c
    | with_reducible apply violation_keeps c
    | fail_if_no_progress (with_reducible refine c.put rfl ?_)
    | with_reducible refine ite_keeps ?_ ?_

theorem evAttn_keeps (c : Closed P) (n status : Nat) (bytes : List Byte) (h : P s) : P (s.evAttn n status bytes) := by
  unfold State.evAttn
  repeat' first
    | with_reducible assumption
    | (lift_lets; intro y; clear_value y)
    | (intro y; refine bind_keeps (P := P) (y := y) ?_ ?_; (on_goal 2 => (intro _; clear_value y)); (on_goal 1 => unfold y))
    | (intro y; clear_value y)
    | with_reducible apply onSeg_keeps c
    | with_reducible apply append_keeps c
    | fail_if_no_progress (with_reducible refine c.put rfl ?_)
    | with_reducible refine ite_keeps ?_ ?_

theorem evMailbox_keeps (c : Closed P) (n : Nat) (bytes : List Byte) (h : P s) : P (s.evMailbox n bytes) := by
  unfold State.evMailbox
  repeat' first
    | with_reducible assumption
    | (lift_lets; intro y; clear_value y)
    | with_reducible apply answering_keeps c
    | with_reducible apply onSeg_keeps c
    | with_reducible apply append_keeps c
    | fail_if_no_progress (with_reducible refine c.put rfl ?_)
    | with_reducible refine ite_keeps ?_ ?_

theorem evMailboxOverflow_keeps (c : Closed P) (n : Nat) (h : P s) : P (s.evMailboxOverflow n) := by
  unfold State.evMailboxOverflow
  repeat' first
    | with_reducible assumption
    | with_reducible apply violation_keeps c
    | with_reducible apply answering_keeps c
    | with_reducible refine ite_keeps ?_ ?_

theorem evRecoveryPulses_keeps (c : Closed P) (n pulses : Nat) (released : Bool) (h : P s) : P (s.evRecoveryPulses n pulses released) := by
  unfold State.evRecoveryPulses
  dsimp only
  repeat' first
    | with_reducible assumption
    | with_reducible apply endRecovery_keeps c
    | with_reducible apply chanDown_keeps c
    | with_reducible apply onSeg_keeps c
    | fail_if_no_progress (with_reducible refine c.put rfl ?_)
    | with_reducible refine ite_keeps ?_ ?_
    | split

theorem evLinkOff_keeps (c : Closed P) (n : Nat) (h : P s) : P (s.evLinkOff n) := by
  unfold State.evLinkOff
  repeat' first
    | with_reducible assumption
    | (lift_lets; intro y; clear_value y)
    | with_reducible apply chanUp_keeps c
    | with_reducible apply onSeg_keeps c
    | with_reducible apply endRecovery_keeps c
    | fail_if_no_progress (with_reducible refine c.put rfl ?_)
    | with_reducible refine ite_keeps ?_ ?_

theorem evLinkSettle_keeps (c : Closed P) (n : Nat) (h : P s) : P (s.evLinkSettle n) := by
  unfold State.evLinkSettle
  repeat' first
    | with_reducible assumption
    | with_reducible apply onSeg_keeps c
    | fail_if_no_progress (with_reducible refine c.put rfl ?_)
    | with_reducible refine ite_keeps ?_ ?_

theorem evBusFreeWait_keeps (c : Closed P) (n : Nat) (sdaHigh : Bool) (h : P s) : P (s.evBusFreeWait n sdaHigh) := by
  unfold State.evBusFreeWait
  repeat' first
    | with_reducible assumption
    | with_reducible apply endRecovery_keeps c
    | with_reducible apply onSeg_keeps c
    | fail_if_no_progress (with_reducible refine c.put rfl ?_)
    | with_reducible refine ite_keeps ?_ ?_

end Sys2Proof.Machine
end

