-- ==== Sys2Proof/Laws/KeepPd.lean ====
section
/-! SUPPORT. The functions of Machine/Pd.lean keep a closed property. -/

namespace Sys2Proof.Machine

variable {P : State → Prop} {s : State}

theorem redistributeSince_keeps (c : Closed P) (grant p : Nat) (h : P s) : P (s.redistributeSince grant p) := by
  unfold State.redistributeSince
  repeat' first
    | with_reducible assumption
    | with_reducible apply redistribute_keeps c
    | with_reducible refine ite_keeps ?_ ?_

theorem legsOpen_keeps (c : Closed P) (p : Nat) (h : P s) : P (s.legsOpen p) := by
  unfold State.legsOpen
  repeat' first
    | with_reducible assumption
    | with_reducible apply onChan_keeps c

theorem hardReset_keeps (c : Closed P) (p initiator code : Nat) (external : Bool) (h : P s) : P (s.hardReset p initiator code external) := by
  unfold State.hardReset
  dsimp only
  repeat' first
    | with_reducible assumption
    | with_reducible apply pdEntry_keeps c
    | with_reducible apply closeP1_keeps c
    | with_reducible apply exitMode_keeps c
    | with_reducible apply endOpsOf_keeps c
    | with_reducible apply onPort_keeps c
    | with_reducible apply legsOpen_keeps c
    | with_reducible apply sends_keeps c
    | with_reducible apply reserveAgain_keeps c
    | with_reducible apply redistributeSince_keeps c
    | fail_if_no_progress (with_reducible refine c.put rfl ?_)
    | with_reducible refine ite_keeps ?_ ?_

theorem contract_keeps (hc : Closed P) (p : Nat) (c : Contract) (h : P s) : P (s.contract p c) := by
  unfold State.contract
  repeat' first
    | with_reducible assumption
    | (lift_lets; intro y; clear_value y)
    | (intro y; refine bind_keeps (P := P) (y := y) ?_ ?_; (on_goal 2 => (intro _; clear_value y)); (on_goal 1 => unfold y))
    | (intro y; clear_value y)
    | with_reducible apply pdEntry_keeps hc
    | with_reducible apply onPd_keeps hc
    | with_reducible apply onChan_keeps hc
    | with_reducible apply provEntry_keeps hc
    | with_reducible apply closeP1_keeps hc
    | with_reducible apply setGrant_keeps hc
    | with_reducible apply endOpsOf_keeps hc
    | with_reducible apply redistributeSince_keeps hc
    | fail_if_no_progress (with_reducible refine hc.put rfl ?_)
    | with_reducible refine ite_keeps ?_ ?_

theorem implicitContract_keeps (c : Closed P) (p : Nat) (h : P s) : P (s.implicitContract p) := by
  unfold State.implicitContract
  repeat' first
    | with_reducible assumption
    | (lift_lets; intro y; clear_value y)
    | (intro y; refine bind_keeps (P := P) (y := y) ?_ ?_; (on_goal 2 => (intro _; clear_value y)); (on_goal 1 => unfold y))
    | with_reducible apply contract_keeps c
    | with_reducible apply exitMode_keeps c
    | with_reducible apply onPd_keeps c

theorem vsafeReached_keeps (c : Closed P) (p : Nat) (h : P s) : P (s.vsafeReached p) := by
  unfold State.vsafeReached
  repeat' first
    | with_reducible assumption
    | (lift_lets; intro y; clear_value y)
    | with_reducible apply implicitContract_keeps c
    | with_reducible apply onPd_keeps c
    | with_reducible apply sendDue_keeps c
    | fail_if_no_progress (with_reducible refine c.put rfl ?_)
    | with_reducible refine ite_keeps ?_ ?_

theorem pdDetail_keeps (c : Closed P) (p code msg objs count fall : Nat) (m : BitVec 16) (h : P s) : P (s.pdDetail p code msg objs count fall m) := by
  unfold State.pdDetail
  repeat' first
    | with_reducible assumption
    | (lift_lets; intro y; refine bind_keeps (P := P) (y := y) ?_ ?_; (on_goal 2 => (intro _; clear_value y)); (on_goal 1 => unfold y))
    | with_reducible apply portViolation_keeps c
    | with_reducible apply onPd_keeps c

theorem pdUncounted_keeps (c : Closed P) (p code msg objs : Nat) (m : BitVec 16) (h : P s) : P (s.pdUncounted p code msg objs m) := by
  unfold State.pdUncounted
  repeat' first
    | with_reducible assumption
    | with_reducible apply pdDetail_keeps c

theorem enterFallback_keeps (c : Closed P) (p code : Nat) (h : P s) : P (s.enterFallback p code) := by
  unfold State.enterFallback
  repeat' first
    | with_reducible assumption
    | (lift_lets; intro y; refine bind_keeps (P := P) (y := y) ?_ ?_; (on_goal 2 => (intro _; clear_value y)); (on_goal 1 => unfold y))
    | with_reducible apply closeP1_keeps c
    | with_reducible apply hardReset_keeps c
    | with_reducible apply onChan_keeps c
    | with_reducible apply implicitContract_keeps c
    | fail_if_no_progress (with_reducible refine c.put rfl ?_)
    | with_reducible refine ite_keeps ?_ ?_

theorem pdAnswer_keeps (c : Closed P) (p code answer : Nat) (h : P s) : P (s.pdAnswer p code answer) := by
  unfold State.pdAnswer
  repeat' first
    | with_reducible assumption
    | with_reducible apply hardReset_keeps c
    | with_reducible apply onPd_keeps c
    | with_reducible apply sends_keeps c
    | with_reducible apply pdIdle_keeps c
    | fail_if_no_progress (with_reducible refine c.put rfl ?_)
    | with_reducible refine ite_keeps ?_ ?_

theorem pdViolation_keeps (c : Closed P) (p code msg objs answer : Nat) (h : P s) : P (s.pdViolation p code msg objs answer) := by
  unfold State.pdViolation
  repeat' first
    | with_reducible assumption
    | (lift_lets; intro y; clear_value y)
    | (intro y; refine bind_keeps (P := P) (y := y) ?_ ?_; (on_goal 2 => (intro _; clear_value y)); (on_goal 1 => unfold y))
    | (intro y; clear_value y)
    | with_reducible apply onPd_keeps c
    | with_reducible apply pdDetail_keeps c
    | with_reducible apply enterFallback_keeps c
    | with_reducible apply pdAnswer_keeps c
    | fail_if_no_progress (with_reducible refine c.put rfl ?_)
    | with_reducible refine ite_keeps ?_ ?_

theorem enablePolicy_keeps (c : Closed P) (p : Nat) (h : P s) : P (s.enablePolicy p) := by
  unfold State.enablePolicy
  repeat' first
    | with_reducible assumption
    | with_reducible apply onBus_keeps c
    | with_reducible apply append_keeps c
    | fail_if_no_progress (with_reducible refine c.put rfl ?_)
    | with_reducible refine ite_keeps ?_ ?_

theorem evPortAttach_keeps (c : Closed P) (p pin : Nat) (ra : Bool) (h : P s) : P (s.evPortAttach p pin ra) := by
  unfold State.evPortAttach
  repeat' first
    | with_reducible assumption
    | (lift_lets; intro y; clear_value y)
    | (intro y; refine bind_keeps (P := P) (y := y) ?_ ?_; (on_goal 2 => (intro _; clear_value y)); (on_goal 1 => unfold y))
    | with_reducible apply pdEntry_keeps c
    | with_reducible apply onPort_keeps c
    | with_reducible apply fresh_keeps c
    | with_reducible apply noteAwaits_keeps c
    | with_reducible apply reserveAndPower_keeps c
    | with_reducible apply enablePolicy_keeps c
    | fail_if_no_progress (with_reducible refine c.put rfl ?_)
    | with_reducible refine ite_keeps ?_ ?_

theorem clearAttach_keeps (c : Closed P) (p : Nat) (h : P s) : P (s.clearAttach p) := by
  unfold State.clearAttach
  repeat' first
    | with_reducible assumption
    | (lift_lets; intro y; refine bind_keeps (P := P) (y := y) ?_ ?_; (on_goal 2 => (intro _; clear_value y)); (on_goal 1 => unfold y))
    | with_reducible apply onPort_keeps c
    | with_reducible apply onChan_keeps c
    | with_reducible refine onPw_keeps c _ rfl ?_

theorem detach_keeps (c : Closed P) (p cause chanCause : Nat) (external : Bool) (st : Status) (byEvent : Bool) (h : P s) : P (s.detach p cause chanCause external st byEvent) := by
  unfold State.detach
  repeat' first
    | with_reducible assumption
    | (lift_lets; intro y; refine bind_keeps (P := P) (y := y) ?_ ?_; (on_goal 2 => (intro _; clear_value y)); (on_goal 1 => unfold y))
    | with_reducible apply exitMode_keeps c
    | with_reducible apply pdEntry_keeps c
    | with_reducible apply portOff_keeps c
    | with_reducible apply clearAttach_keeps c

theorem evPortDetach_keeps (c : Closed P) (p : Nat) (h : P s) : P (s.evPortDetach p) := by
  unfold State.evPortDetach
  repeat' first
    | with_reducible assumption
    | with_reducible apply detach_keeps c
    | with_reducible apply fault_keeps c
    | with_reducible apply redistribute_keeps c
    | with_reducible refine ite_keeps ?_ ?_

theorem evReservationArrival_keeps (c : Closed P) (p : Nat) (h : P s) : P (s.evReservationArrival p) := by
  unfold State.evReservationArrival
  repeat' first
    | with_reducible assumption
    | (lift_lets; intro y; refine bind_keeps (P := P) (y := y) ?_ ?_; (on_goal 2 => (intro _; clear_value y)); (on_goal 1 => unfold y))
    | (intro y; clear_value y)
    | with_reducible apply onPd_keeps c
    | with_reducible apply sendCaps_keeps c
    | with_reducible apply sendDue_keeps c
    | with_reducible apply pdIdle_keeps c
    | fail_if_no_progress (with_reducible refine c.put rfl ?_)
    | with_reducible refine ite_keeps ?_ ?_
    | split

theorem evSrcCapsRepeat_keeps (c : Closed P) (p : Nat) (h : P s) : P (s.evSrcCapsRepeat p) := by
  unfold State.evSrcCapsRepeat
  repeat' first
    | with_reducible assumption
    | (lift_lets; intro y; clear_value y)
    | with_reducible apply sends_keeps c
    | with_reducible apply onPd_keeps c
    | with_reducible apply implicitContract_keeps c
    | fail_if_no_progress (with_reducible refine c.put rfl ?_)
    | with_reducible refine ite_keeps ?_ ?_

theorem evGoodcrc_keeps (c : Closed P) (p : Nat) (h : P s) : P (s.evGoodcrc p) := by
  unfold State.evGoodcrc
  repeat' first
    | with_reducible assumption
    | with_reducible apply onPd_keeps c
    | fail_if_no_progress (with_reducible refine c.put rfl ?_)
    | split

theorem evRequest_keeps (c : Closed P) (p pos op max : Nat) (rev2 : Bool) (h : P s) : P (s.evRequest p pos op max rev2) := by
  unfold State.evRequest
  repeat' first
    | with_reducible assumption
    | (lift_lets; intro y; refine bind_keeps (P := P) (y := y) ?_ ?_; (on_goal 2 => (intro _; clear_value y)); (on_goal 1 => unfold y))
    | (lift_lets; intro y; clear_value y)
    | (intro y; clear_value y)
    | with_reducible apply onPd_keeps c
    | with_reducible apply sends_keeps c
    | with_reducible apply pdViolation_keeps c
    | fail_if_no_progress (with_reducible refine c.put rfl ?_)
    | with_reducible refine ite_keeps ?_ ?_
    | split

theorem evSameRail_keeps (c : Closed P) (p : Nat) (h : P s) : P (s.evSameRail p) := by
  unfold State.evSameRail
  repeat' first
    | with_reducible assumption
    | with_reducible apply onPd_keeps c
    | with_reducible apply sends_keeps c
    | fail_if_no_progress (with_reducible refine c.put rfl ?_)
    | with_reducible refine ite_keeps ?_ ?_

theorem evPdContract_keeps (c : Closed P) (p : Nat) (h : P s) : P (s.evPdContract p) := by
  unfold State.evPdContract
  repeat' first
    | with_reducible assumption
    | (lift_lets; intro y; clear_value y)
    | with_reducible apply contract_keeps c
    | with_reducible apply pdIdle_keeps c
    | split

theorem transitionEntry_keeps (c : Closed P) (p result : Nat) (elapsed : BitVec 16) (h : P s) : P (s.transitionEntry p result elapsed) := by
  unfold State.transitionEntry
  repeat' first
    | with_reducible assumption
    | with_reducible apply pdEntry_keeps c

theorem transitionMissed_keeps (c : Closed P) (p result : Nat) (elapsed : BitVec 16) (h : P s) : P (s.transitionMissed p result elapsed) := by
  unfold State.transitionMissed
  repeat' first
    | with_reducible assumption
    | with_reducible apply transitionEntry_keeps c
    | with_reducible apply hardReset_keeps c

theorem evTransitionStart_keeps (c : Closed P) (p : Nat) (railOk : Bool) (h : P s) : P (s.evTransitionStart p railOk) := by
  unfold State.evTransitionStart
  repeat' first
    | with_reducible assumption
    | (lift_lets; intro y; clear_value y)
    | with_reducible apply onPd_keeps c
    | with_reducible apply onChan_keeps c
    | with_reducible apply transitionMissed_keeps c
    | fail_if_no_progress (with_reducible refine c.put rfl ?_)
    | with_reducible refine ite_keeps ?_ ?_

theorem evVbusInBand_keeps (c : Closed P) (p : Nat) (h : P s) : P (s.evVbusInBand p) := by
  unfold State.evVbusInBand
  repeat' first
    | with_reducible assumption
    | (lift_lets; intro y; clear_value y)
    | with_reducible apply onPd_keeps c
    | with_reducible apply onChan_keeps c
    | fail_if_no_progress (with_reducible refine c.put rfl ?_)
    | with_reducible refine ite_keeps ?_ ?_

theorem evRailTransition_keeps (c : Closed P) (p : Nat) (elapsed : BitVec 16) (h : P s) : P (s.evRailTransition p elapsed) := by
  unfold State.evRailTransition
  repeat' first
    | with_reducible assumption
    | (lift_lets; intro y; refine bind_keeps (P := P) (y := y) ?_ ?_; (on_goal 2 => (intro _; clear_value y)); (on_goal 1 => unfold y))
    | (intro y; clear_value y)
    | with_reducible apply transitionEntry_keeps c
    | with_reducible apply onChan_keeps c
    | with_reducible apply onPd_keeps c
    | with_reducible apply sends_keeps c
    | fail_if_no_progress (with_reducible refine c.put rfl ?_)
    | with_reducible refine ite_keeps ?_ ?_

theorem evTransMax_keeps (c : Closed P) (p : Nat) (elapsed : BitVec 16) (h : P s) : P (s.evTransMax p elapsed) := by
  unfold State.evTransMax
  repeat' first
    | with_reducible assumption
    | with_reducible apply transitionMissed_keeps c
    | with_reducible refine ite_keeps ?_ ?_

theorem evSettleMax_keeps (c : Closed P) (p : Nat) (elapsed : BitVec 16) (h : P s) : P (s.evSettleMax p elapsed) := by
  unfold State.evSettleMax
  repeat' first
    | with_reducible assumption
    | with_reducible apply transitionMissed_keeps c
    | with_reducible refine ite_keeps ?_ ?_

theorem evHardResetReceived_keeps (c : Closed P) (p : Nat) (h : P s) : P (s.evHardResetReceived p) := by
  unfold State.evHardResetReceived
  repeat' first
    | with_reducible assumption
    | (lift_lets; intro y; clear_value y)
    | with_reducible apply hardReset_keeps c
    | with_reducible refine ite_keeps ?_ ?_

theorem evHardResetRestore_keeps (c : Closed P) (p : Nat) (h : P s) : P (s.evHardResetRestore p) := by
  unfold State.evHardResetRestore
  repeat' first
    | with_reducible assumption
    | (lift_lets; intro y; refine bind_keeps (P := P) (y := y) ?_ ?_; (on_goal 2 => (intro _; clear_value y)); (on_goal 1 => unfold y))
    | (intro y; refine bind_keeps (P := P) (y := y) ?_ ?_; (on_goal 2 => (intro _; clear_value y)); (on_goal 1 => unfold y))
    | with_reducible apply hardReset_keeps c
    | with_reducible apply onPd_keeps c
    | with_reducible apply vconnUp_keeps c
    | with_reducible apply onChan_keeps c
    | with_reducible apply endOpsOf_keeps c
    | with_reducible apply implicitContract_keeps c
    | with_reducible apply sendDue_keeps c
    | fail_if_no_progress (with_reducible refine c.put rfl ?_)
    | with_reducible refine ite_keeps ?_ ?_

theorem resend_keeps (c : Closed P) (p : Nat) (h : P s) : P (s.resend p) := by
  unfold State.resend
  repeat' first
    | with_reducible assumption
    | (lift_lets; intro y; clear_value y)
    | with_reducible apply onPd_keeps c
    | with_reducible apply sendSet_keeps c
    | with_reducible apply sendDue_keeps c
    | fail_if_no_progress (with_reducible refine c.put rfl ?_)
    | with_reducible refine ite_keeps ?_ ?_

theorem midTransition_keeps (c : Closed P) (p msg objs : Nat) (h : P s) : P (s.midTransition p msg objs) := by
  unfold State.midTransition
  repeat' first
    | with_reducible assumption
    | with_reducible apply pdViolation_keeps c

theorem evSoftReset_keeps (c : Closed P) (p : Nat) (h : P s) : P (s.evSoftReset p) := by
  unfold State.evSoftReset
  repeat' first
    | with_reducible assumption
    | (lift_lets; intro y; clear_value y)
    | with_reducible apply midTransition_keeps c
    | with_reducible apply sends_keeps c
    | with_reducible apply resend_keeps c
    | with_reducible refine ite_keeps ?_ ?_

theorem evSoftResetAccepted_keeps (c : Closed P) (p : Nat) (h : P s) : P (s.evSoftResetAccepted p) := by
  unfold State.evSoftResetAccepted
  repeat' first
    | with_reducible assumption
    | with_reducible apply resend_keeps c
    | with_reducible refine ite_keeps ?_ ?_

theorem evGetSourceCap_keeps (c : Closed P) (p : Nat) (h : P s) : P (s.evGetSourceCap p) := by
  unfold State.evGetSourceCap
  repeat' first
    | with_reducible assumption
    | (lift_lets; intro y; clear_value y)
    | with_reducible apply midTransition_keeps c
    | with_reducible apply resend_keeps c
    | with_reducible apply onPd_keeps c
    | fail_if_no_progress (with_reducible refine c.put rfl ?_)
    | with_reducible refine ite_keeps ?_ ?_
    | split

theorem evGetRevision_keeps (c : Closed P) (p : Nat) (h : P s) : P (s.evGetRevision p) := by
  unfold State.evGetRevision
  repeat' first
    | with_reducible assumption
    | with_reducible apply midTransition_keeps c
    | with_reducible apply sends_keeps c
    | with_reducible refine ite_keeps ?_ ?_

theorem evSwap_keeps (c : Closed P) (p : Nat) (k : Swap) (h : P s) : P (s.evSwap p k) := by
  unfold State.evSwap
  repeat' first
    | with_reducible assumption
    | (lift_lets; intro y; clear_value y)
    | with_reducible apply midTransition_keeps c
    | with_reducible apply sends_keeps c
    | with_reducible refine ite_keeps ?_ ?_

theorem evOther_keeps (c : Closed P) (p : Nat) (k : OtherMessage) (h : P s) : P (s.evOther p k) := by
  unfold State.evOther
  repeat' first
    | with_reducible assumption
    | (lift_lets; intro y; clear_value y)
    | with_reducible apply midTransition_keeps c
    | with_reducible apply sends_keeps c
    | with_reducible apply pdViolation_keeps c
    | with_reducible refine ite_keeps ?_ ?_
    | split

theorem evBist_keeps (c : Closed P) (p : Nat) (_carrier : Bool) (h : P s) : P (s.evBist p _carrier) := by
  unfold State.evBist
  repeat' first
    | with_reducible assumption
    | with_reducible apply midTransition_keeps c
    | with_reducible refine ite_keeps ?_ ?_

theorem evRequestTimeout_keeps (c : Closed P) (p : Nat) (h : P s) : P (s.evRequestTimeout p) := by
  unfold State.evRequestTimeout
  repeat' first
    | with_reducible assumption
    | (lift_lets; intro y; clear_value y)
    | with_reducible apply pdViolation_keeps c
    | with_reducible refine ite_keeps ?_ ?_

theorem evVconnOverload_keeps (c : Closed P) (p : Nat) (ma : BitVec 16) (h : P s) : P (s.evVconnOverload p ma) := by
  unfold State.evVconnOverload
  repeat' first
    | with_reducible assumption
    | (lift_lets; intro y; clear_value y)
    | (intro y; refine bind_keeps (P := P) (y := y) ?_ ?_; (on_goal 2 => (intro _; clear_value y)); (on_goal 1 => unfold y))
    | with_reducible apply onPort_keeps c
    | with_reducible apply pdUncounted_keeps c
    | with_reducible apply cableDone_keeps c
    | fail_if_no_progress (with_reducible refine c.put rfl ?_)
    | with_reducible refine ite_keeps ?_ ?_

theorem evCableDiscovery_keeps (c : Closed P) (p : Nat) (h : P s) : P (s.evCableDiscovery p) := by
  unfold State.evCableDiscovery
  repeat' first
    | with_reducible assumption
    | with_reducible apply onPd_keeps c
    | with_reducible apply sends_keeps c
    | fail_if_no_progress (with_reducible refine c.put rfl ?_)
    | with_reducible refine ite_keeps ?_ ?_

theorem vdmEntry_keeps (c : Closed P) (p sop : Nat) (objects : List Word) (response : Bool) (h : P s) :
    P (s.vdmEntry p sop objects response) := by
  unfold State.vdmEntry
  split
  · exact h
  · refine append_keeps c _ _ _ _ _ _ (c.led s _ ?_ ?_ ?_ ?_ h) <;> dsimp only <;> repeat' split
    all_goals first
      | rfl
      | exact le_max_right _ _
      | exact le_max_of_le_left (by simp_all)

theorem exchangeOver_keeps (c : Closed P) (p : Nat) (h : P s) : P (s.exchangeOver p) := by
  unfold State.exchangeOver
  repeat' first
    | with_reducible assumption
    | (lift_lets; intro y; refine bind_keeps (P := P) (y := y) ?_ ?_; (on_goal 2 => (intro _; clear_value y)); (on_goal 1 => unfold y))
    | (intro y; clear_value y)
    | with_reducible apply onPd_keeps c
    | with_reducible apply sends_keeps c
    | with_reducible apply pdIdle_keeps c
    | fail_if_no_progress (with_reducible refine c.put rfl ?_)
    | with_reducible refine ite_keeps ?_ ?_

theorem vdmOver_keeps (c : Closed P) (p : Nat) (st : Status) (external : Bool) (h : P s) : P (s.vdmOver p st external) := by
  unfold State.vdmOver
  repeat' first
    | with_reducible assumption
    | with_reducible apply exchangeOver_keeps c
    | with_reducible apply endOpsOf_keeps c

theorem inExchange_keeps (c : Closed P) (p : Nat) {f : State → State} (hf : ∀ s, P s → P (f s)) (h : P s) :
    P (s.inExchange p f) := tagged_keeps c _ (hf _ (tagged_keeps c _ h))

theorem vdmFailed_keeps (c : Closed P) (p msg objs : Nat) (h : P s) : P (s.vdmFailed p msg objs) := by
  unfold State.vdmFailed
  repeat' first
    | with_reducible assumption
    | (lift_lets; intro y; refine bind_keeps (P := P) (y := y) ?_ ?_; (on_goal 2 => (intro _; clear_value y)); (on_goal 1 => unfold y))
    | (lift_lets; intro y; clear_value y)
    | (intro y; refine bind_keeps (P := P) (y := y) ?_ ?_; (on_goal 2 => (intro _; clear_value y)); (on_goal 1 => unfold y))
    | with_reducible refine inExchange_keeps c _ (fun _ _ => ?_) ?_
    | with_reducible apply pdUncounted_keeps c
    | with_reducible apply exitMode_keeps c
    | with_reducible apply vdmOver_keeps c
    | with_reducible apply fault_keeps c
    | with_reducible refine ite_keeps ?_ ?_

theorem modeNext_keeps (c : Closed P) (p svid pos seg : Nat) (external : Bool) (h : P s) : P (s.modeNext p svid pos seg external) := by
  unfold State.modeNext
  dsimp only
  repeat' first
    | with_reducible assumption
    | with_reducible apply onPd_keeps c
    | with_reducible apply sends_keeps c
    | with_reducible apply vdmOver_keeps c
    | with_reducible apply fault_keeps c
    | fail_if_no_progress (with_reducible refine c.put rfl ?_)
    | with_reducible refine ite_keeps ?_ ?_
    | split

theorem modeEntered_keeps (c : Closed P) (p svid pos seg : Nat) (h : P s) : P (s.modeEntered p svid pos seg) := by
  unfold State.modeEntered
  repeat' first
    | with_reducible assumption
    | (lift_lets; intro y; clear_value y)
    | (intro y; refine bind_keeps (P := P) (y := y) ?_ ?_; (on_goal 2 => (intro _; clear_value y)); (on_goal 1 => unfold y))
    | (intro y; clear_value y)
    | with_reducible apply onPd_keeps c
    | with_reducible apply onSeg_keeps c
    | with_reducible refine inExchange_keeps c _ (fun _ _ => ?_) ?_
    | with_reducible apply pdEntry_keeps c
    | with_reducible apply vdmOver_keeps c
    | fail_if_no_progress (with_reducible refine c.put rfl ?_)
    | with_reducible refine ite_keeps ?_ ?_

theorem enterAnswered_keeps (c : Closed P) (p step svid pos seg : Nat) (ack : Bool) (rest : List Word) (h : P s) : P (s.enterAnswered p step svid pos seg ack rest) := by
  unfold State.enterAnswered
  repeat' first
    | with_reducible assumption
    | with_reducible apply vdmOver_keeps c
    | with_reducible apply fault_keeps c
    | with_reducible apply onPd_keeps c
    | with_reducible apply modeNext_keeps c
    | with_reducible apply modeEntered_keeps c
    | with_reducible refine ite_keeps ?_ ?_

theorem vdmAnswered_keeps (c : Closed P) (p sop : Nat) (objects : List Word) (h : P s) : P (s.vdmAnswered p sop objects) := by
  unfold State.vdmAnswered
  repeat' first
    | with_reducible assumption
    | (lift_lets; intro y; clear_value y)
    | (intro y; refine bind_keeps (P := P) (y := y) ?_ ?_; (on_goal 2 => (intro _; clear_value y)); (on_goal 1 => unfold y))
    | (intro y; clear_value y)
    | with_reducible refine when_keeps (fun _ _ => ?_) ?_
    | with_reducible refine inExchange_keeps c _ (fun _ _ => ?_) ?_
    | with_reducible apply vdmEntry_keeps c
    | with_reducible apply onPd_keeps c
    | with_reducible apply vdmOver_keeps c
    | with_reducible apply enterAnswered_keeps c
    | with_reducible apply exitMode_keeps c
    | with_reducible refine ite_keeps ?_ ?_
    | split

theorem cableAnswered_keeps (c : Closed P) (p : Nat) (objects : List Word) (h : P s) : P (s.cableAnswered p objects) := by
  unfold State.cableAnswered
  repeat' first
    | with_reducible assumption
    | (lift_lets; intro y; clear_value y)
    | (intro y; refine bind_keeps (P := P) (y := y) ?_ ?_; (on_goal 2 => (intro _; clear_value y)); (on_goal 1 => unfold y))
    | with_reducible apply vdmEntry_keeps c
    | with_reducible apply onPort_keeps c
    | with_reducible apply cableDone_keeps c

theorem vdmAsked_keeps (c : Closed P) (p sop : Nat) (objects : List Word) (h : P s) : P (s.vdmAsked p sop objects) := by
  unfold State.vdmAsked
  repeat' first
    | with_reducible assumption
    | (lift_lets; intro y; clear_value y)
    | (intro y; refine bind_keeps (P := P) (y := y) ?_ ?_; (on_goal 2 => (intro _; clear_value y)); (on_goal 1 => unfold y))
    | with_reducible apply vdmEntry_keeps c
    | with_reducible apply sends_keeps c
    | with_reducible refine ite_keeps ?_ ?_

theorem evVdmReceived_keeps (c : Closed P) (p sop : Nat) (objects : List Word) (h : P s) : P (s.evVdmReceived p sop objects) := by
  unfold State.evVdmReceived
  repeat' first
    | with_reducible assumption
    | (lift_lets; intro y; clear_value y)
    | (intro y; clear_value y)
    | with_reducible apply cableAnswered_keeps c
    | with_reducible apply vdmEntry_keeps c
    | with_reducible apply pdUncounted_keeps c
    | with_reducible apply cableDone_keeps c
    | with_reducible apply pdViolation_keeps c
    | with_reducible apply vdmAnswered_keeps c
    | with_reducible apply vdmFailed_keeps c
    | with_reducible apply vdmAsked_keeps c
    | with_reducible refine ite_keeps ?_ ?_

theorem evVdmTimeout_keeps (c : Closed P) (p : Nat) (h : P s) : P (s.evVdmTimeout p) := by
  unfold State.evVdmTimeout
  repeat' first
    | with_reducible assumption
    | (lift_lets; intro y; clear_value y)
    | with_reducible apply pdUncounted_keeps c
    | with_reducible apply cableDone_keeps c
    | with_reducible apply vdmFailed_keeps c
    | with_reducible refine ite_keeps ?_ ?_
    | split

theorem evVdmSendDone_keeps (c : Closed P) (p : Nat) (ok : Bool) (h : P s) : P (s.evVdmSendDone p ok) := by
  unfold State.evVdmSendDone
  repeat' first
    | with_reducible assumption
    | with_reducible apply vdmOver_keeps c
    | with_reducible apply fault_keeps c
    | with_reducible refine ite_keeps ?_ ?_

theorem dropExchange_keeps (c : Closed P) (p : Nat) (h : P s) : P (s.dropExchange p) := by
  unfold State.dropExchange
  repeat' first
    | with_reducible assumption
    | with_reducible apply onPd_keeps c

theorem evSbuClose_keeps (c : Closed P) (p : Nat) (h : P s) : P (s.evSbuClose p) := by
  unfold State.evSbuClose
  repeat' first
    | with_reducible assumption
    | (lift_lets; intro y; clear_value y)
    | with_reducible apply onPd_keeps c
    | fail_if_no_progress (with_reducible refine c.put rfl ?_)
    | with_reducible refine ite_keeps ?_ ?_
    | split

theorem evSbuOpen_keeps (c : Closed P) (p : Nat) (h : P s) : P (s.evSbuOpen p) := by
  unfold State.evSbuOpen
  dsimp only
  repeat' first
    | with_reducible assumption
    | with_reducible apply onPd_keeps c
    | with_reducible apply sends_keeps c
    | with_reducible apply onSeg_keeps c
    | fail_if_no_progress (with_reducible refine c.put rfl ?_)
    | with_reducible refine ite_keeps ?_ ?_
    | split

theorem evSbuOvervoltage_keeps (c : Closed P) (p : Nat) (mv : BitVec 16) (h : P s) : P (s.evSbuOvervoltage p mv) := by
  unfold State.evSbuOvervoltage
  repeat' first
    | with_reducible assumption
    | (lift_lets; intro y; refine bind_keeps (P := P) (y := y) ?_ ?_; (on_goal 2 => (intro _; clear_value y)); (on_goal 1 => unfold y))
    | (lift_lets; intro y; clear_value y)
    | (intro y; refine bind_keeps (P := P) (y := y) ?_ ?_; (on_goal 2 => (intro _; clear_value y)); (on_goal 1 => unfold y))
    | with_reducible apply onPd_keeps c
    | with_reducible apply pdUncounted_keeps c
    | with_reducible apply untether_keeps c
    | with_reducible apply sends_keeps c
    | fail_if_no_progress (with_reducible refine c.put rfl ?_)
    | with_reducible refine ite_keeps ?_ ?_
    | split

theorem reserveForCaps_keeps (c : Closed P) (p : Nat) (h : P s) : P (s.reserveForCaps p) := by
  unfold State.reserveForCaps
  cases e : s.reserve p true with
  | none => exact h
  | some t => exact reserve_keeps c e h

theorem doRenegotiate_keeps (c : Closed P) (p : Nat) (allowProvisional : Bool) (h : P s) : P (s.doRenegotiate p allowProvisional) := by
  unfold State.doRenegotiate
  repeat' first
    | with_reducible assumption
    | (lift_lets; intro y; clear_value y)
    | (intro y; refine bind_keeps (P := P) (y := y) ?_ ?_; (on_goal 2 => (intro _; clear_value y)); (on_goal 1 => unfold y))
    | (intro y; clear_value y)
    | with_reducible apply closeP1_keeps c
    | with_reducible apply reserveForCaps_keeps c
    | with_reducible apply onPort_keeps c
    | with_reducible apply issueP1_keeps c
    | with_reducible apply onPd_keeps c
    | with_reducible apply sendDue_keeps c
    | with_reducible apply pdIdle_keeps c
    | with_reducible apply redistributeSince_keeps c
    | fail_if_no_progress (with_reducible refine c.put rfl ?_)
    | with_reducible refine ite_keeps ?_ ?_
    | split

theorem doPdHardReset_keeps (c : Closed P) (p : Nat) (h : P s) : P (s.doPdHardReset p) := by
  unfold State.doPdHardReset
  repeat' first
    | with_reducible assumption
    | (lift_lets; intro y; refine bind_keeps (P := P) (y := y) ?_ ?_; (on_goal 2 => (intro _; clear_value y)); (on_goal 1 => unfold y))
    | with_reducible apply dropExchange_keeps c
    | with_reducible apply hardReset_keeps c
    | with_reducible refine ite_keeps ?_ ?_

theorem doVdmSend_keeps (c : Closed P) (p sop : Nat) (objects : List Word) (h : P s) : P (s.doVdmSend p sop objects) := by
  unfold State.doVdmSend
  repeat' first
    | with_reducible assumption
    | (lift_lets; intro y; clear_value y)
    | (intro y; clear_value y)
    | with_reducible apply onPd_keeps c
    | with_reducible apply sends_keeps c

theorem doModeExit_keeps (c : Closed P) (p : Nat) (h : P s) : P (s.doModeExit p) := by
  unfold State.doModeExit
  repeat' first
    | with_reducible assumption
    | (lift_lets; intro y; refine bind_keeps (P := P) (y := y) ?_ ?_; (on_goal 2 => (intro _; clear_value y)); (on_goal 1 => unfold y))
    | with_reducible apply onPd_keeps c
    | with_reducible apply onSeg_keeps c
    | with_reducible apply sends_keeps c
    | fail_if_no_progress (with_reducible refine c.put rfl ?_)
    | with_reducible refine ite_keeps ?_ ?_
    | split

end Sys2Proof.Machine
end

