-- ==== Sys2Proof/Laws/KeepChans.lean ====
section
/-! SUPPORT. The functions of Machine/Chans.lean keep a closed property. -/

namespace Sys2Proof.Machine

variable {P : State → Prop} {s : State}

theorem tripEntry_keeps (c : Closed P) (ch cause used : Nat) (ma mv : BitVec 16) (h : P s) : P (s.tripEntry ch cause used ma mv) := by
  unfold State.tripEntry
  repeat' first
    | with_reducible assumption
    | (lift_lets; intro y; refine bind_keeps (P := P) (y := y) ?_ ?_; (on_goal 2 => (intro _; clear_value y)); (on_goal 1 => unfold y))
    | (intro y; refine bind_keeps (P := P) (y := y) ?_ ?_; (on_goal 2 => (intro _; clear_value y)); (on_goal 1 => unfold y))
    | with_reducible refine when_keeps (fun _ _ => ?_) ?_
    | with_reducible apply append_keeps c
    | with_reducible apply onChan_keeps c
    | with_reducible apply onBus_keeps c

theorem waitRetry_keeps (c : Closed P) (ch : Nat) (h : P s) : P (s.waitRetry ch) := by
  unfold State.waitRetry
  repeat' first
    | with_reducible assumption
    | (lift_lets; intro y; refine bind_keeps (P := P) (y := y) ?_ ?_; (on_goal 2 => (intro _; clear_value y)); (on_goal 1 => unfold y))
    | (intro y; refine bind_keeps (P := P) (y := y) ?_ ?_; (on_goal 2 => (intro _; clear_value y)); (on_goal 1 => unfold y))
    | with_reducible refine when_keeps (fun _ _ => ?_) ?_
    | with_reducible apply closeP1_keeps c
    | with_reducible apply onChan_keeps c
    | with_reducible apply endPower_keeps c
    | with_reducible apply endOps_keeps c

theorem trip_keeps (c : Closed P) (ch cause : Nat) (ma mv : BitVec 16) (h : P s) : P (s.trip ch cause ma mv) := by
  unfold State.trip
  repeat' first
    | with_reducible assumption
    | (lift_lets; intro y; refine bind_keeps (P := P) (y := y) ?_ ?_; (on_goal 2 => (intro _; clear_value y)); (on_goal 1 => unfold y))
    | (lift_lets; intro y; clear_value y)
    | (intro y; refine bind_keeps (P := P) (y := y) ?_ ?_; (on_goal 2 => (intro _; clear_value y)); (on_goal 1 => unfold y))
    | with_reducible apply tripEntry_keeps c
    | with_reducible apply waitRetry_keeps c
    | with_reducible apply lockChan_keeps c
    | with_reducible apply redistribute_keeps c
    | with_reducible apply linkTripped_keeps c
    | with_reducible apply onChan_keeps c
    | fail_if_no_progress (with_reducible refine c.put rfl ?_)
    | with_reducible refine ite_keeps ?_ ?_
    | split

theorem evHardShort_keeps (c : Closed P) (ch : Nat) (ma mv : BitVec 16) (h : P s) : P (s.evHardShort ch ma mv) := by
  unfold State.evHardShort
  repeat' first
    | with_reducible assumption
    | with_reducible apply trip_keeps c
    | with_reducible refine ite_keeps ?_ ?_

theorem evOverload_keeps (c : Closed P) (ch : Nat) (ma mv : BitVec 16) (h : P s) : P (s.evOverload ch ma mv) := by
  unfold State.evOverload
  repeat' first
    | with_reducible assumption
    | with_reducible apply trip_keeps c
    | with_reducible refine ite_keeps ?_ ?_

theorem evOverTemperature_keeps (c : Closed P) (ch : Nat) (ma mv : BitVec 16) (h : P s) : P (s.evOverTemperature ch ma mv) := by
  unfold State.evOverTemperature
  repeat' first
    | with_reducible assumption
    | with_reducible apply trip_keeps c
    | with_reducible refine ite_keeps ?_ ?_

theorem evRampFault_keeps (c : Closed P) (ch : Nat) (ma mv : BitVec 16) (h : P s) : P (s.evRampFault ch ma mv) := by
  unfold State.evRampFault
  repeat' first
    | with_reducible assumption
    | with_reducible apply trip_keeps c
    | split

theorem evLimitReached_keeps (c : Closed P) (ch : Nat) (h : P s) : P (s.evLimitReached ch) := by
  unfold State.evLimitReached
  repeat' first
    | with_reducible assumption
    | with_reducible apply onChan_keeps c
    | fail_if_no_progress (with_reducible refine c.put rfl ?_)
    | with_reducible refine ite_keeps ?_ ?_

theorem evRegulationEnd_keeps (c : Closed P) (ch : Nat) (h : P s) : P (s.evRegulationEnd ch) := by
  unfold State.evRegulationEnd
  repeat' first
    | with_reducible assumption
    | with_reducible apply onChan_keeps c
    | fail_if_no_progress (with_reducible refine c.put rfl ?_)
    | with_reducible refine ite_keeps ?_ ?_

theorem evRampComplete_keeps (c : Closed P) (ch : Nat) (h : P s) : P (s.evRampComplete ch) := by
  unfold State.evRampComplete
  repeat' first
    | with_reducible assumption
    | with_reducible apply onChan_keeps c
    | with_reducible apply vsafeReached_keeps c
    | fail_if_no_progress (with_reducible refine c.put rfl ?_)
    | with_reducible refine ite_keeps ?_ ?_

theorem evGatePass_keeps (c : Closed P) (ch : Nat) (h : P s) : P (s.evGatePass ch) := by
  unfold State.evGatePass
  repeat' first
    | with_reducible assumption
    | (lift_lets; intro y; clear_value y)
    | (intro y; refine bind_keeps (P := P) (y := y) ?_ ?_; (on_goal 2 => (intro _; clear_value y)); (on_goal 1 => unfold y))
    | with_reducible apply onChan_keeps c
    | with_reducible apply vsafeReached_keeps c
    | fail_if_no_progress (with_reducible refine c.put rfl ?_)
    | with_reducible refine ite_keeps ?_ ?_

theorem evGateTimeout_keeps (c : Closed P) (ch : Nat) (mv : BitVec 16) (h : P s) : P (s.evGateTimeout ch mv) := by
  unfold State.evGateTimeout
  repeat' first
    | with_reducible assumption
    | (lift_lets; intro y; refine bind_keeps (P := P) (y := y) ?_ ?_; (on_goal 2 => (intro _; clear_value y)); (on_goal 1 => unfold y))
    | with_reducible apply append_keeps c
    | with_reducible apply lockChan_keeps c
    | with_reducible apply redistribute_keeps c
    | with_reducible apply linkTripped_keeps c
    | with_reducible refine ite_keeps ?_ ?_

theorem retry_keeps (c : Closed P) (ch : Nat) (external : Bool) (h : P s) : P (s.retry ch external) := by
  unfold State.retry
  repeat' first
    | with_reducible assumption
    | (lift_lets; intro y; clear_value y)
    | (intro y; refine bind_keeps (P := P) (y := y) ?_ ?_; (on_goal 2 => (intro _; clear_value y)); (on_goal 1 => unfold y))
    | (intro y; clear_value y)
    | with_reducible apply onChan_keeps c
    | with_reducible apply append_keeps c
    | with_reducible apply chanUp_keeps c
    | with_reducible apply reserveAgain_keeps c
    | with_reducible apply negotiate_keeps c
    | with_reducible apply redistributeSince_keeps c
    | fail_if_no_progress (with_reducible refine c.put rfl ?_)
    | with_reducible refine ite_keeps ?_ ?_

theorem evRetryDelay_keeps (c : Closed P) (ch : Nat) (h : P s) : P (s.evRetryDelay ch) := by
  unfold State.evRetryDelay
  repeat' first
    | with_reducible assumption
    | with_reducible apply onChan_keeps c
    | with_reducible apply retry_keeps c
    | fail_if_no_progress (with_reducible refine c.put rfl ?_)
    | with_reducible refine ite_keeps ?_ ?_

theorem leak_keeps (c : Closed P) (ch suspect : Nat) (mv : BitVec 16) (h : P s) : P (s.leak ch suspect mv) := by
  unfold State.leak
  repeat' first
    | with_reducible assumption
    | (lift_lets; intro y; refine bind_keeps (P := P) (y := y) ?_ ?_; (on_goal 2 => (intro _; clear_value y)); (on_goal 1 => unfold y))
    | with_reducible apply append_keeps c
    | with_reducible apply onPort_keeps c
    | with_reducible apply lockChan_keeps c
    | with_reducible apply redistribute_keeps c

theorem evDischargeEnd_keeps (c : Closed P) (ch : Nat) (h : P s) : P (s.evDischargeEnd ch) := by
  unfold State.evDischargeEnd
  repeat' first
    | with_reducible assumption
    | with_reducible apply onChan_keeps c
    | fail_if_no_progress (with_reducible refine c.put rfl ?_)
    | with_reducible refine ite_keeps ?_ ?_

theorem suspectRail_keeps (c : Closed P) (h : P s) : P s.suspectRail.2 := c.free h rfl rfl rfl

theorem evOffCheck_keeps (c : Closed P) (ch : Nat) (mv : BitVec 16) (h : P s) : P (s.evOffCheck ch mv) := by
  unfold State.evOffCheck
  refine ite_keeps (ite_keeps ?_ ?_) h
  · exact onPort_keeps c _ _ (onChan_keeps c _ _ h)
  · have e := suspectRail_keeps c h
    generalize s.suspectRail = x at e ⊢
    obtain ⟨r, t⟩ := x
    exact leak_keeps c _ _ _ e

theorem evBackdrive_keeps (c : Closed P) (ch : Nat) (ms : BitVec 16) (h : P s) : P (s.evBackdrive ch ms) := by
  unfold State.evBackdrive
  repeat' first
    | with_reducible assumption
    | (lift_lets; intro y; clear_value y)
    | (intro y; refine bind_keeps (P := P) (y := y) ?_ ?_; (on_goal 2 => (intro _; clear_value y)); (on_goal 1 => unfold y))
    | with_reducible apply portViolation_keeps c
    | with_reducible apply onChan_keeps c
    | with_reducible apply onPort_keeps c
    | fail_if_no_progress (with_reducible refine c.put rfl ?_)
    | with_reducible refine ite_keeps ?_ ?_

theorem evLegLeak_keeps (c : Closed P) (ch : Nat) (suspect : Byte) (mv : BitVec 16) (h : P s) : P (s.evLegLeak ch suspect mv) := by
  unfold State.evLegLeak
  repeat' first
    | with_reducible assumption
    | with_reducible apply leak_keeps c
    | with_reducible refine ite_keeps ?_ ?_

theorem railChange_keeps (c : Closed P) (rail how : Nat) (up external : Bool) (h : P s) : P (s.railChange rail how up external) :=
  c.free (fault_keeps c external 3 blkChan 0x0420 0 (b8 rail ++ b8 how) h) rfl rfl rfl

theorem railGone_keeps (c : Closed P) (rail how : Nat) (external : Bool) (h : P s) : P (s.railGone rail how external) := by
  unfold State.railGone
  repeat' first
    | with_reducible assumption
    | (lift_lets; intro y; refine bind_keeps (P := P) (y := y) ?_ ?_; (on_goal 2 => (intro _; clear_value y)); (on_goal 1 => unfold y))
    | with_reducible refine each_keeps (fun _ _ _ => ?_) ?_
    | with_reducible apply railChange_keeps c
    | with_reducible apply policyOff_keeps c
    | with_reducible apply fault_keeps c
    | with_reducible apply onPort_keeps c
    | with_reducible apply hardReset_keeps c
    | fail_if_no_progress (with_reducible refine c.put rfl ?_)
    | with_reducible refine ite_keeps ?_ ?_

theorem railLost_keeps (c : Closed P) (rail how : Nat) (h : P s) : P (s.railLost rail how) := by
  unfold State.railLost
  repeat' first
    | with_reducible assumption
    | with_reducible apply railGone_keeps c
    | with_reducible refine ite_keeps ?_ ?_

theorem evRailLow_keeps (c : Closed P) (rail : Nat) (h : P s) : P (s.evRailLow rail) := by
  unfold State.evRailLow
  repeat' first
    | with_reducible assumption
    | with_reducible apply railLost_keeps c

theorem legsOff_keeps (c : Closed P) (rail : Nat) (h : P s) : P (s.legsOff rail) := by
  unfold State.legsOff
  repeat' first
    | with_reducible assumption
    | with_reducible refine each_keeps (fun _ _ _ => ?_) ?_
    | with_reducible apply onChan_keeps c

theorem evRailHigh_keeps (c : Closed P) (rail : Nat) (h : P s) : P (s.evRailHigh rail) := by
  unfold State.evRailHigh
  repeat' first
    | with_reducible assumption
    | with_reducible apply legsOff_keeps c
    | with_reducible apply railLost_keeps c
    | with_reducible refine ite_keeps ?_ ?_

theorem evRailBack_keeps (c : Closed P) (rail : Nat) (h : P s) : P (s.evRailBack rail) := by
  unfold State.evRailBack
  repeat' first
    | with_reducible assumption
    | (lift_lets; intro y; refine bind_keeps (P := P) (y := y) ?_ ?_; (on_goal 2 => (intro _; clear_value y)); (on_goal 1 => unfold y))
    | with_reducible apply railChange_keeps c
    | with_reducible apply redistribute_keeps c
    | with_reducible refine ite_keeps ?_ ?_

theorem doChanOn_keeps (c : Closed P) (ch : Nat) (h : P s) : P (s.doChanOn ch) := by
  unfold State.doChanOn
  repeat' first
    | with_reducible assumption
    | with_reducible apply stagePad_keeps c
    | with_reducible refine reserve_keeps c (by with_reducible assumption) ?_
    | with_reducible apply powerPort_keeps c
    | with_reducible apply chanUp_keeps c
    | with_reducible refine ite_keeps ?_ ?_
    | split

theorem keepOff_keeps (c : Closed P) (p : Nat) (h : P s) : P (s.keepOff p) := by
  unfold State.keepOff
  repeat' first
    | with_reducible assumption
    | (lift_lets; intro y; refine bind_keeps (P := P) (y := y) ?_ ?_; (on_goal 2 => (intro _; clear_value y)); (on_goal 1 => unfold y))
    | with_reducible apply onPort_keeps c
    | with_reducible refine onPw_keeps c _ rfl ?_

theorem doChanOff_keeps (c : Closed P) (ch : Nat) (h : P s) : P (s.doChanOff ch) := by
  unfold State.doChanOff
  repeat' first
    | with_reducible assumption
    | (lift_lets; intro y; refine bind_keeps (P := P) (y := y) ?_ ?_; (on_goal 2 => (intro _; clear_value y)); (on_goal 1 => unfold y))
    | with_reducible apply stagePad_keeps c
    | with_reducible apply portOff_keeps c
    | with_reducible apply releaseGrant_keeps c
    | with_reducible apply endOps_keeps c
    | with_reducible apply clearRetries_keeps c
    | with_reducible apply keepOff_keeps c
    | with_reducible apply redistribute_keeps c
    | with_reducible apply chanDown_keeps c
    | with_reducible refine ite_keeps ?_ ?_

theorem doClearTrip_keeps (c : Closed P) (ch : Nat) (h : P s) : P (s.doClearTrip ch) := by
  unfold State.doClearTrip
  repeat' first
    | with_reducible assumption
    | with_reducible apply onChan_keeps c
    | with_reducible apply portOff_keeps c
    | with_reducible apply clearRetries_keeps c
    | with_reducible apply redistribute_keeps c
    | with_reducible apply chanDown_keeps c
    | fail_if_no_progress (with_reducible refine c.put rfl ?_)
    | with_reducible refine ite_keeps ?_ ?_
    | split

theorem measureReply_keeps (c : Closed P) (ch : Nat) (h : P s) : P (s.measureReply ch).2 := c.free h rfl rfl rfl

end Sys2Proof.Machine
end

