-- ==== Sys2Proof/Laws/KeepHub.lean ====
section
/-! SUPPORT. The functions of Machine/Hub.lean keep a closed property. -/

namespace Sys2Proof.Machine

variable {P : State → Prop} {s : State}

theorem dropBus_keeps (c : Closed P) (p : Nat) (external : Bool) (h : P s) : P (s.dropBus p external) := by
  unfold State.dropBus
  repeat' first
    | with_reducible assumption
    | with_reducible apply onBus_keeps c
    | with_reducible apply endOpsOf_keeps c
    | with_reducible apply fault_keeps c

theorem holdEntry_keeps (c : Closed P) (p : Nat) (k : Kind) (cause code : Nat) (external : Bool) (h : P s) : P (s.holdEntry p k cause code external) := by
  unfold State.holdEntry
  repeat' first
    | with_reducible assumption
    | with_reducible apply append_keeps c

theorem suspendPort_keeps (c : Closed P) (p initiator : Nat) (external : Bool) (h : P s) : P (s.suspendPort p initiator external) := by
  unfold State.suspendPort
  repeat' first
    | with_reducible assumption
    | (lift_lets; intro y; refine bind_keeps (P := P) (y := y) ?_ ?_; (on_goal 2 => (intro _; clear_value y)); (on_goal 1 => unfold y))
    | (lift_lets; intro y; clear_value y)
    | (intro y; refine bind_keeps (P := P) (y := y) ?_ ?_; (on_goal 2 => (intro _; clear_value y)); (on_goal 1 => unfold y))
    | (intro y; clear_value y)
    | with_reducible apply onBus_keeps c
    | with_reducible apply append_keeps c
    | fail_if_no_progress (with_reducible refine c.put rfl ?_)

theorem resumePort_keeps (c : Closed P) (p initiator : Nat) (external : Bool) (h : P s) : P (s.resumePort p initiator external) := by
  unfold State.resumePort
  repeat' first
    | with_reducible assumption
    | (lift_lets; intro y; refine bind_keeps (P := P) (y := y) ?_ ?_; (on_goal 2 => (intro _; clear_value y)); (on_goal 1 => unfold y))
    | (lift_lets; intro y; clear_value y)
    | (intro y; refine bind_keeps (P := P) (y := y) ?_ ?_; (on_goal 2 => (intro _; clear_value y)); (on_goal 1 => unfold y))
    | (intro y; clear_value y)
    | with_reducible apply onBus_keeps c
    | with_reducible apply append_keeps c
    | fail_if_no_progress (with_reducible refine c.put rfl ?_)

theorem linkDrop_keeps (c : Closed P) (h : P s) : P (s.linkDrop) := by
  unfold State.linkDrop
  repeat' first
    | with_reducible assumption
    | with_reducible refine each_keeps (fun _ _ _ => ?_) ?_
    | with_reducible apply onHub_keeps c
    | with_reducible apply onBus_keeps c

theorem linkDown_keeps (c : Closed P) (h : P s) : P (s.linkDown) := by
  unfold State.linkDown
  repeat' first
    | with_reducible assumption
    | with_reducible apply linkDrop_keeps c
    | with_reducible apply append_keeps c
    | with_reducible refine ite_keeps ?_ ?_
    | split

theorem vbusUp_keeps (c : Closed P) (h : P s) : P (s.vbusUp) := by
  unfold State.vbusUp
  repeat' first
    | with_reducible assumption
    | fail_if_no_progress (with_reducible refine c.put rfl ?_)

theorem evVbusArrival_keeps (c : Closed P) (h : P s) : P (s.evVbusArrival) := by
  unfold State.evVbusArrival
  repeat' first
    | with_reducible assumption
    | with_reducible apply vbusUp_keeps c
    | with_reducible apply reselect_keeps c
    | with_reducible refine ite_keeps ?_ ?_
    | split

theorem evVbusLoss_keeps (c : Closed P) (h : P s) : P (s.evVbusLoss) := by
  unfold State.evVbusLoss
  repeat' first
    | with_reducible assumption
    | with_reducible apply linkDown_keeps c
    | with_reducible apply onHub_keeps c
    | with_reducible apply reselect_keeps c
    | fail_if_no_progress (with_reducible refine c.put rfl ?_)
    | with_reducible refine ite_keeps ?_ ?_
    | split

theorem resumeBus_keeps (c : Closed P) (h : P s) : P (s.resumeBus) := by
  unfold State.resumeBus
  repeat' first
    | with_reducible assumption
    | with_reducible refine each_keeps (fun _ _ _ => ?_) ?_
    | with_reducible apply resumePort_keeps c
    | with_reducible refine ite_keeps ?_ ?_
    | split

theorem suspendHub_keeps (c : Closed P) (h : P s) : P (s.suspendHub) := by
  unfold State.suspendHub
  repeat' first
    | with_reducible assumption
    | (lift_lets; intro y; refine bind_keeps (P := P) (y := y) ?_ ?_; (on_goal 2 => (intro _; clear_value y)); (on_goal 1 => unfold y))
    | (lift_lets; intro y; clear_value y)
    | (intro y; refine bind_keeps (P := P) (y := y) ?_ ?_; (on_goal 2 => (intro _; clear_value y)); (on_goal 1 => unfold y))
    | (intro y; clear_value y)
    | with_reducible refine each_keeps (fun _ _ _ => ?_) ?_
    | with_reducible apply onHub_keeps c
    | with_reducible apply suspendPort_keeps c
    | fail_if_no_progress (with_reducible refine c.put rfl ?_)
    | with_reducible refine ite_keeps ?_ ?_
    | split

theorem resumeHub_keeps (c : Closed P) (h : P s) : P (s.resumeHub) := by
  unfold State.resumeHub
  repeat' first
    | with_reducible assumption
    | with_reducible apply onHub_keeps c
    | with_reducible apply resumeBus_keeps c
    | fail_if_no_progress (with_reducible refine c.put rfl ?_)
    | with_reducible refine ite_keeps ?_ ?_
    | split

theorem upLinkEntry_keeps (c : Closed P) (old oldSpeed : Nat) (h : P s) : P (s.upLinkEntry old oldSpeed) := by
  unfold State.upLinkEntry
  repeat' first
    | with_reducible assumption
    | (lift_lets; intro y; refine bind_keeps (P := P) (y := y) ?_ ?_; (on_goal 2 => (intro _; clear_value y)); (on_goal 1 => unfold y))
    | (lift_lets; intro y; clear_value y)
    | (intro y; refine bind_keeps (P := P) (y := y) ?_ ?_; (on_goal 2 => (intro _; clear_value y)); (on_goal 1 => unfold y))
    | (intro y; clear_value y)
    | with_reducible apply append_keeps c
    | with_reducible refine ite_keeps ?_ ?_
    | split

theorem upLanesEntry_keeps (c : Closed P) (trained : Bool) (h : P s) : P (s.upLanesEntry trained) := by
  unfold State.upLanesEntry
  repeat' first
    | with_reducible assumption
    | with_reducible apply onHub_keeps c
    | with_reducible apply append_keeps c
    | fail_if_no_progress (with_reducible refine c.put rfl ?_)
    | with_reducible refine ite_keeps ?_ ?_
    | split

theorem upLinkUp_keeps (c : Closed P) (state speed lanes : Nat) (warm : Bool) (h : P s) : P (s.upLinkUp state speed lanes warm) := by
  unfold State.upLinkUp
  repeat' first
    | with_reducible assumption
    | (lift_lets; intro y; refine bind_keeps (P := P) (y := y) ?_ ?_; (on_goal 2 => (intro _; clear_value y)); (on_goal 1 => unfold y))
    | (lift_lets; intro y; clear_value y)
    | (intro y; refine bind_keeps (P := P) (y := y) ?_ ?_; (on_goal 2 => (intro _; clear_value y)); (on_goal 1 => unfold y))
    | (intro y; clear_value y)
    | with_reducible refine when_keeps (fun _ _ => ?_) ?_
    | with_reducible apply onHub_keeps c
    | with_reducible apply upLinkEntry_keeps c
    | with_reducible apply upLanesEntry_keeps c
    | with_reducible apply suspendHub_keeps c
    | with_reducible apply resumeHub_keeps c
    | fail_if_no_progress (with_reducible refine c.put rfl ?_)
    | with_reducible refine ite_keeps ?_ ?_
    | split

theorem evUpLink_keeps (c : Closed P) (state speed lanes : Nat) (warm : Bool) (h : P s) : P (s.evUpLink state speed lanes warm) := by
  unfold State.evUpLink
  repeat' first
    | with_reducible assumption
    | with_reducible apply linkDown_keeps c
    | with_reducible apply upLinkUp_keeps c
    | with_reducible refine ite_keeps ?_ ?_
    | split

theorem evLaneRecovery_keeps (c : Closed P) (_lane : Nat) (h : P s) : P (s.evLaneRecovery _lane) := by
  unfold State.evLaneRecovery
  repeat' first
    | with_reducible assumption
    | (lift_lets; intro y; refine bind_keeps (P := P) (y := y) ?_ ?_; (on_goal 2 => (intro _; clear_value y)); (on_goal 1 => unfold y))
    | (lift_lets; intro y; clear_value y)
    | (intro y; refine bind_keeps (P := P) (y := y) ?_ ?_; (on_goal 2 => (intro _; clear_value y)); (on_goal 1 => unfold y))
    | (intro y; clear_value y)
    | with_reducible apply onHub_keeps c
    | with_reducible apply append_keeps c
    | fail_if_no_progress (with_reducible refine c.put rfl ?_)
    | with_reducible refine ite_keeps ?_ ?_
    | split

theorem evLpm_keeps (c : Closed P) (h : P s) : P (s.evLpm) := by
  unfold State.evLpm
  repeat' first
    | with_reducible assumption
    | (lift_lets; intro y; refine bind_keeps (P := P) (y := y) ?_ ?_; (on_goal 2 => (intro _; clear_value y)); (on_goal 1 => unfold y))
    | (lift_lets; intro y; clear_value y)
    | (intro y; refine bind_keeps (P := P) (y := y) ?_ ?_; (on_goal 2 => (intro _; clear_value y)); (on_goal 1 => unfold y))
    | (intro y; clear_value y)
    | with_reducible apply answering_keeps c
    | with_reducible refine ite_keeps ?_ ?_
    | split

theorem sourceAgain_keeps (c : Closed P) (p : Nat) (h : P s) : P (s.sourceAgain p) := by
  unfold State.sourceAgain
  repeat' first
    | with_reducible assumption
    | (lift_lets; intro y; refine bind_keeps (P := P) (y := y) ?_ ?_; (on_goal 2 => (intro _; clear_value y)); (on_goal 1 => unfold y))
    | (lift_lets; intro y; clear_value y)
    | (intro y; refine bind_keeps (P := P) (y := y) ?_ ?_; (on_goal 2 => (intro _; clear_value y)); (on_goal 1 => unfold y))
    | (intro y; clear_value y)
    | with_reducible apply onBus_keeps c
    | with_reducible apply reserveAndPower_keeps c
    | with_reducible apply onPort_keeps c
    | fail_if_no_progress (with_reducible refine c.put rfl ?_)
    | with_reducible refine ite_keeps ?_ ?_
    | split

theorem powerAway_keeps (c : Closed P) (p : Nat) (h : P s) : P (s.powerAway p) := by
  unfold State.powerAway
  repeat' first
    | with_reducible assumption
    | (lift_lets; intro y; refine bind_keeps (P := P) (y := y) ?_ ?_; (on_goal 2 => (intro _; clear_value y)); (on_goal 1 => unfold y))
    | (lift_lets; intro y; clear_value y)
    | (intro y; refine bind_keeps (P := P) (y := y) ?_ ?_; (on_goal 2 => (intro _; clear_value y)); (on_goal 1 => unfold y))
    | (intro y; clear_value y)
    | with_reducible refine when_keeps (fun _ _ => ?_) ?_
    | with_reducible apply policyOff_keeps c
    | with_reducible apply fault_keeps c
    | with_reducible apply redistribute_keeps c
    | with_reducible apply onPort_keeps c
    | fail_if_no_progress (with_reducible refine c.put rfl ?_)

theorem evHostPortPower_keeps (c : Closed P) (p : Nat) (on : Bool) (h : P s) : P (s.evHostPortPower p on) := by
  unfold State.evHostPortPower
  repeat' first
    | with_reducible assumption
    | (lift_lets; intro y; refine bind_keeps (P := P) (y := y) ?_ ?_; (on_goal 2 => (intro _; clear_value y)); (on_goal 1 => unfold y))
    | (lift_lets; intro y; clear_value y)
    | (intro y; refine bind_keeps (P := P) (y := y) ?_ ?_; (on_goal 2 => (intro _; clear_value y)); (on_goal 1 => unfold y))
    | (intro y; clear_value y)
    | with_reducible refine when_keeps (fun _ _ => ?_) ?_
    | with_reducible apply onBus_keeps c
    | with_reducible apply holdEntry_keeps c
    | with_reducible apply sourceAgain_keeps c
    | with_reducible apply dropBus_keeps c
    | with_reducible apply powerAway_keeps c
    | fail_if_no_progress (with_reducible refine c.put rfl ?_)
    | with_reducible refine ite_keeps ?_ ?_
    | split

theorem evHostPortReset_keeps (c : Closed P) (p : Nat) (h : P s) : P (s.evHostPortReset p) := by
  unfold State.evHostPortReset
  repeat' first
    | with_reducible assumption
    | with_reducible apply onBus_keeps c
    | fail_if_no_progress (with_reducible refine c.put rfl ?_)
    | with_reducible refine ite_keeps ?_ ?_
    | split

theorem evPortResetComplete_keeps (c : Closed P) (p : Nat) (speed : Option Nat) (h : P s) : P (s.evPortResetComplete p speed) := by
  unfold State.evPortResetComplete
  repeat' first
    | with_reducible assumption
    | (lift_lets; intro y; refine bind_keeps (P := P) (y := y) ?_ ?_; (on_goal 2 => (intro _; clear_value y)); (on_goal 1 => unfold y))
    | (lift_lets; intro y; clear_value y)
    | (intro y; refine bind_keeps (P := P) (y := y) ?_ ?_; (on_goal 2 => (intro _; clear_value y)); (on_goal 1 => unfold y))
    | (intro y; clear_value y)
    | with_reducible apply onBus_keeps c
    | with_reducible apply tagged_keeps c
    | with_reducible apply append_keeps c
    | with_reducible apply endOpsOf_keeps c
    | with_reducible apply fault_keeps c
    | fail_if_no_progress (with_reducible refine c.put rfl ?_)
    | with_reducible refine ite_keeps ?_ ?_
    | split

theorem evSsLinkU0_keeps (c : Closed P) (p speed : Nat) (h : P s) : P (s.evSsLinkU0 p speed) := by
  unfold State.evSsLinkU0
  repeat' first
    | with_reducible assumption
    | with_reducible apply onBus_keeps c
    | with_reducible apply append_keeps c
    | fail_if_no_progress (with_reducible refine c.put rfl ?_)
    | with_reducible refine ite_keeps ?_ ?_
    | split

theorem evConnectChange_keeps (c : Closed P) (p : Nat) (connected ss : Bool) (h : P s) : P (s.evConnectChange p connected ss) := by
  unfold State.evConnectChange
  repeat' first
    | with_reducible assumption
    | (lift_lets; intro y; refine bind_keeps (P := P) (y := y) ?_ ?_; (on_goal 2 => (intro _; clear_value y)); (on_goal 1 => unfold y))
    | (lift_lets; intro y; clear_value y)
    | (intro y; refine bind_keeps (P := P) (y := y) ?_ ?_; (on_goal 2 => (intro _; clear_value y)); (on_goal 1 => unfold y))
    | (intro y; clear_value y)
    | with_reducible apply onBus_keeps c
    | with_reducible apply dropBus_keeps c
    | fail_if_no_progress (with_reducible refine c.put rfl ?_)
    | with_reducible refine ite_keeps ?_ ?_
    | split

theorem evHostSuspend_keeps (c : Closed P) (p : Nat) (h : P s) : P (s.evHostSuspend p) := by
  unfold State.evHostSuspend
  repeat' first
    | with_reducible assumption
    | (lift_lets; intro y; refine bind_keeps (P := P) (y := y) ?_ ?_; (on_goal 2 => (intro _; clear_value y)); (on_goal 1 => unfold y))
    | (lift_lets; intro y; clear_value y)
    | (intro y; refine bind_keeps (P := P) (y := y) ?_ ?_; (on_goal 2 => (intro _; clear_value y)); (on_goal 1 => unfold y))
    | (intro y; clear_value y)
    | with_reducible apply suspendPort_keeps c
    | with_reducible refine ite_keeps ?_ ?_
    | split

theorem evHostResume_keeps (c : Closed P) (p : Nat) (h : P s) : P (s.evHostResume p) := by
  unfold State.evHostResume
  repeat' first
    | with_reducible assumption
    | with_reducible apply resumePort_keeps c
    | with_reducible refine ite_keeps ?_ ?_
    | split

theorem evResumeComplete_keeps (c : Closed P) (p : Nat) (h : P s) : P (s.evResumeComplete p) := by
  unfold State.evResumeComplete
  repeat' first
    | with_reducible assumption
    | with_reducible apply onBus_keeps c
    | with_reducible apply endOpsOf_keeps c
    | fail_if_no_progress (with_reducible refine c.put rfl ?_)
    | with_reducible refine ite_keeps ?_ ?_
    | split

theorem evSuspendComplete_keeps (c : Closed P) (p : Nat) (h : P s) : P (s.evSuspendComplete p) := by
  unfold State.evSuspendComplete
  repeat' first
    | with_reducible assumption
    | with_reducible apply onBus_keeps c
    | with_reducible apply endOpsOf_keeps c
    | fail_if_no_progress (with_reducible refine c.put rfl ?_)
    | with_reducible refine ite_keeps ?_ ?_
    | split

theorem doPortSuspend_keeps (c : Closed P) (p : Nat) (h : P s) : P (s.doPortSuspend p) := by
  unfold State.doPortSuspend
  repeat' first
    | with_reducible assumption
    | (lift_lets; intro y; refine bind_keeps (P := P) (y := y) ?_ ?_; (on_goal 2 => (intro _; clear_value y)); (on_goal 1 => unfold y))
    | (lift_lets; intro y; clear_value y)
    | (intro y; refine bind_keeps (P := P) (y := y) ?_ ?_; (on_goal 2 => (intro _; clear_value y)); (on_goal 1 => unfold y))
    | (intro y; clear_value y)
    | with_reducible apply suspendPort_keeps c
    | with_reducible apply onBus_keeps c
    | fail_if_no_progress (with_reducible refine c.put rfl ?_)
    | with_reducible refine ite_keeps ?_ ?_
    | split

theorem doPortResume_keeps (c : Closed P) (p : Nat) (h : P s) : P (s.doPortResume p) := by
  unfold State.doPortResume
  repeat' first
    | with_reducible assumption
    | (lift_lets; intro y; refine bind_keeps (P := P) (y := y) ?_ ?_; (on_goal 2 => (intro _; clear_value y)); (on_goal 1 => unfold y))
    | (lift_lets; intro y; clear_value y)
    | (intro y; refine bind_keeps (P := P) (y := y) ?_ ?_; (on_goal 2 => (intro _; clear_value y)); (on_goal 1 => unfold y))
    | (intro y; clear_value y)
    | with_reducible apply resumePort_keeps c
    | with_reducible apply onBus_keeps c
    | fail_if_no_progress (with_reducible refine c.put rfl ?_)
    | with_reducible refine ite_keeps ?_ ?_
    | split

theorem doPortReset_keeps (c : Closed P) (p : Nat) (h : P s) : P (s.doPortReset p) := by
  unfold State.doPortReset
  repeat' first
    | with_reducible assumption
    | with_reducible apply onBus_keeps c
    | fail_if_no_progress (with_reducible refine c.put rfl ?_)

theorem doPortEnable_keeps (c : Closed P) (p : Nat) (h : P s) : P (s.doPortEnable p) := by
  unfold State.doPortEnable
  repeat' first
    | with_reducible assumption
    | with_reducible apply onBus_keeps c
    | with_reducible apply holdEntry_keeps c
    | fail_if_no_progress (with_reducible refine c.put rfl ?_)
    | split

theorem doPortDisable_keeps (c : Closed P) (p : Nat) (h : P s) : P (s.doPortDisable p) := by
  unfold State.doPortDisable
  repeat' first
    | with_reducible assumption
    | (lift_lets; intro y; refine bind_keeps (P := P) (y := y) ?_ ?_; (on_goal 2 => (intro _; clear_value y)); (on_goal 1 => unfold y))
    | (lift_lets; intro y; clear_value y)
    | (intro y; refine bind_keeps (P := P) (y := y) ?_ ?_; (on_goal 2 => (intro _; clear_value y)); (on_goal 1 => unfold y))
    | (intro y; clear_value y)
    | with_reducible apply dropExchange_keeps c
    | with_reducible apply endOps_keeps c
    | with_reducible apply onBus_keeps c
    | with_reducible apply holdEntry_keeps c
    | with_reducible apply violation_keeps c
    | fail_if_no_progress (with_reducible refine c.put rfl ?_)
    | split

theorem evRemoteWake_keeps (c : Closed P) (p : Nat) (h : P s) : P (s.evRemoteWake p) := by
  unfold State.evRemoteWake
  repeat' first
    | with_reducible assumption
    | (lift_lets; intro y; refine bind_keeps (P := P) (y := y) ?_ ?_; (on_goal 2 => (intro _; clear_value y)); (on_goal 1 => unfold y))
    | (lift_lets; intro y; clear_value y)
    | (intro y; refine bind_keeps (P := P) (y := y) ?_ ?_; (on_goal 2 => (intro _; clear_value y)); (on_goal 1 => unfold y))
    | (intro y; clear_value y)
    | with_reducible apply resumePort_keeps c
    | with_reducible apply portViolation_keeps c
    | with_reducible apply onBus_keeps c
    | fail_if_no_progress (with_reducible refine c.put rfl ?_)
    | with_reducible refine ite_keeps ?_ ?_
    | split

theorem evHubSuspend_keeps (c : Closed P) (h : P s) : P (s.evHubSuspend) := by
  unfold State.evHubSuspend
  repeat' first
    | with_reducible assumption
    | with_reducible apply suspendHub_keeps c
    | with_reducible refine ite_keeps ?_ ?_
    | split

theorem evHubControl_keeps (c : Closed P) (ss : Bool) (r : HubRequest) (h : P s) : P (s.evHubControl ss r) := by
  unfold State.evHubControl
  repeat' first
    | with_reducible assumption
    | with_reducible apply answering_keeps c
    | with_reducible apply onHub_keeps c
    | with_reducible apply onBus_keeps c
    | fail_if_no_progress (with_reducible refine c.put rfl ?_)
    | with_reducible refine ite_keeps ?_ ?_
    | split

theorem evBabble_keeps (c : Closed P) (p speed : Nat) (h : P s) : P (s.evBabble p speed) := by
  unfold State.evBabble
  repeat' first
    | with_reducible assumption
    | (lift_lets; intro y; refine bind_keeps (P := P) (y := y) ?_ ?_; (on_goal 2 => (intro _; clear_value y)); (on_goal 1 => unfold y))
    | (lift_lets; intro y; clear_value y)
    | (intro y; refine bind_keeps (P := P) (y := y) ?_ ?_; (on_goal 2 => (intro _; clear_value y)); (on_goal 1 => unfold y))
    | (intro y; clear_value y)
    | with_reducible apply portViolation_keeps c
    | with_reducible apply onBus_keeps c
    | with_reducible apply holdEntry_keeps c
    | fail_if_no_progress (with_reducible refine c.put rfl ?_)
    | with_reducible refine ite_keeps ?_ ?_
    | split

theorem evChatter_keeps (c : Closed P) (p changes : Nat) (h : P s) : P (s.evChatter p changes) := by
  unfold State.evChatter
  repeat' first
    | with_reducible assumption
    | with_reducible apply portViolation_keeps c
    | with_reducible apply onBus_keeps c
    | fail_if_no_progress (with_reducible refine c.put rfl ?_)
    | with_reducible refine ite_keeps ?_ ?_
    | split

theorem evSsTrainingFail_keeps (c : Closed P) (p : Nat) (h : P s) : P (s.evSsTrainingFail p) := by
  unfold State.evSsTrainingFail
  repeat' first
    | with_reducible assumption
    | with_reducible apply portViolation_keeps c
    | with_reducible apply onBus_keeps c
    | fail_if_no_progress (with_reducible refine c.put rfl ?_)
    | with_reducible refine ite_keeps ?_ ?_
    | split

theorem evSsInactive_keeps (c : Closed P) (p : Nat) (h : P s) : P (s.evSsInactive p) := by
  unfold State.evSsInactive
  repeat' first
    | with_reducible assumption
    | with_reducible apply portViolation_keeps c
    | with_reducible apply onBus_keeps c
    | fail_if_no_progress (with_reducible refine c.put rfl ?_)
    | with_reducible refine ite_keeps ?_ ?_
    | split

theorem cycleStart_keeps (c : Closed P) (p : Nat) (h : P s) : P (s.cycleStart p) := by
  unfold State.cycleStart
  repeat' first
    | with_reducible assumption
    | (lift_lets; intro y; refine bind_keeps (P := P) (y := y) ?_ ?_; (on_goal 2 => (intro _; clear_value y)); (on_goal 1 => unfold y))
    | (lift_lets; intro y; clear_value y)
    | (intro y; refine bind_keeps (P := P) (y := y) ?_ ?_; (on_goal 2 => (intro _; clear_value y)); (on_goal 1 => unfold y))
    | (intro y; clear_value y)
    | with_reducible apply closeP1_keeps c
    | with_reducible apply onBus_keeps c
    | with_reducible apply holdEntry_keeps c
    | with_reducible apply chanDown_keeps c
    | with_reducible apply clearRetries_keeps c
    | with_reducible apply endPower_keeps c
    | with_reducible apply endOps_keeps c
    | with_reducible apply fault_keeps c
    | fail_if_no_progress (with_reducible refine c.put rfl ?_)

theorem evSuspendCurrent_keeps (c : Closed P) (p : Nat) (average : BitVec 16) (h : P s) : P (s.evSuspendCurrent p average) := by
  unfold State.evSuspendCurrent
  repeat' first
    | with_reducible assumption
    | (lift_lets; intro y; refine bind_keeps (P := P) (y := y) ?_ ?_; (on_goal 2 => (intro _; clear_value y)); (on_goal 1 => unfold y))
    | (lift_lets; intro y; clear_value y)
    | (intro y; refine bind_keeps (P := P) (y := y) ?_ ?_; (on_goal 2 => (intro _; clear_value y)); (on_goal 1 => unfold y))
    | (intro y; clear_value y)
    | with_reducible apply portViolation_keeps c
    | with_reducible apply onBus_keeps c
    | with_reducible apply cycleStart_keeps c
    | fail_if_no_progress (with_reducible refine c.put rfl ?_)
    | with_reducible refine ite_keeps ?_ ?_
    | split

theorem suspendCurrentAsleep_keeps (c : Closed P) (p : Nat) (average : BitVec 16) (h : P s) : P (s.suspendCurrentAsleep p average) := by
  unfold State.suspendCurrentAsleep
  repeat' first
    | with_reducible assumption
    | with_reducible apply onBus_keeps c
    | with_reducible apply onChan_keeps c
    | fail_if_no_progress (with_reducible refine c.put rfl ?_)
    | with_reducible refine ite_keeps ?_ ?_
    | split

theorem evCycleOff_keeps (c : Closed P) (p : Nat) (h : P s) : P (s.evCycleOff p) := by
  unfold State.evCycleOff
  repeat' first
    | with_reducible assumption
    | (lift_lets; intro y; refine bind_keeps (P := P) (y := y) ?_ ?_; (on_goal 2 => (intro _; clear_value y)); (on_goal 1 => unfold y))
    | (lift_lets; intro y; clear_value y)
    | (intro y; refine bind_keeps (P := P) (y := y) ?_ ?_; (on_goal 2 => (intro _; clear_value y)); (on_goal 1 => unfold y))
    | (intro y; clear_value y)
    | with_reducible apply onBus_keeps c
    | with_reducible apply chanUp_keeps c
    | with_reducible apply reserveAgain_keeps c
    | with_reducible apply negotiate_keeps c
    | with_reducible apply redistributeSince_keeps c
    | with_reducible apply onPort_keeps c
    | with_reducible apply violation_keeps c
    | with_reducible apply holdEntry_keeps c
    | fail_if_no_progress (with_reducible refine c.put rfl ?_)
    | with_reducible refine ite_keeps ?_ ?_
    | split

theorem ttServe_keeps (c : Closed P) (p : Nat) (h : P s) : P (s.ttServe p) := by
  unfold State.ttServe
  repeat' first
    | with_reducible assumption
    | (lift_lets; intro y; refine bind_keeps (P := P) (y := y) ?_ ?_; (on_goal 2 => (intro _; clear_value y)); (on_goal 1 => unfold y))
    | (lift_lets; intro y; clear_value y)
    | (intro y; refine bind_keeps (P := P) (y := y) ?_ ?_; (on_goal 2 => (intro _; clear_value y)); (on_goal 1 => unfold y))
    | (intro y; clear_value y)
    | with_reducible apply onTt_keeps c
    | fail_if_no_progress (with_reducible refine c.put rfl ?_)
    | with_reducible refine ite_keeps ?_ ?_
    | split

theorem evTtStart_keeps (c : Closed P) (p : Nat) (kind : SplitKind) (bytes id : Nat) (h : P s) : P (s.evTtStart p kind bytes id) := by
  unfold State.evTtStart
  dsimp only
  repeat' first
    | with_reducible assumption
    | with_reducible apply ttServe_keeps c
    | with_reducible apply sendFrame_keeps c
    | with_reducible apply answering_keeps c
    | with_reducible apply onTt_keeps c
    | fail_if_no_progress (with_reducible refine c.put rfl ?_)
    | with_reducible refine ite_keeps ?_ ?_
    | split

theorem evTtComplete_keeps (c : Closed P) (p : Nat) (kind : SplitKind) (id : Nat) (h : P s) : P (s.evTtComplete p kind id) := by
  unfold State.evTtComplete
  repeat' first
    | with_reducible assumption
    | (lift_lets; intro y; refine bind_keeps (P := P) (y := y) ?_ ?_; (on_goal 2 => (intro _; clear_value y)); (on_goal 1 => unfold y))
    | (lift_lets; intro y; clear_value y)
    | (intro y; refine bind_keeps (P := P) (y := y) ?_ ?_; (on_goal 2 => (intro _; clear_value y)); (on_goal 1 => unfold y))
    | (intro y; clear_value y)
    | with_reducible apply ttServe_keeps c
    | with_reducible apply answering_keeps c
    | with_reducible apply onTt_keeps c
    | fail_if_no_progress (with_reducible refine c.put rfl ?_)
    | with_reducible refine ite_keeps ?_ ?_
    | split

theorem evTtExpiry_keeps (c : Closed P) (p : Nat) (h : P s) : P (s.evTtExpiry p) := by
  unfold State.evTtExpiry
  repeat' first
    | with_reducible assumption
    | (lift_lets; intro y; refine bind_keeps (P := P) (y := y) ?_ ?_; (on_goal 2 => (intro _; clear_value y)); (on_goal 1 => unfold y))
    | (lift_lets; intro y; clear_value y)
    | (intro y; refine bind_keeps (P := P) (y := y) ?_ ?_; (on_goal 2 => (intro _; clear_value y)); (on_goal 1 => unfold y))
    | (intro y; clear_value y)
    | with_reducible apply ttServe_keeps c
    | with_reducible apply onTt_keeps c
    | fail_if_no_progress (with_reducible refine c.put rfl ?_)
    | with_reducible refine ite_keeps ?_ ?_
    | split

theorem evClearTt_keeps (c : Closed P) (p : Nat) (h : P s) : P (s.evClearTt p) := by
  unfold State.evClearTt
  repeat' first
    | with_reducible assumption
    | with_reducible apply onTt_keeps c
    | with_reducible apply answering_keeps c
    | fail_if_no_progress (with_reducible refine c.put rfl ?_)

theorem evResetTt_keeps (c : Closed P) (p : Nat) (h : P s) : P (s.evResetTt p) := by
  unfold State.evResetTt
  repeat' first
    | with_reducible assumption
    | with_reducible apply onTt_keeps c
    | with_reducible apply answering_keeps c
    | fail_if_no_progress (with_reducible refine c.put rfl ?_)

theorem setHalt_keeps (c : Closed P) (r : Setup) (v : Bool) (h : P s) : P (s.setHalt r v) := by
  unfold State.setHalt
  repeat' first
    | with_reducible assumption
    | with_reducible apply answering_keeps c
    | with_reducible apply onHub_keeps c
    | fail_if_no_progress (with_reducible refine c.put rfl ?_)
    | with_reducible refine ite_keeps ?_ ?_
    | split

theorem standardRequest_keeps (c : Closed P) (r : Setup) (h : P s) : P (s.standardRequest r) := by
  unfold State.standardRequest
  dsimp only
  repeat' first
    | with_reducible assumption
    | with_reducible apply answering_keeps c
    | with_reducible apply setHalt_keeps c
    | with_reducible apply onHub_keeps c
    | fail_if_no_progress (with_reducible refine c.put rfl ?_)
    | with_reducible refine ite_keeps ?_ ?_
    | split

end Sys2Proof.Machine
end

