-- ==== Sys2Proof/Laws/KeepHold.lean ====
section
/-! SUPPORT. The functions of Machine/Hold.lean keep a closed property. -/

namespace Sys2Proof.Machine

variable {P : State → Prop} {s : State}

theorem storeEntry_keeps (c : Closed P) (k : Kind) (subject : Nat) (data : List Byte) (h : P s) : P (s.storeEntry k subject data) := by
  unfold State.storeEntry
  repeat' first
    | with_reducible assumption
    | with_reducible apply append_keeps c

theorem capFromDrop_keeps (c : Closed P) (d : Nat) (h : P s) : P (s.capFromDrop d).2 := by
  unfold State.capFromDrop
  split
  · exact c.free h rfl rfl rfl
  · exact h

theorem evChargerStart_keeps (c : Closed P) (h : P s) : P (s.evChargerStart) := by
  unfold State.evChargerStart
  repeat' first
    | with_reducible assumption
    | with_reducible apply onStore_keeps c
    | fail_if_no_progress (with_reducible refine c.put rfl ?_)
    | with_reducible refine ite_keeps ?_ ?_

theorem evChargerStop_keeps (c : Closed P) (h : P s) : P (s.evChargerStop) := by
  unfold State.evChargerStop
  repeat' first
    | with_reducible assumption
    | with_reducible apply onStore_keeps c

theorem evChargerFault_keeps (c : Closed P) (overvoltage : Bool) (h : P s) : P (s.evChargerFault overvoltage) := by
  unfold State.evChargerFault
  repeat' first
    | with_reducible assumption
    | with_reducible apply evChargerStop_keeps c
    | with_reducible apply latch_keeps c
    | with_reducible refine ite_keeps ?_ ?_

theorem evCellBleed_keeps (c : Closed P) (cell : Nat) (on : Bool) (h : P s) : P (s.evCellBleed cell on) := by
  unfold State.evCellBleed
  repeat' first
    | with_reducible assumption
    | with_reducible apply onStore_keeps c
    | fail_if_no_progress (with_reducible refine c.put rfl ?_)
    | with_reducible refine ite_keeps ?_ ?_

theorem startTaps_keeps (c : Closed P) (taps : List Nat) (byCommand : Bool) (h : P s) : P (s.startTaps taps byCommand) := by
  unfold State.startTaps
  repeat' first
    | with_reducible assumption
    | (lift_lets; intro y; clear_value y)
    | with_reducible refine foldl_keeps (fun _ _ _ => ?_) ?_
    | with_reducible apply onStore_keeps c

theorem evSumMismatch_keeps (c : Closed P) (storeTop : Bool) (mv : BitVec 16) (h : P s) : P (s.evSumMismatch storeTop mv) := by
  unfold State.evSumMismatch
  repeat' first
    | with_reducible assumption
    | (lift_lets; intro y; refine bind_keeps (P := P) (y := y) ?_ ?_; (on_goal 2 => (intro _; clear_value y)); (on_goal 1 => unfold y))
    | (intro y; refine bind_keeps (P := P) (y := y) ?_ ?_; (on_goal 2 => (intro _; clear_value y)); (on_goal 1 => unfold y))
    | with_reducible apply latch_keeps c
    | with_reducible apply onStore_keeps c
    | with_reducible apply startTaps_keeps c
    | fail_if_no_progress (with_reducible refine c.put rfl ?_)
    | with_reducible refine ite_keeps ?_ ?_

theorem evCellDeviation_keeps (c : Closed P) (tap : Nat) (h : P s) : P (s.evCellDeviation tap) := by
  unfold State.evCellDeviation
  repeat' first
    | with_reducible assumption
    | with_reducible apply startTaps_keeps c
    | with_reducible refine ite_keeps ?_ ?_

theorem tapFound_keeps (c : Closed P) (tap mv : Nat) (byCommand : Bool) (h : P s) : P (s.tapFound tap mv byCommand) := by
  unfold State.tapFound
  repeat' first
    | with_reducible assumption
    | (lift_lets; intro y; clear_value y)
    | (intro y; refine bind_keeps (P := P) (y := y) ?_ ?_; (on_goal 2 => (intro _; clear_value y)); (on_goal 1 => unfold y))
    | with_reducible apply onStore_keeps c
    | with_reducible apply storeEntry_keeps c
    | fail_if_no_progress (with_reducible refine c.put rfl ?_)
    | with_reducible refine ite_keeps ?_ ?_

theorem tapPassed_keeps (c : Closed P) (tap : Nat) (h : P s) : P (s.tapPassed tap) := by
  unfold State.tapPassed
  repeat' first
    | with_reducible assumption
    | (lift_lets; intro y; refine bind_keeps (P := P) (y := y) ?_ ?_; (on_goal 2 => (intro _; clear_value y)); (on_goal 1 => unfold y))
    | (intro y; clear_value y)
    | with_reducible apply onStore_keeps c
    | with_reducible apply unlatch_keeps c
    | fail_if_no_progress (with_reducible refine c.put rfl ?_)
    | with_reducible refine ite_keeps ?_ ?_

theorem tapsDone_keeps (c : Closed P) (h : P s) : P (s.tapsDone) := by
  unfold State.tapsDone
  repeat' first
    | with_reducible assumption
    | (lift_lets; intro y; clear_value y)
    | with_reducible apply fault_keeps c
    | with_reducible apply onStore_keeps c
    | with_reducible apply endOpsOf_keeps c
    | fail_if_no_progress (with_reducible refine c.put rfl ?_)
    | with_reducible refine ite_keeps ?_ ?_

theorem evTapTest_keeps (c : Closed P) (tap : Nat) (mv : BitVec 16) (h : P s) : P (s.evTapTest tap mv) := by
  unfold State.evTapTest
  repeat' first
    | with_reducible assumption
    | (lift_lets; intro y; clear_value y)
    | (intro y; refine bind_keeps (P := P) (y := y) ?_ ?_; (on_goal 2 => (intro _; clear_value y)); (on_goal 1 => unfold y))
    | (intro y; clear_value y)
    | with_reducible apply onStore_keeps c
    | with_reducible apply tagged_keeps c
    | with_reducible apply tapFound_keeps c
    | with_reducible apply tapPassed_keeps c
    | with_reducible apply tapsDone_keeps c
    | fail_if_no_progress (with_reducible refine c.put rfl ?_)
    | with_reducible refine ite_keeps ?_ ?_

theorem doTapTest_keeps (c : Closed P) (tap : Nat) (h : P s) : P (s.doTapTest tap) := by
  unfold State.doTapTest
  repeat' first
    | with_reducible assumption
    | with_reducible apply onStore_keeps c
    | with_reducible apply startTaps_keeps c

theorem signatureActs_keeps (c : Closed P) (cell sig : Nat) (h : P s) : P (s.signatureActs cell sig) := by
  unfold State.signatureActs
  repeat' first
    | with_reducible assumption
    | (lift_lets; intro y; clear_value y)
    | with_reducible apply onStore_keeps c

theorem recordCell_keeps (c : Closed P) (cell sig : Nat) (h : P s) : P (s.recordCell cell sig) := by
  unfold State.recordCell
  repeat' first
    | with_reducible assumption
    | (lift_lets; intro y; refine bind_keeps (P := P) (y := y) ?_ ?_; (on_goal 2 => (intro _; clear_value y)); (on_goal 1 => unfold y))
    | with_reducible apply onStore_keeps c
    | with_reducible apply storeEntry_keeps c
    | fail_if_no_progress (with_reducible refine c.put rfl ?_)
    | with_reducible refine ite_keeps ?_ ?_

theorem evHoldCell_keeps (c : Closed P) (cell sig : Nat) (h : P s) : P (s.evHoldCell cell sig) := by
  unfold State.evHoldCell
  repeat' first
    | with_reducible assumption
    | with_reducible apply signatureActs_keeps c
    | with_reducible apply recordCell_keeps c
    | with_reducible refine ite_keeps ?_ ?_

theorem sampleStore_keeps (c : Closed P) (h : P s) : P s.sampleStore.2 := c.free h rfl rfl rfl

theorem evCapEstimate_keeps (c : Closed P) (cell dropMv : Nat) (h : P s) : P (s.evCapEstimate cell dropMv) := by
  unfold State.evCapEstimate
  refine ite_keeps ?_ h
  have e := capFromDrop_keeps c dropMv h
  generalize s.capFromDrop dropMv = x at e ⊢
  obtain ⟨r, t⟩ := x
  exact onStore_keeps c _ (sampleStore_keeps c (onStore_keeps c _ e))

theorem evEnergy_keeps (c : Closed P) (below : Bool) (energy : BitVec 16) (h : P s) : P (s.evEnergy below energy) := by
  unfold State.evEnergy
  repeat' first
    | with_reducible assumption
    | (lift_lets; intro y; clear_value y)
    | with_reducible apply onStore_keeps c
    | with_reducible apply fault_keeps c
    | fail_if_no_progress (with_reducible refine c.put rfl ?_)
    | with_reducible refine ite_keeps ?_ ?_

theorem shedOne_keeps (c : Closed P) (k ch : Nat) (h : P s) : P (s.shedOne k ch) := by
  unfold State.shedOne
  repeat' first
    | with_reducible assumption
    | (lift_lets; intro y; refine bind_keeps (P := P) (y := y) ?_ ?_; (on_goal 2 => (intro _; clear_value y)); (on_goal 1 => unfold y))
    | (intro y; refine bind_keeps (P := P) (y := y) ?_ ?_; (on_goal 2 => (intro _; clear_value y)); (on_goal 1 => unfold y))
    | with_reducible refine when_keeps (fun _ _ => ?_) ?_
    | with_reducible apply closeP1_keeps c
    | with_reducible apply append_keeps c
    | with_reducible apply chanDown_keeps c
    | with_reducible apply endPower_keeps c
    | with_reducible apply releaseGrant_keeps c
    | with_reducible refine ite_keeps ?_ ?_

theorem shedAll_keeps (c : Closed P) (k : Nat) (l : List Nat) (h : P s) : P (s.shedAll k l) := by
  induction l generalizing s k with
  | nil => exact h
  | cons ch l ih => exact ih _ (shedOne_keeps c _ _ h)

theorem bankedDrops_keeps (c : Closed P) (h : P s) : P (s.bankedDrops) := by
  unfold State.bankedDrops
  repeat' first
    | with_reducible assumption
    | (lift_lets; intro y; refine bind_keeps (P := P) (y := y) ?_ ?_; (on_goal 2 => (intro _; clear_value y)); (on_goal 1 => unfold y))
    | (intro y; refine bind_keeps (P := P) (y := y) ?_ ?_; (on_goal 2 => (intro _; clear_value y)); (on_goal 1 => unfold y))
    | with_reducible apply onIo_keeps c
    | with_reducible apply onCfg_keeps c
    | with_reducible refine onPw_keeps c _ rfl ?_
    | with_reducible apply onSpine_keeps c
    | with_reducible apply onStore_keeps c
    | fail_if_no_progress (with_reducible refine c.put rfl ?_)

theorem bankedEarly_keeps (c : Closed P) (vstore : BitVec 16) (h : P s) : P (s.bankedEarly vstore) := by
  unfold State.bankedEarly
  split
  rename_i e full _
  have k : P (s.bankedDrops.linkDrop.onStore fun g =>
      { g with gateHold := true, plan := if full then 0 else 1, writing := 1, energy := e }) :=
    onStore_keeps c _ (linkDrop_keeps c (bankedDrops_keeps c h))
  revert k
  dsimp only
  generalize (s.bankedDrops.linkDrop.onStore _) = t
  exact fun k => c.mode t _ rfl (.inr (.inr Mode.noConfusion)) (.inr (.inl rfl)) k

theorem evHoldEnter_keeps (c : Closed P) (vveh vstore : BitVec 16) (h : P s) : P (s.evHoldEnter vveh vstore) := by
  unfold State.evHoldEnter
  refine ite_keeps h ?_
  split
  extract_lets left asleep first s1 s2 s3 s4 s5 s6
  have h1 : P s1 := linkDrop_keeps c (bankedDrops_keeps c h)
  have h3 : P s3 := onStore_keeps c _ (ite_keeps (domainsUp_keeps c _ h1) h1)
  have h4 : P s4 := modeTo_keeps c _ _ _ (.inr (.inr Mode.noConfusion)) h3
  exact shedAll_keeps c _ _ (storeEntry_keeps c _ _ _ (ite_keeps (append_keeps c _ _ _ _ _ _ h4) h4))

theorem evGateHold_keeps (c : Closed P) (node vstore : BitVec 16) (h : P s) : P (s.evGateHold node vstore) := by
  unfold State.evGateHold
  repeat' first
    | with_reducible assumption
    | (lift_lets; intro y; clear_value y)
    | (intro y; clear_value y)
    | with_reducible apply latch_keeps c
    | with_reducible refine ite_keeps ?_ ?_

end Sys2Proof.Machine
end

