-- ==== Sys2Proof/Laws/KeepFlags.lean ====
section
/-! SUPPORT. The functions of Machine/Flags.lean keep a closed property. -/

namespace Sys2Proof.Machine

variable {P : State → Prop} {s : State}

theorem reported_keeps (c : Closed P) (h : P s) : P s.reported := c.free h rfl rfl rfl

theorem noted_keeps (c : Closed P) (h : P s) : P s.noted := by
  unfold State.noted
  exact ite_keeps h (c.free h rfl rfl rfl)

theorem holdReply_keeps (c : Closed P) (h : P s) : P s.holdReply.2 := c.free h rfl rfl rfl

end Sys2Proof.Machine
end

