-- ==== Sys2Proof/Laws/KeepParams.lean ====
section
/-! SUPPORT. The functions of Machine/Params.lean keep a closed property. -/

namespace Sys2Proof.Machine

variable {P : State → Prop} {s : State}

theorem sampled_keeps (c : Closed P) (h : P s) : P (s.sampled) := by
  unfold State.sampled
  repeat' first
    | with_reducible assumption
    | fail_if_no_progress (with_reducible refine c.put rfl ?_)

theorem paramReply_keeps (c : Closed P) (p : Param) (i : Nat) (h : P s) : P (s.paramReply p i).2 := c.free h rfl rfl rfl

theorem blockReply_keeps (c : Closed P) (b i first count : Nat) (h : P s) : P (s.blockReply b i first count).2 :=
  c.free h rfl rfl rfl

end Sys2Proof.Machine
end

