-- ==== Sys2Proof/Laws/KeepStore.lean ====
section
/-! SUPPORT. The functions of Machine/Store.lean keep a closed property. -/

namespace Sys2Proof.Machine

variable {P : State → Prop} {s : State}

theorem putValue_keeps (c : Closed P) (p : Param) (i : Nat) (v : Word) (h : P s) : P (s.putValue p i v) := by
  unfold State.putValue
  repeat' first
    | with_reducible assumption
    | with_reducible refine onEmber_keeps c _ rfl rfl rfl ?_
    | with_reducible apply setValue_keeps c
    | fail_if_no_progress (with_reducible refine c.put rfl ?_)
    | split

theorem valueEffect_keeps (c : Closed P) (key : Nat) (h : P s) : P (s.valueEffect key) := by
  unfold State.valueEffect
  repeat' first
    | with_reducible assumption
    | (lift_lets; intro y; clear_value y)
    | with_reducible refine each_keeps (fun _ _ _ => ?_) ?_
    | with_reducible apply disableSegment_keeps c
    | with_reducible apply endOps_keeps c
    | with_reducible apply fault_keeps c
    | with_reducible apply onStore_keeps c
    | with_reducible apply railGone_keeps c
    | with_reducible refine ite_keeps ?_ ?_
    | split

theorem withValues_keeps (c : Closed P) {new : List (Nat × Word)}
    (hn : (∃ l, new = setAll s.prm.values l) ∨ ∃ l, new = setAll [] l) (h : P s) : P (s.withValues new) := by
  unfold State.withValues
  refine each_keeps (fun _ _ h => valueEffect_keeps c _ h) ?_
  obtain ⟨l, rfl⟩ | ⟨l, rfl⟩ := hn
  · exact c.setAll s _ l rfl rfl rfl h
  · exact c.fresh s _ l rfl rfl rfl h

theorem clearCause_keeps (c : Closed P) (v : Word) (h : P s) : P (s.clearCause v) := by
  unfold State.clearCause
  repeat' first
    | with_reducible assumption
    | with_reducible refine onEmber_keeps c _ rfl rfl rfl ?_

theorem clearSpineStat_keeps (c : Closed P) (v : Word) (h : P s) : P (s.clearSpineStat v) := by
  unfold State.clearSpineStat
  repeat' first
    | with_reducible assumption
    | with_reducible apply onSpine_keeps c
    | fail_if_no_progress (with_reducible refine c.put rfl ?_)
    | with_reducible refine ite_keeps ?_ ?_

theorem clearLog_keeps (c : Closed P) (v : Word) (h : P s) : P (s.clearLog v) := by
  unfold State.clearLog
  repeat' first
    | with_reducible assumption
    | with_reducible apply onForager_keeps c
    | fail_if_no_progress (with_reducible refine c.put rfl ?_)
    | with_reducible refine ite_keeps ?_ ?_

theorem burnFuses_keeps (c : Closed P) (hb : s.ember.fuseBurn = 0) (h : P s) : P s.burnFuses := by
  unfold State.burnFuses
  split
  · exact c.burn s _ hb h
  · exact h

theorem doParamSet_keeps (c : Closed P) (p : Param) (i : Nat) (v : Word) (hb : p = .resetFuseBurn → s.ember.fuseBurn = 0)
    (h : P s) : P (s.doParamSet p i v) := by
  unfold State.doParamSet
  repeat' first
    | with_reducible assumption
    | with_reducible apply putValue_keeps c
    | with_reducible apply clearCause_keeps c
    | with_reducible apply clearSpineStat_keeps c
    | with_reducible apply clearLog_keeps c
    | with_reducible exact burnFuses_keeps c (hb rfl) h
    | with_reducible refine ite_keeps ?_ ?_
    | split

theorem doParamStage_keeps (c : Closed P) (p : Param) (i : Nat) (v : Word) (h : P s) : P (s.doParamStage p i v) := by
  unfold State.doParamStage
  dsimp only
  repeat' first
    | with_reducible assumption
    | fail_if_no_progress (with_reducible refine c.put rfl ?_)
    | with_reducible refine ite_keeps ?_ ?_

theorem discardStaged_keeps (c : Closed P) (h : P s) : P (s.discardStaged) := by
  unfold State.discardStaged
  repeat' first
    | with_reducible assumption
    | fail_if_no_progress (with_reducible refine c.put rfl ?_)

end Sys2Proof.Machine
end

