-- ==== Sys2Proof/Laws/KeepRound.lean ====
section
/-! SUPPORT. The functions of Machine/Round.lean keep a closed property. -/

namespace Sys2Proof.Machine

variable {P : State → Prop} {s : State}

theorem setCause_keeps (c : Closed P) (bit detail : Nat) (h : P s) : P (s.setCause bit detail) := by
  unfold State.setCause
  repeat' first
    | with_reducible assumption
    | with_reducible refine onEmber_keeps c _ rfl rfl rfl ?_

theorem resetEntry_keeps (c : Closed P) (die reach mask bit : Nat) (external : Bool) (h : P s) : P (s.resetEntry die reach mask bit external) := by
  unfold State.resetEntry
  repeat' first
    | with_reducible assumption
    | with_reducible apply append_keeps c

theorem endPortOps_keeps (c : Closed P) (die : Nat) (byEvent : Bool) (h : P s) : P (s.endPortOps die byEvent) := by
  unfold State.endPortOps
  repeat' first
    | with_reducible assumption
    | with_reducible refine each_keeps (fun _ _ _ => ?_) ?_
    | with_reducible apply endOps_keeps c

theorem detachAll_keeps (c : Closed P) (die cause : Nat) (byEvent : Bool) (h : P s) : P (s.detachAll die cause byEvent) := by
  unfold State.detachAll
  repeat' first
    | with_reducible assumption
    | with_reducible refine each_keeps (fun _ _ _ => ?_) ?_
    | with_reducible apply detach_keeps c
    | with_reducible refine ite_keeps ?_ ?_

theorem testReset_keeps (c : Closed P) (die : Nat) (inMask : Nat → Bool) (byEvent : Bool) (h : P s) : P (s.testReset die inMask byEvent) := by
  unfold State.testReset
  repeat' first
    | with_reducible assumption
    | (lift_lets; intro y; refine bind_keeps (P := P) (y := y) ?_ ?_; (on_goal 2 => (intro _; clear_value y)); (on_goal 1 => unfold y))
    | (lift_lets; intro y; clear_value y)
    | (intro y; refine bind_keeps (P := P) (y := y) ?_ ?_; (on_goal 2 => (intro _; clear_value y)); (on_goal 1 => unfold y))
    | (intro y; clear_value y)
    | with_reducible apply onForager_keeps c
    | with_reducible apply endOps_keeps c
    | fail_if_no_progress (with_reducible refine c.put rfl ?_)
    | with_reducible refine ite_keeps ?_ ?_

theorem dieDown_keeps (c : Closed P) (die cause : Nat) (byEvent : Bool) (h : P s) : P (s.dieDown die cause byEvent) := by
  unfold State.dieDown
  repeat' first
    | with_reducible assumption
    | (lift_lets; intro y; refine bind_keeps (P := P) (y := y) ?_ ?_; (on_goal 2 => (intro _; clear_value y)); (on_goal 1 => unfold y))
    | (lift_lets; intro y; clear_value y)
    | (intro y; refine bind_keeps (P := P) (y := y) ?_ ?_; (on_goal 2 => (intro _; clear_value y)); (on_goal 1 => unfold y))
    | (intro y; clear_value y)
    | with_reducible apply sbOffAll_keeps c
    | with_reducible apply onStore_keeps c
    | with_reducible apply endOps_keeps c
    | with_reducible apply resetSegments_keeps c
    | with_reducible apply testReset_keeps c
    | with_reducible apply detachAll_keeps c
    | with_reducible apply endPortOps_keeps c
    | with_reducible refine ite_keeps ?_ ?_

theorem beginL2_keeps (c : Closed P) (die bit detail : Nat) (external : Bool) (h : P s) : P (s.beginL2 die bit detail external) := by
  unfold State.beginL2
  repeat' first
    | with_reducible assumption
    | (lift_lets; intro y; refine bind_keeps (P := P) (y := y) ?_ ?_; (on_goal 2 => (intro _; clear_value y)); (on_goal 1 => unfold y))
    | (lift_lets; intro y; clear_value y)
    | (intro y; refine bind_keeps (P := P) (y := y) ?_ ?_; (on_goal 2 => (intro _; clear_value y)); (on_goal 1 => unfold y))
    | (intro y; clear_value y)
    | with_reducible apply setCause_keeps c
    | with_reducible apply resetEntry_keeps c
    | with_reducible apply onDie_keeps c

theorem resetDie_keeps (c : Closed P) (die bit detail : Nat) (external byEvent : Bool) (h : P s) : P (s.resetDie die bit detail external byEvent) := by
  unfold State.resetDie
  repeat' first
    | with_reducible assumption
    | with_reducible apply beginL2_keeps c
    | with_reducible apply dieDown_keeps c
    | with_reducible apply redistribute_keeps c
    | with_reducible apply reselect_keeps c

theorem blockEffect_keeps (c : Closed P) (die blk : Nat) (byEvent : Bool) (h : P s) : P (s.blockEffect die blk byEvent) := by
  unfold State.blockEffect
  repeat' first
    | with_reducible assumption
    | (lift_lets; intro y; refine bind_keeps (P := P) (y := y) ?_ ?_; (on_goal 2 => (intro _; clear_value y)); (on_goal 1 => unfold y))
    | (lift_lets; intro y; clear_value y)
    | (intro y; refine bind_keeps (P := P) (y := y) ?_ ?_; (on_goal 2 => (intro _; clear_value y)); (on_goal 1 => unfold y))
    | (intro y; clear_value y)
    | with_reducible refine each_keeps (fun _ _ _ => ?_) ?_
    | with_reducible apply endPortOps_keeps c
    | with_reducible apply onBus_keeps c
    | with_reducible apply dropBus_keeps c
    | with_reducible apply detachAll_keeps c
    | with_reducible apply portOff_keeps c
    | with_reducible apply chanDown_keeps c
    | with_reducible apply onStore_keeps c
    | with_reducible apply endOps_keeps c
    | with_reducible apply resetSegments_keeps c
    | fail_if_no_progress (with_reducible refine c.put rfl ?_)
    | with_reducible refine ite_keeps ?_ ?_

theorem resetBlocks_keeps (c : Closed P) (die mask : Nat) (tag : BitVec 16) (external byEvent : Bool) (h : P s) : P (s.resetBlocks die mask tag external byEvent) := by
  unfold State.resetBlocks
  repeat' first
    | with_reducible assumption
    | (lift_lets; intro y; refine bind_keeps (P := P) (y := y) ?_ ?_; (on_goal 2 => (intro _; clear_value y)); (on_goal 1 => unfold y))
    | (lift_lets; intro y; clear_value y)
    | (intro y; refine bind_keeps (P := P) (y := y) ?_ ?_; (on_goal 2 => (intro _; clear_value y)); (on_goal 1 => unfold y))
    | (intro y; clear_value y)
    | with_reducible refine foldl_keeps (fun _ _ _ => ?_) ?_
    | with_reducible apply setCause_keeps c
    | with_reducible apply resetEntry_keeps c
    | with_reducible apply onDie_keeps c
    | with_reducible apply blockEffect_keeps c
    | with_reducible apply testReset_keeps c
    | with_reducible apply redistribute_keeps c

theorem doBlockRst_keeps (c : Closed P) (v : Word) (tag : BitVec 16) (external : Bool) (h : P s) : P (s.doBlockRst v tag external) :=
  have k : P { s with prm := { s.prm with blockRstDie := rstDie v } } := c.put rfl h
  ite_keeps k (resetBlocks_keeps c _ _ _ _ _ k)

theorem loadBlockRst_keeps (c : Closed P) (l : Loaded) (h : P s) : P (s.loadBlockRst l) := by
  unfold State.loadBlockRst
  repeat' first
    | with_reducible assumption
    | with_reducible apply doBlockRst_keeps c
    | split

theorem propose_keeps (hc : Closed P) (trigger : Nat) (c : Change) (die : Nat) (h : P s) : P (s.propose trigger c die) := by
  unfold State.propose
  repeat' first
    | with_reducible assumption
    | (lift_lets; intro y; refine bind_keeps (P := P) (y := y) ?_ ?_; (on_goal 2 => (intro _; clear_value y)); (on_goal 1 => unfold y))
    | (lift_lets; intro y; clear_value y)
    | (intro y; refine bind_keeps (P := P) (y := y) ?_ ?_; (on_goal 2 => (intro _; clear_value y)); (on_goal 1 => unfold y))
    | (intro y; clear_value y)
    | with_reducible apply sendFrame_keeps hc

theorem openRound_keeps (c : Closed P) (trigger : Nat) (change : Change) (returning : List Nat) (op : Option PendingOp) (h : P s) : P (s.openRound trigger change returning op) := by
  unfold State.openRound
  repeat' first
    | with_reducible assumption
    | (lift_lets; intro y; refine bind_keeps (P := P) (y := y) ?_ ?_; (on_goal 2 => (intro _; clear_value y)); (on_goal 1 => unfold y))
    | (lift_lets; intro y; clear_value y)
    | (intro y; refine bind_keeps (P := P) (y := y) ?_ ?_; (on_goal 2 => (intro _; clear_value y)); (on_goal 1 => unfold y))
    | (intro y; clear_value y)
    | with_reducible refine foldl_keeps (fun _ _ _ => ?_) ?_
    | with_reducible apply onSpine_keeps c
    | with_reducible apply propose_keeps c

theorem agreeFail_keeps (c : Closed P) (die what attempt : Nat) (digest : Nat) (h : P s) : P (s.agreeFail die what attempt digest) := by
  unfold State.agreeFail
  repeat' first
    | with_reducible assumption
    | with_reducible apply append_keeps c

theorem mismatched_keeps (c : Closed P) (r : Round) (b : Ballot) (low : Nat) (h : P s) : P (s.mismatched r b low).1 :=
  ite_keeps (propose_keeps c _ _ _ (agreeFail_keeps c _ _ _ _ h)) (agreeFail_keeps c _ _ _ _ h)

theorem judge_keeps (c : Closed P) (r : Round) (b : Ballot) (a : Response) (h : P s) : P (s.judge r b a).1 := by
  unfold State.judge
  split
  · exact mismatched_keeps c _ _ _ h
  · dsimp only
    split
    · exact agreeFail_keeps c _ _ _ _ (c.free h rfl rfl rfl)
    · split
      · exact mismatched_keeps c _ _ _ (c.free h rfl rfl rfl)
      · exact c.free h rfl rfl rfl

theorem judgeEarly_keeps (c : Closed P) (n : Nat) (r : Round) (h : P s) : P (State.judgeEarly n s r).1 := by
  induction n generalizing s r with
  | zero => exact h
  | succ n ih =>
    unfold State.judgeEarly
    split
    · exact h
    · split
      · exact h
      · exact ih _ (judge_keeps c _ _ _ h)

theorem roundEntry_keeps (c : Closed P) (r : Round) (h : P s) : P (s.roundEntry r) := by
  unfold State.roundEntry
  repeat' first
    | with_reducible assumption
    | (lift_lets; intro y; refine bind_keeps (P := P) (y := y) ?_ ?_; (on_goal 2 => (intro _; clear_value y)); (on_goal 1 => unfold y))
    | (lift_lets; intro y; clear_value y)
    | (intro y; refine bind_keeps (P := P) (y := y) ?_ ?_; (on_goal 2 => (intro _; clear_value y)); (on_goal 1 => unfold y))
    | (intro y; clear_value y)
    | with_reducible apply append_keeps c

theorem quarantineEntry_keeps (c : Closed P) (die what : Nat) (h : P s) : P (s.quarantineEntry die what) := by
  unfold State.quarantineEntry
  repeat' first
    | with_reducible assumption
    | with_reducible apply onDie_keeps c
    | with_reducible apply append_keeps c

theorem quarantineActs_keeps (c : Closed P) (die : Nat) (h : P s) : P (s.quarantineActs die) := by
  unfold State.quarantineActs
  repeat' first
    | with_reducible assumption
    | with_reducible apply beginL2_keeps c
    | with_reducible apply dieDown_keeps c
    | with_reducible apply redistribute_keeps c
    | with_reducible apply reselect_keeps c

theorem quarantine_keeps (c : Closed P) (die what : Nat) (h : P s) : P (s.quarantine die what) := by
  unfold State.quarantine
  repeat' first
    | with_reducible assumption
    | with_reducible apply quarantineEntry_keeps c
    | with_reducible apply quarantineActs_keeps c

theorem selected_keeps (c : Closed P) (h : P s) : P (s.selected) := by
  unfold State.selected
  repeat' first
    | with_reducible assumption
    | with_reducible apply onCfg_keeps c

theorem loadFaults_keeps (c : Closed P) (l : Loaded) (h : P s) : P (s.loadFaults l) := by
  unfold State.loadFaults
  repeat' first
    | with_reducible assumption
    | with_reducible refine foldl_keeps (fun _ _ _ => ?_) ?_
    | with_reducible apply fault_keeps c

theorem loadPolicy_keeps (c : Closed P) (l : Loaded) (h : P s) : P (s.loadPolicy l) := by
  unfold State.loadPolicy
  refine loadBlockRst_keeps c _ (mirrored_keeps c (withValues_keeps c (.inr ⟨_, rfl⟩) ?_))
  split
  · exact c.put rfl (onEmber_keeps c _ rfl rfl rfl h)
  · exact c.put rfl h

theorem cfgEntry_keeps (c : Closed P) (k : Kind) (tail : List Byte) (h : P s) : P (s.cfgEntry k tail) := by
  unfold State.cfgEntry
  repeat' first
    | with_reducible assumption
    | (lift_lets; intro y; refine bind_keeps (P := P) (y := y) ?_ ?_; (on_goal 2 => (intro _; clear_value y)); (on_goal 1 => unfold y))
    | (lift_lets; intro y; clear_value y)
    | (intro y; refine bind_keeps (P := P) (y := y) ?_ ?_; (on_goal 2 => (intro _; clear_value y)); (on_goal 1 => unfold y))
    | (intro y; clear_value y)
    | with_reducible apply append_keeps c

theorem applySet_keeps (c : Closed P) (l : Loaded) (h : P s) : P (s.applySet l) := by
  unfold State.applySet
  repeat' first
    | with_reducible assumption
    | (lift_lets; intro y; refine bind_keeps (P := P) (y := y) ?_ ?_; (on_goal 2 => (intro _; clear_value y)); (on_goal 1 => unfold y))
    | (lift_lets; intro y; clear_value y)
    | (intro y; refine bind_keeps (P := P) (y := y) ?_ ?_; (on_goal 2 => (intro _; clear_value y)); (on_goal 1 => unfold y))
    | (intro y; clear_value y)
    | with_reducible apply onCfg_keeps c
    | with_reducible apply cfgEntry_keeps c
    | with_reducible apply loadFaults_keeps c
    | with_reducible apply loadPolicy_keeps c
    | with_reducible apply endOps_keeps c

theorem eraseTrailer_keeps (c : Closed P) (slot : Nat) (h : P s) : P (s.eraseTrailer slot) := by
  unfold State.eraseTrailer
  repeat' first
    | with_reducible assumption
    | with_reducible apply eraseFlash_keeps c
    | with_reducible apply onCfg_keeps c

theorem revertSet_keeps (c : Closed P) (l : Loaded) (h : P s) : P (s.revertSet l) := by
  unfold State.revertSet
  repeat' first
    | with_reducible assumption
    | (lift_lets; intro y; refine bind_keeps (P := P) (y := y) ?_ ?_; (on_goal 2 => (intro _; clear_value y)); (on_goal 1 => unfold y))
    | (lift_lets; intro y; clear_value y)
    | (intro y; refine bind_keeps (P := P) (y := y) ?_ ?_; (on_goal 2 => (intro _; clear_value y)); (on_goal 1 => unfold y))
    | (intro y; clear_value y)
    | with_reducible apply onCfg_keeps c
    | with_reducible apply cfgEntry_keeps c
    | with_reducible apply eraseTrailer_keeps c
    | fail_if_no_progress (with_reducible refine c.put rfl ?_)
    | with_reducible refine ite_keeps ?_ ?_

theorem commitSet_keeps (c : Closed P) (h : P s) : P s.commitSet :=
  endOps_keeps c _ _ _ (mirrored_keeps c (withValues_keeps c (.inl ⟨_, rfl⟩) (discardStaged_keeps c h)))

theorem deliverHeld_keeps (c : Closed P) (die : Nat) (h : P s) : P (s.deliverHeld die) := by
  unfold State.deliverHeld
  repeat' first
    | with_reducible assumption
    | (lift_lets; intro y; refine bind_keeps (P := P) (y := y) ?_ ?_; (on_goal 2 => (intro _; clear_value y)); (on_goal 1 => unfold y))
    | (lift_lets; intro y; clear_value y)
    | (intro y; refine bind_keeps (P := P) (y := y) ?_ ?_; (on_goal 2 => (intro _; clear_value y)); (on_goal 1 => unfold y))
    | (intro y; clear_value y)
    | with_reducible apply onDie_keeps c
    | with_reducible apply onIo_keeps c

theorem dieReturns_keeps (c : Closed P) (die : Nat) (h : P s) : P (s.dieReturns die) := by
  unfold State.dieReturns
  repeat' first
    | with_reducible assumption
    | (lift_lets; intro y; refine bind_keeps (P := P) (y := y) ?_ ?_; (on_goal 2 => (intro _; clear_value y)); (on_goal 1 => unfold y))
    | (lift_lets; intro y; clear_value y)
    | (intro y; refine bind_keeps (P := P) (y := y) ?_ ?_; (on_goal 2 => (intro _; clear_value y)); (on_goal 1 => unfold y))
    | (intro y; clear_value y)
    | with_reducible apply onDie_keeps c
    | with_reducible apply deliverHeld_keeps c

theorem agreed_keeps (c : Closed P) (set : AgreementSet) (die : Nat) (h : P s) : P (s.agreed set die) := by
  unfold State.agreed
  repeat' first
    | with_reducible assumption
    | (lift_lets; intro y; refine bind_keeps (P := P) (y := y) ?_ ?_; (on_goal 2 => (intro _; clear_value y)); (on_goal 1 => unfold y))
    | (lift_lets; intro y; clear_value y)
    | (intro y; refine bind_keeps (P := P) (y := y) ?_ ?_; (on_goal 2 => (intro _; clear_value y)); (on_goal 1 => unfold y))
    | (intro y; clear_value y)
    | with_reducible refine when_keeps (fun _ _ => ?_) ?_
    | with_reducible apply onDie_keeps c
    | with_reducible apply onSpine_keeps c

theorem leaveBoot_keeps (c : Closed P) (h : P s) : P s.leaveBoot :=
  entered_keeps c _ (modeTo_keeps c _ _ _ (.inr (.inr (chosenMode_ne_idle s))) h)

theorem changeOver_keeps (c : Closed P) (r : Round) (h : P s) : P (s.changeOver r) := by
  unfold State.changeOver
  repeat' first
    | with_reducible assumption
    | (lift_lets; intro y; refine bind_keeps (P := P) (y := y) ?_ ?_; (on_goal 2 => (intro _; clear_value y)); (on_goal 1 => unfold y))
    | (lift_lets; intro y; clear_value y)
    | (intro y; refine bind_keeps (P := P) (y := y) ?_ ?_; (on_goal 2 => (intro _; clear_value y)); (on_goal 1 => unfold y))
    | (intro y; clear_value y)
    | with_reducible apply revertSet_keeps c
    | with_reducible apply discardStaged_keeps c
    | with_reducible apply openRound_keeps c
    | with_reducible apply applySet_keeps c
    | with_reducible apply commitSet_keeps c
    | with_reducible apply endOps_keeps c
    | with_reducible apply fault_keeps c
    | with_reducible refine ite_keeps ?_ ?_
    | split

theorem markBehind_keeps (c : Closed P) (h : P s) : P (s.markBehind) := by
  unfold State.markBehind
  repeat' first
    | with_reducible assumption
    | (lift_lets; intro y; refine bind_keeps (P := P) (y := y) ?_ ?_; (on_goal 2 => (intro _; clear_value y)); (on_goal 1 => unfold y))
    | (lift_lets; intro y; clear_value y)
    | (intro y; refine bind_keeps (P := P) (y := y) ?_ ?_; (on_goal 2 => (intro _; clear_value y)); (on_goal 1 => unfold y))
    | (intro y; clear_value y)
    | with_reducible refine onLed_keeps c _ rfl rfl rfl rfl ?_
    | with_reducible apply onIo_keeps c
    | fail_if_no_progress (with_reducible refine c.put rfl ?_)
    | with_reducible refine ite_keeps ?_ ?_

theorem closeRound_keeps (c : Closed P) (r : Round) (h : P s) : P (s.closeRound r) := by
  unfold State.closeRound
  repeat' first
    | with_reducible assumption
    | (lift_lets; intro y; refine bind_keeps (P := P) (y := y) ?_ ?_; (on_goal 2 => (intro _; clear_value y)); (on_goal 1 => unfold y))
    | (lift_lets; intro y; clear_value y)
    | (intro y; refine bind_keeps (P := P) (y := y) ?_ ?_; (on_goal 2 => (intro _; clear_value y)); (on_goal 1 => unfold y))
    | (intro y; clear_value y)
    | with_reducible refine foldl_keeps (fun _ _ _ => ?_) ?_
    | with_reducible apply onSpine_keeps c
    | with_reducible apply markBehind_keeps c
    | with_reducible apply roundEntry_keeps c
    | with_reducible apply quarantineEntry_keeps c
    | with_reducible apply quarantineActs_keeps c
    | with_reducible apply agreed_keeps c
    | with_reducible apply dieReturns_keeps c
    | with_reducible apply changeOver_keeps c
    | with_reducible apply leaveBoot_keeps c
    | with_reducible apply reselect_keeps c
    | fail_if_no_progress (with_reducible refine c.put rfl ?_)
    | with_reducible refine ite_keeps ?_ ?_

theorem startRound_keeps (c : Closed P) (trigger : Nat) (change : Change) (returning : List Nat) (h : P s) : P (s.startRound trigger change returning) := by
  unfold State.startRound
  repeat' first
    | with_reducible assumption
    | (lift_lets; intro y; refine bind_keeps (P := P) (y := y) ?_ ?_; (on_goal 2 => (intro _; clear_value y)); (on_goal 1 => unfold y))
    | (lift_lets; intro y; clear_value y)
    | (intro y; refine bind_keeps (P := P) (y := y) ?_ ?_; (on_goal 2 => (intro _; clear_value y)); (on_goal 1 => unfold y))
    | (intro y; clear_value y)
    | with_reducible apply openRound_keeps c
    | with_reducible apply closeRound_keeps c
    | with_reducible refine ite_keeps ?_ ?_
    | split

theorem takeAnswer_keeps (c : Closed P) (r : Round) (die : Nat) (a : Response) (h : P s) :
    P (s.takeAnswer r die a) := by
  unfold State.takeAnswer
  extract_lets t q
  have e := judgeEarly_keeps c 8 q (tagged_keeps c r.tag h)
  change P (State.judgeEarly 8 t q).1 at e
  generalize State.judgeEarly 8 t q = x at e ⊢
  obtain ⟨u, w⟩ := x
  dsimp -zeta only at e ⊢
  split
  · exact onSpine_keeps c _ e
  · exact closeRound_keeps c _ e

theorem evAnswer_keeps (c : Closed P) (die : Nat) (stepping microcode : Byte) (digest : BitVec 64) (h : P s) : P (s.evAnswer die stepping microcode digest) := by
  unfold State.evAnswer
  repeat' first
    | with_reducible assumption
    | with_reducible apply takeAnswer_keeps c
    | split

theorem evAnswerTimeout_keeps (c : Closed P) (die : Nat) (h : P s) : P (s.evAnswerTimeout die) := by
  unfold State.evAnswerTimeout
  repeat' first
    | with_reducible assumption
    | with_reducible apply takeAnswer_keeps c
    | split

theorem evBlockReady_keeps (c : Closed P) (die : Nat) (block : Option Nat) (h : P s) : P (s.evBlockReady die block) := by
  unfold State.evBlockReady
  repeat' first
    | with_reducible assumption
    | (lift_lets; intro y; refine bind_keeps (P := P) (y := y) ?_ ?_; (on_goal 2 => (intro _; clear_value y)); (on_goal 1 => unfold y))
    | (lift_lets; intro y; clear_value y)
    | (intro y; refine bind_keeps (P := P) (y := y) ?_ ?_; (on_goal 2 => (intro _; clear_value y)); (on_goal 1 => unfold y))
    | (intro y; clear_value y)
    | with_reducible refine when_keeps (fun _ _ => ?_) ?_
    | with_reducible apply onDie_keeps c
    | with_reducible apply unlatch_keeps c
    | with_reducible apply readySegments_keeps c
    | with_reducible apply tagged_keeps c
    | with_reducible apply endOps_keeps c
    | with_reducible apply startRound_keeps c
    | fail_if_no_progress (with_reducible refine c.put rfl ?_)
    | with_reducible refine ite_keeps ?_ ?_
    | split

theorem evClockDead_keeps (c : Closed P) (die block : Nat) (h : P s) : P (s.evClockDead die block) := by
  unfold State.evClockDead
  repeat' first
    | with_reducible assumption
    | (lift_lets; intro y; refine bind_keeps (P := P) (y := y) ?_ ?_; (on_goal 2 => (intro _; clear_value y)); (on_goal 1 => unfold y))
    | (lift_lets; intro y; clear_value y)
    | (intro y; refine bind_keeps (P := P) (y := y) ?_ ?_; (on_goal 2 => (intro _; clear_value y)); (on_goal 1 => unfold y))
    | (intro y; clear_value y)
    | with_reducible apply endOps_keeps c
    | with_reducible apply fault_keeps c
    | with_reducible apply onDie_keeps c
    | with_reducible apply latch_keeps c
    | fail_if_no_progress (with_reducible refine c.put rfl ?_)
    | with_reducible refine ite_keeps ?_ ?_

theorem evParityDie_keeps (c : Closed P) (die : Nat) (param : BitVec 16) (h : P s) : P (s.evParityDie die param) := by
  unfold State.evParityDie
  repeat' first
    | with_reducible assumption
    | with_reducible apply resetDie_keeps c
    | with_reducible refine ite_keeps ?_ ?_

theorem loseLink_keeps (c : Closed P) (link : Nat) (h : P s) : P (s.loseLink link) := by
  unfold State.loseLink
  repeat' first
    | with_reducible assumption
    | (lift_lets; intro y; refine bind_keeps (P := P) (y := y) ?_ ?_; (on_goal 2 => (intro _; clear_value y)); (on_goal 1 => unfold y))
    | (lift_lets; intro y; clear_value y)
    | (intro y; refine bind_keeps (P := P) (y := y) ?_ ?_; (on_goal 2 => (intro _; clear_value y)); (on_goal 1 => unfold y))
    | (intro y; clear_value y)
    | with_reducible apply onLink_keeps c
    | with_reducible apply latch_keeps c
    | with_reducible apply onDie_keeps c
    | with_reducible apply dieDown_keeps c
    | with_reducible apply redistribute_keeps c
    | with_reducible apply reselect_keeps c
    | with_reducible apply beginL2_keeps c

theorem laneDropEntry_keeps (c : Closed P) (link lane frames : Nat) (h : P s) : P (s.laneDropEntry link lane frames) := by
  unfold State.laneDropEntry
  repeat' first
    | with_reducible assumption
    | with_reducible apply append_keeps c

theorem dropLanes_keeps (c : Closed P) (link : Nat) (lanes : List Nat) (frames : Nat) (h : P s) : P (s.dropLanes link lanes frames) := by
  unfold State.dropLanes
  repeat' first
    | with_reducible assumption
    | (lift_lets; intro y; refine bind_keeps (P := P) (y := y) ?_ ?_; (on_goal 2 => (intro _; clear_value y)); (on_goal 1 => unfold y))
    | (lift_lets; intro y; clear_value y)
    | (intro y; refine bind_keeps (P := P) (y := y) ?_ ?_; (on_goal 2 => (intro _; clear_value y)); (on_goal 1 => unfold y))
    | (intro y; clear_value y)
    | with_reducible refine each_keeps (fun _ _ _ => ?_) ?_
    | with_reducible apply onSpine_keeps c
    | with_reducible apply onLink_keeps c
    | with_reducible apply onLane_keeps c
    | with_reducible apply laneDropEntry_keeps c
    | with_reducible apply loseLink_keeps c
    | fail_if_no_progress (with_reducible refine c.put rfl ?_)
    | with_reducible refine ite_keeps ?_ ?_
    | split

theorem evLaneDrop_keeps (c : Closed P) (link : Nat) (lanes : BitVec 4) (frames : Word) (h : P s) : P (s.evLaneDrop link lanes frames) := by
  unfold State.evLaneDrop
  repeat' first
    | with_reducible assumption
    | (lift_lets; intro y; refine bind_keeps (P := P) (y := y) ?_ ?_; (on_goal 2 => (intro _; clear_value y)); (on_goal 1 => unfold y))
    | (lift_lets; intro y; clear_value y)
    | (intro y; refine bind_keeps (P := P) (y := y) ?_ ?_; (on_goal 2 => (intro _; clear_value y)); (on_goal 1 => unfold y))
    | (intro y; clear_value y)
    | with_reducible refine each_keeps (fun _ _ _ => ?_) ?_
    | with_reducible apply onLane_keeps c
    | with_reducible apply dropLanes_keeps c
    | with_reducible refine ite_keeps ?_ ?_

theorem evRetrain_keeps (c : Closed P) (link lane : Nat) (h : P s) : P (s.evRetrain link lane) := by
  unfold State.evRetrain
  repeat' first
    | with_reducible assumption
    | with_reducible apply onLane_keeps c
    | fail_if_no_progress (with_reducible refine c.put rfl ?_)
    | with_reducible refine ite_keeps ?_ ?_

theorem linkReturns_keeps (c : Closed P) (link : Nat) (h : P s) : P (s.linkReturns link) := by
  unfold State.linkReturns
  repeat' first
    | with_reducible assumption
    | (lift_lets; intro y; refine bind_keeps (P := P) (y := y) ?_ ?_; (on_goal 2 => (intro _; clear_value y)); (on_goal 1 => unfold y))
    | (lift_lets; intro y; clear_value y)
    | (intro y; refine bind_keeps (P := P) (y := y) ?_ ?_; (on_goal 2 => (intro _; clear_value y)); (on_goal 1 => unfold y))
    | (intro y; clear_value y)
    | with_reducible apply onLink_keeps c
    | with_reducible apply unlatch_keeps c
    | with_reducible apply startRound_keeps c
    | fail_if_no_progress (with_reducible refine c.put rfl ?_)
    | with_reducible refine ite_keeps ?_ ?_

theorem evRejoin_keeps (c : Closed P) (link lane : Nat) (h : P s) : P (s.evRejoin link lane) := by
  unfold State.evRejoin
  dsimp only
  repeat' first
    | with_reducible assumption
    | with_reducible apply onLane_keeps c
    | with_reducible apply append_keeps c
    | with_reducible apply onLink_keeps c
    | with_reducible apply linkReturns_keeps c
    | fail_if_no_progress (with_reducible refine c.put rfl ?_)
    | with_reducible refine ite_keeps ?_ ?_

theorem trainLink_keeps (c : Closed P) (link : Nat) (failed : List Nat) (h : P s) : P (s.trainLink link failed) := by
  unfold State.trainLink
  repeat' first
    | with_reducible assumption
    | (lift_lets; intro y; refine bind_keeps (P := P) (y := y) ?_ ?_; (on_goal 2 => (intro _; clear_value y)); (on_goal 1 => unfold y))
    | (lift_lets; intro y; clear_value y)
    | (intro y; refine bind_keeps (P := P) (y := y) ?_ ?_; (on_goal 2 => (intro _; clear_value y)); (on_goal 1 => unfold y))
    | (intro y; clear_value y)
    | with_reducible refine each_keeps (fun _ _ _ => ?_) ?_
    | with_reducible apply onLane_keeps c
    | with_reducible apply append_keeps c
    | with_reducible apply laneDropEntry_keeps c
    | with_reducible apply linkReturns_keeps c
    | with_reducible apply loseLink_keeps c
    | fail_if_no_progress (with_reducible refine c.put rfl ?_)
    | with_reducible refine ite_keeps ?_ ?_

theorem trainLinks_keeps (c : Closed P) (failed : BitVec 10) (h : P s) : P (s.trainLinks failed) := by
  unfold State.trainLinks
  repeat' first
    | with_reducible assumption
    | (lift_lets; intro y; refine bind_keeps (P := P) (y := y) ?_ ?_; (on_goal 2 => (intro _; clear_value y)); (on_goal 1 => unfold y))
    | (lift_lets; intro y; clear_value y)
    | (intro y; refine bind_keeps (P := P) (y := y) ?_ ?_; (on_goal 2 => (intro _; clear_value y)); (on_goal 1 => unfold y))
    | (intro y; clear_value y)
    | with_reducible apply trainLink_keeps c

theorem evIntervalReset_keeps (c : Closed P) (link lane : Nat) (h : P s) : P (s.evIntervalReset link lane) := by
  unfold State.evIntervalReset
  repeat' first
    | with_reducible assumption
    | with_reducible apply onLane_keeps c
    | fail_if_no_progress (with_reducible refine c.put rfl ?_)
    | with_reducible refine ite_keeps ?_ ?_

theorem evForgeLoss_keeps (c : Closed P) (h : P s) : P (s.evForgeLoss) := by
  unfold State.evForgeLoss
  repeat' first
    | with_reducible assumption
    | (lift_lets; intro y; refine bind_keeps (P := P) (y := y) ?_ ?_; (on_goal 2 => (intro _; clear_value y)); (on_goal 1 => unfold y))
    | (lift_lets; intro y; clear_value y)
    | (intro y; refine bind_keeps (P := P) (y := y) ?_ ?_; (on_goal 2 => (intro _; clear_value y)); (on_goal 1 => unfold y))
    | (intro y; clear_value y)
    | with_reducible apply onSpine_keeps c
    | with_reducible apply sbOffAll_keeps c
    | with_reducible apply fault_keeps c
    | with_reducible apply redistribute_keeps c
    | with_reducible apply reselect_keeps c
    | fail_if_no_progress (with_reducible refine c.put rfl ?_)
    | with_reducible refine ite_keeps ?_ ?_

theorem compareSkew_keeps (c : Closed P) (die : Nat) (tick : Nat) (skew : Word) (h : P s) : P (s.compareSkew die tick skew) := by
  unfold State.compareSkew
  repeat' first
    | with_reducible assumption
    | (lift_lets; intro y; refine bind_keeps (P := P) (y := y) ?_ ?_; (on_goal 2 => (intro _; clear_value y)); (on_goal 1 => unfold y))
    | (lift_lets; intro y; clear_value y)
    | (intro y; refine bind_keeps (P := P) (y := y) ?_ ?_; (on_goal 2 => (intro _; clear_value y)); (on_goal 1 => unfold y))
    | (intro y; clear_value y)
    | with_reducible apply onSpine_keeps c
    | with_reducible apply onDie_keeps c

theorem resyncEntry_keeps (c : Closed P) (die count : Nat) (skew : Word) (h : P s) : P (s.resyncEntry die count skew) := by
  unfold State.resyncEntry
  repeat' first
    | with_reducible assumption
    | with_reducible apply append_keeps c

theorem skewReport_keeps (c : Closed P) (die count : Nat) (skew : Word) (h : P s) : P (s.skewReport die count skew) := by
  unfold State.skewReport
  repeat' first
    | with_reducible assumption
    | with_reducible apply resyncEntry_keeps c
    | with_reducible apply latch_keeps c
    | with_reducible apply agreeFail_keeps c
    | with_reducible apply quarantine_keeps c
    | with_reducible refine ite_keeps ?_ ?_

theorem tickCompared_keeps (c : Closed P) (die : Nat) (tick : Nat) (skew : Word) (listening : Bool) (h : P s) : P (s.tickCompared die tick skew listening) := by
  unfold State.tickCompared
  repeat' first
    | with_reducible assumption
    | (lift_lets; intro y; refine bind_keeps (P := P) (y := y) ?_ ?_; (on_goal 2 => (intro _; clear_value y)); (on_goal 1 => unfold y))
    | (lift_lets; intro y; clear_value y)
    | (intro y; refine bind_keeps (P := P) (y := y) ?_ ?_; (on_goal 2 => (intro _; clear_value y)); (on_goal 1 => unfold y))
    | (intro y; clear_value y)
    | with_reducible apply compareSkew_keeps c
    | with_reducible apply skewReport_keeps c
    | with_reducible apply onIo_keeps c
    | fail_if_no_progress (with_reducible refine c.put rfl ?_)
    | with_reducible refine ite_keeps ?_ ?_

theorem evTickFrame_keeps (c : Closed P) (die : Nat) (skew : Word) (replayed listening : Bool) (h : P s) : P (s.evTickFrame die skew replayed listening) := by
  unfold State.evTickFrame
  repeat' first
    | with_reducible assumption
    | (lift_lets; intro y; refine bind_keeps (P := P) (y := y) ?_ ?_; (on_goal 2 => (intro _; clear_value y)); (on_goal 1 => unfold y))
    | (lift_lets; intro y; clear_value y)
    | (intro y; refine bind_keeps (P := P) (y := y) ?_ ?_; (on_goal 2 => (intro _; clear_value y)); (on_goal 1 => unfold y))
    | (intro y; clear_value y)
    | with_reducible apply onDie_keeps c
    | with_reducible apply tickCompared_keeps c
    | fail_if_no_progress (with_reducible refine c.put rfl ?_)
    | with_reducible refine ite_keeps ?_ ?_

theorem relayTick_keeps (c : Closed P) (h : P s) : P (s.relayTick) := by
  unfold State.relayTick
  repeat' first
    | with_reducible assumption
    | with_reducible refine each_keeps (fun _ _ _ => ?_) ?_
    | with_reducible apply sendFrame_keeps c
    | with_reducible refine ite_keeps ?_ ?_

theorem settleLink_keeps (c : Closed P) (die p : Nat) (f : State → State) (hf : P (f s)) (h : P s) : P (s.settleLink die p f) :=
  ite_keeps hf h

theorem settleOne_keeps (c : Closed P) (die : Nat) (d : StateDiff) (h : P s) : P (s.settleOne die d) := by
  unfold State.settleOne
  repeat' first
    | with_reducible assumption
    | with_reducible apply chanOffEntry_keeps c
    | with_reducible apply portOff_keeps c
    | with_reducible apply fault_keeps c
    | with_reducible apply chanDown_keeps c
    | with_reducible apply evPortAttach_keeps c
    | with_reducible apply detach_keeps c
    | with_reducible apply trip_keeps c
    | with_reducible apply lockChan_keeps c
    | with_reducible apply linkTripped_keeps c
    | with_reducible apply onChan_keeps c
    | (with_reducible apply settleLink_keeps c; (on_goal 1 => beta_reduce))
    | with_reducible apply onBus_keeps c
    | with_reducible apply append_keeps c
    | with_reducible apply suspendPort_keeps c
    | with_reducible apply resumePort_keeps c
    | with_reducible apply dropBus_keeps c
    | fail_if_no_progress (with_reducible refine c.put rfl ?_)
    | with_reducible refine ite_keeps ?_ ?_
    | split

theorem evStateExchange_keeps (c : Closed P) (die : Nat) (digest : Word) (diffs : List StateDiff) (h : P s) : P (s.evStateExchange die digest diffs) := by
  unfold State.evStateExchange
  repeat' first
    | with_reducible assumption
    | (lift_lets; intro y; refine bind_keeps (P := P) (y := y) ?_ ?_; (on_goal 2 => (intro _; clear_value y)); (on_goal 1 => unfold y))
    | (lift_lets; intro y; clear_value y)
    | (intro y; refine bind_keeps (P := P) (y := y) ?_ ?_; (on_goal 2 => (intro _; clear_value y)); (on_goal 1 => unfold y))
    | (intro y; clear_value y)
    | with_reducible refine foldl_keeps (fun _ _ _ => ?_) ?_
    | with_reducible apply onDie_keeps c
    | with_reducible apply settleOne_keeps c
    | with_reducible apply agreeFail_keeps c
    | with_reducible apply redistribute_keeps c
    | with_reducible apply fault_keeps c
    | with_reducible apply resetDie_keeps c
    | fail_if_no_progress (with_reducible refine c.put rfl ?_)
    | with_reducible refine ite_keeps ?_ ?_

end Sys2Proof.Machine
end

