-- ==== Sys2Proof/Laws/KeepBoot.lean ====
section
/-! SUPPORT. The functions of Machine/Boot.lean keep a closed property. -/

namespace Sys2Proof.Machine

variable {P : State → Prop} {s : State}

theorem cleared_keeps (c : Closed P) {e : Ember} (p : Phase) {m : Mode}
    (hr : e.retained = s.ember.retained ∨ e.retained = []) (hb : e.fuseBank = s.ember.fuseBank)
    (hf : e.fuseBurn = s.ember.fuseBurn) (hm : m ≠ .idle) (h : P s) : P (s.cleared e p m) :=
  c.reset s _ (by simp [State.cleared, State.guard, State.reset, hb, hf, Ident.rom, Ledger.init, Params.init]) hr hm
    Mode.noConfusion h

theorem enterOff_keeps (c : Closed P) (h : P s) : P s.enterOff :=
  cleared_keeps c .off (.inl rfl) rfl rfl Mode.noConfusion h

theorem beginL1_keeps (c : Closed P) (bit detail : Nat) (h : P s) : P (s.beginL1 bit detail) := by
  unfold State.beginL1
  exact ite_keeps h (ite_keeps (enterOff_keeps c h) (cleared_keeps c _ (.inl rfl) rfl rfl Mode.noConfusion h))

theorem evBor_keeps (c : Closed P) (supply : Nat) (h : P s) : P (s.evBor supply) := by
  unfold State.evBor
  repeat' first
    | with_reducible assumption
    | with_reducible apply beginL1_keeps c
    | with_reducible refine ite_keeps ?_ ?_

theorem evWdt_keeps (c : Closed P) (opcode : BitVec 16) (h : P s) : P (s.evWdt opcode) := by
  unfold State.evWdt
  repeat' first
    | with_reducible assumption
    | with_reducible apply beginL1_keeps c
    | with_reducible refine ite_keeps ?_ ?_

theorem evEcc_keeps (c : Closed P) (addr : BitVec 24) (h : P s) : P (s.evEcc addr) := by
  unfold State.evEcc
  repeat' first
    | with_reducible assumption
    | with_reducible apply beginL1_keeps c
    | with_reducible refine ite_keeps ?_ ?_

theorem evParityHive_keeps (c : Closed P) (param : BitVec 16) (h : P s) : P (s.evParityHive param) := by
  unfold State.evParityHive
  repeat' first
    | with_reducible assumption
    | with_reducible apply beginL1_keeps c
    | with_reducible refine ite_keeps ?_ ?_

theorem evPinReset_keeps (c : Closed P) (h : P s) : P s.evPinReset := by
  unfold State.evPinReset
  refine ite_keeps h ?_
  extract_lets t
  have ht : P t := onEmber_keeps c _ rfl rfl rfl h
  exact ite_keeps (beginL1_keeps c _ _ ht) (setCause_keeps c _ _ ht)

theorem evPinRelease_keeps (c : Closed P) (h : P s) : P s.evPinRelease := by
  unfold State.evPinRelease
  extract_lets t
  have ht : P t := onEmber_keeps c _ rfl rfl rfl h
  exact ite_keeps (c.put rfl ht) ht

theorem evDeviceReset_keeps (c : Closed P) (h : P s) : P (s.evDeviceReset) := by
  unfold State.evDeviceReset
  repeat' first
    | with_reducible assumption
    | with_reducible apply writeRetained_keeps c
    | with_reducible apply beginL1_keeps c
    | split

theorem evStretch_keeps (c : Closed P) (h : P s) : P (s.evStretch) := by
  unfold State.evStretch
  repeat' first
    | with_reducible assumption
    | (lift_lets; intro y; refine bind_keeps (P := P) (y := y) ?_ ?_; (on_goal 2 => (intro _; clear_value y)); (on_goal 1 => unfold y))
    | (lift_lets; intro y; clear_value y)
    | (intro y; refine bind_keeps (P := P) (y := y) ?_ ?_; (on_goal 2 => (intro _; clear_value y)); (on_goal 1 => unfold y))
    | (intro y; clear_value y)
    | with_reducible refine onEmber_keeps c _ rfl rfl rfl ?_
    | fail_if_no_progress (with_reducible refine c.put rfl ?_)
    | with_reducible refine ite_keeps ?_ ?_

theorem startL0_keeps (c : Closed P) (bit : Nat) (h : P s) : P (s.startL0 bit) := by
  unfold State.startL0
  refine c.reset s _ rfl ?_ Mode.noConfusion Mode.noConfusion h
  dsimp only [State.cleared]
  split
  · exact .inl rfl
  · exact .inr rfl

theorem evPor_keeps (c : Closed P) (h : P s) : P (s.evPor) := by
  unfold State.evPor
  repeat' first
    | with_reducible assumption
    | with_reducible apply startL0_keeps c

theorem evPorAssert_keeps (c : Closed P) (h : P s) : P s.evPorAssert :=
  c.reset s _ rfl (.inl rfl) Mode.noConfusion Mode.noConfusion h

theorem evRetentionLoss_keeps (c : Closed P) (h : P s) : P (s.evRetentionLoss) := by
  unfold State.evRetentionLoss
  repeat' first
    | with_reducible assumption
    | with_reducible refine onEmber_keeps c _ rfl rfl rfl ?_
    | fail_if_no_progress (with_reducible refine c.put rfl ?_)
    | with_reducible refine ite_keeps ?_ ?_

theorem evPorRelease_keeps (c : Closed P) (bootSel clkMode : BitVec 2) (testEn : Bool) (h : P s) :
    P (s.evPorRelease bootSel clkMode testEn) := by
  unfold State.evPorRelease
  exact ite_keeps (c.free h rfl rfl rfl) h

theorem evWakeOff_keeps (c : Closed P) (h : P s) : P (s.evWakeOff) := by
  unfold State.evWakeOff
  repeat' first
    | with_reducible assumption
    | with_reducible apply startL0_keeps c
    | with_reducible refine ite_keeps ?_ ?_

theorem dfuAttach_keeps (c : Closed P) (h : P s) : P s.dfuAttach := ite_keeps (onHub_keeps c _ h) h

theorem evPllLock_keeps (c : Closed P) (h : P s) : P s.evPllLock := by
  unfold State.evPllLock
  refine ite_keeps ?_ h
  have e := nextBoot_keeps c h
  generalize s.nextBoot = x at e ⊢
  obtain ⟨n, t⟩ := x
  dsimp -zeta only at e ⊢
  extract_lets next holdend u
  have hu : P u := onCfg_keeps c _ (c.led t _ rfl rfl (Nat.le_max_right ..) (Nat.le_max_right ..) e)
  exact dfuAttach_keeps c (c.free hu rfl rfl rfl)

theorem evPllRetry_keeps (c : Closed P) (h : P s) : P (s.evPllRetry) := by
  unfold State.evPllRetry
  repeat' first
    | with_reducible assumption
    | with_reducible refine onPw_keeps c _ rfl ?_
    | with_reducible refine onEmber_keeps c _ rfl rfl rfl ?_
    | fail_if_no_progress (with_reducible refine c.put rfl ?_)
    | with_reducible refine ite_keeps ?_ ?_

theorem evFirmwareAuth_keeps (c : Closed P) (ok : Bool) (version : BitVec 16) (badHeader : Bool) (h : P s) :
    P (s.evFirmwareAuth ok version badHeader) := by
  unfold State.evFirmwareAuth
  refine ite_keeps ?_ h
  cases ok <;> exact c.free h rfl rfl rfl

theorem dfuStall_keeps (c : Closed P) (h : P s) : P (s.dfuStall) := by
  unfold State.dfuStall
  repeat' first
    | with_reducible assumption
    | with_reducible apply onIo_keeps c

theorem evDfuDnload_keeps (c : Closed P) (block : List Byte) (h : P s) : P (s.evDfuDnload block) := by
  unfold State.evDfuDnload
  repeat' first
    | with_reducible assumption
    | with_reducible apply dfuStall_keeps c
    | with_reducible apply onIo_keeps c
    | fail_if_no_progress (with_reducible refine c.put rfl ?_)
    | with_reducible refine ite_keeps ?_ ?_

theorem evDfuGetstatus_keeps (c : Closed P) (h : P s) : P (s.evDfuGetstatus) := by
  unfold State.evDfuGetstatus
  repeat' first
    | with_reducible assumption
    | with_reducible apply answering_keeps c
    | with_reducible refine ite_keeps ?_ ?_

theorem evDfuGetstate_keeps (c : Closed P) (h : P s) : P (s.evDfuGetstate) := by
  unfold State.evDfuGetstate
  repeat' first
    | with_reducible assumption
    | with_reducible apply answering_keeps c
    | with_reducible refine ite_keeps ?_ ?_

theorem evDfuClrstatus_keeps (c : Closed P) (h : P s) : P (s.evDfuClrstatus) := by
  unfold State.evDfuClrstatus
  repeat' first
    | with_reducible assumption
    | with_reducible apply onIo_keeps c
    | with_reducible apply dfuStall_keeps c
    | fail_if_no_progress (with_reducible refine c.put rfl ?_)
    | with_reducible refine ite_keeps ?_ ?_

theorem evDfuAbort_keeps (c : Closed P) (h : P s) : P (s.evDfuAbort) := by
  unfold State.evDfuAbort
  repeat' first
    | with_reducible assumption
    | with_reducible apply onIo_keeps c
    | with_reducible apply dfuStall_keeps c
    | fail_if_no_progress (with_reducible refine c.put rfl ?_)
    | with_reducible refine ite_keeps ?_ ?_

theorem evDfuUpload_keeps (c : Closed P) (h : P s) : P (s.evDfuUpload) := by
  unfold State.evDfuUpload
  repeat' first
    | with_reducible assumption
    | with_reducible apply dfuStall_keeps c
    | with_reducible refine ite_keeps ?_ ?_

theorem evSvcImage_keeps (c : Closed P) (bytes : List Byte) (h : P s) : P (s.evSvcImage bytes) := by
  unfold State.evSvcImage
  repeat' first
    | with_reducible assumption
    | (lift_lets; intro y; refine bind_keeps (P := P) (y := y) ?_ ?_; (on_goal 2 => (intro _; clear_value y)); (on_goal 1 => unfold y))
    | (lift_lets; intro y; clear_value y)
    | (intro y; refine bind_keeps (P := P) (y := y) ?_ ?_; (on_goal 2 => (intro _; clear_value y)); (on_goal 1 => unfold y))
    | (intro y; clear_value y)
    | with_reducible apply onIo_keeps c
    | fail_if_no_progress (with_reducible refine c.put rfl ?_)
    | with_reducible refine ite_keeps ?_ ?_

theorem evDownloadAuth_keeps (c : Closed P) (ok : Bool) (version : BitVec 16) (h : P s) :
    P (s.evDownloadAuth ok version) := by
  unfold State.evDownloadAuth
  refine ite_keeps ?_ h
  extract_lets image t u v
  have ht : P t := programFlash_keeps c _ _ (eraseFlash_keeps c _ _ (linkDrop_keeps c h))
  clear_value t
  have hu : P u := onIo_keeps c _ ht
  clear_value u
  exact ite_keeps (c.free hu rfl rfl rfl) (c.put rfl (onIo_keeps c _ h))

theorem bootConfig_keeps (c : Closed P) (h : P s) : P s.bootConfig := by
  unfold State.bootConfig
  extract_lets slot l t u
  have ht : P t := onCfg_keeps c _ (selected_keeps c h)
  have hu : P u := by
    unfold u
    split
    · exact onEmber_keeps c _ rfl rfl rfl ht
    · exact ht
  exact c.fresh u _ _ rfl rfl rfl hu

theorem bootEntry_keeps (c : Closed P) (h : P s) : P (s.bootEntry) := by
  unfold State.bootEntry
  repeat' first
    | with_reducible assumption
    | with_reducible apply append_keeps c

theorem bootClockDead_keeps (c : Closed P) (die block : Nat) (h : P s) : P (s.bootClockDead die block) := by
  unfold State.bootClockDead
  repeat' first
    | with_reducible assumption
    | (lift_lets; intro y; refine bind_keeps (P := P) (y := y) ?_ ?_; (on_goal 2 => (intro _; clear_value y)); (on_goal 1 => unfold y))
    | (lift_lets; intro y; clear_value y)
    | (intro y; refine bind_keeps (P := P) (y := y) ?_ ?_; (on_goal 2 => (intro _; clear_value y)); (on_goal 1 => unfold y))
    | (intro y; clear_value y)
    | with_reducible apply onDie_keeps c
    | with_reducible apply latch_keeps c
    | with_reducible apply reselect_keeps c

theorem heldAtBoot_keeps (c : Closed P) (i : Input) (h : P s) : P (s.heldAtBoot i) := by
  unfold State.heldAtBoot
  repeat' first
    | with_reducible assumption
    | with_reducible apply bootClockDead_keeps c
    | with_reducible apply fault_keeps c
    | with_reducible refine ite_keeps ?_ ?_
    | split

theorem evSpineTraining_keeps (c : Closed P) (lanes : BitVec 10) (rails : BitVec 4) (h : P s) :
    P (s.evSpineTraining lanes rails) := by
  unfold State.evSpineTraining
  refine ite_keeps h ?_
  extract_lets tailWord retainedWord led s1 s2 s3 src s4 s5 s6 s7 held s8 s9 failed s10
  have h1 : P s1 := c.newLed s _ rfl rfl rfl rfl h
  have h3 : P s3 := bootConfig_keeps c (onEmber_keeps c _ rfl rfl rfl h1)
  have h4 : P s4 := c.mode (s3.eraseFlash (tailBase s3.sparePage) 0x4000) _ rfl (.inr (.inr (show Mode.boot ≠ .idle from Mode.noConfusion))) (.inr (.inl rfl))
    (eraseFlash_keeps c (tailBase s3.sparePage) 0x4000 h3)
  have h6 : P s6 := bootEntry_keeps c (c.put rfl h4)
  have h7 : P s7 := by
    unfold s7
    split
    · exact latch_keeps c _ _ _ _ _ _ h6
    · exact h6
  have h9 : P s9 := foldl_keeps (fun _ _ h => heldAtBoot_keeps c _ h) (onIo_keeps c _ h7)
  exact startRound_keeps c _ _ _ (loadBlockRst_keeps c _ (loadFaults_keeps c _
    (dropLanes_keeps c _ _ _ (dropLanes_keeps c _ _ _ (dropLanes_keeps c _ _ _ h9)))))

theorem evRetainedDone_keeps (c : Closed P) (h : P s) : P (s.evRetainedDone) := by
  unfold State.evRetainedDone
  repeat' first
    | with_reducible assumption
    | (lift_lets; intro y; refine bind_keeps (P := P) (y := y) ?_ ?_; (on_goal 2 => (intro _; clear_value y)); (on_goal 1 => unfold y))
    | (lift_lets; intro y; clear_value y)
    | (intro y; refine bind_keeps (P := P) (y := y) ?_ ?_; (on_goal 2 => (intro _; clear_value y)); (on_goal 1 => unfold y))
    | (intro y; clear_value y)
    | with_reducible apply writeRetained_keeps c
    | with_reducible apply enterOff_keeps c
    | with_reducible apply onStore_keeps c
    | fail_if_no_progress (with_reducible refine c.put rfl ?_)
    | with_reducible refine ite_keeps ?_ ?_

theorem evTailDone_keeps (c : Closed P) (h : P s) : P (s.evTailDone) := by
  unfold State.evTailDone
  repeat' first
    | with_reducible assumption
    | with_reducible apply writeTail_keeps c
    | with_reducible apply enterOff_keeps c
    | with_reducible refine ite_keeps ?_ ?_

theorem evNodeCollapse_keeps (c : Closed P) (h : P s) : P (s.evNodeCollapse) := by
  unfold State.evNodeCollapse
  repeat' first
    | with_reducible assumption
    | with_reducible apply enterOff_keeps c
    | with_reducible refine ite_keeps ?_ ?_

end Sys2Proof.Machine
end

