-- ==== Sys2Proof/Laws/KeepPower.lean ====
section
/-! SUPPORT. The functions of Machine/Power.lean keep a closed property. -/

namespace Sys2Proof.Machine

variable {P : State → Prop} {s : State}

theorem powerEntry_keeps (c : Closed P) (k : Kind) (data : List Byte) (h : P s) : P (s.powerEntry k data) := by
  unfold State.powerEntry
  repeat' first
    | with_reducible assumption
    | with_reducible apply append_keeps c

theorem alarmTaken_keeps (c : Closed P) (source : Nat) (h : P s) : P (s.alarmTaken source) := by
  unfold State.alarmTaken
  repeat' first
    | with_reducible assumption
    | with_reducible apply setValue_keeps c
    | with_reducible refine ite_keeps ?_ ?_

theorem enterEntry_keeps (c : Closed P) (m : Mode) (h : P s) : P (s.enterEntry m) := by
  unfold State.enterEntry
  repeat' first
    | with_reducible assumption
    | (lift_lets; intro y; refine bind_keeps (P := P) (y := y) ?_ ?_; (on_goal 2 => (intro _; clear_value y)); (on_goal 1 => unfold y))
    | (lift_lets; intro y; clear_value y)
    | (intro y; refine bind_keeps (P := P) (y := y) ?_ ?_; (on_goal 2 => (intro _; clear_value y)); (on_goal 1 => unfold y))
    | (intro y; clear_value y)
    | with_reducible refine onPw_keeps c _ rfl ?_
    | with_reducible apply powerEntry_keeps c

theorem abandon_keeps (c : Closed P) (ap source : Nat) (failed : BitVec 10) (h : P s) : P (s.abandon ap source failed) := by
  unfold State.abandon
  repeat' first
    | with_reducible assumption
    | (lift_lets; intro y; refine bind_keeps (P := P) (y := y) ?_ ?_; (on_goal 2 => (intro _; clear_value y)); (on_goal 1 => unfold y))
    | (lift_lets; intro y; clear_value y)
    | (intro y; refine bind_keeps (P := P) (y := y) ?_ ?_; (on_goal 2 => (intro _; clear_value y)); (on_goal 1 => unfold y))
    | (intro y; clear_value y)
    | with_reducible refine when_keeps (fun _ _ => ?_) ?_
    | with_reducible refine onPw_keeps c _ rfl ?_
    | with_reducible apply powerEntry_keeps c
    | with_reducible apply alarmTaken_keeps c
    | with_reducible apply trainLinks_keeps c

/-- A target of R140 is a sleep state. -/
theorem target_ne_idle {s : State} {m : Mode} (e : s.target = some m) : m ≠ .idle := by
  unfold State.target at e
  split at e
  · exact absurd e (by simp)
  · obtain rfl := Option.some.inj e
    split <;> exact Mode.noConfusion
  · obtain rfl := Option.some.inj e
    exact Mode.noConfusion

theorem fallAsleep_keeps (c : Closed P) {m : Mode} (hm : m ≠ .idle) (h : P s) : P (s.fallAsleep m) := by
  unfold State.fallAsleep
  exact modeTo_keeps c _ _ _ (.inr (.inr hm)) (c.mode s _ rfl (.inl rfl) (.inl rfl) h)

theorem loadCopies_keeps (c : Closed P) (h : P s) : P (s.loadCopies) := by
  unfold State.loadCopies
  repeat' first
    | with_reducible assumption
    | with_reducible refine each_keeps (fun _ _ _ => ?_) ?_
    | with_reducible apply onDie_keeps c

theorem reportLost_keeps (c : Closed P) (h : P s) : P (s.reportLost) := by
  unfold State.reportLost
  repeat' first
    | with_reducible assumption
    | (lift_lets; intro y; refine bind_keeps (P := P) (y := y) ?_ ?_; (on_goal 2 => (intro _; clear_value y)); (on_goal 1 => unfold y))
    | (lift_lets; intro y; clear_value y)
    | (intro y; refine bind_keeps (P := P) (y := y) ?_ ?_; (on_goal 2 => (intro _; clear_value y)); (on_goal 1 => unfold y))
    | (intro y; clear_value y)
    | with_reducible refine each_keeps (fun _ _ _ => ?_) ?_
    | with_reducible apply onDie_keeps c
    | with_reducible apply onIo_keeps c
    | fail_if_no_progress (with_reducible refine c.put rfl ?_)
    | with_reducible refine ite_keeps ?_ ?_

theorem evWake_keeps (c : Closed P) (source : Nat) (failed : BitVec 10) (h : P s) : P (s.evWake source failed) := by
  unfold State.evWake
  extract_lets left first s2 s3 s4 s5
  refine ite_keeps h ?_
  have h3 : P s3 := onPw_keeps c _ rfl (loadCopies_keeps c (domainsUp_keeps c _ h))
  have hm : s3.wakeMode = s3.mode ∨ s3.wakeMode = s3.pw.left ∨ s3.wakeMode ≠ .idle := by
    unfold State.wakeMode
    split
    · exact .inr (.inr Mode.noConfusion)
    · split
      · exact .inr (.inr Mode.noConfusion)
      · exact .inr (.inl rfl)
  exact reportLost_keeps c (trainLinks_keeps c _ (entered_keeps c _ (alarmTaken_keeps c _
    (powerEntry_keeps c _ _ (modeTo_keeps c _ _ _ hm h3)))))

theorem evHoldoff_keeps (c : Closed P) (h : P s) : P (s.evHoldoff) := by
  unfold State.evHoldoff
  repeat' first
    | with_reducible assumption
    | with_reducible refine onPw_keeps c _ rfl ?_

theorem latchWake_keeps (c : Closed P) (source : Nat) (h : P s) : P (s.latchWake source) := by
  unfold State.latchWake
  repeat' first
    | with_reducible assumption
    | with_reducible refine onPw_keeps c _ rfl ?_
    | fail_if_no_progress (with_reducible refine c.put rfl ?_)
    | with_reducible refine ite_keeps ?_ ?_

theorem evAlarm_keeps (c : Closed P) (h : P s) : P (s.evAlarm) := by
  unfold State.evAlarm
  repeat' first
    | with_reducible assumption
    | with_reducible apply latchWake_keeps c
    | with_reducible refine ite_keeps ?_ ?_

theorem evRefill_keeps (c : Closed P) (h : P s) : P (s.evRefill) := by
  unfold State.evRefill
  repeat' first
    | with_reducible assumption
    | with_reducible apply latchWake_keeps c
    | with_reducible refine ite_keeps ?_ ?_

theorem evSbTick_keeps (c : Closed P) (skew : Word) (listening : Bool) (h : P s) : P (s.evSbTick skew listening) := by
  unfold State.evSbTick
  refine ite_keeps h ?_
  extract_lets t e u
  have h1 : P t := onEmber_keeps c _ rfl rfl rfl h
  clear_value t
  have h3 : P u := c.free h1 rfl rfl rfl
  exact ite_keeps (onPw_keeps c _ rfl h1) (ite_keeps (tickCompared_keeps c _ _ _ _ (relayTick_keeps c h3)) h1)

theorem evCrankEnter_keeps (c : Closed P) (h : P s) : P (s.evCrankEnter) := by
  unfold State.evCrankEnter
  repeat' first
    | with_reducible assumption
    | (lift_lets; intro y; refine bind_keeps (P := P) (y := y) ?_ ?_; (on_goal 2 => (intro _; clear_value y)); (on_goal 1 => unfold y))
    | (lift_lets; intro y; clear_value y)
    | (intro y; refine bind_keeps (P := P) (y := y) ?_ ?_; (on_goal 2 => (intro _; clear_value y)); (on_goal 1 => unfold y))
    | (intro y; clear_value y)
    | with_reducible refine onPw_keeps c _ rfl ?_
    | with_reducible apply latchWake_keeps c
    | with_reducible apply reselect_keeps c
    | fail_if_no_progress (with_reducible refine c.put rfl ?_)
    | with_reducible refine ite_keeps ?_ ?_

theorem evDeepShed_keeps (c : Closed P) (h : P s) : P (s.evDeepShed) := by
  unfold State.evDeepShed
  repeat' first
    | with_reducible assumption
    | with_reducible refine onPw_keeps c _ rfl ?_
    | with_reducible apply shedClasses_keeps c
    | fail_if_no_progress (with_reducible refine c.put rfl ?_)
    | with_reducible refine ite_keeps ?_ ?_

theorem evCrankExit_keeps (c : Closed P) (h : P s) : P (s.evCrankExit) := by
  unfold State.evCrankExit
  repeat' first
    | with_reducible assumption
    | (lift_lets; intro y; refine bind_keeps (P := P) (y := y) ?_ ?_; (on_goal 2 => (intro _; clear_value y)); (on_goal 1 => unfold y))
    | (lift_lets; intro y; clear_value y)
    | (intro y; refine bind_keeps (P := P) (y := y) ?_ ?_; (on_goal 2 => (intro _; clear_value y)); (on_goal 1 => unfold y))
    | (intro y; clear_value y)
    | with_reducible refine onPw_keeps c _ rfl ?_
    | with_reducible apply reselect_keeps c
    | fail_if_no_progress (with_reducible refine c.put rfl ?_)
    | with_reducible refine ite_keeps ?_ ?_

theorem setVotes_keeps (c : Closed P) (bits : BitVec 4) (h : P s) : P (s.setVotes bits) := by
  unfold State.setVotes
  repeat' first
    | with_reducible assumption
    | with_reducible refine onPw_keeps c _ rfl ?_

theorem clearVotes_keeps (c : Closed P) (bits : BitVec 4) (h : P s) : P (s.clearVotes bits) := by
  unfold State.clearVotes
  repeat' first
    | with_reducible assumption
    | with_reducible refine onPw_keeps c _ rfl ?_

theorem setLevel_keeps (c : Closed P) (n : Nat) (h : P s) : P (s.setLevel n) := by
  unfold State.setLevel
  repeat' first
    | with_reducible assumption
    | (lift_lets; intro y; refine bind_keeps (P := P) (y := y) ?_ ?_; (on_goal 2 => (intro _; clear_value y)); (on_goal 1 => unfold y))
    | (lift_lets; intro y; clear_value y)
    | (intro y; refine bind_keeps (P := P) (y := y) ?_ ?_; (on_goal 2 => (intro _; clear_value y)); (on_goal 1 => unfold y))
    | (intro y; clear_value y)
    | with_reducible refine onPw_keeps c _ rfl ?_
    | with_reducible apply append_keeps c
    | fail_if_no_progress (with_reducible refine c.put rfl ?_)
    | with_reducible refine ite_keeps ?_ ?_

theorem releaseOne_keeps (c : Closed P) (x : Nat × Bool) (h : P s) : P (s.releaseOne x) := by
  unfold State.releaseOne
  repeat' first
    | with_reducible assumption
    | with_reducible apply chanUp_keeps c
    | with_reducible apply chanDown_keeps c
    | with_reducible apply clearRetries_keeps c
    | with_reducible refine ite_keeps ?_ ?_

theorem releasePads_keeps (c : Closed P) (h : P s) : P (s.releasePads) := by
  unfold State.releasePads
  repeat' first
    | with_reducible assumption
    | (lift_lets; intro y; refine bind_keeps (P := P) (y := y) ?_ ?_; (on_goal 2 => (intro _; clear_value y)); (on_goal 1 => unfold y))
    | (lift_lets; intro y; clear_value y)
    | (intro y; refine bind_keeps (P := P) (y := y) ?_ ?_; (on_goal 2 => (intro _; clear_value y)); (on_goal 1 => unfold y))
    | (intro y; clear_value y)
    | with_reducible refine each_keeps (fun _ _ _ => ?_) ?_
    | with_reducible refine foldl_keeps (fun _ _ _ => ?_) ?_
    | with_reducible refine onEmber_keeps c _ rfl rfl rfl ?_
    | with_reducible apply append_keeps c
    | with_reducible apply releaseOne_keeps c
    | with_reducible apply retry_keeps c
    | fail_if_no_progress (with_reducible refine c.put rfl ?_)
    | with_reducible refine ite_keeps ?_ ?_

theorem setService_keeps (c : Closed P) (on : Bool) (h : P s) : P (s.setService on) := by
  unfold State.setService
  repeat' first
    | with_reducible assumption
    | with_reducible refine onPw_keeps c _ rfl ?_
    | with_reducible apply reselect_keeps c

theorem beginShutdown_keeps (c : Closed P) (h : P s) : P (s.beginShutdown) := by
  unfold State.beginShutdown
  repeat' first
    | with_reducible assumption
    | with_reducible apply onStore_keeps c

end Sys2Proof.Machine
end

