-- ==== Sys2Proof/Laws/KeepTest.lean ====
section
/-! SUPPORT. The functions of Machine/Test.lean keep a closed property. -/

namespace Sys2Proof.Machine

variable {P : State → Prop} {s : State}

theorem healthRecord_keeps (c : Closed P) (h : Health) (hP : P s) : P (s.healthRecord h) := by
  unfold State.healthRecord
  repeat' first
    | with_reducible assumption
    | (lift_lets; intro y; refine bind_keeps (P := P) (y := y) ?_ ?_; (on_goal 2 => (intro _; clear_value y)); (on_goal 1 => unfold y))
    | (lift_lets; intro y; clear_value y)
    | (intro y; refine bind_keeps (P := P) (y := y) ?_ ?_; (on_goal 2 => (intro _; clear_value y)); (on_goal 1 => unfold y))
    | (intro y; clear_value y)
    | with_reducible apply onForager_keeps c

theorem testRecord_keeps (c : Closed P) (r : SliceResult) (h : P s) : P (s.testRecord r) := by
  unfold State.testRecord
  repeat' first
    | with_reducible assumption
    | (lift_lets; intro y; refine bind_keeps (P := P) (y := y) ?_ ?_; (on_goal 2 => (intro _; clear_value y)); (on_goal 1 => unfold y))
    | (lift_lets; intro y; clear_value y)
    | (intro y; refine bind_keeps (P := P) (y := y) ?_ ?_; (on_goal 2 => (intro _; clear_value y)); (on_goal 1 => unfold y))
    | (intro y; clear_value y)
    | with_reducible apply healthRecord_keeps c
    | with_reducible apply fault_keeps c
    | fail_if_no_progress (with_reducible refine c.put rfl ?_)

theorem endCycle_keeps (c : Closed P) (h : P s) : P (s.endCycle) := by
  unfold State.endCycle
  repeat' first
    | with_reducible assumption
    | (lift_lets; intro y; refine bind_keeps (P := P) (y := y) ?_ ?_; (on_goal 2 => (intro _; clear_value y)); (on_goal 1 => unfold y))
    | (lift_lets; intro y; clear_value y)
    | (intro y; refine bind_keeps (P := P) (y := y) ?_ ?_; (on_goal 2 => (intro _; clear_value y)); (on_goal 1 => unfold y))
    | (intro y; clear_value y)
    | with_reducible apply cycleStart_keeps c
    | with_reducible apply healthRecord_keeps c
    | with_reducible apply fault_keeps c
    | with_reducible apply onForager_keeps c
    | fail_if_no_progress (with_reducible refine c.put rfl ?_)

theorem toTest_keeps (c : Closed P) (next : Option Nat) (h : P s) : P (s.toTest next) := by
  unfold State.toTest
  repeat' first
    | with_reducible assumption
    | with_reducible apply onForager_keeps c
    | with_reducible apply endCycle_keeps c
    | fail_if_no_progress (with_reducible refine c.put rfl ?_)
    | split

theorem evCycleStart_keeps (c : Closed P) (h : P s) : P (s.evCycleStart) := by
  unfold State.evCycleStart
  repeat' first
    | with_reducible assumption
    | (lift_lets; intro y; refine bind_keeps (P := P) (y := y) ?_ ?_; (on_goal 2 => (intro _; clear_value y)); (on_goal 1 => unfold y))
    | (lift_lets; intro y; clear_value y)
    | (intro y; refine bind_keeps (P := P) (y := y) ?_ ?_; (on_goal 2 => (intro _; clear_value y)); (on_goal 1 => unfold y))
    | (intro y; clear_value y)
    | with_reducible apply onForager_keeps c
    | with_reducible apply cycleStart_keeps c
    | with_reducible apply toTest_keeps c
    | fail_if_no_progress (with_reducible refine c.put rfl ?_)
    | with_reducible refine ite_keeps ?_ ?_

theorem foragerFail_keeps (c : Closed P) (test : Nat) (item : Word) (code : Nat) (h : P s) : P (s.foragerFail test item code) := by
  unfold State.foragerFail
  repeat' first
    | with_reducible assumption
    | with_reducible apply append_keeps c

theorem passed_keeps (c : Closed P) (r : SliceResult) (h : P s) : P (s.passed r) := by
  unfold State.passed
  repeat' first
    | with_reducible assumption
    | with_reducible apply tapPassed_keeps c
    | with_reducible refine ite_keeps ?_ ?_

theorem findingEntries_keeps (c : Closed P) (r : SliceResult) (h : P s) : P (s.findingEntries r) := by
  unfold State.findingEntries
  repeat' first
    | with_reducible assumption
    | (lift_lets; intro y; refine bind_keeps (P := P) (y := y) ?_ ?_; (on_goal 2 => (intro _; clear_value y)); (on_goal 1 => unfold y))
    | (lift_lets; intro y; clear_value y)
    | (intro y; refine bind_keeps (P := P) (y := y) ?_ ?_; (on_goal 2 => (intro _; clear_value y)); (on_goal 1 => unfold y))
    | (intro y; clear_value y)
    | with_reducible apply onForager_keeps c
    | with_reducible apply latch_keeps c
    | with_reducible apply fault_keeps c
    | with_reducible apply onChan_keeps c
    | with_reducible apply evOffCheck_keeps c
    | with_reducible apply append_keeps c
    | with_reducible apply lockChan_keeps c
    | with_reducible apply redistribute_keeps c
    | with_reducible apply tapFound_keeps c
    | with_reducible apply evHoldCell_keeps c
    | fail_if_no_progress (with_reducible refine c.put rfl ?_)
    | split

theorem findingActs_keeps (c : Closed P) (r : SliceResult) (h : P s) : P (s.findingActs r) := by
  unfold State.findingActs
  repeat' first
    | with_reducible assumption
    | (lift_lets; intro y; refine bind_keeps (P := P) (y := y) ?_ ?_; (on_goal 2 => (intro _; clear_value y)); (on_goal 1 => unfold y))
    | (lift_lets; intro y; clear_value y)
    | (intro y; refine bind_keeps (P := P) (y := y) ?_ ?_; (on_goal 2 => (intro _; clear_value y)); (on_goal 1 => unfold y))
    | (intro y; clear_value y)
    | with_reducible apply evParityHive_keeps c
    | with_reducible apply evParityDie_keeps c
    | with_reducible apply startRound_keeps c
    | with_reducible refine ite_keeps ?_ ?_
    | split

theorem finding_keeps (c : Closed P) (r : SliceResult) (h : P s) : P (s.finding r) := by
  unfold State.finding
  repeat' first
    | with_reducible assumption
    | (lift_lets; intro y; refine bind_keeps (P := P) (y := y) ?_ ?_; (on_goal 2 => (intro _; clear_value y)); (on_goal 1 => unfold y))
    | (lift_lets; intro y; clear_value y)
    | (intro y; refine bind_keeps (P := P) (y := y) ?_ ?_; (on_goal 2 => (intro _; clear_value y)); (on_goal 1 => unfold y))
    | (intro y; clear_value y)
    | with_reducible apply onForager_keeps c
    | with_reducible apply foragerFail_keeps c
    | with_reducible apply findingEntries_keeps c
    | fail_if_no_progress (with_reducible refine c.put rfl ?_)
    | with_reducible refine ite_keeps ?_ ?_

theorem evSlice_keeps (c : Closed P) (r : SliceResult) (h : P s) : P (s.evSlice r) := by
  unfold State.evSlice
  repeat' first
    | with_reducible assumption
    | (lift_lets; intro y; refine bind_keeps (P := P) (y := y) ?_ ?_; (on_goal 2 => (intro _; clear_value y)); (on_goal 1 => unfold y))
    | (lift_lets; intro y; clear_value y)
    | (intro y; refine bind_keeps (P := P) (y := y) ?_ ?_; (on_goal 2 => (intro _; clear_value y)); (on_goal 1 => unfold y))
    | (intro y; clear_value y)
    | with_reducible apply onForager_keeps c
    | with_reducible apply finding_keeps c
    | with_reducible apply passed_keeps c
    | with_reducible apply testRecord_keeps c
    | with_reducible apply toTest_keeps c
    | with_reducible apply findingActs_keeps c
    | fail_if_no_progress (with_reducible refine c.put rfl ?_)
    | with_reducible refine ite_keeps ?_ ?_

theorem evEccError_keeps (c : Closed P) (addr : Word) (h : P s) : P (s.evEccError addr) := by
  unfold State.evEccError
  repeat' first
    | with_reducible assumption
    | with_reducible apply fault_keeps c

theorem doTestRun_keeps (c : Closed P) (n : Nat) (arg : Word) (h : P s) : P (s.doTestRun n arg) := by
  unfold State.doTestRun
  repeat' first
    | with_reducible assumption
    | with_reducible apply onForager_keeps c

theorem evTestComplete_keeps (c : Closed P) (passed : Bool) (item : Word) (h : P s) : P (s.evTestComplete passed item) := by
  unfold State.evTestComplete
  repeat' first
    | with_reducible assumption
    | (lift_lets; intro y; refine bind_keeps (P := P) (y := y) ?_ ?_; (on_goal 2 => (intro _; clear_value y)); (on_goal 1 => unfold y))
    | (lift_lets; intro y; clear_value y)
    | (intro y; refine bind_keeps (P := P) (y := y) ?_ ?_; (on_goal 2 => (intro _; clear_value y)); (on_goal 1 => unfold y))
    | (intro y; clear_value y)
    | with_reducible apply onForager_keeps c
    | with_reducible apply passed_keeps c
    | with_reducible apply tagged_keeps c
    | with_reducible apply foragerFail_keeps c
    | with_reducible apply beginL1_keeps c
    | with_reducible apply endOps_keeps c
    | with_reducible apply fault_keeps c
    | fail_if_no_progress (with_reducible refine c.put rfl ?_)
    | with_reducible refine ite_keeps ?_ ?_
    | split

theorem leaveExtest_keeps (c : Closed P) (h : P s) : P (s.leaveExtest) := by
  unfold State.leaveExtest
  repeat' first
    | with_reducible assumption
    | with_reducible apply beginL1_keeps c
    | with_reducible refine ite_keeps ?_ ?_

theorem jtagTo_keeps (c : Closed P) (instr : Nat) (a : Answer) (h : P s) : P (s.jtagTo instr a) := by
  unfold State.jtagTo
  repeat' first
    | with_reducible assumption
    | with_reducible apply leaveExtest_keeps c
    | with_reducible apply onIo_keeps c
    | with_reducible apply answering_keeps c
    | fail_if_no_progress (with_reducible refine c.put rfl ?_)
    | with_reducible refine ite_keeps ?_ ?_

theorem evIdcode_keeps (c : Closed P) (h : P s) : P (s.evIdcode) := by
  unfold State.evIdcode
  repeat' first
    | with_reducible assumption
    | with_reducible apply jtagTo_keeps c

theorem evBypass_keeps (c : Closed P) (h : P s) : P (s.evBypass) := by
  unfold State.evBypass
  repeat' first
    | with_reducible assumption
    | with_reducible apply jtagTo_keeps c

theorem evSample_keeps (c : Closed P) (h : P s) : P (s.evSample) := by
  unfold State.evSample
  repeat' first
    | with_reducible assumption
    | with_reducible apply jtagTo_keeps c

theorem evExtest_keeps (c : Closed P) (h : P s) : P (s.evExtest) := by
  unfold State.evExtest
  repeat' first
    | with_reducible assumption
    | (lift_lets; intro y; refine bind_keeps (P := P) (y := y) ?_ ?_; (on_goal 2 => (intro _; clear_value y)); (on_goal 1 => unfold y))
    | (lift_lets; intro y; clear_value y)
    | (intro y; refine bind_keeps (P := P) (y := y) ?_ ?_; (on_goal 2 => (intro _; clear_value y)); (on_goal 1 => unfold y))
    | (intro y; clear_value y)
    | with_reducible apply jtagTo_keeps c
    | with_reducible apply onIo_keeps c
    | with_reducible apply answering_keeps c
    | with_reducible apply onSpine_keeps c
    | with_reducible apply sbOffAll_keeps c
    | with_reducible apply fault_keeps c
    | with_reducible apply redistribute_keeps c
    | fail_if_no_progress (with_reducible refine c.put rfl ?_)
    | with_reducible refine ite_keeps ?_ ?_

theorem evIntest_keeps (c : Closed P) (h : P s) : P (s.evIntest) := by
  unfold State.evIntest
  repeat' first
    | with_reducible assumption
    | with_reducible apply jtagTo_keeps c
    | with_reducible refine ite_keeps ?_ ?_

theorem evExtestExit_keeps (c : Closed P) (h : P s) : P (s.evExtestExit) := by
  unfold State.evExtestExit
  repeat' first
    | with_reducible assumption
    | with_reducible apply leaveExtest_keeps c
    | with_reducible apply onIo_keeps c
    | fail_if_no_progress (with_reducible refine c.put rfl ?_)
    | with_reducible refine ite_keeps ?_ ?_

theorem evVio33_keeps (c : Closed P) (low : Bool) (h : P s) : P (s.evVio33 low) := by
  unfold State.evVio33
  repeat' first
    | with_reducible assumption
    | with_reducible refine onEmber_keeps c _ rfl rfl rfl ?_

end Sys2Proof.Machine
end

