-- ==== Sys2Proof/Laws/KeepInterp.lean ====
section
/-! SUPPORT. The functions of Machine/Interp.lean keep a closed property. -/

namespace Sys2Proof.Machine

variable {P : State → Prop} {s : State}

theorem payload_keeps (c : Closed P) (x : Command) (h : P s) : P (s.payload x).2 := by
  unfold State.payload
  dsimp only
  split
  all_goals first
    | exact h
    | exact measureReply_keeps c _ h
    | exact blockReply_keeps c _ _ _ _ h
    | exact holdReply_keeps c h
    | (split
       · exact paramReply_keeps c _ _ h
       · exact h)

theorem doMark_keeps (c : Closed P) (count : Nat) (h : P s) : P (s.doMark count) :=
  c.led s _ rfl rfl (le_max_of_le_right (List.length_filter_le _ _)) (le_max_of_le_right (List.length_filter_le _ _)) h

theorem doResetDie_keeps (c : Closed P) (die : Nat) (tag : BitVec 16) (external : Bool) (h : P s) : P (s.doResetDie die tag external) := by
  unfold State.doResetDie
  repeat' first
    | with_reducible assumption
    | (lift_lets; intro y; refine bind_keeps (P := P) (y := y) ?_ ?_; (on_goal 2 => (intro _; clear_value y)); (on_goal 1 => unfold y))
    | (lift_lets; intro y; clear_value y)
    | (intro y; refine bind_keeps (P := P) (y := y) ?_ ?_; (on_goal 2 => (intro _; clear_value y)); (on_goal 1 => unfold y))
    | (intro y; clear_value y)
    | with_reducible apply onDie_keeps c
    | with_reducible apply resetDie_keeps c
    | fail_if_no_progress (with_reducible refine c.put rfl ?_)

theorem doResetBlocks_keeps (c : Closed P) (die mask : Nat) (tag : BitVec 16) (external : Bool) (h : P s) : P (s.doResetBlocks die mask tag external) := by
  unfold State.doResetBlocks
  repeat' first
    | with_reducible assumption
    | with_reducible apply onDie_keeps c
    | with_reducible apply resetBlocks_keeps c
    | fail_if_no_progress (with_reducible refine c.put rfl ?_)

theorem doSet_keeps (hc : Closed P) (c : Command) (external : Bool)
    (hb : c.param = some .resetFuseBurn → s.ember.fuseBurn = 0) (h : P s) : P (s.doSet c external) := by
  unfold State.doSet
  split
  · exact doBlockRst_keeps hc _ _ _ h
  · rename_i p _ hp
    exact when_keeps (fun _ k => mirrored_keeps hc k) (doParamSet_keeps hc p _ _ (fun e => hb (hp.trans (congrArg some e))) h)
  · exact h

theorem doCommit_keeps (c : Closed P) (discard : Bool) (h : P s) : P (s.doCommit discard) := by
  unfold State.doCommit
  repeat' first
    | with_reducible assumption
    | with_reducible apply discardStaged_keeps c
    | with_reducible apply startRound_keeps c
    | with_reducible apply endOps_keeps c
    | with_reducible refine ite_keeps ?_ ?_
    | split

theorem doApply_keeps (c : Closed P) (h : P s) : P (s.doApply) := by
  unfold State.doApply
  repeat' first
    | with_reducible assumption
    | (lift_lets; intro y; refine bind_keeps (P := P) (y := y) ?_ ?_; (on_goal 2 => (intro _; clear_value y)); (on_goal 1 => unfold y))
    | (lift_lets; intro y; clear_value y)
    | (intro y; refine bind_keeps (P := P) (y := y) ?_ ?_; (on_goal 2 => (intro _; clear_value y)); (on_goal 1 => unfold y))
    | (intro y; clear_value y)
    | with_reducible apply selected_keeps c
    | with_reducible apply startRound_keeps c

theorem doBegin_keeps (c : Closed P) (cl : Client) (len : Nat) (h : P s) : P (s.doBegin cl len) := by
  unfold State.doBegin
  repeat' first
    | with_reducible assumption
    | (lift_lets; intro y; refine bind_keeps (P := P) (y := y) ?_ ?_; (on_goal 2 => (intro _; clear_value y)); (on_goal 1 => unfold y))
    | (lift_lets; intro y; clear_value y)
    | (intro y; refine bind_keeps (P := P) (y := y) ?_ ?_; (on_goal 2 => (intro _; clear_value y)); (on_goal 1 => unfold y))
    | (intro y; clear_value y)
    | with_reducible apply onCfg_keeps c
    | with_reducible apply eraseFlash_keeps c
    | fail_if_no_progress (with_reducible refine c.put rfl ?_)
    | with_reducible refine ite_keeps ?_ ?_
    | split

theorem doData_keeps (c : Closed P) (bytes : List Byte) (h : P s) : P (s.doData bytes) := by
  unfold State.doData
  repeat' first
    | with_reducible assumption
    | (lift_lets; intro y; refine bind_keeps (P := P) (y := y) ?_ ?_; (on_goal 2 => (intro _; clear_value y)); (on_goal 1 => unfold y))
    | (lift_lets; intro y; clear_value y)
    | (intro y; refine bind_keeps (P := P) (y := y) ?_ ?_; (on_goal 2 => (intro _; clear_value y)); (on_goal 1 => unfold y))
    | (intro y; clear_value y)
    | with_reducible apply programFlash_keeps c
    | with_reducible apply onCfg_keeps c
    | fail_if_no_progress (with_reducible refine c.put rfl ?_)
    | split

theorem doCommitImage_keeps (c : Closed P) (h : P s) : P (s.doCommitImage) := by
  unfold State.doCommitImage
  repeat' first
    | with_reducible assumption
    | (lift_lets; intro y; refine bind_keeps (P := P) (y := y) ?_ ?_; (on_goal 2 => (intro _; clear_value y)); (on_goal 1 => unfold y))
    | (lift_lets; intro y; clear_value y)
    | (intro y; refine bind_keeps (P := P) (y := y) ?_ ?_; (on_goal 2 => (intro _; clear_value y)); (on_goal 1 => unfold y))
    | (intro y; clear_value y)
    | with_reducible apply selected_keeps c
    | with_reducible apply onCfg_keeps c
    | with_reducible apply endOps_keeps c
    | with_reducible apply fault_keeps c
    | fail_if_no_progress (with_reducible refine c.put rfl ?_)
    | with_reducible refine ite_keeps ?_ ?_
    | split

theorem doRecover_keeps (c : Closed P) (n : Nat) (op : PendingOp) (h : P s) : P (s.doRecover n op) := by
  unfold State.doRecover
  repeat' first
    | with_reducible assumption
    | (lift_lets; intro y; refine bind_keeps (P := P) (y := y) ?_ ?_; (on_goal 2 => (intro _; clear_value y)); (on_goal 1 => unfold y))
    | (lift_lets; intro y; clear_value y)
    | (intro y; refine bind_keeps (P := P) (y := y) ?_ ?_; (on_goal 2 => (intro _; clear_value y)); (on_goal 1 => unfold y))
    | (intro y; clear_value y)
    | with_reducible refine foldl_keeps (fun _ _ _ => ?_) ?_
    | with_reducible apply onSeg_keeps c
    | with_reducible apply endTransfer_keeps c
    | with_reducible apply completion_keeps c
    | fail_if_no_progress (with_reducible refine c.put rfl ?_)
    | split

theorem doTrigLoad_keeps (c : Closed P) (params : List Byte) (h : P s) : P (s.doTrigLoad params) := by
  unfold State.doTrigLoad
  repeat' first
    | with_reducible assumption
    | fail_if_no_progress (with_reducible refine c.put rfl ?_)
    | split

theorem doArm_keeps (c : Closed P) (n : Nat) (on : Bool) (h : P s) : P (s.doArm n on) := by
  unfold State.doArm
  repeat' first
    | with_reducible assumption
    | (lift_lets; intro y; refine bind_keeps (P := P) (y := y) ?_ ?_; (on_goal 2 => (intro _; clear_value y)); (on_goal 1 => unfold y))
    | (lift_lets; intro y; clear_value y)
    | (intro y; refine bind_keeps (P := P) (y := y) ?_ ?_; (on_goal 2 => (intro _; clear_value y)); (on_goal 1 => unfold y))
    | (intro y; clear_value y)
    | fail_if_no_progress (with_reducible refine c.put rfl ?_)

theorem effect_keeps (hc : Closed P) (cl : Client) (c : Command) (op : PendingOp)
    (hb : c.op = .paramSet → c.param = some .resetFuseBurn → s.ember.fuseBurn = 0) (h : P s) : P (s.effect cl c op) := by
  unfold State.effect
  dsimp only
  repeat' first
    | with_reducible assumption
    | with_reducible refine onPw_keeps hc _ rfl ?_
    | with_reducible apply doResetDie_keeps hc
    | with_reducible apply doResetBlocks_keeps hc
    | with_reducible apply beginShutdown_keeps hc
    | with_reducible apply setService_keeps hc
    | (rename_i ho; with_reducible exact doSet_keeps hc _ _ (hb ho) h)
    | with_reducible apply doParamStage_keeps hc
    | with_reducible apply doCommit_keeps hc
    | with_reducible apply doPortEnable_keeps hc
    | with_reducible apply doPortDisable_keeps hc
    | with_reducible apply doPortReset_keeps hc
    | with_reducible apply doPortSuspend_keeps hc
    | with_reducible apply doPortResume_keeps hc
    | with_reducible apply doChanOn_keeps hc
    | with_reducible apply doChanOff_keeps hc
    | with_reducible apply doClearTrip_keeps hc
    | with_reducible apply doRenegotiate_keeps hc
    | with_reducible apply endOps_keeps hc
    | with_reducible apply doPdHardReset_keeps hc
    | with_reducible apply doVdmSend_keeps hc
    | with_reducible apply modeNext_keeps hc
    | with_reducible apply doModeExit_keeps hc
    | with_reducible apply onSeg_keeps hc
    | with_reducible apply doRecover_keeps hc
    | with_reducible apply doMark_keeps hc
    | with_reducible apply setVotes_keeps hc
    | with_reducible apply clearVotes_keeps hc
    | with_reducible apply setLevel_keeps hc
    | with_reducible apply releasePads_keeps hc
    | with_reducible apply doBegin_keeps hc
    | with_reducible apply doData_keeps hc
    | with_reducible apply doCommitImage_keeps hc
    | with_reducible apply doApply_keeps hc
    | with_reducible apply doTestRun_keeps hc
    | with_reducible apply doTapTest_keeps hc
    | with_reducible apply doTrigLoad_keeps hc
    | with_reducible apply doArm_keeps hc
    | fail_if_no_progress (with_reducible refine hc.put rfl ?_)
    | with_reducible refine ite_keeps ?_ ?_
    | split

theorem evEraseDone_keeps (c : Closed P) (h : P s) : P (s.evEraseDone) := by
  unfold State.evEraseDone
  repeat' first
    | with_reducible assumption
    | (lift_lets; intro y; refine bind_keeps (P := P) (y := y) ?_ ?_; (on_goal 2 => (intro _; clear_value y)); (on_goal 1 => unfold y))
    | (lift_lets; intro y; clear_value y)
    | (intro y; refine bind_keeps (P := P) (y := y) ?_ ?_; (on_goal 2 => (intro _; clear_value y)); (on_goal 1 => unfold y))
    | (intro y; clear_value y)
    | with_reducible apply onCfg_keeps c
    | with_reducible apply eraseFlash_keeps c
    | with_reducible apply endOps_keeps c
    | fail_if_no_progress (with_reducible refine c.put rfl ?_)
    | with_reducible refine ite_keeps ?_ ?_
    | split

theorem evTrailerReadback_keeps (c : Closed P) (ok : Bool) (h : P s) : P (s.evTrailerReadback ok) := by
  unfold State.evTrailerReadback
  repeat' first
    | with_reducible assumption
    | (lift_lets; intro y; refine bind_keeps (P := P) (y := y) ?_ ?_; (on_goal 2 => (intro _; clear_value y)); (on_goal 1 => unfold y))
    | (lift_lets; intro y; clear_value y)
    | (intro y; refine bind_keeps (P := P) (y := y) ?_ ?_; (on_goal 2 => (intro _; clear_value y)); (on_goal 1 => unfold y))
    | (intro y; clear_value y)
    | with_reducible apply programFlash_keeps c
    | with_reducible apply selected_keeps c
    | with_reducible apply onCfg_keeps c
    | with_reducible apply endOps_keeps c
    | with_reducible apply fault_keeps c
    | fail_if_no_progress (with_reducible refine c.put rfl ?_)
    | with_reducible refine ite_keeps ?_ ?_
    | split

theorem evSessionEnd_keeps (c : Closed P) (h : P s) : P (s.evSessionEnd) := by
  unfold State.evSessionEnd
  repeat' first
    | with_reducible assumption
    | with_reducible apply onCfg_keeps c
    | with_reducible apply append_keeps c
    | fail_if_no_progress (with_reducible refine c.put rfl ?_)
    | with_reducible refine ite_keeps ?_ ?_
    | split

theorem ordered_keeps (hc : Closed P) (c : Command) (h : P s) : P (s.ordered c) := by
  unfold State.ordered
  repeat' first
    | with_reducible assumption
    | with_reducible apply sendFrame_keeps hc
    | split

theorem reply_keeps (c : Closed P) (cl : Client) (r : Reply) (h : P s) : P (s.reply cl r) := by
  unfold State.reply
  repeat' first
    | with_reducible assumption
    | with_reducible apply onIo_keeps c
    | fail_if_no_progress (with_reducible refine c.put rfl ?_)
    | split

theorem applied_keeps (hc : Closed P) (cl : Client) (list : Nat) (c : Command) (st : Status) (h : P s) : P (s.applied cl list c st) := by
  unfold State.applied
  repeat' first
    | with_reducible assumption
    | with_reducible apply append_keeps hc

theorem countWrongCode_keeps (hc : Closed P) (cl : Client) (c : Command) (st : Status) (h : P s) : P (s.countWrongCode cl c st) := by
  unfold State.countWrongCode
  repeat' first
    | with_reducible assumption
    | with_reducible apply applied_keeps hc
    | with_reducible refine onPw_keeps hc _ rfl ?_
    | fail_if_no_progress (with_reducible refine hc.put rfl ?_)
    | with_reducible refine ite_keeps ?_ ?_
    | split

theorem applied_burn (s : State) (cl : Client) (list : Nat) (c : Command) (st : Status) :
    (s.applied cl list c st).ember.fuseBurn = s.ember.fuseBurn := by
  unfold State.applied State.append
  dsimp only
  split <;> rfl

/-- A PARAM_SET of RESET.FUSE_BURN that no check refuses finds the bank unprogrammed (R80, R81). -/
theorem unburnt_of_refusal (cl : Client) (x : Command) (h : s.refusal cl x = none) (ho : x.op = .paramSet)
    (hp : x.param = some .resetFuseBurn) : s.ember.fuseBurn = 0 := by
  unfold State.refusal at h
  by_contra hn
  have hlen : s.badParameter cl x = false := by
    by_contra hb
    simp only [Bool.not_eq_false] at hb
    repeat' first
      | contradiction
      | split at h
  have hl : s.lockedNow cl x = false := by
    by_contra hb
    simp only [Bool.not_eq_false] at hb
    repeat' first
      | contradiction
      | split at h
  unfold State.badParameter at hlen
  simp only [Bool.or_eq_false_iff, Bool.not_eq_false'] at hlen
  have hle := hlen.1
  simp only [Command.lengthOk, ho, beq_iff_eq] at hle
  have hs : x.setsOnce = true := by simp [Command.setsOnce, ho, hp, Command.has, hle, Param.info]
  simp only [State.lockedNow, ho, hs, Bool.true_and, bne_eq_false_iff_eq] at hl
  exact hn hl

theorem ordered_burn (s : State) (c : Command) : (s.ordered c).ember.fuseBurn = s.ember.fuseBurn := by
  unfold State.ordered State.sendFrame State.onLink State.onSpine
  dsimp only
  split
  · split <;> rfl
  · rfl

theorem runCommand_keeps (c : Closed P) (cl : Client) (list : Nat) (x : Command) (h : P s) :
    P (s.runCommand cl list x) := by
  unfold State.runCommand
  extract_lets s1 s2 answer st s3
  have h2 : P s2 := ite_keeps (tagged_keeps c _ h) (onIo_keeps c _ (tagged_keeps c _ h))
  have ha : ∀ t st l, P t → P (answer t st l) := fun _ _ _ ht => reply_keeps c _ _ ht
  have hb : ∀ t : State, ∀ st l, (answer t st l).ember.fuseBurn = t.ember.fuseBurn := fun _ _ _ => rfl
  clear_value answer s2
  split
  · exact ite_keeps (ha _ _ _ h2) (ha _ _ _ (applied_keeps c _ _ _ _ (countWrongCode_keeps c _ _ _ h2)))
  · rename_i hr
    refine ite_keeps ?_ (effect_keeps c _ _ _ (fun ho hp => (ordered_burn _ _).trans ((hb _ _ _).trans
      ((applied_burn _ _ _ _ _).trans (unburnt_of_refusal cl x hr ho hp))))
      (ordered_keeps c _ (ha _ _ _ (applied_keeps c _ _ _ _ h2))))
    have e := payload_keeps c x h2
    generalize s2.payload x = y at e ⊢
    obtain ⟨l, t⟩ := y
    exact ha _ _ _ e

theorem replyFirst_keeps (c : Closed P) (r : Reply) (h : P s) : P (s.replyFirst r) := by
  unfold State.replyFirst
  repeat' first
    | with_reducible assumption
    | with_reducible apply onIo_keeps c
    | fail_if_no_progress (with_reducible refine c.put rfl ?_)

theorem runMalformed_keeps (c : Closed P) (cl : ExtClient) (m : Malformed) (h : P s) : P (s.runMalformed cl m) := by
  unfold State.runMalformed
  repeat' first
    | with_reducible assumption
    | (lift_lets; intro y; refine bind_keeps (P := P) (y := y) ?_ ?_; (on_goal 2 => (intro _; clear_value y)); (on_goal 1 => unfold y))
    | (lift_lets; intro y; clear_value y)
    | (intro y; refine bind_keeps (P := P) (y := y) ?_ ?_; (on_goal 2 => (intro _; clear_value y)); (on_goal 1 => unfold y))
    | (intro y; clear_value y)
    | with_reducible apply tagged_keeps c
    | with_reducible apply onIo_keeps c
    | with_reducible apply violation_keeps c
    | with_reducible apply payload_keeps c
    | with_reducible apply replyFirst_keeps c
    | with_reducible apply reply_keeps c
    | fail_if_no_progress (with_reducible refine c.put rfl ?_)
    | with_reducible refine ite_keeps ?_ ?_
    | split

theorem runLost_keeps (c : Closed P) (die count : Nat) (h : P s) : P (s.runLost die count) := by
  unfold State.runLost
  repeat' first
    | with_reducible assumption
    | with_reducible apply fault_keeps c

end Sys2Proof.Machine
end

