-- ==== Sys2Proof/Laws/KeepTransport.lean ====
section
/-! SUPPORT. The functions of Machine/Transport.lean keep a closed property. -/

namespace Sys2Proof.Machine

variable {P : State → Prop} {s : State}

theorem enqueue_keeps (c : Closed P) (i : Input) (h : P s) : P (s.enqueue i) := by
  unfold State.enqueue
  repeat' first
    | with_reducible assumption
    | with_reducible apply onIo_keeps c

theorem putByte_keeps (hc : Closed P) (c : ExtClient) (b : Byte) (h : P s) : P (s.putByte c b) := by
  unfold State.putByte
  dsimp only
  repeat' first
    | with_reducible assumption
    | with_reducible apply onIo_keeps hc
    | with_reducible apply enqueue_keeps hc
    | fail_if_no_progress (with_reducible refine hc.put rfl ?_)
    | with_reducible refine ite_keeps ?_ ?_

theorem evBulkOut_keeps (c : Closed P) (bytes : List Byte) (h : P s) : P (s.evBulkOut bytes) := by
  unfold State.evBulkOut
  repeat' first
    | with_reducible assumption
    | (lift_lets; intro y; refine bind_keeps (P := P) (y := y) ?_ ?_; (on_goal 2 => (intro _; clear_value y)); (on_goal 1 => unfold y))
    | (lift_lets; intro y; clear_value y)
    | (intro y; refine bind_keeps (P := P) (y := y) ?_ ?_; (on_goal 2 => (intro _; clear_value y)); (on_goal 1 => unfold y))
    | (intro y; clear_value y)
    | with_reducible apply answering_keeps c
    | with_reducible apply onIo_keeps c
    | with_reducible apply enqueue_keeps c
    | fail_if_no_progress (with_reducible refine c.put rfl ?_)
    | with_reducible refine ite_keeps ?_ ?_

theorem evPing_keeps (c : Closed P) (h : P s) : P (s.evPing) := by
  unfold State.evPing
  repeat' first
    | with_reducible assumption
    | with_reducible apply answering_keeps c
    | with_reducible refine ite_keeps ?_ ?_

theorem evBulkIn_keeps (c : Closed P) (h : P s) : P (s.evBulkIn) := by
  unfold State.evBulkIn
  repeat' first
    | with_reducible assumption
    | (lift_lets; intro y; refine bind_keeps (P := P) (y := y) ?_ ?_; (on_goal 2 => (intro _; clear_value y)); (on_goal 1 => unfold y))
    | (lift_lets; intro y; clear_value y)
    | (intro y; refine bind_keeps (P := P) (y := y) ?_ ?_; (on_goal 2 => (intro _; clear_value y)); (on_goal 1 => unfold y))
    | (intro y; clear_value y)
    | with_reducible apply answering_keeps c
    | with_reducible apply onIo_keeps c
    | fail_if_no_progress (with_reducible refine c.put rfl ?_)
    | with_reducible refine ite_keeps ?_ ?_
    | split

theorem evInterruptIn_keeps (c : Closed P) (h : P s) : P (s.evInterruptIn) := by
  unfold State.evInterruptIn
  repeat' first
    | with_reducible assumption
    | with_reducible apply answering_keeps c
    | with_reducible refine ite_keeps ?_ ?_

theorem discardOut_keeps (c : Closed P) (h : P s) : P (s.discardOut) := by
  unfold State.discardOut
  repeat' first
    | with_reducible assumption
    | (lift_lets; intro y; refine bind_keeps (P := P) (y := y) ?_ ?_; (on_goal 2 => (intro _; clear_value y)); (on_goal 1 => unfold y))
    | (lift_lets; intro y; clear_value y)
    | (intro y; refine bind_keeps (P := P) (y := y) ?_ ?_; (on_goal 2 => (intro _; clear_value y)); (on_goal 1 => unfold y))
    | (intro y; clear_value y)
    | with_reducible apply onIo_keeps c
    | with_reducible apply enqueue_keeps c
    | fail_if_no_progress (with_reducible refine c.put rfl ?_)
    | with_reducible refine ite_keeps ?_ ?_

theorem evFunctionReset_keeps (c : Closed P) (k : FunctionReset) (h : P s) : P (s.evFunctionReset k) := by
  unfold State.evFunctionReset
  repeat' first
    | with_reducible assumption
    | (lift_lets; intro y; refine bind_keeps (P := P) (y := y) ?_ ?_; (on_goal 2 => (intro _; clear_value y)); (on_goal 1 => unfold y))
    | (lift_lets; intro y; clear_value y)
    | (intro y; refine bind_keeps (P := P) (y := y) ?_ ?_; (on_goal 2 => (intro _; clear_value y)); (on_goal 1 => unfold y))
    | (intro y; clear_value y)
    | with_reducible apply discardOut_keeps c
    | with_reducible apply onHub_keeps c
    | with_reducible apply answering_keeps c
    | fail_if_no_progress (with_reducible refine c.put rfl ?_)
    | with_reducible refine ite_keeps ?_ ?_
    | split

theorem dfuRequest_keeps (c : Closed P) (r : Setup) (h : P s) : P (s.dfuRequest r) := by
  unfold State.dfuRequest
  repeat' first
    | with_reducible assumption
    | with_reducible apply answering_keeps c
    | with_reducible apply standardRequest_keeps c
    | with_reducible refine ite_keeps ?_ ?_

theorem evControl_keeps (c : Closed P) (r : Setup) (h : P s) : P (s.evControl r) := by
  unfold State.evControl
  repeat' first
    | with_reducible assumption
    | with_reducible apply answering_keeps c
    | with_reducible apply dfuRequest_keeps c
    | with_reducible apply discardOut_keeps c
    | with_reducible apply standardRequest_keeps c
    | with_reducible refine ite_keeps ?_ ?_

theorem evClassVendor_keeps (c : Closed P) (_r : Setup) (h : P s) : P (s.evClassVendor _r) := by
  unfold State.evClassVendor
  repeat' first
    | with_reducible assumption
    | with_reducible apply answering_keeps c

theorem onLinkOpen_keeps (c : Closed P) {f : State → State} (hf : ∀ s, P s → P (f s)) (h : P s) : P (s.onLinkOpen f) :=
  ite_keeps (hf _ h) (answering_keeps c _ h)

theorem evStartSplit_keeps (c : Closed P) (p : Nat) (kind : SplitKind) (bytes id : Nat) (h : P s) : P (s.evStartSplit p kind bytes id) := by
  unfold State.evStartSplit
  repeat' first
    | with_reducible assumption
    | with_reducible refine onLinkOpen_keeps c (fun _ _ => ?_) ?_
    | with_reducible apply evTtStart_keeps c

theorem evCompleteSplit_keeps (c : Closed P) (p : Nat) (kind : SplitKind) (id : Nat) (h : P s) : P (s.evCompleteSplit p kind id) := by
  unfold State.evCompleteSplit
  repeat' first
    | with_reducible assumption
    | with_reducible refine onLinkOpen_keeps c (fun _ _ => ?_) ?_
    | with_reducible apply evTtComplete_keeps c

theorem evClearBuffer_keeps (c : Closed P) (p : Nat) (h : P s) : P (s.evClearBuffer p) := by
  unfold State.evClearBuffer
  repeat' first
    | with_reducible assumption
    | with_reducible refine onLinkOpen_keeps c (fun _ _ => ?_) ?_
    | with_reducible apply evClearTt_keeps c

theorem evResetAll_keeps (c : Closed P) (p : Nat) (h : P s) : P (s.evResetAll p) := by
  unfold State.evResetAll
  repeat' first
    | with_reducible assumption
    | with_reducible refine onLinkOpen_keeps c (fun _ _ => ?_) ?_
    | with_reducible apply evResetTt_keeps c

theorem evGetTtState_keeps (c : Closed P) (_p : Nat) (h : P s) : P (s.evGetTtState _p) := by
  unfold State.evGetTtState
  repeat' first
    | with_reducible assumption
    | with_reducible refine onLinkOpen_keeps c (fun _ _ => ?_) ?_
    | with_reducible apply answering_keeps c

theorem evStopTt_keeps (c : Closed P) (_p : Nat) (h : P s) : P (s.evStopTt _p) := by
  unfold State.evStopTt
  repeat' first
    | with_reducible assumption
    | with_reducible refine onLinkOpen_keeps c (fun _ _ => ?_) ?_
    | with_reducible apply answering_keeps c

theorem onSvc_keeps (c : Closed P) {f : State → State} (hf : ∀ s, P s → P (f s)) (h : P s) : P (s.onSvc f) :=
  ite_keeps (hf _ h) (ite_keeps (answering_keeps c _ (latchWake_keeps c _ h)) (answering_keeps c _ h))

theorem evSvcPointer_keeps (c : Closed P) (b : Byte) (h : P s) : P (s.evSvcPointer b) := by
  unfold State.evSvcPointer
  repeat' first
    | with_reducible assumption
    | with_reducible refine onSvc_keeps c (fun _ _ => ?_) ?_
    | with_reducible apply onIo_keeps c
    | with_reducible apply answering_keeps c

theorem evSvcByte_keeps (c : Closed P) (b : Byte) (h : P s) : P (s.evSvcByte b) := by
  unfold State.evSvcByte
  repeat' first
    | with_reducible assumption
    | with_reducible refine onSvc_keeps c (fun _ _ => ?_) ?_
    | with_reducible apply answering_keeps c
    | with_reducible apply putByte_keeps c
    | with_reducible refine ite_keeps ?_ ?_

theorem svcReplyByte_keeps (c : Closed P) (h : P s) : P s.svcReplyByte.2 := by
  unfold State.svcReplyByte
  split
  · exact h
  · dsimp only
    split <;> (dsimp only; exact onIo_keeps c _ h)

theorem evSvcReply_keeps (c : Closed P) (h : P s) : P s.evSvcReply := by
  unfold State.evSvcReply
  refine ite_keeps h (onSvc_keeps c (fun t ht => ?_) h)
  have e := svcReplyByte_keeps c ht
  generalize t.svcReplyByte = x at e ⊢
  obtain ⟨b, u⟩ := x
  exact answering_keeps c _ e

theorem svcBytes_keeps (c : Closed P) (n : Nat) (h : P s) : P (State.svcBytes n s).2 := by
  induction n generalizing s with
  | zero => exact h
  | succ n ih =>
    unfold State.svcBytes
    extract_lets p
    split
    rename_i b t e
    have ht : P t := by
      refine pair_keeps e ?_
      split
      · exact svcReplyByte_keeps c h
      · exact h
    exact ih (onIo_keeps c _ ht)

theorem evSvcRead_keeps (c : Closed P) (n : Nat) (h : P s) : P (s.evSvcRead n) := by
  unfold State.evSvcRead
  refine onSvc_keeps c (fun t ht => ?_) h
  extract_lets u
  have e := svcBytes_keeps c n (show P u from onIo_keeps c _ ht)
  generalize State.svcBytes n u = x at e ⊢
  obtain ⟨b, v⟩ := x
  exact answering_keeps c _ e

theorem evSvcWrite_keeps (c : Closed P) (_b : Byte) (h : P s) : P (s.evSvcWrite _b) := by
  unfold State.evSvcWrite
  repeat' first
    | with_reducible assumption
    | with_reducible refine onSvc_keeps c (fun _ _ => ?_) ?_
    | with_reducible apply onIo_keeps c
    | with_reducible apply answering_keeps c
    | fail_if_no_progress (with_reducible refine c.put rfl ?_)
    | with_reducible refine ite_keeps ?_ ?_

theorem evSvcGap_keeps (c : Closed P) (h : P s) : P (s.evSvcGap) := by
  unfold State.evSvcGap
  repeat' first
    | with_reducible assumption
    | (lift_lets; intro y; refine bind_keeps (P := P) (y := y) ?_ ?_; (on_goal 2 => (intro _; clear_value y)); (on_goal 1 => unfold y))
    | (lift_lets; intro y; clear_value y)
    | (intro y; refine bind_keeps (P := P) (y := y) ?_ ?_; (on_goal 2 => (intro _; clear_value y)); (on_goal 1 => unfold y))
    | (intro y; clear_value y)
    | with_reducible apply onIo_keeps c
    | with_reducible apply enqueue_keeps c
    | fail_if_no_progress (with_reducible refine c.put rfl ?_)
    | with_reducible refine ite_keeps ?_ ?_

theorem portReplyByte_keeps (c : Closed P) (h : P s) : P s.portReplyByte.2 := by
  unfold State.portReplyByte
  split
  · exact h
  · dsimp only
    split <;> (dsimp only; exact onIo_keeps c _ h)

theorem evCmdPort_keeps (c : Closed P) (dr : BitVec 10) (h : P s) : P (s.evCmdPort dr) := by
  unfold State.evCmdPort
  refine ite_keeps h ?_
  extract_lets s1 room s2 s3 s4
  have h1 : P s1 := onIo_keeps c _ (leaveExtest_keeps c h)
  have h3 : P s3 := onIo_keeps c _ (answering_keeps c _ h1)
  have h4 : P s4 := ite_keeps (putByte_keeps c _ _ h3) h3
  refine ite_keeps (answering_keeps c _ h1) ?_
  have e : P (if dr.getLsbD 9 = true then s4.portReplyByte else (none, s4)).2 := by
    split
    · exact portReplyByte_keeps c h4
    · exact h4
  generalize (if dr.getLsbD 9 = true then s4.portReplyByte else (none, s4)) = x at e ⊢
  obtain ⟨b, t⟩ := x
  exact onIo_keeps c _ e

end Sys2Proof.Machine
end

