-- ==== Sys2Proof/Laws/KeepArbiter.lean ====
section
/-! SUPPORT. The functions of Machine/Arbiter.lean keep a closed property. -/

namespace Sys2Proof.Machine

variable {P : State → Prop} {s : State}

theorem pushFires_keeps (c : Closed P) (h : P s) : P s.pushFires := c.free h rfl rfl rfl

theorem fireList_keeps (c : Closed P) (depth : Nat) (f : Firing) (h : P s) : P (s.fireList depth f) :=
  append_keeps c _ _ _ _ _ _ (c.put rfl (tagged_keeps c _ h))

theorem dropFiring_keeps (c : Closed P) (f : Firing) (h : P s) : P (s.dropFiring f) :=
  fault_keeps c _ _ _ _ _ _ (c.put rfl (tagged_keeps c _ h))

theorem runTask_keeps (c : Closed P) (t : Task) (h : P s) : P (s.runTask t) := by
  unfold State.runTask
  split
  · exact ite_keeps (dropFiring_keeps c _ h) (fireList_keeps c _ _ h)
  · exact runCommand_keeps c _ _ _ (c.put rfl h)

theorem runWork_keeps (c : Closed P) (n : Nat) (h : P s) : P (State.runWork n s) := by
  induction n generalizing s with
  | zero => exact h
  | succ n ih =>
    unfold State.runWork
    refine ite_keeps h ?_
    split
    · exact c.put rfl h
    · exact ih (pushFires_keeps c (runTask_keeps c _ (c.put rfl h)))

theorem firesRun_keeps (c : Closed P) (h : P s) : P s.firesRun :=
  tagged_keeps c _ (runWork_keeps c _ (pushFires_keeps c h))

theorem finish_keeps (c : Closed P) (h : P s) : P s.finish :=
  noted_keeps c (firesRun_keeps c h)

theorem evLossOfVin_keeps (c : Closed P) (vveh vstore : BitVec 16) (h : P s) : P (s.evLossOfVin vveh vstore) := by
  unfold State.evLossOfVin
  repeat' first
    | with_reducible assumption
    | with_reducible apply evHoldEnter_keeps c
    | with_reducible apply bankedEarly_keeps c
    | with_reducible apply enterOff_keeps c
    | with_reducible exact c.free h rfl rfl rfl
    | with_reducible refine ite_keeps ?_ ?_

theorem evParity_keeps (c : Closed P) (die : Nat) (param : BitVec 16) (h : P s) : P (s.evParity die param) := by
  unfold State.evParity
  repeat' first
    | with_reducible assumption
    | with_reducible apply evParityHive_keeps c
    | with_reducible apply evParityDie_keeps c
    | with_reducible refine ite_keeps ?_ ?_
    | split

theorem runEvent_keeps (c : Closed P) (i : Instr) (h : P s) : P (s.runEvent i) := by
  unfold State.runEvent
  repeat' first
    | with_reducible assumption
    | with_reducible apply evEccError_keeps c
    | with_reducible apply evParity_keeps c
    | with_reducible apply evBlockReady_keeps c
    | with_reducible apply evClockDead_keeps c
    | with_reducible apply evLaneDrop_keeps c
    | with_reducible apply evRejoin_keeps c
    | with_reducible apply evForgeLoss_keeps c
    | with_reducible apply evStateExchange_keeps c
    | with_reducible apply evCrankEnter_keeps c
    | with_reducible apply evDeepShed_keeps c
    | with_reducible apply evCrankExit_keeps c
    | with_reducible apply evVbusArrival_keeps c
    | with_reducible apply evVbusLoss_keeps c
    | with_reducible apply evHubSuspend_keeps c
    | with_reducible apply evUpLink_keeps c
    | with_reducible apply evLaneRecovery_keeps c
    | with_reducible apply evHostPortPower_keeps c
    | with_reducible apply evHostPortReset_keeps c
    | with_reducible apply evHostSuspend_keeps c
    | with_reducible apply evHostResume_keeps c
    | with_reducible apply evResumeComplete_keeps c
    | with_reducible apply evRemoteWake_keeps c
    | with_reducible apply evPortResetComplete_keeps c
    | with_reducible apply evSsLinkU0_keeps c
    | with_reducible apply evBabble_keeps c
    | with_reducible apply evChatter_keeps c
    | with_reducible apply evSsTrainingFail_keeps c
    | with_reducible apply evSsInactive_keeps c
    | with_reducible apply evSuspendCurrent_keeps c
    | with_reducible apply evCycleOff_keeps c
    | with_reducible apply evPortAttach_keeps c
    | with_reducible apply evPortDetach_keeps c
    | with_reducible apply evVconnOverload_keeps c
    | with_reducible apply evCableDiscovery_keeps c
    | with_reducible apply evRampComplete_keeps c
    | with_reducible apply evReservationArrival_keeps c
    | with_reducible apply evSrcCapsRepeat_keeps c
    | with_reducible apply evRequest_keeps c
    | with_reducible apply evSameRail_keeps c
    | with_reducible apply evTransitionStart_keeps c
    | with_reducible apply evVbusInBand_keeps c
    | with_reducible apply evRailTransition_keeps c
    | with_reducible apply evPdContract_keeps c
    | with_reducible apply evTransMax_keeps c
    | with_reducible apply evSettleMax_keeps c
    | with_reducible apply evHardResetReceived_keeps c
    | with_reducible apply evHardResetRestore_keeps c
    | with_reducible apply evSoftReset_keeps c
    | with_reducible apply evGetSourceCap_keeps c
    | with_reducible apply evGetRevision_keeps c
    | with_reducible apply evSwap_keeps c
    | with_reducible apply evOther_keeps c
    | with_reducible apply evBist_keeps c
    | with_reducible apply evRequestTimeout_keeps c
    | with_reducible apply evVdmReceived_keeps c
    | with_reducible apply evVdmTimeout_keeps c
    | with_reducible apply evVdmSendDone_keeps c
    | with_reducible apply evSbuClose_keeps c
    | with_reducible apply evSbuOvervoltage_keeps c
    | with_reducible apply evHardShort_keeps c
    | with_reducible apply evLimitReached_keeps c
    | with_reducible apply evOverload_keeps c
    | with_reducible apply evOverTemperature_keeps c
    | with_reducible apply evRampFault_keeps c
    | with_reducible apply evRetryDelay_keeps c
    | with_reducible apply evGateTimeout_keeps c
    | with_reducible apply evDischargeEnd_keeps c
    | with_reducible apply evOffCheck_keeps c
    | with_reducible apply evBackdrive_keeps c
    | with_reducible apply evLegLeak_keeps c
    | with_reducible apply evRailLow_keeps c
    | with_reducible apply evRailHigh_keeps c
    | with_reducible apply evRailBack_keeps c
    | with_reducible apply evChargerFault_keeps c
    | with_reducible apply evSumMismatch_keeps c
    | with_reducible apply evCellDeviation_keeps c
    | with_reducible apply evTapTest_keeps c
    | with_reducible apply evHoldCell_keeps c
    | with_reducible apply evCapEstimate_keeps c
    | with_reducible apply evEnergy_keeps c
    | with_reducible apply evTransferStart_keeps c
    | with_reducible apply evTransferComplete_keeps c
    | with_reducible apply evArbitrationLost_keeps c
    | with_reducible apply evStretchTimeout_keeps c
    | with_reducible apply evStretchInsideByte_keeps c
    | with_reducible apply evStretchHold_keeps c
    | with_reducible apply evInBand_keeps c
    | with_reducible apply evAttn_keeps c
    | with_reducible apply evMailbox_keeps c
    | with_reducible apply evMailboxOverflow_keeps c
    | with_reducible apply evRecoveryPulses_keeps c
    | with_reducible apply evLinkOff_keeps c
    | with_reducible apply evLinkSettle_keeps c
    | with_reducible apply evBusFreeWait_keeps c
    | with_reducible apply evEraseDone_keeps c
    | with_reducible apply evTrailerReadback_keeps c
    | with_reducible apply evSessionEnd_keeps c
    | with_reducible apply evRegulationEnd_keeps c
    | with_reducible apply evGatePass_keeps c
    | with_reducible apply evGoodcrc_keeps c
    | with_reducible apply evSoftResetAccepted_keeps c
    | with_reducible apply evConnectChange_keeps c
    | with_reducible apply evHubControl_keeps c
    | with_reducible apply passed_keeps c
    | with_reducible apply evTestComplete_keeps c
    | with_reducible apply evSuspendComplete_keeps c
    | with_reducible apply evSbuOpen_keeps c
    | split

theorem takeInput_keeps (c : Closed P) (i : Input) (h : P s) : P (s.takeInput i) := by
  unfold State.takeInput
  refine finish_keeps c ?_
  cases i with
  | command x p => exact runCommand_keeps c _ _ _ h
  | malformed x m => exact runMalformed_keeps c _ _ h
  | event e => exact runEvent_keeps c _ h
  | lost die n => exact runLost_keeps c _ _ h
  | skew die n w => exact skewReport_keeps c _ _ _ h

theorem takeOne_keeps (c : Closed P) {t : State} (e : s.takeOne = some t) (h : P s) : P t := by
  unfold State.takeOne at e
  split at e
  · split at e
    · obtain rfl := Option.some.inj e
      exact takeInput_keeps c _ (onIo_keeps c _ h)
    · exact absurd e (by simp)
  · exact absurd e (by simp)

theorem pump_keeps (c : Closed P) (n : Nat) (h : P s) : P (State.pump n s) := by
  induction n generalizing s with
  | zero => exact h
  | succ n ih =>
    unfold State.pump
    split
    · rename_i t e
      exact ih (takeOne_keeps c e h)
    · exact h

theorem pumpAll_keeps (c : Closed P) (h : P s) : P s.pumpAll := pump_keeps c _ h

theorem settled_keeps (c : Closed P) (h : P s) : P (s.settled) := by
  unfold State.settled
  repeat' first
    | with_reducible assumption
    | with_reducible apply finish_keeps c
    | with_reducible apply pumpAll_keeps c

theorem nackMailbox_keeps (c : Closed P) (i : Instr) (h : P s) : P (s.nackMailbox i) := by
  unfold State.nackMailbox
  repeat' first
    | with_reducible assumption
    | with_reducible apply latchWake_keeps c
    | with_reducible apply answering_keeps c
    | with_reducible refine ite_keeps ?_ ?_
    | split

theorem ackHeld_keeps (c : Closed P) (i : Instr) (h : P s) : P (s.ackHeld i) := by
  unfold State.ackHeld
  repeat' first
    | with_reducible assumption
    | with_reducible apply answering_keeps c
    | with_reducible refine ite_keeps ?_ ?_
    | split

theorem holdAtDie_keeps (c : Closed P) (die : Nat) (i : Instr) (h : P s) : P (s.holdAtDie die i) := by
  unfold State.holdAtDie
  repeat' first
    | with_reducible assumption
    | with_reducible apply onDie_keeps c
    | fail_if_no_progress (with_reducible refine c.put rfl ?_)
    | with_reducible refine ite_keeps ?_ ?_
    | split

theorem holdAsleep_keeps (c : Closed P) (i : Instr) (h : P s) : P (s.holdAsleep i) := by
  unfold State.holdAsleep
  repeat' first
    | with_reducible assumption
    | with_reducible apply enqueue_keeps c
    | with_reducible apply onDie_keeps c
    | fail_if_no_progress (with_reducible refine c.put rfl ?_)
    | with_reducible refine ite_keeps ?_ ?_
    | split

theorem forgeAsleep_keeps (c : Closed P) (i : Instr) (h : P s) : P (s.forgeAsleep i) := by
  unfold State.forgeAsleep
  repeat' first
    | with_reducible assumption
    | with_reducible apply onChan_keeps c
    | with_reducible apply legsOff_keeps c
    | with_reducible apply suspendCurrentAsleep_keeps c
    | fail_if_no_progress (with_reducible refine c.put rfl ?_)
    | split

theorem eventAsleep_keeps (c : Closed P) (i : Instr) (h : P s) : P (s.eventAsleep i) := by
  unfold State.eventAsleep
  repeat' first
    | with_reducible assumption
    | (lift_lets; intro y; refine bind_keeps (P := P) (y := y) ?_ ?_; (on_goal 2 => (intro _; clear_value y)); (on_goal 1 => unfold y))
    | (lift_lets; intro y; clear_value y)
    | (intro y; refine bind_keeps (P := P) (y := y) ?_ ?_; (on_goal 2 => (intro _; clear_value y)); (on_goal 1 => unfold y))
    | (intro y; clear_value y)
    | with_reducible apply latchWake_keeps c
    | with_reducible apply forgeAsleep_keeps c
    | with_reducible apply ackHeld_keeps c
    | with_reducible apply holdAsleep_keeps c
    | with_reducible refine ite_keeps ?_ ?_
    | split

theorem levelOnly_keeps (c : Closed P) (i : Instr) (h : P s) : P (s.levelOnly i) := by
  unfold State.levelOnly
  repeat' first
    | with_reducible assumption
    | with_reducible apply vbusUp_keeps c
    | with_reducible apply dfuAttach_keeps c
    | with_reducible apply linkDrop_keeps c
    | with_reducible apply onHub_keeps c
    | with_reducible refine onPw_keeps c _ rfl ?_
    | with_reducible apply enqueue_keeps c
    | fail_if_no_progress (with_reducible refine c.put rfl ?_)
    | with_reducible refine ite_keeps ?_ ?_
    | split

theorem arrive_keeps (c : Closed P) (i : Instr) (h : P s) : P (s.arrive i) := by
  unfold State.arrive
  repeat' first
    | with_reducible assumption
    | with_reducible apply evCrankEnter_keeps c
    | with_reducible apply evCrankExit_keeps c
    | with_reducible apply eventAsleep_keeps c
    | with_reducible apply enqueue_keeps c
    | with_reducible apply pumpAll_keeps c
    | split

theorem eventBanked_keeps (c : Closed P) (i : Instr) (h : P s) : P (s.eventBanked i) := by
  unfold State.eventBanked
  repeat' first
    | with_reducible assumption
    | with_reducible apply evParityHive_keeps c
    | with_reducible apply nackMailbox_keeps c
    | with_reducible refine ite_keeps ?_ ?_
    | split

theorem event_keeps (c : Closed P) (i : Instr) (h : P s) : P (s.event i) := by
  unfold State.event
  repeat' first
    | with_reducible assumption
    | with_reducible apply levelOnly_keeps c
    | with_reducible apply eventBanked_keeps c
    | with_reducible apply nackMailbox_keeps c
    | with_reducible apply holdAtDie_keeps c
    | with_reducible apply arrive_keeps c
    | with_reducible refine ite_keeps ?_ ?_
    | split

theorem direct_keeps (c : Closed P) (i : Instr) {f : State → State} (hf : ∀ s, P s → P (f s)) (h : P s) :
    P (s.direct i f) := ite_keeps (pumpAll_keeps c (finish_keeps c (hf _ h))) h

theorem submit_keeps (c : Closed P) (h : CmdHeader) (op : Opcode) (params : List Byte) (hP : P s) : P (s.submit h op params) := by
  unfold State.submit
  repeat' first
    | with_reducible assumption
    | with_reducible apply enqueue_keeps c
    | with_reducible apply pumpAll_keeps c
    | with_reducible refine ite_keeps ?_ ?_
    | split

theorem submitSet_keeps (c : Closed P) (h : CmdHeader) (p : Param) (v : Word) (hP : P s) : P (s.submitSet h p v) := by
  unfold State.submitSet
  repeat' first
    | with_reducible assumption
    | with_reducible apply submit_keeps c

theorem evTick_keeps (c : Closed P) (skew : Word) (h : P s) : P (s.evTick skew) := by
  unfold State.evTick
  repeat' first
    | with_reducible assumption
    | with_reducible apply evSbTick_keeps c

theorem evTickNow_keeps (c : Closed P) (die : Nat) (skew : Word) (replayed : Bool) (h : P s) : P (s.evTickNow die skew replayed) := by
  unfold State.evTickNow
  repeat' first
    | with_reducible assumption
    | with_reducible apply evTickFrame_keeps c
    | with_reducible refine ite_keeps ?_ ?_
    | split

theorem evCycleNow_keeps (c : Closed P) (h : P s) : P (s.evCycleNow) := by
  unfold State.evCycleNow
  repeat' first
    | with_reducible assumption
    | with_reducible apply evCycleStart_keeps c
    | with_reducible refine ite_keeps ?_ ?_
    | split

theorem evSliceNow_keeps (c : Closed P) (r : SliceResult) (h : P s) : P (s.evSliceNow r) := by
  unfold State.evSliceNow
  repeat' first
    | with_reducible assumption
    | with_reducible apply evSlice_keeps c
    | with_reducible refine ite_keeps ?_ ?_
    | split

theorem evVio33Low_keeps (c : Closed P) (h : P s) : P (s.evVio33Low) := by
  unfold State.evVio33Low
  repeat' first
    | with_reducible assumption
    | with_reducible apply evVio33_keeps c

theorem evVio33Restored_keeps (c : Closed P) (h : P s) : P (s.evVio33Restored) := by
  unfold State.evVio33Restored
  repeat' first
    | with_reducible assumption
    | with_reducible apply evVio33_keeps c

theorem evPstateEnter_keeps (c : Closed P) (latched : List Latched) (failed : BitVec 10) (h : P s) :
    P (s.evPstateEnter latched failed) := by
  unfold State.evPstateEnter
  split
  · exact h
  · rename_i m e
    have hm : m ≠ .idle := target_ne_idle e
    refine ite_keeps h ?_
    extract_lets before hits hits' t u now set
    have ht : P t := enterEntry_keeps c _ h
    clear_value t hits hits'
    split
    · exact abandon_keeps c _ _ _ ht
    · have hu : P u := firesRun_keeps c ht
      clear_value u
      split
      · exact abandon_keeps c _ _ _ hu
      · exact fallAsleep_keeps c hm hu

theorem burnCut_keeps (c : Closed P) (t : State) (h : P s) (ht : P t) : P (s.burnCut t) := by
  unfold State.burnCut
  split
  · rename_i hb
    exact evPorAssert_keeps c (c.spend s hb.1 h)
  · exact ht

theorem submitBurn_keeps (c : Closed P) (h : CmdHeader) (v : Word) (cut : Bool) (hP : P s) : P (s.submitBurn h v cut) :=
  have ht : P (s.submitSet h .resetFuseBurn v) := submitSet_keeps c _ _ _ hP
  ite_keeps (burnCut_keeps c _ hP ht) ht

end Sys2Proof.Machine
end

