-- ==== Sys2Proof/Laws/KeepExec.lean ====
section
/-! SUPPORT. Every command answers a next state, and keeps a closed property. -/

namespace Sys2Proof.Machine

variable {P : State → Prop} {s : State}

theorem exec_keeps (c : Closed P) (i : Instr) (h : P s) : ∃ t, exec i s = .next t ∧ P t := by
  cases i with
  | echo _ _ => exact ⟨_, rfl, submit_keeps c _ _ _ h⟩
  | identify _ _ => exact ⟨_, rfl, submit_keeps c _ _ _ h⟩
  | reset _ _ => exact ⟨_, rfl, submit_keeps c _ _ _ h⟩
  | modeRequest _ _ => exact ⟨_, rfl, submit_keeps c _ _ _ h⟩
  | queueStatus _ _ => exact ⟨_, rfl, submit_keeps c _ _ _ h⟩
  | serviceEnter _ _ => exact ⟨_, rfl, submit_keeps c _ _ _ h⟩
  | paramGet _ _ => exact ⟨_, rfl, submit_keeps c _ _ _ h⟩
  | paramSet _ _ => exact ⟨_, rfl, submit_keeps c _ _ _ h⟩
  | paramGetBlock _ _ => exact ⟨_, rfl, submit_keeps c _ _ _ h⟩
  | paramStage _ _ => exact ⟨_, rfl, submit_keeps c _ _ _ h⟩
  | paramCommit _ _ => exact ⟨_, rfl, submit_keeps c _ _ _ h⟩
  | portEnable _ _ => exact ⟨_, rfl, submit_keeps c _ _ _ h⟩
  | portDisable _ _ => exact ⟨_, rfl, submit_keeps c _ _ _ h⟩
  | portReset _ _ => exact ⟨_, rfl, submit_keeps c _ _ _ h⟩
  | portSuspend _ _ => exact ⟨_, rfl, submit_keeps c _ _ _ h⟩
  | portResume _ _ => exact ⟨_, rfl, submit_keeps c _ _ _ h⟩
  | portStatus _ _ => exact ⟨_, rfl, submit_keeps c _ _ _ h⟩
  | chanOn _ _ => exact ⟨_, rfl, submit_keeps c _ _ _ h⟩
  | chanOff _ _ => exact ⟨_, rfl, submit_keeps c _ _ _ h⟩
  | chanClearTrip _ _ => exact ⟨_, rfl, submit_keeps c _ _ _ h⟩
  | chanMeasure _ _ => exact ⟨_, rfl, submit_keeps c _ _ _ h⟩
  | pdStatus _ _ => exact ⟨_, rfl, submit_keeps c _ _ _ h⟩
  | pdRenegotiate _ _ => exact ⟨_, rfl, submit_keeps c _ _ _ h⟩
  | pdHardReset _ _ => exact ⟨_, rfl, submit_keeps c _ _ _ h⟩
  | pdVdmSend _ _ => exact ⟨_, rfl, submit_keeps c _ _ _ h⟩
  | pdModeEnter _ _ => exact ⟨_, rfl, submit_keeps c _ _ _ h⟩
  | pdModeExit _ _ => exact ⟨_, rfl, submit_keeps c _ _ _ h⟩
  | twiXfer _ _ => exact ⟨_, rfl, submit_keeps c _ _ _ h⟩
  | twiRecover _ _ => exact ⟨_, rfl, submit_keeps c _ _ _ h⟩
  | twiAttnRead _ _ => exact ⟨_, rfl, submit_keeps c _ _ _ h⟩
  | ledgerRead _ _ => exact ⟨_, rfl, submit_keeps c _ _ _ h⟩
  | ledgerMark _ _ => exact ⟨_, rfl, submit_keeps c _ _ _ h⟩
  | ledgerHead _ _ => exact ⟨_, rfl, submit_keeps c _ _ _ h⟩
  | voteSet _ _ => exact ⟨_, rfl, submit_keeps c _ _ _ h⟩
  | voteClear _ _ => exact ⟨_, rfl, submit_keeps c _ _ _ h⟩
  | pstateStatus _ _ => exact ⟨_, rfl, submit_keeps c _ _ _ h⟩
  | plSet _ _ => exact ⟨_, rfl, submit_keeps c _ _ _ h⟩
  | padRelease _ _ => exact ⟨_, rfl, submit_keeps c _ _ _ h⟩
  | cfgRead _ _ => exact ⟨_, rfl, submit_keeps c _ _ _ h⟩
  | cfgWriteBegin _ _ => exact ⟨_, rfl, submit_keeps c _ _ _ h⟩
  | cfgWriteData _ _ => exact ⟨_, rfl, submit_keeps c _ _ _ h⟩
  | cfgWriteCommit _ _ => exact ⟨_, rfl, submit_keeps c _ _ _ h⟩
  | cfgApply _ _ => exact ⟨_, rfl, submit_keeps c _ _ _ h⟩
  | testRun _ _ => exact ⟨_, rfl, submit_keeps c _ _ _ h⟩
  | testStatus _ _ => exact ⟨_, rfl, submit_keeps c _ _ _ h⟩
  | healthRead _ _ => exact ⟨_, rfl, submit_keeps c _ _ _ h⟩
  | holdStatus _ _ => exact ⟨_, rfl, submit_keeps c _ _ _ h⟩
  | holdTapTest _ _ => exact ⟨_, rfl, submit_keeps c _ _ _ h⟩
  | trigLoad _ _ => exact ⟨_, rfl, submit_keeps c _ _ _ h⟩
  | trigArm _ _ => exact ⟨_, rfl, submit_keeps c _ _ _ h⟩
  | trigDisarm _ _ => exact ⟨_, rfl, submit_keeps c _ _ _ h⟩
  | resetCauseClear _ _ => exact ⟨_, rfl, submitSet_keeps c _ _ _ h⟩
  | resetBlockRstWrite _ _ => exact ⟨_, rfl, submitSet_keeps c _ _ _ h⟩
  | fuseBurn _ _ => exact ⟨_, rfl, submitBurn_keeps c _ _ _ h⟩
  | spineStatClear _ _ => exact ⟨_, rfl, submitSet_keeps c _ _ _ h⟩
  | foragerLogClear _ _ => exact ⟨_, rfl, submitSet_keeps c _ _ _ h⟩
  | trigEnableWrite _ _ => exact ⟨_, rfl, submitSet_keeps c _ _ _ h⟩
  | c0BulkOutPacket _ => exact ⟨_, rfl, direct_keeps c _ (fun _ h => evBulkOut_keeps c _ h) h⟩
  | c0Ping => exact ⟨_, rfl, direct_keeps c _ (fun _ h => evPing_keeps c h) h⟩
  | c0BulkIn => exact ⟨_, rfl, direct_keeps c _ (fun _ h => evBulkIn_keeps c h) h⟩
  | interruptInPoll => exact ⟨_, rfl, direct_keeps c _ (fun _ h => evInterruptIn_keeps c h) h⟩
  | controlStandardRequest _ => exact ⟨_, rfl, direct_keeps c _ (fun _ h => evControl_keeps c _ h) h⟩
  | controlClassVendorRequest _ => exact ⟨_, rfl, direct_keeps c _ (fun _ h => evClassVendor_keeps c _ h) h⟩
  | functionBusReset _ => exact ⟨_, rfl, direct_keeps c _ (fun _ h => evFunctionReset_keeps c _ h) h⟩
  | svcPointerWrite _ => exact ⟨_, rfl, direct_keeps c _ (fun _ h => evSvcPointer_keeps c _ h) h⟩
  | svcCommandByte _ => exact ⟨_, rfl, direct_keeps c _ (fun _ h => evSvcByte_keeps c _ h) h⟩
  | svcReplyRead => exact ⟨_, rfl, direct_keeps c _ (fun _ h => evSvcReply_keeps c h) h⟩
  | svcWindowRead _ => exact ⟨_, rfl, direct_keeps c _ (fun _ h => evSvcRead_keeps c _ h) h⟩
  | svcWindowWrite _ => exact ⟨_, rfl, direct_keeps c _ (fun _ h => evSvcWrite_keeps c _ h) h⟩
  | cmdSvcGapExpiry => exact ⟨_, rfl, direct_keeps c _ (fun _ h => evSvcGap_keeps c h) h⟩
  | cmdPortShift _ => exact ⟨_, rfl, direct_keeps c _ (fun _ h => evCmdPort_keeps c _ h) h⟩
  | jtagIdcode => exact ⟨_, rfl, direct_keeps c _ (fun _ h => evIdcode_keeps c h) h⟩
  | jtagBypass => exact ⟨_, rfl, direct_keeps c _ (fun _ h => evBypass_keeps c h) h⟩
  | jtagSamplePreload => exact ⟨_, rfl, direct_keeps c _ (fun _ h => evSample_keeps c h) h⟩
  | jtagExtest => exact ⟨_, rfl, direct_keeps c _ (fun _ h => evExtest_keeps c h) h⟩
  | jtagIntest => exact ⟨_, rfl, direct_keeps c _ (fun _ h => evIntest_keeps c h) h⟩
  | jtagExtestExit => exact ⟨_, rfl, direct_keeps c _ (fun _ h => evExtestExit_keeps c h) h⟩
  | por => exact ⟨_, rfl, direct_keeps c _ (fun _ h => evPor_keeps c h) h⟩
  | porRelease _ _ _ => exact ⟨_, rfl, direct_keeps c _ (fun _ h => evPorRelease_keeps c _ _ _ h) h⟩
  | pllLock => exact ⟨_, rfl, direct_keeps c _ (fun _ h => evPllLock_keeps c h) h⟩
  | pllLockRetry => exact ⟨_, rfl, direct_keeps c _ (fun _ h => evPllRetry_keeps c h) h⟩
  | firmwareAuth _ _ _ => exact ⟨_, rfl, direct_keeps c _ (fun _ h => evFirmwareAuth_keeps c _ _ _ h) h⟩
  | spineTraining _ _ => exact ⟨_, rfl, direct_keeps c _ (fun _ h => evSpineTraining_keeps c _ _ h) h⟩
  | dfuDnload _ => exact ⟨_, rfl, direct_keeps c _ (fun _ h => evDfuDnload_keeps c _ h) h⟩
  | dfuGetstatus => exact ⟨_, rfl, direct_keeps c _ (fun _ h => evDfuGetstatus_keeps c h) h⟩
  | dfuClrstatus => exact ⟨_, rfl, direct_keeps c _ (fun _ h => evDfuClrstatus_keeps c h) h⟩
  | dfuGetstate => exact ⟨_, rfl, direct_keeps c _ (fun _ h => evDfuGetstate_keeps c h) h⟩
  | dfuAbort => exact ⟨_, rfl, direct_keeps c _ (fun _ h => evDfuAbort_keeps c h) h⟩
  | dfuUpload => exact ⟨_, rfl, direct_keeps c _ (fun _ h => evDfuUpload_keeps c h) h⟩
  | svcImageDownload _ => exact ⟨_, rfl, direct_keeps c _ (fun _ h => evSvcImage_keeps c _ h) h⟩
  | downloadAuth _ _ => exact ⟨_, rfl, direct_keeps c _ (fun _ h => evDownloadAuth_keeps c _ _ h) h⟩
  | bor _ => exact ⟨_, rfl, direct_keeps c _ (fun _ h => evBor_keeps c _ h) h⟩
  | pinReset => exact ⟨_, rfl, direct_keeps c _ (fun _ h => evPinReset_keeps c h) h⟩
  | pinResetRelease => exact ⟨_, rfl, direct_keeps c _ (fun _ h => evPinRelease_keeps c h) h⟩
  | wdtExpiry _ => exact ⟨_, rfl, direct_keeps c _ (fun _ h => evWdt_keeps c _ h) h⟩
  | eccReset _ => exact ⟨_, rfl, direct_keeps c _ (fun _ h => evEcc_keeps c _ h) h⟩
  | eccErrorNoncritical _ => exact ⟨_, rfl, event_keeps c _ h⟩
  | parityReset _ _ => exact ⟨_, rfl, event_keeps c _ h⟩
  | resetStretchExpiry => exact ⟨_, rfl, direct_keeps c _ (fun _ h => evStretch_keeps c h) h⟩
  | deviceResetDelay => exact ⟨_, rfl, direct_keeps c _ (fun _ h => evDeviceReset_keeps c h) h⟩
  | blockReady _ _ => exact ⟨_, rfl, event_keeps c _ h⟩
  | clockDeadTimeout _ _ => exact ⟨_, rfl, event_keeps c _ h⟩
  | frameReceived _ _ _ _ => exact ⟨_, rfl, direct_keeps c _ (fun _ h => evFrame_keeps c _ _ _ _ _ _ h) h⟩
  | laneDrop _ _ _ => exact ⟨_, rfl, event_keeps c _ h⟩
  | laneRetrainAttempt _ _ => exact ⟨_, rfl, direct_keeps c _ (fun _ h => evRetrain_keeps c _ _ h) h⟩
  | laneRejoin _ _ => exact ⟨_, rfl, event_keeps c _ h⟩
  | retrainIntervalReset _ _ => exact ⟨_, rfl, direct_keeps c _ (fun _ h => evIntervalReset_keeps c _ _ h) h⟩
  | forgeLossTimeout => exact ⟨_, rfl, event_keeps c _ h⟩
  | sbTick _ => exact ⟨_, rfl, direct_keeps c _ (fun _ h => evTick_keeps c _ h) h⟩
  | tickFrame _ _ _ => exact ⟨_, rfl, direct_keeps c _ (fun _ h => evTickNow_keeps c _ _ _ h) h⟩
  | stateDigestExchange _ _ _ => exact ⟨_, rfl, event_keeps c _ h⟩
  | answer _ _ _ _ => exact ⟨_, rfl, direct_keeps c _ (fun _ h => evAnswer_keeps c _ _ _ _ h) h⟩
  | answerTimeout _ => exact ⟨_, rfl, direct_keeps c _ (fun _ h => evAnswerTimeout_keeps c _ h) h⟩
  | holdEnter _ _ => exact ⟨_, rfl, direct_keeps c _ (fun _ h => evLossOfVin_keeps c _ _ h) h⟩
  | gateHoldCheck _ _ => exact ⟨_, rfl, direct_keeps c _ (fun _ h => evGateHold_keeps c _ _ h) h⟩
  | retainedWriteDone => exact ⟨_, rfl, direct_keeps c _ (fun _ h => evRetainedDone_keeps c h) h⟩
  | flashTailDone => exact ⟨_, rfl, direct_keeps c _ (fun _ h => evTailDone_keeps c h) h⟩
  | holdNodeCollapse => exact ⟨_, rfl, direct_keeps c _ (fun _ h => evNodeCollapse_keeps c h) h⟩
  | wakeOffStart => exact ⟨_, rfl, direct_keeps c _ (fun _ h => evWakeOff_keeps c h) h⟩
  | crankEnter => exact ⟨_, rfl, event_keeps c _ h⟩
  | crankDeepShed => exact ⟨_, rfl, event_keeps c _ h⟩
  | crankExit => exact ⟨_, rfl, event_keeps c _ h⟩
  | upstreamVbusArrival => exact ⟨_, rfl, event_keeps c _ h⟩
  | upstreamVbusLoss => exact ⟨_, rfl, event_keeps c _ h⟩
  | pstateEnter _ => exact ⟨_, rfl, direct_keeps c _ (fun _ h => evPstateEnter_keeps c _ _ h) h⟩
  | wake _ _ => exact ⟨_, rfl, direct_keeps c _ (fun _ h => evWake_keeps c _ _ h) h⟩
  | reentryHoldoffExpiry => exact ⟨_, rfl, direct_keeps c _ (fun _ h => evHoldoff_keeps c h) h⟩
  | pstateAlarm => exact ⟨_, rfl, direct_keeps c _ (fun _ h => evAlarm_keeps c h) h⟩
  | hubSuspend => exact ⟨_, rfl, event_keeps c _ h⟩
  | upLink _ _ _ => exact ⟨_, rfl, event_keeps c _ h⟩
  | upLaneRecovery _ => exact ⟨_, rfl, event_keeps c _ h⟩
  | lpmL1Request => exact ⟨_, rfl, direct_keeps c _ (fun _ h => evLpm_keeps c h) h⟩
  | hostPortPower _ _ => exact ⟨_, rfl, event_keeps c _ h⟩
  | hostPortReset _ => exact ⟨_, rfl, event_keeps c _ h⟩
  | hostSelectiveSuspend _ => exact ⟨_, rfl, event_keeps c _ h⟩
  | hostPortResume _ => exact ⟨_, rfl, event_keeps c _ h⟩
  | portResumeComplete _ => exact ⟨_, rfl, event_keeps c _ h⟩
  | downstreamRemoteWake _ => exact ⟨_, rfl, event_keeps c _ h⟩
  | portResetComplete _ _ => exact ⟨_, rfl, event_keeps c _ h⟩
  | ssLinkU0 _ _ => exact ⟨_, rfl, event_keeps c _ h⟩
  | babble _ _ => exact ⟨_, rfl, event_keeps c _ h⟩
  | connectChatter _ _ => exact ⟨_, rfl, event_keeps c _ h⟩
  | ssTrainingFail _ => exact ⟨_, rfl, event_keeps c _ h⟩
  | ssInactive _ => exact ⟨_, rfl, event_keeps c _ h⟩
  | suspendCurrentCheck _ _ => exact ⟨_, rfl, event_keeps c _ h⟩
  | cycleOffExpiry _ => exact ⟨_, rfl, event_keeps c _ h⟩
  | ttStartSplit _ _ _ => exact ⟨_, rfl, direct_keeps c _ (fun _ h => evStartSplit_keeps c _ _ _ _ h) h⟩
  | ttCompleteSplit _ _ => exact ⟨_, rfl, direct_keeps c _ (fun _ h => evCompleteSplit_keeps c _ _ _ h) h⟩
  | ttResultExpiry _ => exact ⟨_, rfl, direct_keeps c _ (fun _ h => evTtExpiry_keeps c _ h) h⟩
  | clearTtBuffer _ => exact ⟨_, rfl, direct_keeps c _ (fun _ h => evClearBuffer_keeps c _ h) h⟩
  | resetTt _ => exact ⟨_, rfl, direct_keeps c _ (fun _ h => evResetAll_keeps c _ h) h⟩
  | getTtState _ => exact ⟨_, rfl, direct_keeps c _ (fun _ h => evGetTtState_keeps c _ h) h⟩
  | stopTt _ => exact ⟨_, rfl, direct_keeps c _ (fun _ h => evStopTt_keeps c _ h) h⟩
  | portAttach _ _ _ => exact ⟨_, rfl, event_keeps c _ h⟩
  | portDetach _ => exact ⟨_, rfl, event_keeps c _ h⟩
  | vconnOverload _ _ => exact ⟨_, rfl, event_keeps c _ h⟩
  | cableDiscovery _ => exact ⟨_, rfl, event_keeps c _ h⟩
  | rampComplete _ => exact ⟨_, rfl, event_keeps c _ h⟩
  | reservationArrival _ => exact ⟨_, rfl, event_keeps c _ h⟩
  | srcCapsRepeat _ => exact ⟨_, rfl, event_keeps c _ h⟩
  | request _ _ _ _ _ => exact ⟨_, rfl, event_keeps c _ h⟩
  | sameRailPsRdy _ => exact ⟨_, rfl, event_keeps c _ h⟩
  | transitionStart _ _ => exact ⟨_, rfl, event_keeps c _ h⟩
  | vbusInBand _ => exact ⟨_, rfl, event_keeps c _ h⟩
  | railTransition _ _ => exact ⟨_, rfl, event_keeps c _ h⟩
  | pdContract _ => exact ⟨_, rfl, event_keeps c _ h⟩
  | transMaxExpiry _ _ => exact ⟨_, rfl, event_keeps c _ h⟩
  | settleMaxExpiry _ _ => exact ⟨_, rfl, event_keeps c _ h⟩
  | hardResetReceived _ => exact ⟨_, rfl, event_keeps c _ h⟩
  | hardResetRestore _ => exact ⟨_, rfl, event_keeps c _ h⟩
  | softReset _ => exact ⟨_, rfl, event_keeps c _ h⟩
  | getSourceCap _ => exact ⟨_, rfl, event_keeps c _ h⟩
  | getRevision _ => exact ⟨_, rfl, event_keeps c _ h⟩
  | swapRequest _ _ => exact ⟨_, rfl, event_keeps c _ h⟩
  | unsupportedMessage _ _ => exact ⟨_, rfl, event_keeps c _ h⟩
  | bist _ _ => exact ⟨_, rfl, event_keeps c _ h⟩
  | requestTimeout _ => exact ⟨_, rfl, event_keeps c _ h⟩
  | vdmReceived _ _ _ => exact ⟨_, rfl, event_keeps c _ h⟩
  | vdmResponseTimeout _ => exact ⟨_, rfl, event_keeps c _ h⟩
  | vdmSendDone _ _ => exact ⟨_, rfl, event_keeps c _ h⟩
  | sbuSwitchClose _ => exact ⟨_, rfl, event_keeps c _ h⟩
  | sbuOvervoltage _ _ => exact ⟨_, rfl, event_keeps c _ h⟩
  | hardShort _ _ _ => exact ⟨_, rfl, event_keeps c _ h⟩
  | currentLimitReached _ => exact ⟨_, rfl, event_keeps c _ h⟩
  | overloadTimeout _ _ _ => exact ⟨_, rfl, event_keeps c _ h⟩
  | overTemperature _ _ _ => exact ⟨_, rfl, event_keeps c _ h⟩
  | rampFault _ _ _ => exact ⟨_, rfl, event_keeps c _ h⟩
  | retryDelayExpiry _ => exact ⟨_, rfl, event_keeps c _ h⟩
  | gateCheckTimeout _ _ => exact ⟨_, rfl, event_keeps c _ h⟩
  | dischargeEnd _ => exact ⟨_, rfl, event_keeps c _ h⟩
  | offCheckTimeout _ _ => exact ⟨_, rfl, event_keeps c _ h⟩
  | backdrive _ _ => exact ⟨_, rfl, event_keeps c _ h⟩
  | legLeak _ _ _ => exact ⟨_, rfl, event_keeps c _ h⟩
  | railLow _ => exact ⟨_, rfl, event_keeps c _ h⟩
  | railHigh _ => exact ⟨_, rfl, event_keeps c _ h⟩
  | railBackInBand _ => exact ⟨_, rfl, event_keeps c _ h⟩
  | chargerStart => exact ⟨_, rfl, direct_keeps c _ (fun _ h => evChargerStart_keeps c h) h⟩
  | chargerStop => exact ⟨_, rfl, direct_keeps c _ (fun _ h => evChargerStop_keeps c h) h⟩
  | chargerFault _ => exact ⟨_, rfl, event_keeps c _ h⟩
  | cellBleed _ _ => exact ⟨_, rfl, direct_keeps c _ (fun _ h => evCellBleed_keeps c _ _ h) h⟩
  | refillWake => exact ⟨_, rfl, direct_keeps c _ (fun _ h => evRefill_keeps c h) h⟩
  | cellSumMismatch _ _ => exact ⟨_, rfl, event_keeps c _ h⟩
  | cellDeviation _ => exact ⟨_, rfl, event_keeps c _ h⟩
  | tapTest _ _ => exact ⟨_, rfl, event_keeps c _ h⟩
  | holdCell _ _ => exact ⟨_, rfl, event_keeps c _ h⟩
  | capacitanceEstimate _ _ => exact ⟨_, rfl, event_keeps c _ h⟩
  | energyThreshold _ _ => exact ⟨_, rfl, event_keeps c _ h⟩
  | transferStart _ _ => exact ⟨_, rfl, event_keeps c _ h⟩
  | transferComplete _ _ => exact ⟨_, rfl, event_keeps c _ h⟩
  | arbitrationLost _ => exact ⟨_, rfl, event_keeps c _ h⟩
  | stretchTimeout _ _ => exact ⟨_, rfl, event_keeps c _ h⟩
  | stretchInsideByte _ => exact ⟨_, rfl, event_keeps c _ h⟩
  | stretchHoldTimeout _ => exact ⟨_, rfl, event_keeps c _ h⟩
  | inBandRequest _ _ => exact ⟨_, rfl, event_keeps c _ h⟩
  | twAttn _ _ _ => exact ⟨_, rfl, event_keeps c _ h⟩
  | mailboxWrite _ _ => exact ⟨_, rfl, event_keeps c _ h⟩
  | mailboxOverflow _ => exact ⟨_, rfl, event_keeps c _ h⟩
  | recoveryPulses _ _ _ => exact ⟨_, rfl, event_keeps c _ h⟩
  | powerLinkOffExpiry _ => exact ⟨_, rfl, event_keeps c _ h⟩
  | powerLinkSettle _ => exact ⟨_, rfl, event_keeps c _ h⟩
  | recoverBusFreeWait _ _ => exact ⟨_, rfl, event_keeps c _ h⟩
  | foragerCycleStart => exact ⟨_, rfl, direct_keeps c _ (fun _ h => evCycleNow_keeps c h) h⟩
  | foragerSlice _ => exact ⟨_, rfl, direct_keeps c _ (fun _ h => evSliceNow_keeps c _ h) h⟩
  | cfgEraseDone => exact ⟨_, rfl, event_keeps c _ h⟩
  | cfgTrailerReadback _ => exact ⟨_, rfl, event_keeps c _ h⟩
  | cfgSessionEnd => exact ⟨_, rfl, event_keeps c _ h⟩
  | porAssert => exact ⟨_, rfl, direct_keeps c _ (fun _ h => evPorAssert_keeps c h) h⟩
  | retentionLoss => exact ⟨_, rfl, direct_keeps c _ (fun _ h => evRetentionLoss_keeps c h) h⟩
  | regulationEnd _ => exact ⟨_, rfl, event_keeps c _ h⟩
  | gateCheckPass _ => exact ⟨_, rfl, event_keeps c _ h⟩
  | goodcrcReceived _ => exact ⟨_, rfl, event_keeps c _ h⟩
  | softResetAccepted _ => exact ⟨_, rfl, event_keeps c _ h⟩
  | downstreamConnectChange _ _ _ => exact ⟨_, rfl, event_keeps c _ h⟩
  | hubControlRequest _ _ => exact ⟨_, rfl, event_keeps c _ h⟩
  | testComplete _ _ => exact ⟨_, rfl, event_keeps c _ h⟩
  | portSuspendComplete _ => exact ⟨_, rfl, event_keeps c _ h⟩
  | sbuSwitchOpen _ => exact ⟨_, rfl, event_keeps c _ h⟩
  | vio33Low => exact ⟨_, rfl, direct_keeps c _ (fun _ h => evVio33Low_keeps c h) h⟩
  | vio33Restored => exact ⟨_, rfl, direct_keeps c _ (fun _ h => evVio33Restored_keeps c h) h⟩

end Sys2Proof.Machine
end

