-- ==== Sys2Proof/Laws/Memory.lean ====
section
/-! SUPPORT. The canonical form of a sparse list and of a memory: every write and erase keeps it, and a read finds what was written. -/

namespace Sys2Proof.Machine

variable {β : Type} [DecidableEq β]

/-- A canonical list is canonical from any lower bound. -/
theorem sparseWf_mono (d : Nat → β) (l : List (Nat × β)) {lo hi : Nat} (h : lo ≤ hi) (w : sparseWf d hi l = true) :
    sparseWf d lo l = true := by
  cases l with
  | nil => rfl
  | cons c l =>
    simp only [sparseWf, Bool.and_eq_true, decide_eq_true_eq] at w ⊢
    exact ⟨⟨by omega, w.1.2⟩, w.2⟩

/-- Setting a key keeps the canonical form. -/
theorem sparseSet_wf (d : Nat → β) (l : List (Nat × β)) (lo k : Nat) (v : β) (h : lo ≤ k) (w : sparseWf d lo l = true) :
    sparseWf d lo (sparseSet d l k v) = true := by
  induction l generalizing lo with
  | nil =>
    unfold sparseSet
    split
    · rfl
    · simp [sparseWf, *]
  | cons c l ih =>
    obtain ⟨a, x⟩ := c
    simp only [sparseWf, Bool.and_eq_true, decide_eq_true_eq] at w
    obtain ⟨⟨h1, h2⟩, h3⟩ := w
    unfold sparseSet
    split
    · simp only [sparseWf, Bool.and_eq_true, decide_eq_true_eq]
      exact ⟨⟨h1, h2⟩, ih (a + 1) (by omega) h3⟩
    · split
      · split
        · exact sparseWf_mono d l (by omega) h3
        · subst a; simp [sparseWf, *]
      · split
        · simp [sparseWf, *]
        · simp only [sparseWf, Bool.and_eq_true, decide_eq_true_eq]
          exact ⟨⟨h, by assumption⟩, ⟨by omega, h2⟩, h3⟩

/-- An element below the bound of a canonical list is not listed. -/
theorem sparseGet_below (d : Nat → β) (l : List (Nat × β)) (lo k : Nat) (h : k < lo) (w : sparseWf d lo l = true) :
    sparseGet d l k = d k := by
  induction l generalizing lo with
  | nil => rfl
  | cons c l ih =>
    obtain ⟨a, x⟩ := c
    simp only [sparseWf, Bool.and_eq_true, decide_eq_true_eq] at w
    unfold sparseGet
    rw [if_neg (by omega)]
    exact ih (a + 1) (by omega) w.2

/-- A read finds what was set, and every other key as it was. -/
theorem sparseGet_set (d : Nat → β) (l : List (Nat × β)) (lo k j : Nat) (v : β) (w : sparseWf d lo l = true) :
    sparseGet d (sparseSet d l k v) j = if j = k then v else sparseGet d l j := by
  induction l generalizing lo with
  | nil =>
    unfold sparseSet
    by_cases hj : j = k
    · subst hj; split <;> simp_all [sparseGet]
    · have hk : ¬ k = j := fun e => hj e.symm
      split <;> simp [sparseGet, hk]
  | cons c l ih =>
    obtain ⟨a, x⟩ := c
    simp only [sparseWf, Bool.and_eq_true, decide_eq_true_eq] at w
    obtain ⟨⟨h1, h2⟩, h3⟩ := w
    unfold sparseSet
    split
    · simp only [sparseGet, ih (a + 1) h3]
      by_cases hj : a = j
      · rw [if_pos hj, if_neg (by omega), if_pos hj]
      · rw [if_neg hj, if_neg hj]
    · split
      · split
        · subst a
          by_cases hj : j = k
          · subst hj; rw [if_pos rfl, sparseGet_below d l (j + 1) j (by omega) h3]; simp_all
          · rw [if_neg hj]; simp only [sparseGet]; rw [if_neg (by omega)]
        · subst a
          simp only [sparseGet]
          by_cases hj : j = k
          · simp [hj]
          · rw [if_neg (by omega), if_neg hj, if_neg (by omega)]
      · split
        · by_cases hj : j = k
          · subst hj
            rw [if_pos rfl, sparseGet, if_neg (by omega), sparseGet_below d l (a + 1) j (by omega) h3]; simp_all
          · rw [if_neg hj]
        · simp only [sparseGet]
          by_cases hj : j = k
          · simp [hj]
          · rw [if_neg (by omega), if_neg hj]

/-- Bytes written keep the canonical form. -/
theorem writeBytes_wf (d : Nat → Byte) (bytes : List Byte) (m : List Host.Cell) (a : Nat) (w : Memory.wf d m) :
    Memory.wf d (writeBytes d m a bytes) := by
  induction bytes generalizing m a with
  | nil => exact w
  | cons b l ih => exact ih _ _ (sparseSet_wf d m 0 a b (Nat.zero_le _) w)

/-- Each byte written reads back, and every other byte is as it was. -/
theorem readByte_writeBytes (d : Nat → Byte) (bytes : List Byte) (m : List Host.Cell) (a k : Nat) (w : Memory.wf d m) :
    readByte d (writeBytes d m a bytes) k =
      if a ≤ k ∧ k < a + bytes.length then bytes[k - a]?.getD 0 else readByte d m k := by
  induction bytes generalizing m a with
  | nil => simp [writeBytes]
  | cons b l ih =>
    unfold writeBytes
    have w1 : Memory.wf d (writeByte d m a b) := sparseSet_wf d m 0 a b (Nat.zero_le _) w
    rw [ih _ _ w1]
    have e : readByte d (writeByte d m a b) k = if k = a then b else readByte d m k := sparseGet_set d m 0 a k b w
    rw [e, List.length_cons]
    by_cases h : a + 1 ≤ k ∧ k < a + 1 + l.length
    · rw [if_pos h, if_pos (by omega)]
      obtain ⟨n, hn⟩ : ∃ n, k - a = n + 1 := ⟨k - a - 1, by omega⟩
      rw [hn, List.getElem?_cons_succ]; congr 2; omega
    · rw [if_neg h]
      by_cases hk : k = a
      · subst hk; simp
      · rw [if_neg hk, if_neg (by omega)]

/-- A list with some cells taken out keeps its canonical form. -/
theorem filter_wf (d : Nat → β) (f : Nat × β → Bool) (l : List (Nat × β)) (lo : Nat) (w : sparseWf d lo l = true) :
    sparseWf d lo (l.filter f) = true := by
  induction l generalizing lo with
  | nil => rfl
  | cons c l ih =>
    obtain ⟨a, x⟩ := c
    simp only [sparseWf, Bool.and_eq_true, decide_eq_true_eq] at w
    rw [List.filter_cons]
    split
    · simp only [sparseWf, Bool.and_eq_true, decide_eq_true_eq]
      exact ⟨w.1, ih _ w.2⟩
    · exact sparseWf_mono d _ (by omega) (ih _ w.2)

/-- An erased range keeps the canonical form. -/
theorem eraseRange_wf (d : Nat → Byte) (m : List Host.Cell) (a n : Nat) (w : Memory.wf d m) :
    Memory.wf d (eraseRange m a n) := filter_wf d _ m 0 w

/-- An erased byte reads as an unlisted one, and every other byte is as it was. -/
theorem readByte_eraseRange (d : Nat → Byte) (m : List Host.Cell) (a n k : Nat) :
    readByte d (eraseRange m a n) k = if a ≤ k ∧ k < a + n then d k else readByte d m k := by
  induction m with
  | nil => simp [eraseRange, readByte, sparseGet]
  | cons c m ih =>
    obtain ⟨b, x⟩ := c
    unfold eraseRange readByte at *
    rw [List.filter_cons]
    by_cases hk : a ≤ k ∧ k < a + n
    · rw [if_pos hk] at ih ⊢
      split
      · rename_i hb
        simp only [Bool.or_eq_true, decide_eq_true_eq] at hb
        rw [sparseGet, if_neg (by omega)]; exact ih
      · exact ih
    · rw [if_neg hk] at ih ⊢
      split
      · simp only [sparseGet, ih]
      · rename_i hb
        simp only [Bool.or_eq_true, decide_eq_true_eq] at hb
        rw [ih, sparseGet, if_neg (by omega)]

end Sys2Proof.Machine
end

