-- ==== Sys2Proof/Laws/PerInstr.lean ====
section
/-! SUPPORT. A law of the commands as syntax, one lemma for each constructor: a well-formed command row is a packet that fits, and a detector event names a die and a block of it. -/

namespace Sys2Proof.Laws.Shape

open Sys2Proof.Machine

/-- A well-formed command row spells a packet of at most 1012 bytes (R49); the detector of a well-formed event lies on one of the
four dies, in one of the eighteen blocks (Table 01-5). -/
def Statement (i : Instr) : Prop :=
  i.wf = true →
    (∀ h op p, commandOf i = some (h, op, p) → (headerCommand h op p).plen ≤ 1012) ∧
    ∀ d b, eventSource i = some (d, b) → d ≤ 3 ∧ b ≤ 17

/-- A command row whose packet fits, and that is no event. -/
theorem of_packet {i : Instr} {h : CmdHeader} {op : Opcode} {p : List Byte} (c : commandOf i = some (h, op, p))
    (n : eventSource i = none) (f : i.wf = true → packetFits h p = true) : Statement i := by
  intro w
  refine ⟨fun h' op' p' e => ?_, fun d b e => ?_⟩
  · rw [c] at e
    cases e
    have := f w
    simp only [packetFits, decide_eq_true_eq] at this
    show (if h.cond.isSome = true then 8 else 0) + p.length ≤ 1012
    omega
  · rw [n] at e
    cases e

/-- A row of one parameter, whose packet always fits. -/
theorem of_set {i : Instr} {h : CmdHeader} {op : Opcode} {p : List Byte} (c : commandOf i = some (h, op, p))
    (n : eventSource i = none) (f : p.length = 8) : Statement i := by
  refine of_packet c n fun _ => ?_
  unfold packetFits
  split <;> simp <;> omega

/-- An event of a detector. -/
theorem of_event {i : Instr} {d b : Nat} (c : commandOf i = none) (e : eventSource i = some (d, b)) (f : i.wf = true → d ≤ 3)
    (g : b ≤ 17) : Statement i := by
  intro w
  refine ⟨fun h op p e' => ?_, fun d' b' e' => ?_⟩
  · rw [c] at e'
    cases e'
  · rw [e] at e'
    cases e'
    exact ⟨f w, g⟩

/-- An event of a segment, whose controller lies on Forge but for TW0 and SVC. -/
theorem of_segment {i : Instr} {n : Nat} (c : commandOf i = none)
    (e : eventSource i = if n = 0 ∨ 3 < n then none else some (3, blkTwi)) : Statement i := by
  intro _
  refine ⟨fun h op p e' => ?_, fun d b e' => ?_⟩
  · rw [c] at e'
    cases e'
  · rw [e] at e'
    split at e'
    · cases e'
    · cases e'
      decide

/-- A row that is neither. -/
theorem of_other {i : Instr} (c : commandOf i = none) (e : eventSource i = none) : Statement i := by
  intro _
  refine ⟨fun h op p e' => ?_, fun d b e' => ?_⟩
  · rw [c] at e'
    cases e'
  · rw [e] at e'
    cases e'

theorem combOf_le (p : Nat) : combOf p ≤ 3 := by
  unfold combOf
  split <;> omega

theorem echo (h : CmdHeader) (p : List Byte) : Statement (.echo h p) := of_packet rfl rfl id
theorem identify (h : CmdHeader) (p : List Byte) : Statement (.identify h p) := of_packet rfl rfl id
theorem reset (h : CmdHeader) (p : List Byte) : Statement (.reset h p) := of_packet rfl rfl id
theorem modeRequest (h : CmdHeader) (p : List Byte) : Statement (.modeRequest h p) := of_packet rfl rfl id
theorem queueStatus (h : CmdHeader) (p : List Byte) : Statement (.queueStatus h p) := of_packet rfl rfl id
theorem serviceEnter (h : CmdHeader) (p : List Byte) : Statement (.serviceEnter h p) := of_packet rfl rfl id
theorem paramGet (h : CmdHeader) (p : List Byte) : Statement (.paramGet h p) := of_packet rfl rfl id
theorem paramSet (h : CmdHeader) (p : List Byte) : Statement (.paramSet h p) := of_packet rfl rfl id
theorem paramGetBlock (h : CmdHeader) (p : List Byte) : Statement (.paramGetBlock h p) := of_packet rfl rfl id
theorem paramStage (h : CmdHeader) (p : List Byte) : Statement (.paramStage h p) := of_packet rfl rfl id
theorem paramCommit (h : CmdHeader) (p : List Byte) : Statement (.paramCommit h p) := of_packet rfl rfl id
theorem portEnable (h : CmdHeader) (p : List Byte) : Statement (.portEnable h p) := of_packet rfl rfl id
theorem portDisable (h : CmdHeader) (p : List Byte) : Statement (.portDisable h p) := of_packet rfl rfl id
theorem portReset (h : CmdHeader) (p : List Byte) : Statement (.portReset h p) := of_packet rfl rfl id
theorem portSuspend (h : CmdHeader) (p : List Byte) : Statement (.portSuspend h p) := of_packet rfl rfl id
theorem portResume (h : CmdHeader) (p : List Byte) : Statement (.portResume h p) := of_packet rfl rfl id
theorem portStatus (h : CmdHeader) (p : List Byte) : Statement (.portStatus h p) := of_packet rfl rfl id
theorem chanOn (h : CmdHeader) (p : List Byte) : Statement (.chanOn h p) := of_packet rfl rfl id
theorem chanOff (h : CmdHeader) (p : List Byte) : Statement (.chanOff h p) := of_packet rfl rfl id
theorem chanClearTrip (h : CmdHeader) (p : List Byte) : Statement (.chanClearTrip h p) := of_packet rfl rfl id
theorem chanMeasure (h : CmdHeader) (p : List Byte) : Statement (.chanMeasure h p) := of_packet rfl rfl id
theorem pdStatus (h : CmdHeader) (p : List Byte) : Statement (.pdStatus h p) := of_packet rfl rfl id
theorem pdRenegotiate (h : CmdHeader) (p : List Byte) : Statement (.pdRenegotiate h p) := of_packet rfl rfl id
theorem pdHardReset (h : CmdHeader) (p : List Byte) : Statement (.pdHardReset h p) := of_packet rfl rfl id
theorem pdVdmSend (h : CmdHeader) (p : List Byte) : Statement (.pdVdmSend h p) := of_packet rfl rfl id
theorem pdModeEnter (h : CmdHeader) (p : List Byte) : Statement (.pdModeEnter h p) := of_packet rfl rfl id
theorem pdModeExit (h : CmdHeader) (p : List Byte) : Statement (.pdModeExit h p) := of_packet rfl rfl id
theorem twiXfer (h : CmdHeader) (p : List Byte) : Statement (.twiXfer h p) := of_packet rfl rfl id
theorem twiRecover (h : CmdHeader) (p : List Byte) : Statement (.twiRecover h p) := of_packet rfl rfl id
theorem twiAttnRead (h : CmdHeader) (p : List Byte) : Statement (.twiAttnRead h p) := of_packet rfl rfl id
theorem ledgerRead (h : CmdHeader) (p : List Byte) : Statement (.ledgerRead h p) := of_packet rfl rfl id
theorem ledgerMark (h : CmdHeader) (p : List Byte) : Statement (.ledgerMark h p) := of_packet rfl rfl id
theorem ledgerHead (h : CmdHeader) (p : List Byte) : Statement (.ledgerHead h p) := of_packet rfl rfl id
theorem voteSet (h : CmdHeader) (p : List Byte) : Statement (.voteSet h p) := of_packet rfl rfl id
theorem voteClear (h : CmdHeader) (p : List Byte) : Statement (.voteClear h p) := of_packet rfl rfl id
theorem pstateStatus (h : CmdHeader) (p : List Byte) : Statement (.pstateStatus h p) := of_packet rfl rfl id
theorem plSet (h : CmdHeader) (p : List Byte) : Statement (.plSet h p) := of_packet rfl rfl id
theorem padRelease (h : CmdHeader) (p : List Byte) : Statement (.padRelease h p) := of_packet rfl rfl id
theorem cfgRead (h : CmdHeader) (p : List Byte) : Statement (.cfgRead h p) := of_packet rfl rfl id
theorem cfgWriteBegin (h : CmdHeader) (p : List Byte) : Statement (.cfgWriteBegin h p) := of_packet rfl rfl id
theorem cfgWriteData (h : CmdHeader) (p : List Byte) : Statement (.cfgWriteData h p) := of_packet rfl rfl id
theorem cfgWriteCommit (h : CmdHeader) (p : List Byte) : Statement (.cfgWriteCommit h p) := of_packet rfl rfl id
theorem cfgApply (h : CmdHeader) (p : List Byte) : Statement (.cfgApply h p) := of_packet rfl rfl id
theorem testRun (h : CmdHeader) (p : List Byte) : Statement (.testRun h p) := of_packet rfl rfl id
theorem testStatus (h : CmdHeader) (p : List Byte) : Statement (.testStatus h p) := of_packet rfl rfl id
theorem healthRead (h : CmdHeader) (p : List Byte) : Statement (.healthRead h p) := of_packet rfl rfl id
theorem holdStatus (h : CmdHeader) (p : List Byte) : Statement (.holdStatus h p) := of_packet rfl rfl id
theorem holdTapTest (h : CmdHeader) (p : List Byte) : Statement (.holdTapTest h p) := of_packet rfl rfl id
theorem trigLoad (h : CmdHeader) (p : List Byte) : Statement (.trigLoad h p) := of_packet rfl rfl id
theorem trigArm (h : CmdHeader) (p : List Byte) : Statement (.trigArm h p) := of_packet rfl rfl id
theorem trigDisarm (h : CmdHeader) (p : List Byte) : Statement (.trigDisarm h p) := of_packet rfl rfl id
theorem resetCauseClear (h : CmdHeader) (v : Word) : Statement (.resetCauseClear h v) := of_set rfl rfl rfl
theorem resetBlockRstWrite (h : CmdHeader) (v : Word) : Statement (.resetBlockRstWrite h v) := of_set rfl rfl rfl
theorem fuseBurn (h : CmdHeader) (v : FuseWrite) : Statement (.fuseBurn h v) :=
  match v with
  | ⟨_, false⟩ => of_set rfl rfl rfl
  | ⟨_, true⟩ => of_other rfl rfl
theorem spineStatClear (h : CmdHeader) (v : Word) : Statement (.spineStatClear h v) := of_set rfl rfl rfl
theorem foragerLogClear (h : CmdHeader) (v : Word) : Statement (.foragerLogClear h v) := of_set rfl rfl rfl
theorem trigEnableWrite (h : CmdHeader) (v : Word) : Statement (.trigEnableWrite h v) := of_set rfl rfl rfl
theorem c0BulkOutPacket (bytes : List Byte) : Statement (.c0BulkOutPacket bytes) := of_other rfl rfl
theorem c0Ping : Statement .c0Ping := of_other rfl rfl
theorem c0BulkIn : Statement .c0BulkIn := of_other rfl rfl
theorem interruptInPoll : Statement .interruptInPoll := of_other rfl rfl
theorem controlStandardRequest (r : Setup) : Statement (.controlStandardRequest r) := of_other rfl rfl
theorem controlClassVendorRequest (r : Setup) : Statement (.controlClassVendorRequest r) := of_other rfl rfl
theorem functionBusReset (k : FunctionReset) : Statement (.functionBusReset k) := of_other rfl rfl
theorem svcPointerWrite (b : Byte) : Statement (.svcPointerWrite b) := of_other rfl rfl
theorem svcCommandByte (b : Byte) : Statement (.svcCommandByte b) := of_other rfl rfl
theorem svcReplyRead : Statement .svcReplyRead := of_other rfl rfl
theorem svcWindowRead (n : Nat) : Statement (.svcWindowRead n) := of_other rfl rfl
theorem svcWindowWrite (b : Byte) : Statement (.svcWindowWrite b) := of_other rfl rfl
theorem cmdSvcGapExpiry : Statement .cmdSvcGapExpiry := of_other rfl rfl
theorem cmdPortShift (dr : BitVec 10) : Statement (.cmdPortShift dr) := of_other rfl rfl
theorem jtagIdcode : Statement .jtagIdcode := of_other rfl rfl
theorem jtagBypass : Statement .jtagBypass := of_other rfl rfl
theorem jtagSamplePreload : Statement .jtagSamplePreload := of_other rfl rfl
theorem jtagExtest : Statement .jtagExtest := of_other rfl rfl
theorem jtagIntest : Statement .jtagIntest := of_other rfl rfl
theorem jtagExtestExit : Statement .jtagExtestExit := of_other rfl rfl
theorem por : Statement .por := of_other rfl rfl
theorem porRelease (bootSel clkMode : BitVec 2) (testEn : Bool) : Statement (.porRelease bootSel clkMode testEn) := of_other rfl rfl
theorem pllLock : Statement .pllLock := of_other rfl rfl
theorem pllLockRetry : Statement .pllLockRetry := of_other rfl rfl
theorem firmwareAuth (ok : Bool) (version : BitVec 16) (badHeader : Bool) : Statement (.firmwareAuth ok version badHeader) := of_other rfl rfl
theorem spineTraining (lanes : BitVec 10) (rails : BitVec 4) : Statement (.spineTraining lanes rails) := of_other rfl rfl
theorem dfuDnload (block : List Byte) : Statement (.dfuDnload block) := of_other rfl rfl
theorem dfuGetstatus : Statement .dfuGetstatus := of_other rfl rfl
theorem dfuClrstatus : Statement .dfuClrstatus := of_other rfl rfl
theorem dfuGetstate : Statement .dfuGetstate := of_other rfl rfl
theorem dfuAbort : Statement .dfuAbort := of_other rfl rfl
theorem dfuUpload : Statement .dfuUpload := of_other rfl rfl
theorem svcImageDownload (bytes : List Byte) : Statement (.svcImageDownload bytes) := of_other rfl rfl
theorem downloadAuth (ok : Bool) (version : BitVec 16) : Statement (.downloadAuth ok version) := of_other rfl rfl
theorem bor (supply : Nat) : Statement (.bor supply) := of_other rfl rfl
theorem pinReset : Statement .pinReset := of_other rfl rfl
theorem pinResetRelease : Statement .pinResetRelease := of_other rfl rfl
theorem wdtExpiry (opcode : BitVec 16) : Statement (.wdtExpiry opcode) := of_other rfl rfl
theorem eccReset (addr : BitVec 24) : Statement (.eccReset addr) := of_other rfl rfl
theorem eccErrorNoncritical (addr : Word) : Statement (.eccErrorNoncritical addr) := of_other rfl rfl
theorem parityReset (die : Nat) (param : BitVec 16) : Statement (.parityReset die param) := of_other rfl rfl
theorem resetStretchExpiry : Statement .resetStretchExpiry := of_other rfl rfl
theorem deviceResetDelay : Statement .deviceResetDelay := of_other rfl rfl
theorem blockReady (die : Nat) (block : Option Nat) : Statement (.blockReady die block) := of_other rfl rfl
theorem clockDeadTimeout (die block : Nat) : Statement (.clockDeadTimeout die block) := of_other rfl rfl
theorem frameReceived (link : Nat) (toHive : Bool) (frame : SpineFrame) (crcOk : Bool) : Statement (.frameReceived link toHive frame crcOk) := of_other rfl rfl
theorem laneDrop (link : Nat) (lanes : BitVec 4) (frames : Word) : Statement (.laneDrop link lanes frames) := of_other rfl rfl
theorem laneRetrainAttempt (link lane : Nat) : Statement (.laneRetrainAttempt link lane) := of_other rfl rfl
theorem laneRejoin (link lane : Nat) : Statement (.laneRejoin link lane) := of_other rfl rfl
theorem retrainIntervalReset (link lane : Nat) : Statement (.retrainIntervalReset link lane) := of_other rfl rfl
theorem forgeLossTimeout : Statement .forgeLossTimeout := of_other rfl rfl
theorem sbTick (skew : Word) : Statement (.sbTick skew) := of_other rfl rfl
theorem tickFrame (die : Nat) (skew : Word) (replayed : Bool) : Statement (.tickFrame die skew replayed) := of_other rfl rfl
theorem stateDigestExchange (die : Nat) (digest : Word) (diffs : List StateDiff) : Statement (.stateDigestExchange die digest diffs) := of_other rfl rfl
theorem answer (die : Nat) (stepping microcode : Byte) (digest : BitVec 64) : Statement (.answer die stepping microcode digest) := of_other rfl rfl
theorem answerTimeout (die : Nat) : Statement (.answerTimeout die) := of_other rfl rfl
theorem holdEnter (vveh vstore : BitVec 16) : Statement (.holdEnter vveh vstore) := of_other rfl rfl
theorem gateHoldCheck (node vstore : BitVec 16) : Statement (.gateHoldCheck node vstore) := of_other rfl rfl
theorem retainedWriteDone : Statement .retainedWriteDone := of_other rfl rfl
theorem flashTailDone : Statement .flashTailDone := of_other rfl rfl
theorem holdNodeCollapse : Statement .holdNodeCollapse := of_other rfl rfl
theorem wakeOffStart : Statement .wakeOffStart := of_other rfl rfl
theorem crankEnter : Statement .crankEnter := of_other rfl rfl
theorem crankDeepShed : Statement .crankDeepShed := of_other rfl rfl
theorem crankExit : Statement .crankExit := of_other rfl rfl
theorem upstreamVbusArrival : Statement .upstreamVbusArrival := of_other rfl rfl
theorem upstreamVbusLoss : Statement .upstreamVbusLoss := of_other rfl rfl
theorem pstateEnter (entry : SleepEntry) : Statement (.pstateEnter entry) := of_other rfl rfl
theorem wake (source : Nat) (failed : BitVec 10) : Statement (.wake source failed) := of_other rfl rfl
theorem reentryHoldoffExpiry : Statement .reentryHoldoffExpiry := of_other rfl rfl
theorem pstateAlarm : Statement .pstateAlarm := of_other rfl rfl
theorem hubSuspend : Statement .hubSuspend := of_other rfl rfl
theorem upLink (state speed : Nat) (training : Training) : Statement (.upLink state speed training) := of_other rfl rfl
theorem upLaneRecovery (lane : Nat) : Statement (.upLaneRecovery lane) := of_other rfl rfl
theorem lpmL1Request : Statement .lpmL1Request := of_other rfl rfl
theorem hostPortPower (port : Nat) (on : Bool) : Statement (.hostPortPower port on) := of_other rfl rfl
theorem hostPortReset (port : Nat) : Statement (.hostPortReset port) := of_other rfl rfl
theorem hostSelectiveSuspend (port : Nat) : Statement (.hostSelectiveSuspend port) := of_other rfl rfl
theorem hostPortResume (port : Nat) : Statement (.hostPortResume port) := of_other rfl rfl
theorem portResumeComplete (port : Nat) : Statement (.portResumeComplete port) := of_event rfl rfl (fun _ => combOf_le _) (by decide)
theorem downstreamRemoteWake (port : Nat) : Statement (.downstreamRemoteWake port) := of_event rfl rfl (fun _ => combOf_le _) (by decide)
theorem portResetComplete (port : Nat) (speed : Option Nat) : Statement (.portResetComplete port speed) := of_event rfl rfl (fun _ => combOf_le _) (by decide)
theorem ssLinkU0 (port speed : Nat) : Statement (.ssLinkU0 port speed) := of_event rfl rfl (fun _ => combOf_le _) (by decide)
theorem babble (port speed : Nat) : Statement (.babble port speed) := of_event rfl rfl (fun _ => combOf_le _) (by decide)
theorem connectChatter (port changes : Nat) : Statement (.connectChatter port changes) := of_event rfl rfl (fun _ => combOf_le _) (by decide)
theorem ssTrainingFail (port : Nat) : Statement (.ssTrainingFail port) := of_event rfl rfl (fun _ => combOf_le _) (by decide)
theorem ssInactive (port : Nat) : Statement (.ssInactive port) := of_event rfl rfl (fun _ => combOf_le _) (by decide)
theorem suspendCurrentCheck (port : Nat) (average : BitVec 16) : Statement (.suspendCurrentCheck port average) := of_event rfl rfl (fun _ => by decide) (by decide)
theorem cycleOffExpiry (port : Nat) : Statement (.cycleOffExpiry port) := of_other rfl rfl
theorem ttStartSplit (port : Nat) (split : Split) (bytes : Nat) : Statement (.ttStartSplit port split bytes) := of_other rfl rfl
theorem ttCompleteSplit (port : Nat) (split : Split) : Statement (.ttCompleteSplit port split) := of_other rfl rfl
theorem ttResultExpiry (port : Nat) : Statement (.ttResultExpiry port) := of_other rfl rfl
theorem clearTtBuffer (port : Nat) : Statement (.clearTtBuffer port) := of_other rfl rfl
theorem resetTt (port : Nat) : Statement (.resetTt port) := of_other rfl rfl
theorem getTtState (port : Nat) : Statement (.getTtState port) := of_other rfl rfl
theorem stopTt (port : Nat) : Statement (.stopTt port) := of_other rfl rfl
theorem portAttach (port pin : Nat) (ra : Bool) : Statement (.portAttach port pin ra) := of_event rfl rfl (fun _ => combOf_le _) (by decide)
theorem portDetach (port : Nat) : Statement (.portDetach port) := of_event rfl rfl (fun _ => combOf_le _) (by decide)
theorem vconnOverload (port : Nat) (ma : BitVec 16) : Statement (.vconnOverload port ma) := of_event rfl rfl (fun _ => combOf_le _) (by decide)
theorem cableDiscovery (port : Nat) : Statement (.cableDiscovery port) := of_event rfl rfl (fun _ => combOf_le _) (by decide)
theorem rampComplete (ch : Nat) : Statement (.rampComplete ch) := of_event rfl rfl (fun _ => Nat.le_refl 3) (by decide)
theorem reservationArrival (port : Nat) : Statement (.reservationArrival port) := of_event rfl rfl (fun _ => combOf_le _) (by decide)
theorem srcCapsRepeat (port : Nat) : Statement (.srcCapsRepeat port) := of_event rfl rfl (fun _ => combOf_le _) (by decide)
theorem request (port pos op max : Nat) (rev2 : Bool) : Statement (.request port pos op max rev2) := of_event rfl rfl (fun _ => combOf_le _) (by decide)
theorem sameRailPsRdy (port : Nat) : Statement (.sameRailPsRdy port) := of_event rfl rfl (fun _ => combOf_le _) (by decide)
theorem transitionStart (port : Nat) (railOk : Bool) : Statement (.transitionStart port railOk) := of_event rfl rfl (fun _ => combOf_le _) (by decide)
theorem vbusInBand (port : Nat) : Statement (.vbusInBand port) := of_event rfl rfl (fun _ => combOf_le _) (by decide)
theorem railTransition (port : Nat) (elapsed : BitVec 16) : Statement (.railTransition port elapsed) := of_event rfl rfl (fun _ => combOf_le _) (by decide)
theorem pdContract (port : Nat) : Statement (.pdContract port) := of_event rfl rfl (fun _ => combOf_le _) (by decide)
theorem transMaxExpiry (port : Nat) (elapsed : BitVec 16) : Statement (.transMaxExpiry port elapsed) := of_event rfl rfl (fun _ => combOf_le _) (by decide)
theorem settleMaxExpiry (port : Nat) (elapsed : BitVec 16) : Statement (.settleMaxExpiry port elapsed) := of_event rfl rfl (fun _ => combOf_le _) (by decide)
theorem hardResetReceived (port : Nat) : Statement (.hardResetReceived port) := of_event rfl rfl (fun _ => combOf_le _) (by decide)
theorem hardResetRestore (port : Nat) : Statement (.hardResetRestore port) := of_event rfl rfl (fun _ => combOf_le _) (by decide)
theorem softReset (port : Nat) : Statement (.softReset port) := of_event rfl rfl (fun _ => combOf_le _) (by decide)
theorem getSourceCap (port : Nat) : Statement (.getSourceCap port) := of_event rfl rfl (fun _ => combOf_le _) (by decide)
theorem getRevision (port : Nat) : Statement (.getRevision port) := of_event rfl rfl (fun _ => combOf_le _) (by decide)
theorem swapRequest (port : Nat) (k : Swap) : Statement (.swapRequest port k) := of_event rfl rfl (fun _ => combOf_le _) (by decide)
theorem unsupportedMessage (port : Nat) (k : OtherMessage) : Statement (.unsupportedMessage port k) := of_event rfl rfl (fun _ => combOf_le _) (by decide)
theorem bist (port : Nat) (carrier : Bool) : Statement (.bist port carrier) := of_event rfl rfl (fun _ => combOf_le _) (by decide)
theorem requestTimeout (port : Nat) : Statement (.requestTimeout port) := of_event rfl rfl (fun _ => combOf_le _) (by decide)
theorem vdmReceived (port sop : Nat) (objects : List Word) : Statement (.vdmReceived port sop objects) := of_event rfl rfl (fun _ => combOf_le _) (by decide)
theorem vdmResponseTimeout (port : Nat) : Statement (.vdmResponseTimeout port) := of_event rfl rfl (fun _ => combOf_le _) (by decide)
theorem vdmSendDone (port : Nat) (ok : Bool) : Statement (.vdmSendDone port ok) := of_event rfl rfl (fun _ => combOf_le _) (by decide)
theorem sbuSwitchClose (port : Nat) : Statement (.sbuSwitchClose port) := of_event rfl rfl (fun _ => combOf_le _) (by decide)
theorem sbuOvervoltage (port : Nat) (mv : BitVec 16) : Statement (.sbuOvervoltage port mv) := of_event rfl rfl (fun _ => combOf_le _) (by decide)
theorem hardShort (ch : Nat) (ma mv : BitVec 16) : Statement (.hardShort ch ma mv) := of_event rfl rfl (fun _ => Nat.le_refl 3) (by decide)
theorem currentLimitReached (ch : Nat) : Statement (.currentLimitReached ch) := of_event rfl rfl (fun _ => Nat.le_refl 3) (by decide)
theorem overloadTimeout (ch : Nat) (ma mv : BitVec 16) : Statement (.overloadTimeout ch ma mv) := of_event rfl rfl (fun _ => Nat.le_refl 3) (by decide)
theorem overTemperature (ch : Nat) (ma mv : BitVec 16) : Statement (.overTemperature ch ma mv) := of_event rfl rfl (fun _ => Nat.le_refl 3) (by decide)
theorem rampFault (ch : Nat) (ma mv : BitVec 16) : Statement (.rampFault ch ma mv) := of_event rfl rfl (fun _ => Nat.le_refl 3) (by decide)
theorem retryDelayExpiry (ch : Nat) : Statement (.retryDelayExpiry ch) := of_event rfl rfl (fun _ => Nat.le_refl 3) (by decide)
theorem gateCheckTimeout (ch : Nat) (mv : BitVec 16) : Statement (.gateCheckTimeout ch mv) := of_event rfl rfl (fun _ => Nat.le_refl 3) (by decide)
theorem dischargeEnd (ch : Nat) : Statement (.dischargeEnd ch) := of_event rfl rfl (fun _ => Nat.le_refl 3) (by decide)
theorem offCheckTimeout (ch : Nat) (mv : BitVec 16) : Statement (.offCheckTimeout ch mv) := of_event rfl rfl (fun _ => Nat.le_refl 3) (by decide)
theorem backdrive (ch : Nat) (ms : BitVec 16) : Statement (.backdrive ch ms) := of_event rfl rfl (fun _ => Nat.le_refl 3) (by decide)
theorem legLeak (ch : Nat) (suspect : Byte) (mv : BitVec 16) : Statement (.legLeak ch suspect mv) := of_event rfl rfl (fun _ => Nat.le_refl 3) (by decide)
theorem railLow (rail : Nat) : Statement (.railLow rail) := of_event rfl rfl (fun _ => Nat.le_refl 3) (by decide)
theorem railHigh (rail : Nat) : Statement (.railHigh rail) := of_event rfl rfl (fun _ => Nat.le_refl 3) (by decide)
theorem railBackInBand (rail : Nat) : Statement (.railBackInBand rail) := of_event rfl rfl (fun _ => Nat.le_refl 3) (by decide)
theorem chargerStart : Statement .chargerStart := of_other rfl rfl
theorem chargerStop : Statement .chargerStop := of_other rfl rfl
theorem chargerFault (overvoltage : Bool) : Statement (.chargerFault overvoltage) := of_event rfl rfl (fun _ => Nat.le_refl 3) (by decide)
theorem cellBleed (cell : Nat) (on : Bool) : Statement (.cellBleed cell on) := of_other rfl rfl
theorem refillWake : Statement .refillWake := of_other rfl rfl
theorem cellSumMismatch (storeTop : Bool) (mv : BitVec 16) : Statement (.cellSumMismatch storeTop mv) := of_event rfl rfl (fun _ => Nat.le_refl 3) (by decide)
theorem cellDeviation (tap : Nat) : Statement (.cellDeviation tap) := of_event rfl rfl (fun _ => Nat.le_refl 3) (by decide)
theorem tapTest (tap : Nat) (mv : BitVec 16) : Statement (.tapTest tap mv) := of_event rfl rfl (fun _ => Nat.le_refl 3) (by decide)
theorem holdCell (cell signature : Nat) : Statement (.holdCell cell signature) := of_event rfl rfl (fun _ => Nat.le_refl 3) (by decide)
theorem capacitanceEstimate (cell dropMv : Nat) : Statement (.capacitanceEstimate cell dropMv) := of_event rfl rfl (fun _ => Nat.le_refl 3) (by decide)
theorem energyThreshold (below : Bool) (energy : BitVec 16) : Statement (.energyThreshold below energy) := of_event rfl rfl (fun _ => Nat.le_refl 3) (by decide)
theorem transferStart (seg : Nat) (sdaLow : Bool) : Statement (.transferStart seg sdaLow) := of_segment rfl rfl
theorem transferComplete (seg : Nat) (e : BusEnd) : Statement (.transferComplete seg e) := of_segment rfl rfl
theorem arbitrationLost (seg : Nat) : Statement (.arbitrationLost seg) := of_segment rfl rfl
theorem stretchTimeout (seg : Nat) (us : Word) : Statement (.stretchTimeout seg us) := of_segment rfl rfl
theorem stretchInsideByte (seg : Nat) : Statement (.stretchInsideByte seg) := of_segment rfl rfl
theorem stretchHoldTimeout (seg : Nat) : Statement (.stretchHoldTimeout seg) := of_segment rfl rfl
theorem inBandRequest (seg : Nat) (released : Bool) : Statement (.inBandRequest seg released) := of_segment rfl rfl
theorem twAttn (seg : Nat) (status : Nat) (bytes : List Byte) : Statement (.twAttn seg status bytes) := of_segment rfl rfl
theorem mailboxWrite (seg : Nat) (bytes : List Byte) : Statement (.mailboxWrite seg bytes) := of_segment rfl rfl
theorem mailboxOverflow (seg : Nat) : Statement (.mailboxOverflow seg) := of_segment rfl rfl
theorem recoveryPulses (seg : Nat) (pulses : Nat) (released : Bool) : Statement (.recoveryPulses seg pulses released) := of_segment rfl rfl
theorem powerLinkOffExpiry (seg : Nat) : Statement (.powerLinkOffExpiry seg) := of_segment rfl rfl
theorem powerLinkSettle (seg : Nat) : Statement (.powerLinkSettle seg) := of_segment rfl rfl
theorem recoverBusFreeWait (seg : Nat) (sdaHigh : Bool) : Statement (.recoverBusFreeWait seg sdaHigh) := of_segment rfl rfl
theorem foragerCycleStart : Statement .foragerCycleStart := of_other rfl rfl
theorem foragerSlice (r : SliceResult) : Statement (.foragerSlice r) := of_other rfl rfl
theorem cfgEraseDone : Statement .cfgEraseDone := of_other rfl rfl
theorem cfgTrailerReadback (ok : Bool) : Statement (.cfgTrailerReadback ok) := of_other rfl rfl
theorem cfgSessionEnd : Statement .cfgSessionEnd := of_other rfl rfl
theorem porAssert : Statement .porAssert := of_other rfl rfl
theorem retentionLoss : Statement .retentionLoss := of_other rfl rfl
theorem regulationEnd (ch : Nat) : Statement (.regulationEnd ch) := of_event rfl rfl (fun _ => Nat.le_refl 3) (by decide)
theorem gateCheckPass (ch : Nat) : Statement (.gateCheckPass ch) := of_event rfl rfl (fun _ => Nat.le_refl 3) (by decide)
theorem goodcrcReceived (port : Nat) : Statement (.goodcrcReceived port) := of_event rfl rfl (fun _ => combOf_le _) (by decide)
theorem softResetAccepted (port : Nat) : Statement (.softResetAccepted port) := of_event rfl rfl (fun _ => combOf_le _) (by decide)
theorem downstreamConnectChange (port : Nat) (connected superSpeed : Bool) : Statement (.downstreamConnectChange port connected superSpeed) := of_event rfl rfl (fun _ => combOf_le _) (by decide)
theorem hubControlRequest (ss : Bool) (r : HubRequest) : Statement (.hubControlRequest ss r) := of_other rfl rfl
theorem testComplete (passed : Bool) (item : Word) : Statement (.testComplete passed item) := of_other rfl rfl
theorem portSuspendComplete (port : Nat) : Statement (.portSuspendComplete port) := of_event rfl rfl (fun _ => combOf_le _) (by decide)
theorem sbuSwitchOpen (port : Nat) : Statement (.sbuSwitchOpen port) := of_event rfl rfl (fun _ => combOf_le _) (by decide)
theorem vio33Low : Statement .vio33Low := of_other rfl rfl
theorem vio33Restored : Statement .vio33Restored := of_other rfl rfl

end Sys2Proof.Laws.Shape
end

