-- ==== Sys2Proof/Laws/State.lean ====
section
/-! SUPPORT. What each update of the state does to each field and each accessor: nothing, but for its own. Laws of the banks of ports, channels, segments, dies and links. -/

namespace Sys2Proof.Machine

variable (s : State)

/-! Updates of one part. -/

@[simp] theorem State.onLed_pending (f : Ledger → Ledger) : (s.onLed f).pending = s.pending := rfl
@[simp] theorem State.onLed_free (f : Ledger → Ledger) : (s.onLed f).free = s.free := rfl
@[simp] theorem State.onLed_mode (f : Ledger → Ledger) : (s.onLed f).mode = s.mode := rfl
@[simp] theorem State.onLed_phase (f : Ledger → Ledger) : (s.onLed f).phase = s.phase := rfl
@[simp] theorem State.onLed_ember (f : Ledger → Ledger) : (s.onLed f).ember = s.ember := rfl
@[simp] theorem State.onLed_ident (f : Ledger → Ledger) : (s.onLed f).ident = s.ident := rfl
@[simp] theorem State.onLed_led (f : Ledger → Ledger) : (s.onLed f).led = f s.led := rfl
@[simp] theorem State.onLed_io (f : Ledger → Ledger) : (s.onLed f).io = s.io := rfl
@[simp] theorem State.onLed_prm (f : Ledger → Ledger) : (s.onLed f).prm = s.prm := rfl
@[simp] theorem State.onLed_cfg (f : Ledger → Ledger) : (s.onLed f).cfg = s.cfg := rfl
@[simp] theorem State.onLed_trig (f : Ledger → Ledger) : (s.onLed f).trig = s.trig := rfl
@[simp] theorem State.onLed_ops (f : Ledger → Ledger) : (s.onLed f).ops = s.ops := rfl
@[simp] theorem State.onLed_spine (f : Ledger → Ledger) : (s.onLed f).spine = s.spine := rfl
@[simp] theorem State.onLed_ports (f : Ledger → Ledger) : (s.onLed f).ports = s.ports := rfl
@[simp] theorem State.onLed_tts (f : Ledger → Ledger) : (s.onLed f).tts = s.tts := rfl
@[simp] theorem State.onLed_chans (f : Ledger → Ledger) : (s.onLed f).chans = s.chans := rfl
@[simp] theorem State.onLed_rails (f : Ledger → Ledger) : (s.onLed f).rails = s.rails := rfl
@[simp] theorem State.onLed_store (f : Ledger → Ledger) : (s.onLed f).store = s.store := rfl
@[simp] theorem State.onLed_segs (f : Ledger → Ledger) : (s.onLed f).segs = s.segs := rfl
@[simp] theorem State.onLed_forager (f : Ledger → Ledger) : (s.onLed f).forager = s.forager := rfl
@[simp] theorem State.onLed_pw (f : Ledger → Ledger) : (s.onLed f).pw = s.pw := rfl
@[simp] theorem State.onLed_hub (f : Ledger → Ledger) : (s.onLed f).hub = s.hub := rfl
@[simp] theorem State.onLed_seen (f : Ledger → Ledger) : (s.onLed f).seen = s.seen := rfl
@[simp] theorem State.onLed_flash (f : Ledger → Ledger) : (s.onLed f).flash = s.flash := rfl
@[simp] theorem State.onLed_port (f : Ledger → Ledger) (k : Nat) : (s.onLed f).port k = s.port k := rfl
@[simp] theorem State.onLed_chan (f : Ledger → Ledger) (k : Nat) : (s.onLed f).chan k = s.chan k := rfl
@[simp] theorem State.onLed_tt (f : Ledger → Ledger) (k : Nat) : (s.onLed f).tt k = s.tt k := rfl
@[simp] theorem State.onLed_seg (f : Ledger → Ledger) (k : Nat) : (s.onLed f).seg k = s.seg k := rfl
@[simp] theorem State.onLed_die (f : Ledger → Ledger) (k : Nat) : (s.onLed f).die k = s.die k := rfl
@[simp] theorem State.onLed_link (f : Ledger → Ledger) (k : Nat) : (s.onLed f).link k = s.link k := rfl
@[simp] theorem State.onLed_value (f : Ledger → Ledger) (q : Param) (j : Nat) : (s.onLed f).value q j = s.value q j := rfl
@[simp] theorem State.onLed_nat (f : Ledger → Ledger) (q : Param) (j : Nat) : (s.onLed f).nat q j = s.nat q j := rfl

@[simp] theorem State.onEmber_pending (f : Ember → Ember) : (s.onEmber f).pending = s.pending := rfl
@[simp] theorem State.onEmber_free (f : Ember → Ember) : (s.onEmber f).free = s.free := rfl
@[simp] theorem State.onEmber_mode (f : Ember → Ember) : (s.onEmber f).mode = s.mode := rfl
@[simp] theorem State.onEmber_phase (f : Ember → Ember) : (s.onEmber f).phase = s.phase := rfl
@[simp] theorem State.onEmber_ember (f : Ember → Ember) : (s.onEmber f).ember = f s.ember := rfl
@[simp] theorem State.onEmber_ident (f : Ember → Ember) : (s.onEmber f).ident = s.ident := rfl
@[simp] theorem State.onEmber_led (f : Ember → Ember) : (s.onEmber f).led = s.led := rfl
@[simp] theorem State.onEmber_io (f : Ember → Ember) : (s.onEmber f).io = s.io := rfl
@[simp] theorem State.onEmber_prm (f : Ember → Ember) : (s.onEmber f).prm = s.prm := rfl
@[simp] theorem State.onEmber_cfg (f : Ember → Ember) : (s.onEmber f).cfg = s.cfg := rfl
@[simp] theorem State.onEmber_trig (f : Ember → Ember) : (s.onEmber f).trig = s.trig := rfl
@[simp] theorem State.onEmber_ops (f : Ember → Ember) : (s.onEmber f).ops = s.ops := rfl
@[simp] theorem State.onEmber_spine (f : Ember → Ember) : (s.onEmber f).spine = s.spine := rfl
@[simp] theorem State.onEmber_ports (f : Ember → Ember) : (s.onEmber f).ports = s.ports := rfl
@[simp] theorem State.onEmber_tts (f : Ember → Ember) : (s.onEmber f).tts = s.tts := rfl
@[simp] theorem State.onEmber_chans (f : Ember → Ember) : (s.onEmber f).chans = s.chans := rfl
@[simp] theorem State.onEmber_rails (f : Ember → Ember) : (s.onEmber f).rails = s.rails := rfl
@[simp] theorem State.onEmber_store (f : Ember → Ember) : (s.onEmber f).store = s.store := rfl
@[simp] theorem State.onEmber_segs (f : Ember → Ember) : (s.onEmber f).segs = s.segs := rfl
@[simp] theorem State.onEmber_forager (f : Ember → Ember) : (s.onEmber f).forager = s.forager := rfl
@[simp] theorem State.onEmber_pw (f : Ember → Ember) : (s.onEmber f).pw = s.pw := rfl
@[simp] theorem State.onEmber_hub (f : Ember → Ember) : (s.onEmber f).hub = s.hub := rfl
@[simp] theorem State.onEmber_seen (f : Ember → Ember) : (s.onEmber f).seen = s.seen := rfl
@[simp] theorem State.onEmber_flash (f : Ember → Ember) : (s.onEmber f).flash = s.flash := rfl
@[simp] theorem State.onEmber_port (f : Ember → Ember) (k : Nat) : (s.onEmber f).port k = s.port k := rfl
@[simp] theorem State.onEmber_chan (f : Ember → Ember) (k : Nat) : (s.onEmber f).chan k = s.chan k := rfl
@[simp] theorem State.onEmber_tt (f : Ember → Ember) (k : Nat) : (s.onEmber f).tt k = s.tt k := rfl
@[simp] theorem State.onEmber_seg (f : Ember → Ember) (k : Nat) : (s.onEmber f).seg k = s.seg k := rfl
@[simp] theorem State.onEmber_die (f : Ember → Ember) (k : Nat) : (s.onEmber f).die k = s.die k := rfl
@[simp] theorem State.onEmber_link (f : Ember → Ember) (k : Nat) : (s.onEmber f).link k = s.link k := rfl
@[simp] theorem State.onEmber_value (f : Ember → Ember) (q : Param) (j : Nat) : (s.onEmber f).value q j = s.value q j := rfl
@[simp] theorem State.onEmber_nat (f : Ember → Ember) (q : Param) (j : Nat) : (s.onEmber f).nat q j = s.nat q j := rfl

@[simp] theorem State.onIo_pending (f : Transports → Transports) : (s.onIo f).pending = s.pending := rfl
@[simp] theorem State.onIo_free (f : Transports → Transports) : (s.onIo f).free = s.free := rfl
@[simp] theorem State.onIo_mode (f : Transports → Transports) : (s.onIo f).mode = s.mode := rfl
@[simp] theorem State.onIo_phase (f : Transports → Transports) : (s.onIo f).phase = s.phase := rfl
@[simp] theorem State.onIo_ember (f : Transports → Transports) : (s.onIo f).ember = s.ember := rfl
@[simp] theorem State.onIo_ident (f : Transports → Transports) : (s.onIo f).ident = s.ident := rfl
@[simp] theorem State.onIo_led (f : Transports → Transports) : (s.onIo f).led = s.led := rfl
@[simp] theorem State.onIo_io (f : Transports → Transports) : (s.onIo f).io = f s.io := rfl
@[simp] theorem State.onIo_prm (f : Transports → Transports) : (s.onIo f).prm = s.prm := rfl
@[simp] theorem State.onIo_cfg (f : Transports → Transports) : (s.onIo f).cfg = s.cfg := rfl
@[simp] theorem State.onIo_trig (f : Transports → Transports) : (s.onIo f).trig = s.trig := rfl
@[simp] theorem State.onIo_ops (f : Transports → Transports) : (s.onIo f).ops = s.ops := rfl
@[simp] theorem State.onIo_spine (f : Transports → Transports) : (s.onIo f).spine = s.spine := rfl
@[simp] theorem State.onIo_ports (f : Transports → Transports) : (s.onIo f).ports = s.ports := rfl
@[simp] theorem State.onIo_tts (f : Transports → Transports) : (s.onIo f).tts = s.tts := rfl
@[simp] theorem State.onIo_chans (f : Transports → Transports) : (s.onIo f).chans = s.chans := rfl
@[simp] theorem State.onIo_rails (f : Transports → Transports) : (s.onIo f).rails = s.rails := rfl
@[simp] theorem State.onIo_store (f : Transports → Transports) : (s.onIo f).store = s.store := rfl
@[simp] theorem State.onIo_segs (f : Transports → Transports) : (s.onIo f).segs = s.segs := rfl
@[simp] theorem State.onIo_forager (f : Transports → Transports) : (s.onIo f).forager = s.forager := rfl
@[simp] theorem State.onIo_pw (f : Transports → Transports) : (s.onIo f).pw = s.pw := rfl
@[simp] theorem State.onIo_hub (f : Transports → Transports) : (s.onIo f).hub = s.hub := rfl
@[simp] theorem State.onIo_seen (f : Transports → Transports) : (s.onIo f).seen = s.seen := rfl
@[simp] theorem State.onIo_flash (f : Transports → Transports) : (s.onIo f).flash = s.flash := rfl
@[simp] theorem State.onIo_port (f : Transports → Transports) (k : Nat) : (s.onIo f).port k = s.port k := rfl
@[simp] theorem State.onIo_chan (f : Transports → Transports) (k : Nat) : (s.onIo f).chan k = s.chan k := rfl
@[simp] theorem State.onIo_tt (f : Transports → Transports) (k : Nat) : (s.onIo f).tt k = s.tt k := rfl
@[simp] theorem State.onIo_seg (f : Transports → Transports) (k : Nat) : (s.onIo f).seg k = s.seg k := rfl
@[simp] theorem State.onIo_die (f : Transports → Transports) (k : Nat) : (s.onIo f).die k = s.die k := rfl
@[simp] theorem State.onIo_link (f : Transports → Transports) (k : Nat) : (s.onIo f).link k = s.link k := rfl
@[simp] theorem State.onIo_value (f : Transports → Transports) (q : Param) (j : Nat) : (s.onIo f).value q j = s.value q j := rfl
@[simp] theorem State.onIo_nat (f : Transports → Transports) (q : Param) (j : Nat) : (s.onIo f).nat q j = s.nat q j := rfl

@[simp] theorem State.onPw_pending (f : Power → Power) : (s.onPw f).pending = s.pending := rfl
@[simp] theorem State.onPw_free (f : Power → Power) : (s.onPw f).free = s.free := rfl
@[simp] theorem State.onPw_mode (f : Power → Power) : (s.onPw f).mode = s.mode := rfl
@[simp] theorem State.onPw_phase (f : Power → Power) : (s.onPw f).phase = s.phase := rfl
@[simp] theorem State.onPw_ember (f : Power → Power) : (s.onPw f).ember = s.ember := rfl
@[simp] theorem State.onPw_ident (f : Power → Power) : (s.onPw f).ident = s.ident := rfl
@[simp] theorem State.onPw_led (f : Power → Power) : (s.onPw f).led = s.led := rfl
@[simp] theorem State.onPw_io (f : Power → Power) : (s.onPw f).io = s.io := rfl
@[simp] theorem State.onPw_prm (f : Power → Power) : (s.onPw f).prm = s.prm := rfl
@[simp] theorem State.onPw_cfg (f : Power → Power) : (s.onPw f).cfg = s.cfg := rfl
@[simp] theorem State.onPw_trig (f : Power → Power) : (s.onPw f).trig = s.trig := rfl
@[simp] theorem State.onPw_ops (f : Power → Power) : (s.onPw f).ops = s.ops := rfl
@[simp] theorem State.onPw_spine (f : Power → Power) : (s.onPw f).spine = s.spine := rfl
@[simp] theorem State.onPw_ports (f : Power → Power) : (s.onPw f).ports = s.ports := rfl
@[simp] theorem State.onPw_tts (f : Power → Power) : (s.onPw f).tts = s.tts := rfl
@[simp] theorem State.onPw_chans (f : Power → Power) : (s.onPw f).chans = s.chans := rfl
@[simp] theorem State.onPw_rails (f : Power → Power) : (s.onPw f).rails = s.rails := rfl
@[simp] theorem State.onPw_store (f : Power → Power) : (s.onPw f).store = s.store := rfl
@[simp] theorem State.onPw_segs (f : Power → Power) : (s.onPw f).segs = s.segs := rfl
@[simp] theorem State.onPw_forager (f : Power → Power) : (s.onPw f).forager = s.forager := rfl
@[simp] theorem State.onPw_pw (f : Power → Power) : (s.onPw f).pw = f s.pw := rfl
@[simp] theorem State.onPw_hub (f : Power → Power) : (s.onPw f).hub = s.hub := rfl
@[simp] theorem State.onPw_seen (f : Power → Power) : (s.onPw f).seen = s.seen := rfl
@[simp] theorem State.onPw_flash (f : Power → Power) : (s.onPw f).flash = s.flash := rfl
@[simp] theorem State.onPw_port (f : Power → Power) (k : Nat) : (s.onPw f).port k = s.port k := rfl
@[simp] theorem State.onPw_chan (f : Power → Power) (k : Nat) : (s.onPw f).chan k = s.chan k := rfl
@[simp] theorem State.onPw_tt (f : Power → Power) (k : Nat) : (s.onPw f).tt k = s.tt k := rfl
@[simp] theorem State.onPw_seg (f : Power → Power) (k : Nat) : (s.onPw f).seg k = s.seg k := rfl
@[simp] theorem State.onPw_die (f : Power → Power) (k : Nat) : (s.onPw f).die k = s.die k := rfl
@[simp] theorem State.onPw_link (f : Power → Power) (k : Nat) : (s.onPw f).link k = s.link k := rfl
@[simp] theorem State.onPw_value (f : Power → Power) (q : Param) (j : Nat) : (s.onPw f).value q j = s.value q j := rfl
@[simp] theorem State.onPw_nat (f : Power → Power) (q : Param) (j : Nat) : (s.onPw f).nat q j = s.nat q j := rfl

@[simp] theorem State.onHub_pending (f : Hub → Hub) : (s.onHub f).pending = s.pending := rfl
@[simp] theorem State.onHub_free (f : Hub → Hub) : (s.onHub f).free = s.free := rfl
@[simp] theorem State.onHub_mode (f : Hub → Hub) : (s.onHub f).mode = s.mode := rfl
@[simp] theorem State.onHub_phase (f : Hub → Hub) : (s.onHub f).phase = s.phase := rfl
@[simp] theorem State.onHub_ember (f : Hub → Hub) : (s.onHub f).ember = s.ember := rfl
@[simp] theorem State.onHub_ident (f : Hub → Hub) : (s.onHub f).ident = s.ident := rfl
@[simp] theorem State.onHub_led (f : Hub → Hub) : (s.onHub f).led = s.led := rfl
@[simp] theorem State.onHub_io (f : Hub → Hub) : (s.onHub f).io = s.io := rfl
@[simp] theorem State.onHub_prm (f : Hub → Hub) : (s.onHub f).prm = s.prm := rfl
@[simp] theorem State.onHub_cfg (f : Hub → Hub) : (s.onHub f).cfg = s.cfg := rfl
@[simp] theorem State.onHub_trig (f : Hub → Hub) : (s.onHub f).trig = s.trig := rfl
@[simp] theorem State.onHub_ops (f : Hub → Hub) : (s.onHub f).ops = s.ops := rfl
@[simp] theorem State.onHub_spine (f : Hub → Hub) : (s.onHub f).spine = s.spine := rfl
@[simp] theorem State.onHub_ports (f : Hub → Hub) : (s.onHub f).ports = s.ports := rfl
@[simp] theorem State.onHub_tts (f : Hub → Hub) : (s.onHub f).tts = s.tts := rfl
@[simp] theorem State.onHub_chans (f : Hub → Hub) : (s.onHub f).chans = s.chans := rfl
@[simp] theorem State.onHub_rails (f : Hub → Hub) : (s.onHub f).rails = s.rails := rfl
@[simp] theorem State.onHub_store (f : Hub → Hub) : (s.onHub f).store = s.store := rfl
@[simp] theorem State.onHub_segs (f : Hub → Hub) : (s.onHub f).segs = s.segs := rfl
@[simp] theorem State.onHub_forager (f : Hub → Hub) : (s.onHub f).forager = s.forager := rfl
@[simp] theorem State.onHub_pw (f : Hub → Hub) : (s.onHub f).pw = s.pw := rfl
@[simp] theorem State.onHub_hub (f : Hub → Hub) : (s.onHub f).hub = f s.hub := rfl
@[simp] theorem State.onHub_seen (f : Hub → Hub) : (s.onHub f).seen = s.seen := rfl
@[simp] theorem State.onHub_flash (f : Hub → Hub) : (s.onHub f).flash = s.flash := rfl
@[simp] theorem State.onHub_port (f : Hub → Hub) (k : Nat) : (s.onHub f).port k = s.port k := rfl
@[simp] theorem State.onHub_chan (f : Hub → Hub) (k : Nat) : (s.onHub f).chan k = s.chan k := rfl
@[simp] theorem State.onHub_tt (f : Hub → Hub) (k : Nat) : (s.onHub f).tt k = s.tt k := rfl
@[simp] theorem State.onHub_seg (f : Hub → Hub) (k : Nat) : (s.onHub f).seg k = s.seg k := rfl
@[simp] theorem State.onHub_die (f : Hub → Hub) (k : Nat) : (s.onHub f).die k = s.die k := rfl
@[simp] theorem State.onHub_link (f : Hub → Hub) (k : Nat) : (s.onHub f).link k = s.link k := rfl
@[simp] theorem State.onHub_value (f : Hub → Hub) (q : Param) (j : Nat) : (s.onHub f).value q j = s.value q j := rfl
@[simp] theorem State.onHub_nat (f : Hub → Hub) (q : Param) (j : Nat) : (s.onHub f).nat q j = s.nat q j := rfl

@[simp] theorem State.onStore_pending (f : Store → Store) : (s.onStore f).pending = s.pending := rfl
@[simp] theorem State.onStore_free (f : Store → Store) : (s.onStore f).free = s.free := rfl
@[simp] theorem State.onStore_mode (f : Store → Store) : (s.onStore f).mode = s.mode := rfl
@[simp] theorem State.onStore_phase (f : Store → Store) : (s.onStore f).phase = s.phase := rfl
@[simp] theorem State.onStore_ember (f : Store → Store) : (s.onStore f).ember = s.ember := rfl
@[simp] theorem State.onStore_ident (f : Store → Store) : (s.onStore f).ident = s.ident := rfl
@[simp] theorem State.onStore_led (f : Store → Store) : (s.onStore f).led = s.led := rfl
@[simp] theorem State.onStore_io (f : Store → Store) : (s.onStore f).io = s.io := rfl
@[simp] theorem State.onStore_prm (f : Store → Store) : (s.onStore f).prm = s.prm := rfl
@[simp] theorem State.onStore_cfg (f : Store → Store) : (s.onStore f).cfg = s.cfg := rfl
@[simp] theorem State.onStore_trig (f : Store → Store) : (s.onStore f).trig = s.trig := rfl
@[simp] theorem State.onStore_ops (f : Store → Store) : (s.onStore f).ops = s.ops := rfl
@[simp] theorem State.onStore_spine (f : Store → Store) : (s.onStore f).spine = s.spine := rfl
@[simp] theorem State.onStore_ports (f : Store → Store) : (s.onStore f).ports = s.ports := rfl
@[simp] theorem State.onStore_tts (f : Store → Store) : (s.onStore f).tts = s.tts := rfl
@[simp] theorem State.onStore_chans (f : Store → Store) : (s.onStore f).chans = s.chans := rfl
@[simp] theorem State.onStore_rails (f : Store → Store) : (s.onStore f).rails = s.rails := rfl
@[simp] theorem State.onStore_store (f : Store → Store) : (s.onStore f).store = f s.store := rfl
@[simp] theorem State.onStore_segs (f : Store → Store) : (s.onStore f).segs = s.segs := rfl
@[simp] theorem State.onStore_forager (f : Store → Store) : (s.onStore f).forager = s.forager := rfl
@[simp] theorem State.onStore_pw (f : Store → Store) : (s.onStore f).pw = s.pw := rfl
@[simp] theorem State.onStore_hub (f : Store → Store) : (s.onStore f).hub = s.hub := rfl
@[simp] theorem State.onStore_seen (f : Store → Store) : (s.onStore f).seen = s.seen := rfl
@[simp] theorem State.onStore_flash (f : Store → Store) : (s.onStore f).flash = s.flash := rfl
@[simp] theorem State.onStore_port (f : Store → Store) (k : Nat) : (s.onStore f).port k = s.port k := rfl
@[simp] theorem State.onStore_chan (f : Store → Store) (k : Nat) : (s.onStore f).chan k = s.chan k := rfl
@[simp] theorem State.onStore_tt (f : Store → Store) (k : Nat) : (s.onStore f).tt k = s.tt k := rfl
@[simp] theorem State.onStore_seg (f : Store → Store) (k : Nat) : (s.onStore f).seg k = s.seg k := rfl
@[simp] theorem State.onStore_die (f : Store → Store) (k : Nat) : (s.onStore f).die k = s.die k := rfl
@[simp] theorem State.onStore_link (f : Store → Store) (k : Nat) : (s.onStore f).link k = s.link k := rfl
@[simp] theorem State.onStore_value (f : Store → Store) (q : Param) (j : Nat) : (s.onStore f).value q j = s.value q j := rfl
@[simp] theorem State.onStore_nat (f : Store → Store) (q : Param) (j : Nat) : (s.onStore f).nat q j = s.nat q j := rfl

@[simp] theorem State.onForager_pending (f : Forager → Forager) : (s.onForager f).pending = s.pending := rfl
@[simp] theorem State.onForager_free (f : Forager → Forager) : (s.onForager f).free = s.free := rfl
@[simp] theorem State.onForager_mode (f : Forager → Forager) : (s.onForager f).mode = s.mode := rfl
@[simp] theorem State.onForager_phase (f : Forager → Forager) : (s.onForager f).phase = s.phase := rfl
@[simp] theorem State.onForager_ember (f : Forager → Forager) : (s.onForager f).ember = s.ember := rfl
@[simp] theorem State.onForager_ident (f : Forager → Forager) : (s.onForager f).ident = s.ident := rfl
@[simp] theorem State.onForager_led (f : Forager → Forager) : (s.onForager f).led = s.led := rfl
@[simp] theorem State.onForager_io (f : Forager → Forager) : (s.onForager f).io = s.io := rfl
@[simp] theorem State.onForager_prm (f : Forager → Forager) : (s.onForager f).prm = s.prm := rfl
@[simp] theorem State.onForager_cfg (f : Forager → Forager) : (s.onForager f).cfg = s.cfg := rfl
@[simp] theorem State.onForager_trig (f : Forager → Forager) : (s.onForager f).trig = s.trig := rfl
@[simp] theorem State.onForager_ops (f : Forager → Forager) : (s.onForager f).ops = s.ops := rfl
@[simp] theorem State.onForager_spine (f : Forager → Forager) : (s.onForager f).spine = s.spine := rfl
@[simp] theorem State.onForager_ports (f : Forager → Forager) : (s.onForager f).ports = s.ports := rfl
@[simp] theorem State.onForager_tts (f : Forager → Forager) : (s.onForager f).tts = s.tts := rfl
@[simp] theorem State.onForager_chans (f : Forager → Forager) : (s.onForager f).chans = s.chans := rfl
@[simp] theorem State.onForager_rails (f : Forager → Forager) : (s.onForager f).rails = s.rails := rfl
@[simp] theorem State.onForager_store (f : Forager → Forager) : (s.onForager f).store = s.store := rfl
@[simp] theorem State.onForager_segs (f : Forager → Forager) : (s.onForager f).segs = s.segs := rfl
@[simp] theorem State.onForager_forager (f : Forager → Forager) : (s.onForager f).forager = f s.forager := rfl
@[simp] theorem State.onForager_pw (f : Forager → Forager) : (s.onForager f).pw = s.pw := rfl
@[simp] theorem State.onForager_hub (f : Forager → Forager) : (s.onForager f).hub = s.hub := rfl
@[simp] theorem State.onForager_seen (f : Forager → Forager) : (s.onForager f).seen = s.seen := rfl
@[simp] theorem State.onForager_flash (f : Forager → Forager) : (s.onForager f).flash = s.flash := rfl
@[simp] theorem State.onForager_port (f : Forager → Forager) (k : Nat) : (s.onForager f).port k = s.port k := rfl
@[simp] theorem State.onForager_chan (f : Forager → Forager) (k : Nat) : (s.onForager f).chan k = s.chan k := rfl
@[simp] theorem State.onForager_tt (f : Forager → Forager) (k : Nat) : (s.onForager f).tt k = s.tt k := rfl
@[simp] theorem State.onForager_seg (f : Forager → Forager) (k : Nat) : (s.onForager f).seg k = s.seg k := rfl
@[simp] theorem State.onForager_die (f : Forager → Forager) (k : Nat) : (s.onForager f).die k = s.die k := rfl
@[simp] theorem State.onForager_link (f : Forager → Forager) (k : Nat) : (s.onForager f).link k = s.link k := rfl
@[simp] theorem State.onForager_value (f : Forager → Forager) (q : Param) (j : Nat) : (s.onForager f).value q j = s.value q j := rfl
@[simp] theorem State.onForager_nat (f : Forager → Forager) (q : Param) (j : Nat) : (s.onForager f).nat q j = s.nat q j := rfl

@[simp] theorem State.onCfg_pending (f : Cfg → Cfg) : (s.onCfg f).pending = s.pending := rfl
@[simp] theorem State.onCfg_free (f : Cfg → Cfg) : (s.onCfg f).free = s.free := rfl
@[simp] theorem State.onCfg_mode (f : Cfg → Cfg) : (s.onCfg f).mode = s.mode := rfl
@[simp] theorem State.onCfg_phase (f : Cfg → Cfg) : (s.onCfg f).phase = s.phase := rfl
@[simp] theorem State.onCfg_ember (f : Cfg → Cfg) : (s.onCfg f).ember = s.ember := rfl
@[simp] theorem State.onCfg_ident (f : Cfg → Cfg) : (s.onCfg f).ident = s.ident := rfl
@[simp] theorem State.onCfg_led (f : Cfg → Cfg) : (s.onCfg f).led = s.led := rfl
@[simp] theorem State.onCfg_io (f : Cfg → Cfg) : (s.onCfg f).io = s.io := rfl
@[simp] theorem State.onCfg_prm (f : Cfg → Cfg) : (s.onCfg f).prm = s.prm := rfl
@[simp] theorem State.onCfg_cfg (f : Cfg → Cfg) : (s.onCfg f).cfg = f s.cfg := rfl
@[simp] theorem State.onCfg_trig (f : Cfg → Cfg) : (s.onCfg f).trig = s.trig := rfl
@[simp] theorem State.onCfg_ops (f : Cfg → Cfg) : (s.onCfg f).ops = s.ops := rfl
@[simp] theorem State.onCfg_spine (f : Cfg → Cfg) : (s.onCfg f).spine = s.spine := rfl
@[simp] theorem State.onCfg_ports (f : Cfg → Cfg) : (s.onCfg f).ports = s.ports := rfl
@[simp] theorem State.onCfg_tts (f : Cfg → Cfg) : (s.onCfg f).tts = s.tts := rfl
@[simp] theorem State.onCfg_chans (f : Cfg → Cfg) : (s.onCfg f).chans = s.chans := rfl
@[simp] theorem State.onCfg_rails (f : Cfg → Cfg) : (s.onCfg f).rails = s.rails := rfl
@[simp] theorem State.onCfg_store (f : Cfg → Cfg) : (s.onCfg f).store = s.store := rfl
@[simp] theorem State.onCfg_segs (f : Cfg → Cfg) : (s.onCfg f).segs = s.segs := rfl
@[simp] theorem State.onCfg_forager (f : Cfg → Cfg) : (s.onCfg f).forager = s.forager := rfl
@[simp] theorem State.onCfg_pw (f : Cfg → Cfg) : (s.onCfg f).pw = s.pw := rfl
@[simp] theorem State.onCfg_hub (f : Cfg → Cfg) : (s.onCfg f).hub = s.hub := rfl
@[simp] theorem State.onCfg_seen (f : Cfg → Cfg) : (s.onCfg f).seen = s.seen := rfl
@[simp] theorem State.onCfg_flash (f : Cfg → Cfg) : (s.onCfg f).flash = s.flash := rfl
@[simp] theorem State.onCfg_port (f : Cfg → Cfg) (k : Nat) : (s.onCfg f).port k = s.port k := rfl
@[simp] theorem State.onCfg_chan (f : Cfg → Cfg) (k : Nat) : (s.onCfg f).chan k = s.chan k := rfl
@[simp] theorem State.onCfg_tt (f : Cfg → Cfg) (k : Nat) : (s.onCfg f).tt k = s.tt k := rfl
@[simp] theorem State.onCfg_seg (f : Cfg → Cfg) (k : Nat) : (s.onCfg f).seg k = s.seg k := rfl
@[simp] theorem State.onCfg_die (f : Cfg → Cfg) (k : Nat) : (s.onCfg f).die k = s.die k := rfl
@[simp] theorem State.onCfg_link (f : Cfg → Cfg) (k : Nat) : (s.onCfg f).link k = s.link k := rfl
@[simp] theorem State.onCfg_value (f : Cfg → Cfg) (q : Param) (j : Nat) : (s.onCfg f).value q j = s.value q j := rfl
@[simp] theorem State.onCfg_nat (f : Cfg → Cfg) (q : Param) (j : Nat) : (s.onCfg f).nat q j = s.nat q j := rfl

@[simp] theorem State.onSpine_pending (f : Spine → Spine) : (s.onSpine f).pending = s.pending := rfl
@[simp] theorem State.onSpine_free (f : Spine → Spine) : (s.onSpine f).free = s.free := rfl
@[simp] theorem State.onSpine_mode (f : Spine → Spine) : (s.onSpine f).mode = s.mode := rfl
@[simp] theorem State.onSpine_phase (f : Spine → Spine) : (s.onSpine f).phase = s.phase := rfl
@[simp] theorem State.onSpine_ember (f : Spine → Spine) : (s.onSpine f).ember = s.ember := rfl
@[simp] theorem State.onSpine_ident (f : Spine → Spine) : (s.onSpine f).ident = s.ident := rfl
@[simp] theorem State.onSpine_led (f : Spine → Spine) : (s.onSpine f).led = s.led := rfl
@[simp] theorem State.onSpine_io (f : Spine → Spine) : (s.onSpine f).io = s.io := rfl
@[simp] theorem State.onSpine_prm (f : Spine → Spine) : (s.onSpine f).prm = s.prm := rfl
@[simp] theorem State.onSpine_cfg (f : Spine → Spine) : (s.onSpine f).cfg = s.cfg := rfl
@[simp] theorem State.onSpine_trig (f : Spine → Spine) : (s.onSpine f).trig = s.trig := rfl
@[simp] theorem State.onSpine_ops (f : Spine → Spine) : (s.onSpine f).ops = s.ops := rfl
@[simp] theorem State.onSpine_spine (f : Spine → Spine) : (s.onSpine f).spine = f s.spine := rfl
@[simp] theorem State.onSpine_ports (f : Spine → Spine) : (s.onSpine f).ports = s.ports := rfl
@[simp] theorem State.onSpine_tts (f : Spine → Spine) : (s.onSpine f).tts = s.tts := rfl
@[simp] theorem State.onSpine_chans (f : Spine → Spine) : (s.onSpine f).chans = s.chans := rfl
@[simp] theorem State.onSpine_rails (f : Spine → Spine) : (s.onSpine f).rails = s.rails := rfl
@[simp] theorem State.onSpine_store (f : Spine → Spine) : (s.onSpine f).store = s.store := rfl
@[simp] theorem State.onSpine_segs (f : Spine → Spine) : (s.onSpine f).segs = s.segs := rfl
@[simp] theorem State.onSpine_forager (f : Spine → Spine) : (s.onSpine f).forager = s.forager := rfl
@[simp] theorem State.onSpine_pw (f : Spine → Spine) : (s.onSpine f).pw = s.pw := rfl
@[simp] theorem State.onSpine_hub (f : Spine → Spine) : (s.onSpine f).hub = s.hub := rfl
@[simp] theorem State.onSpine_seen (f : Spine → Spine) : (s.onSpine f).seen = s.seen := rfl
@[simp] theorem State.onSpine_flash (f : Spine → Spine) : (s.onSpine f).flash = s.flash := rfl
@[simp] theorem State.onSpine_port (f : Spine → Spine) (k : Nat) : (s.onSpine f).port k = s.port k := rfl
@[simp] theorem State.onSpine_chan (f : Spine → Spine) (k : Nat) : (s.onSpine f).chan k = s.chan k := rfl
@[simp] theorem State.onSpine_tt (f : Spine → Spine) (k : Nat) : (s.onSpine f).tt k = s.tt k := rfl
@[simp] theorem State.onSpine_seg (f : Spine → Spine) (k : Nat) : (s.onSpine f).seg k = s.seg k := rfl
@[simp] theorem State.onSpine_value (f : Spine → Spine) (q : Param) (j : Nat) : (s.onSpine f).value q j = s.value q j := rfl
@[simp] theorem State.onSpine_nat (f : Spine → Spine) (q : Param) (j : Nat) : (s.onSpine f).nat q j = s.nat q j := rfl

@[simp] theorem State.onSeg_pending (n : Nat) (f : Seg → Seg) : (s.onSeg n f).pending = s.pending := rfl
@[simp] theorem State.onSeg_free (n : Nat) (f : Seg → Seg) : (s.onSeg n f).free = s.free := rfl
@[simp] theorem State.onSeg_mode (n : Nat) (f : Seg → Seg) : (s.onSeg n f).mode = s.mode := rfl
@[simp] theorem State.onSeg_phase (n : Nat) (f : Seg → Seg) : (s.onSeg n f).phase = s.phase := rfl
@[simp] theorem State.onSeg_ember (n : Nat) (f : Seg → Seg) : (s.onSeg n f).ember = s.ember := rfl
@[simp] theorem State.onSeg_ident (n : Nat) (f : Seg → Seg) : (s.onSeg n f).ident = s.ident := rfl
@[simp] theorem State.onSeg_led (n : Nat) (f : Seg → Seg) : (s.onSeg n f).led = s.led := rfl
@[simp] theorem State.onSeg_io (n : Nat) (f : Seg → Seg) : (s.onSeg n f).io = s.io := rfl
@[simp] theorem State.onSeg_prm (n : Nat) (f : Seg → Seg) : (s.onSeg n f).prm = s.prm := rfl
@[simp] theorem State.onSeg_cfg (n : Nat) (f : Seg → Seg) : (s.onSeg n f).cfg = s.cfg := rfl
@[simp] theorem State.onSeg_trig (n : Nat) (f : Seg → Seg) : (s.onSeg n f).trig = s.trig := rfl
@[simp] theorem State.onSeg_ops (n : Nat) (f : Seg → Seg) : (s.onSeg n f).ops = s.ops := rfl
@[simp] theorem State.onSeg_spine (n : Nat) (f : Seg → Seg) : (s.onSeg n f).spine = s.spine := rfl
@[simp] theorem State.onSeg_ports (n : Nat) (f : Seg → Seg) : (s.onSeg n f).ports = s.ports := rfl
@[simp] theorem State.onSeg_tts (n : Nat) (f : Seg → Seg) : (s.onSeg n f).tts = s.tts := rfl
@[simp] theorem State.onSeg_chans (n : Nat) (f : Seg → Seg) : (s.onSeg n f).chans = s.chans := rfl
@[simp] theorem State.onSeg_rails (n : Nat) (f : Seg → Seg) : (s.onSeg n f).rails = s.rails := rfl
@[simp] theorem State.onSeg_store (n : Nat) (f : Seg → Seg) : (s.onSeg n f).store = s.store := rfl
@[simp] theorem State.onSeg_segs (n : Nat) (f : Seg → Seg) : (s.onSeg n f).segs = bankSet s.segs n (f (s.seg n)) := rfl
@[simp] theorem State.onSeg_forager (n : Nat) (f : Seg → Seg) : (s.onSeg n f).forager = s.forager := rfl
@[simp] theorem State.onSeg_pw (n : Nat) (f : Seg → Seg) : (s.onSeg n f).pw = s.pw := rfl
@[simp] theorem State.onSeg_hub (n : Nat) (f : Seg → Seg) : (s.onSeg n f).hub = s.hub := rfl
@[simp] theorem State.onSeg_seen (n : Nat) (f : Seg → Seg) : (s.onSeg n f).seen = s.seen := rfl
@[simp] theorem State.onSeg_flash (n : Nat) (f : Seg → Seg) : (s.onSeg n f).flash = s.flash := rfl
@[simp] theorem State.onSeg_port (n : Nat) (f : Seg → Seg) (k : Nat) : (s.onSeg n f).port k = s.port k := rfl
@[simp] theorem State.onSeg_chan (n : Nat) (f : Seg → Seg) (k : Nat) : (s.onSeg n f).chan k = s.chan k := rfl
@[simp] theorem State.onSeg_tt (n : Nat) (f : Seg → Seg) (k : Nat) : (s.onSeg n f).tt k = s.tt k := rfl
@[simp] theorem State.onSeg_die (n : Nat) (f : Seg → Seg) (k : Nat) : (s.onSeg n f).die k = s.die k := rfl
@[simp] theorem State.onSeg_link (n : Nat) (f : Seg → Seg) (k : Nat) : (s.onSeg n f).link k = s.link k := rfl
@[simp] theorem State.onSeg_value (n : Nat) (f : Seg → Seg) (q : Param) (j : Nat) : (s.onSeg n f).value q j = s.value q j := rfl
@[simp] theorem State.onSeg_nat (n : Nat) (f : Seg → Seg) (q : Param) (j : Nat) : (s.onSeg n f).nat q j = s.nat q j := rfl

@[simp] theorem State.onDie_pending (n : Nat) (f : Die → Die) : (s.onDie n f).pending = s.pending := rfl
@[simp] theorem State.onDie_free (n : Nat) (f : Die → Die) : (s.onDie n f).free = s.free := rfl
@[simp] theorem State.onDie_mode (n : Nat) (f : Die → Die) : (s.onDie n f).mode = s.mode := rfl
@[simp] theorem State.onDie_phase (n : Nat) (f : Die → Die) : (s.onDie n f).phase = s.phase := rfl
@[simp] theorem State.onDie_ember (n : Nat) (f : Die → Die) : (s.onDie n f).ember = s.ember := rfl
@[simp] theorem State.onDie_ident (n : Nat) (f : Die → Die) : (s.onDie n f).ident = s.ident := rfl
@[simp] theorem State.onDie_led (n : Nat) (f : Die → Die) : (s.onDie n f).led = s.led := rfl
@[simp] theorem State.onDie_io (n : Nat) (f : Die → Die) : (s.onDie n f).io = s.io := rfl
@[simp] theorem State.onDie_prm (n : Nat) (f : Die → Die) : (s.onDie n f).prm = s.prm := rfl
@[simp] theorem State.onDie_cfg (n : Nat) (f : Die → Die) : (s.onDie n f).cfg = s.cfg := rfl
@[simp] theorem State.onDie_trig (n : Nat) (f : Die → Die) : (s.onDie n f).trig = s.trig := rfl
@[simp] theorem State.onDie_ops (n : Nat) (f : Die → Die) : (s.onDie n f).ops = s.ops := rfl
@[simp] theorem State.onDie_spine (n : Nat) (f : Die → Die) : (s.onDie n f).spine = { s.spine with dies := bankSet s.spine.dies n (f (s.die n)) } := rfl
@[simp] theorem State.onDie_ports (n : Nat) (f : Die → Die) : (s.onDie n f).ports = s.ports := rfl
@[simp] theorem State.onDie_tts (n : Nat) (f : Die → Die) : (s.onDie n f).tts = s.tts := rfl
@[simp] theorem State.onDie_chans (n : Nat) (f : Die → Die) : (s.onDie n f).chans = s.chans := rfl
@[simp] theorem State.onDie_rails (n : Nat) (f : Die → Die) : (s.onDie n f).rails = s.rails := rfl
@[simp] theorem State.onDie_store (n : Nat) (f : Die → Die) : (s.onDie n f).store = s.store := rfl
@[simp] theorem State.onDie_segs (n : Nat) (f : Die → Die) : (s.onDie n f).segs = s.segs := rfl
@[simp] theorem State.onDie_forager (n : Nat) (f : Die → Die) : (s.onDie n f).forager = s.forager := rfl
@[simp] theorem State.onDie_pw (n : Nat) (f : Die → Die) : (s.onDie n f).pw = s.pw := rfl
@[simp] theorem State.onDie_hub (n : Nat) (f : Die → Die) : (s.onDie n f).hub = s.hub := rfl
@[simp] theorem State.onDie_seen (n : Nat) (f : Die → Die) : (s.onDie n f).seen = s.seen := rfl
@[simp] theorem State.onDie_flash (n : Nat) (f : Die → Die) : (s.onDie n f).flash = s.flash := rfl
@[simp] theorem State.onDie_port (n : Nat) (f : Die → Die) (k : Nat) : (s.onDie n f).port k = s.port k := rfl
@[simp] theorem State.onDie_chan (n : Nat) (f : Die → Die) (k : Nat) : (s.onDie n f).chan k = s.chan k := rfl
@[simp] theorem State.onDie_tt (n : Nat) (f : Die → Die) (k : Nat) : (s.onDie n f).tt k = s.tt k := rfl
@[simp] theorem State.onDie_seg (n : Nat) (f : Die → Die) (k : Nat) : (s.onDie n f).seg k = s.seg k := rfl
@[simp] theorem State.onDie_value (n : Nat) (f : Die → Die) (q : Param) (j : Nat) : (s.onDie n f).value q j = s.value q j := rfl
@[simp] theorem State.onDie_nat (n : Nat) (f : Die → Die) (q : Param) (j : Nat) : (s.onDie n f).nat q j = s.nat q j := rfl

@[simp] theorem State.onLink_pending (n : Nat) (f : Link → Link) : (s.onLink n f).pending = s.pending := rfl
@[simp] theorem State.onLink_free (n : Nat) (f : Link → Link) : (s.onLink n f).free = s.free := rfl
@[simp] theorem State.onLink_mode (n : Nat) (f : Link → Link) : (s.onLink n f).mode = s.mode := rfl
@[simp] theorem State.onLink_phase (n : Nat) (f : Link → Link) : (s.onLink n f).phase = s.phase := rfl
@[simp] theorem State.onLink_ember (n : Nat) (f : Link → Link) : (s.onLink n f).ember = s.ember := rfl
@[simp] theorem State.onLink_ident (n : Nat) (f : Link → Link) : (s.onLink n f).ident = s.ident := rfl
@[simp] theorem State.onLink_led (n : Nat) (f : Link → Link) : (s.onLink n f).led = s.led := rfl
@[simp] theorem State.onLink_io (n : Nat) (f : Link → Link) : (s.onLink n f).io = s.io := rfl
@[simp] theorem State.onLink_prm (n : Nat) (f : Link → Link) : (s.onLink n f).prm = s.prm := rfl
@[simp] theorem State.onLink_cfg (n : Nat) (f : Link → Link) : (s.onLink n f).cfg = s.cfg := rfl
@[simp] theorem State.onLink_trig (n : Nat) (f : Link → Link) : (s.onLink n f).trig = s.trig := rfl
@[simp] theorem State.onLink_ops (n : Nat) (f : Link → Link) : (s.onLink n f).ops = s.ops := rfl
@[simp] theorem State.onLink_spine (n : Nat) (f : Link → Link) : (s.onLink n f).spine = { s.spine with links := bankSet s.spine.links n (f (s.link n)) } := rfl
@[simp] theorem State.onLink_ports (n : Nat) (f : Link → Link) : (s.onLink n f).ports = s.ports := rfl
@[simp] theorem State.onLink_tts (n : Nat) (f : Link → Link) : (s.onLink n f).tts = s.tts := rfl
@[simp] theorem State.onLink_chans (n : Nat) (f : Link → Link) : (s.onLink n f).chans = s.chans := rfl
@[simp] theorem State.onLink_rails (n : Nat) (f : Link → Link) : (s.onLink n f).rails = s.rails := rfl
@[simp] theorem State.onLink_store (n : Nat) (f : Link → Link) : (s.onLink n f).store = s.store := rfl
@[simp] theorem State.onLink_segs (n : Nat) (f : Link → Link) : (s.onLink n f).segs = s.segs := rfl
@[simp] theorem State.onLink_forager (n : Nat) (f : Link → Link) : (s.onLink n f).forager = s.forager := rfl
@[simp] theorem State.onLink_pw (n : Nat) (f : Link → Link) : (s.onLink n f).pw = s.pw := rfl
@[simp] theorem State.onLink_hub (n : Nat) (f : Link → Link) : (s.onLink n f).hub = s.hub := rfl
@[simp] theorem State.onLink_seen (n : Nat) (f : Link → Link) : (s.onLink n f).seen = s.seen := rfl
@[simp] theorem State.onLink_flash (n : Nat) (f : Link → Link) : (s.onLink n f).flash = s.flash := rfl
@[simp] theorem State.onLink_port (n : Nat) (f : Link → Link) (k : Nat) : (s.onLink n f).port k = s.port k := rfl
@[simp] theorem State.onLink_chan (n : Nat) (f : Link → Link) (k : Nat) : (s.onLink n f).chan k = s.chan k := rfl
@[simp] theorem State.onLink_tt (n : Nat) (f : Link → Link) (k : Nat) : (s.onLink n f).tt k = s.tt k := rfl
@[simp] theorem State.onLink_seg (n : Nat) (f : Link → Link) (k : Nat) : (s.onLink n f).seg k = s.seg k := rfl
@[simp] theorem State.onLink_value (n : Nat) (f : Link → Link) (q : Param) (j : Nat) : (s.onLink n f).value q j = s.value q j := rfl
@[simp] theorem State.onLink_nat (n : Nat) (f : Link → Link) (q : Param) (j : Nat) : (s.onLink n f).nat q j = s.nat q j := rfl

@[simp] theorem State.tagged_pending (t : BitVec 16) : (s.tagged t).pending = s.pending := rfl
@[simp] theorem State.tagged_free (t : BitVec 16) : (s.tagged t).free = s.free := rfl
@[simp] theorem State.tagged_mode (t : BitVec 16) : (s.tagged t).mode = s.mode := rfl
@[simp] theorem State.tagged_phase (t : BitVec 16) : (s.tagged t).phase = s.phase := rfl
@[simp] theorem State.tagged_ember (t : BitVec 16) : (s.tagged t).ember = s.ember := rfl
@[simp] theorem State.tagged_ident (t : BitVec 16) : (s.tagged t).ident = s.ident := rfl
@[simp] theorem State.tagged_led (t : BitVec 16) : (s.tagged t).led = { s.led with tag := t } := rfl
@[simp] theorem State.tagged_io (t : BitVec 16) : (s.tagged t).io = s.io := rfl
@[simp] theorem State.tagged_prm (t : BitVec 16) : (s.tagged t).prm = s.prm := rfl
@[simp] theorem State.tagged_cfg (t : BitVec 16) : (s.tagged t).cfg = s.cfg := rfl
@[simp] theorem State.tagged_trig (t : BitVec 16) : (s.tagged t).trig = s.trig := rfl
@[simp] theorem State.tagged_ops (t : BitVec 16) : (s.tagged t).ops = s.ops := rfl
@[simp] theorem State.tagged_spine (t : BitVec 16) : (s.tagged t).spine = s.spine := rfl
@[simp] theorem State.tagged_ports (t : BitVec 16) : (s.tagged t).ports = s.ports := rfl
@[simp] theorem State.tagged_tts (t : BitVec 16) : (s.tagged t).tts = s.tts := rfl
@[simp] theorem State.tagged_chans (t : BitVec 16) : (s.tagged t).chans = s.chans := rfl
@[simp] theorem State.tagged_rails (t : BitVec 16) : (s.tagged t).rails = s.rails := rfl
@[simp] theorem State.tagged_store (t : BitVec 16) : (s.tagged t).store = s.store := rfl
@[simp] theorem State.tagged_segs (t : BitVec 16) : (s.tagged t).segs = s.segs := rfl
@[simp] theorem State.tagged_forager (t : BitVec 16) : (s.tagged t).forager = s.forager := rfl
@[simp] theorem State.tagged_pw (t : BitVec 16) : (s.tagged t).pw = s.pw := rfl
@[simp] theorem State.tagged_hub (t : BitVec 16) : (s.tagged t).hub = s.hub := rfl
@[simp] theorem State.tagged_seen (t : BitVec 16) : (s.tagged t).seen = s.seen := rfl
@[simp] theorem State.tagged_flash (t : BitVec 16) : (s.tagged t).flash = s.flash := rfl
@[simp] theorem State.tagged_port (t : BitVec 16) (k : Nat) : (s.tagged t).port k = s.port k := rfl
@[simp] theorem State.tagged_chan (t : BitVec 16) (k : Nat) : (s.tagged t).chan k = s.chan k := rfl
@[simp] theorem State.tagged_tt (t : BitVec 16) (k : Nat) : (s.tagged t).tt k = s.tt k := rfl
@[simp] theorem State.tagged_seg (t : BitVec 16) (k : Nat) : (s.tagged t).seg k = s.seg k := rfl
@[simp] theorem State.tagged_die (t : BitVec 16) (k : Nat) : (s.tagged t).die k = s.die k := rfl
@[simp] theorem State.tagged_link (t : BitVec 16) (k : Nat) : (s.tagged t).link k = s.link k := rfl
@[simp] theorem State.tagged_value (t : BitVec 16) (q : Param) (j : Nat) : (s.tagged t).value q j = s.value q j := rfl
@[simp] theorem State.tagged_nat (t : BitVec 16) (q : Param) (j : Nat) : (s.tagged t).nat q j = s.nat q j := rfl

@[simp] theorem State.answering_pending (a : Answer) : (s.answering a).pending = s.pending := rfl
@[simp] theorem State.answering_free (a : Answer) : (s.answering a).free = s.free := rfl
@[simp] theorem State.answering_mode (a : Answer) : (s.answering a).mode = s.mode := rfl
@[simp] theorem State.answering_phase (a : Answer) : (s.answering a).phase = s.phase := rfl
@[simp] theorem State.answering_ember (a : Answer) : (s.answering a).ember = s.ember := rfl
@[simp] theorem State.answering_ident (a : Answer) : (s.answering a).ident = s.ident := rfl
@[simp] theorem State.answering_led (a : Answer) : (s.answering a).led = s.led := rfl
@[simp] theorem State.answering_io (a : Answer) : (s.answering a).io = { s.io with answer := a } := rfl
@[simp] theorem State.answering_prm (a : Answer) : (s.answering a).prm = s.prm := rfl
@[simp] theorem State.answering_cfg (a : Answer) : (s.answering a).cfg = s.cfg := rfl
@[simp] theorem State.answering_trig (a : Answer) : (s.answering a).trig = s.trig := rfl
@[simp] theorem State.answering_ops (a : Answer) : (s.answering a).ops = s.ops := rfl
@[simp] theorem State.answering_spine (a : Answer) : (s.answering a).spine = s.spine := rfl
@[simp] theorem State.answering_ports (a : Answer) : (s.answering a).ports = s.ports := rfl
@[simp] theorem State.answering_tts (a : Answer) : (s.answering a).tts = s.tts := rfl
@[simp] theorem State.answering_chans (a : Answer) : (s.answering a).chans = s.chans := rfl
@[simp] theorem State.answering_rails (a : Answer) : (s.answering a).rails = s.rails := rfl
@[simp] theorem State.answering_store (a : Answer) : (s.answering a).store = s.store := rfl
@[simp] theorem State.answering_segs (a : Answer) : (s.answering a).segs = s.segs := rfl
@[simp] theorem State.answering_forager (a : Answer) : (s.answering a).forager = s.forager := rfl
@[simp] theorem State.answering_pw (a : Answer) : (s.answering a).pw = s.pw := rfl
@[simp] theorem State.answering_hub (a : Answer) : (s.answering a).hub = s.hub := rfl
@[simp] theorem State.answering_seen (a : Answer) : (s.answering a).seen = s.seen := rfl
@[simp] theorem State.answering_flash (a : Answer) : (s.answering a).flash = s.flash := rfl
@[simp] theorem State.answering_port (a : Answer) (k : Nat) : (s.answering a).port k = s.port k := rfl
@[simp] theorem State.answering_chan (a : Answer) (k : Nat) : (s.answering a).chan k = s.chan k := rfl
@[simp] theorem State.answering_tt (a : Answer) (k : Nat) : (s.answering a).tt k = s.tt k := rfl
@[simp] theorem State.answering_seg (a : Answer) (k : Nat) : (s.answering a).seg k = s.seg k := rfl
@[simp] theorem State.answering_die (a : Answer) (k : Nat) : (s.answering a).die k = s.die k := rfl
@[simp] theorem State.answering_link (a : Answer) (k : Nat) : (s.answering a).link k = s.link k := rfl
@[simp] theorem State.answering_value (a : Answer) (q : Param) (j : Nat) : (s.answering a).value q j = s.value q j := rfl
@[simp] theorem State.answering_nat (a : Answer) (q : Param) (j : Nat) : (s.answering a).nat q j = s.nat q j := rfl

@[simp] theorem State.setValue_pending (p : Param) (i : Nat) (v : Word) : (s.setValue p i v).pending = s.pending := rfl
@[simp] theorem State.setValue_free (p : Param) (i : Nat) (v : Word) : (s.setValue p i v).free = s.free := rfl
@[simp] theorem State.setValue_mode (p : Param) (i : Nat) (v : Word) : (s.setValue p i v).mode = s.mode := rfl
@[simp] theorem State.setValue_phase (p : Param) (i : Nat) (v : Word) : (s.setValue p i v).phase = s.phase := rfl
@[simp] theorem State.setValue_ember (p : Param) (i : Nat) (v : Word) : (s.setValue p i v).ember = s.ember := rfl
@[simp] theorem State.setValue_ident (p : Param) (i : Nat) (v : Word) : (s.setValue p i v).ident = s.ident := rfl
@[simp] theorem State.setValue_led (p : Param) (i : Nat) (v : Word) : (s.setValue p i v).led = s.led := rfl
@[simp] theorem State.setValue_io (p : Param) (i : Nat) (v : Word) : (s.setValue p i v).io = s.io := rfl
@[simp] theorem State.setValue_prm (p : Param) (i : Nat) (v : Word) : (s.setValue p i v).prm = { s.prm with values := sparseSet paramDefault s.prm.values (paramKey p i) v } := rfl
@[simp] theorem State.setValue_cfg (p : Param) (i : Nat) (v : Word) : (s.setValue p i v).cfg = s.cfg := rfl
@[simp] theorem State.setValue_trig (p : Param) (i : Nat) (v : Word) : (s.setValue p i v).trig = s.trig := rfl
@[simp] theorem State.setValue_ops (p : Param) (i : Nat) (v : Word) : (s.setValue p i v).ops = s.ops := rfl
@[simp] theorem State.setValue_spine (p : Param) (i : Nat) (v : Word) : (s.setValue p i v).spine = s.spine := rfl
@[simp] theorem State.setValue_ports (p : Param) (i : Nat) (v : Word) : (s.setValue p i v).ports = s.ports := rfl
@[simp] theorem State.setValue_tts (p : Param) (i : Nat) (v : Word) : (s.setValue p i v).tts = s.tts := rfl
@[simp] theorem State.setValue_chans (p : Param) (i : Nat) (v : Word) : (s.setValue p i v).chans = s.chans := rfl
@[simp] theorem State.setValue_rails (p : Param) (i : Nat) (v : Word) : (s.setValue p i v).rails = s.rails := rfl
@[simp] theorem State.setValue_store (p : Param) (i : Nat) (v : Word) : (s.setValue p i v).store = s.store := rfl
@[simp] theorem State.setValue_segs (p : Param) (i : Nat) (v : Word) : (s.setValue p i v).segs = s.segs := rfl
@[simp] theorem State.setValue_forager (p : Param) (i : Nat) (v : Word) : (s.setValue p i v).forager = s.forager := rfl
@[simp] theorem State.setValue_pw (p : Param) (i : Nat) (v : Word) : (s.setValue p i v).pw = s.pw := rfl
@[simp] theorem State.setValue_hub (p : Param) (i : Nat) (v : Word) : (s.setValue p i v).hub = s.hub := rfl
@[simp] theorem State.setValue_seen (p : Param) (i : Nat) (v : Word) : (s.setValue p i v).seen = s.seen := rfl
@[simp] theorem State.setValue_flash (p : Param) (i : Nat) (v : Word) : (s.setValue p i v).flash = s.flash := rfl
@[simp] theorem State.setValue_port (p : Param) (i : Nat) (v : Word) (k : Nat) : (s.setValue p i v).port k = s.port k := rfl
@[simp] theorem State.setValue_chan (p : Param) (i : Nat) (v : Word) (k : Nat) : (s.setValue p i v).chan k = s.chan k := rfl
@[simp] theorem State.setValue_tt (p : Param) (i : Nat) (v : Word) (k : Nat) : (s.setValue p i v).tt k = s.tt k := rfl
@[simp] theorem State.setValue_seg (p : Param) (i : Nat) (v : Word) (k : Nat) : (s.setValue p i v).seg k = s.seg k := rfl
@[simp] theorem State.setValue_die (p : Param) (i : Nat) (v : Word) (k : Nat) : (s.setValue p i v).die k = s.die k := rfl
@[simp] theorem State.setValue_link (p : Param) (i : Nat) (v : Word) (k : Nat) : (s.setValue p i v).link k = s.link k := rfl

/-! Updates of one element of a bank numbered from 1. -/

@[simp] theorem State.setPort_pending (n : Nat) (p : Port) : (s.setPort n p).pending = s.pending := by cases n <;> rfl
@[simp] theorem State.setPort_free (n : Nat) (p : Port) : (s.setPort n p).free = s.free := by cases n <;> rfl
@[simp] theorem State.setPort_mode (n : Nat) (p : Port) : (s.setPort n p).mode = s.mode := by cases n <;> rfl
@[simp] theorem State.setPort_phase (n : Nat) (p : Port) : (s.setPort n p).phase = s.phase := by cases n <;> rfl
@[simp] theorem State.setPort_ember (n : Nat) (p : Port) : (s.setPort n p).ember = s.ember := by cases n <;> rfl
@[simp] theorem State.setPort_ident (n : Nat) (p : Port) : (s.setPort n p).ident = s.ident := by cases n <;> rfl
@[simp] theorem State.setPort_led (n : Nat) (p : Port) : (s.setPort n p).led = s.led := by cases n <;> rfl
@[simp] theorem State.setPort_io (n : Nat) (p : Port) : (s.setPort n p).io = s.io := by cases n <;> rfl
@[simp] theorem State.setPort_prm (n : Nat) (p : Port) : (s.setPort n p).prm = s.prm := by cases n <;> rfl
@[simp] theorem State.setPort_cfg (n : Nat) (p : Port) : (s.setPort n p).cfg = s.cfg := by cases n <;> rfl
@[simp] theorem State.setPort_trig (n : Nat) (p : Port) : (s.setPort n p).trig = s.trig := by cases n <;> rfl
@[simp] theorem State.setPort_ops (n : Nat) (p : Port) : (s.setPort n p).ops = s.ops := by cases n <;> rfl
@[simp] theorem State.setPort_spine (n : Nat) (p : Port) : (s.setPort n p).spine = s.spine := by cases n <;> rfl
@[simp] theorem State.setPort_tts (n : Nat) (p : Port) : (s.setPort n p).tts = s.tts := by cases n <;> rfl
@[simp] theorem State.setPort_chans (n : Nat) (p : Port) : (s.setPort n p).chans = s.chans := by cases n <;> rfl
@[simp] theorem State.setPort_rails (n : Nat) (p : Port) : (s.setPort n p).rails = s.rails := by cases n <;> rfl
@[simp] theorem State.setPort_store (n : Nat) (p : Port) : (s.setPort n p).store = s.store := by cases n <;> rfl
@[simp] theorem State.setPort_segs (n : Nat) (p : Port) : (s.setPort n p).segs = s.segs := by cases n <;> rfl
@[simp] theorem State.setPort_forager (n : Nat) (p : Port) : (s.setPort n p).forager = s.forager := by cases n <;> rfl
@[simp] theorem State.setPort_pw (n : Nat) (p : Port) : (s.setPort n p).pw = s.pw := by cases n <;> rfl
@[simp] theorem State.setPort_hub (n : Nat) (p : Port) : (s.setPort n p).hub = s.hub := by cases n <;> rfl
@[simp] theorem State.setPort_seen (n : Nat) (p : Port) : (s.setPort n p).seen = s.seen := by cases n <;> rfl
@[simp] theorem State.setPort_flash (n : Nat) (p : Port) : (s.setPort n p).flash = s.flash := by cases n <;> rfl
@[simp] theorem State.setPort_chan (n : Nat) (p : Port) (k : Nat) : (s.setPort n p).chan k = s.chan k := by cases n <;> rfl
@[simp] theorem State.setPort_tt (n : Nat) (p : Port) (k : Nat) : (s.setPort n p).tt k = s.tt k := by cases n <;> rfl
@[simp] theorem State.setPort_seg (n : Nat) (p : Port) (k : Nat) : (s.setPort n p).seg k = s.seg k := by cases n <;> rfl
@[simp] theorem State.setPort_die (n : Nat) (p : Port) (k : Nat) : (s.setPort n p).die k = s.die k := by cases n <;> rfl
@[simp] theorem State.setPort_link (n : Nat) (p : Port) (k : Nat) : (s.setPort n p).link k = s.link k := by cases n <;> rfl
@[simp] theorem State.setPort_value (n : Nat) (p : Port) (q : Param) (j : Nat) : (s.setPort n p).value q j = s.value q j := by cases n <;> rfl
@[simp] theorem State.setPort_nat (n : Nat) (p : Port) (q : Param) (j : Nat) : (s.setPort n p).nat q j = s.nat q j := by cases n <;> rfl

@[simp] theorem State.onPort_pending (n : Nat) (f : Port → Port) : (s.onPort n f).pending = s.pending := by cases n <;> rfl
@[simp] theorem State.onPort_free (n : Nat) (f : Port → Port) : (s.onPort n f).free = s.free := by cases n <;> rfl
@[simp] theorem State.onPort_mode (n : Nat) (f : Port → Port) : (s.onPort n f).mode = s.mode := by cases n <;> rfl
@[simp] theorem State.onPort_phase (n : Nat) (f : Port → Port) : (s.onPort n f).phase = s.phase := by cases n <;> rfl
@[simp] theorem State.onPort_ember (n : Nat) (f : Port → Port) : (s.onPort n f).ember = s.ember := by cases n <;> rfl
@[simp] theorem State.onPort_ident (n : Nat) (f : Port → Port) : (s.onPort n f).ident = s.ident := by cases n <;> rfl
@[simp] theorem State.onPort_led (n : Nat) (f : Port → Port) : (s.onPort n f).led = s.led := by cases n <;> rfl
@[simp] theorem State.onPort_io (n : Nat) (f : Port → Port) : (s.onPort n f).io = s.io := by cases n <;> rfl
@[simp] theorem State.onPort_prm (n : Nat) (f : Port → Port) : (s.onPort n f).prm = s.prm := by cases n <;> rfl
@[simp] theorem State.onPort_cfg (n : Nat) (f : Port → Port) : (s.onPort n f).cfg = s.cfg := by cases n <;> rfl
@[simp] theorem State.onPort_trig (n : Nat) (f : Port → Port) : (s.onPort n f).trig = s.trig := by cases n <;> rfl
@[simp] theorem State.onPort_ops (n : Nat) (f : Port → Port) : (s.onPort n f).ops = s.ops := by cases n <;> rfl
@[simp] theorem State.onPort_spine (n : Nat) (f : Port → Port) : (s.onPort n f).spine = s.spine := by cases n <;> rfl
@[simp] theorem State.onPort_tts (n : Nat) (f : Port → Port) : (s.onPort n f).tts = s.tts := by cases n <;> rfl
@[simp] theorem State.onPort_chans (n : Nat) (f : Port → Port) : (s.onPort n f).chans = s.chans := by cases n <;> rfl
@[simp] theorem State.onPort_rails (n : Nat) (f : Port → Port) : (s.onPort n f).rails = s.rails := by cases n <;> rfl
@[simp] theorem State.onPort_store (n : Nat) (f : Port → Port) : (s.onPort n f).store = s.store := by cases n <;> rfl
@[simp] theorem State.onPort_segs (n : Nat) (f : Port → Port) : (s.onPort n f).segs = s.segs := by cases n <;> rfl
@[simp] theorem State.onPort_forager (n : Nat) (f : Port → Port) : (s.onPort n f).forager = s.forager := by cases n <;> rfl
@[simp] theorem State.onPort_pw (n : Nat) (f : Port → Port) : (s.onPort n f).pw = s.pw := by cases n <;> rfl
@[simp] theorem State.onPort_hub (n : Nat) (f : Port → Port) : (s.onPort n f).hub = s.hub := by cases n <;> rfl
@[simp] theorem State.onPort_seen (n : Nat) (f : Port → Port) : (s.onPort n f).seen = s.seen := by cases n <;> rfl
@[simp] theorem State.onPort_flash (n : Nat) (f : Port → Port) : (s.onPort n f).flash = s.flash := by cases n <;> rfl
@[simp] theorem State.onPort_chan (n : Nat) (f : Port → Port) (k : Nat) : (s.onPort n f).chan k = s.chan k := by cases n <;> rfl
@[simp] theorem State.onPort_tt (n : Nat) (f : Port → Port) (k : Nat) : (s.onPort n f).tt k = s.tt k := by cases n <;> rfl
@[simp] theorem State.onPort_seg (n : Nat) (f : Port → Port) (k : Nat) : (s.onPort n f).seg k = s.seg k := by cases n <;> rfl
@[simp] theorem State.onPort_die (n : Nat) (f : Port → Port) (k : Nat) : (s.onPort n f).die k = s.die k := by cases n <;> rfl
@[simp] theorem State.onPort_link (n : Nat) (f : Port → Port) (k : Nat) : (s.onPort n f).link k = s.link k := by cases n <;> rfl
@[simp] theorem State.onPort_value (n : Nat) (f : Port → Port) (q : Param) (j : Nat) : (s.onPort n f).value q j = s.value q j := by cases n <;> rfl
@[simp] theorem State.onPort_nat (n : Nat) (f : Port → Port) (q : Param) (j : Nat) : (s.onPort n f).nat q j = s.nat q j := by cases n <;> rfl

@[simp] theorem State.onBus_pending (n : Nat) (f : Bus → Bus) : (s.onBus n f).pending = s.pending := by cases n <;> rfl
@[simp] theorem State.onBus_free (n : Nat) (f : Bus → Bus) : (s.onBus n f).free = s.free := by cases n <;> rfl
@[simp] theorem State.onBus_mode (n : Nat) (f : Bus → Bus) : (s.onBus n f).mode = s.mode := by cases n <;> rfl
@[simp] theorem State.onBus_phase (n : Nat) (f : Bus → Bus) : (s.onBus n f).phase = s.phase := by cases n <;> rfl
@[simp] theorem State.onBus_ember (n : Nat) (f : Bus → Bus) : (s.onBus n f).ember = s.ember := by cases n <;> rfl
@[simp] theorem State.onBus_ident (n : Nat) (f : Bus → Bus) : (s.onBus n f).ident = s.ident := by cases n <;> rfl
@[simp] theorem State.onBus_led (n : Nat) (f : Bus → Bus) : (s.onBus n f).led = s.led := by cases n <;> rfl
@[simp] theorem State.onBus_io (n : Nat) (f : Bus → Bus) : (s.onBus n f).io = s.io := by cases n <;> rfl
@[simp] theorem State.onBus_prm (n : Nat) (f : Bus → Bus) : (s.onBus n f).prm = s.prm := by cases n <;> rfl
@[simp] theorem State.onBus_cfg (n : Nat) (f : Bus → Bus) : (s.onBus n f).cfg = s.cfg := by cases n <;> rfl
@[simp] theorem State.onBus_trig (n : Nat) (f : Bus → Bus) : (s.onBus n f).trig = s.trig := by cases n <;> rfl
@[simp] theorem State.onBus_ops (n : Nat) (f : Bus → Bus) : (s.onBus n f).ops = s.ops := by cases n <;> rfl
@[simp] theorem State.onBus_spine (n : Nat) (f : Bus → Bus) : (s.onBus n f).spine = s.spine := by cases n <;> rfl
@[simp] theorem State.onBus_tts (n : Nat) (f : Bus → Bus) : (s.onBus n f).tts = s.tts := by cases n <;> rfl
@[simp] theorem State.onBus_chans (n : Nat) (f : Bus → Bus) : (s.onBus n f).chans = s.chans := by cases n <;> rfl
@[simp] theorem State.onBus_rails (n : Nat) (f : Bus → Bus) : (s.onBus n f).rails = s.rails := by cases n <;> rfl
@[simp] theorem State.onBus_store (n : Nat) (f : Bus → Bus) : (s.onBus n f).store = s.store := by cases n <;> rfl
@[simp] theorem State.onBus_segs (n : Nat) (f : Bus → Bus) : (s.onBus n f).segs = s.segs := by cases n <;> rfl
@[simp] theorem State.onBus_forager (n : Nat) (f : Bus → Bus) : (s.onBus n f).forager = s.forager := by cases n <;> rfl
@[simp] theorem State.onBus_pw (n : Nat) (f : Bus → Bus) : (s.onBus n f).pw = s.pw := by cases n <;> rfl
@[simp] theorem State.onBus_hub (n : Nat) (f : Bus → Bus) : (s.onBus n f).hub = s.hub := by cases n <;> rfl
@[simp] theorem State.onBus_seen (n : Nat) (f : Bus → Bus) : (s.onBus n f).seen = s.seen := by cases n <;> rfl
@[simp] theorem State.onBus_flash (n : Nat) (f : Bus → Bus) : (s.onBus n f).flash = s.flash := by cases n <;> rfl
@[simp] theorem State.onBus_chan (n : Nat) (f : Bus → Bus) (k : Nat) : (s.onBus n f).chan k = s.chan k := by cases n <;> rfl
@[simp] theorem State.onBus_tt (n : Nat) (f : Bus → Bus) (k : Nat) : (s.onBus n f).tt k = s.tt k := by cases n <;> rfl
@[simp] theorem State.onBus_seg (n : Nat) (f : Bus → Bus) (k : Nat) : (s.onBus n f).seg k = s.seg k := by cases n <;> rfl
@[simp] theorem State.onBus_die (n : Nat) (f : Bus → Bus) (k : Nat) : (s.onBus n f).die k = s.die k := by cases n <;> rfl
@[simp] theorem State.onBus_link (n : Nat) (f : Bus → Bus) (k : Nat) : (s.onBus n f).link k = s.link k := by cases n <;> rfl
@[simp] theorem State.onBus_value (n : Nat) (f : Bus → Bus) (q : Param) (j : Nat) : (s.onBus n f).value q j = s.value q j := by cases n <;> rfl
@[simp] theorem State.onBus_nat (n : Nat) (f : Bus → Bus) (q : Param) (j : Nat) : (s.onBus n f).nat q j = s.nat q j := by cases n <;> rfl

@[simp] theorem State.onPd_pending (n : Nat) (f : Pd → Pd) : (s.onPd n f).pending = s.pending := by cases n <;> rfl
@[simp] theorem State.onPd_free (n : Nat) (f : Pd → Pd) : (s.onPd n f).free = s.free := by cases n <;> rfl
@[simp] theorem State.onPd_mode (n : Nat) (f : Pd → Pd) : (s.onPd n f).mode = s.mode := by cases n <;> rfl
@[simp] theorem State.onPd_phase (n : Nat) (f : Pd → Pd) : (s.onPd n f).phase = s.phase := by cases n <;> rfl
@[simp] theorem State.onPd_ember (n : Nat) (f : Pd → Pd) : (s.onPd n f).ember = s.ember := by cases n <;> rfl
@[simp] theorem State.onPd_ident (n : Nat) (f : Pd → Pd) : (s.onPd n f).ident = s.ident := by cases n <;> rfl
@[simp] theorem State.onPd_led (n : Nat) (f : Pd → Pd) : (s.onPd n f).led = s.led := by cases n <;> rfl
@[simp] theorem State.onPd_io (n : Nat) (f : Pd → Pd) : (s.onPd n f).io = s.io := by cases n <;> rfl
@[simp] theorem State.onPd_prm (n : Nat) (f : Pd → Pd) : (s.onPd n f).prm = s.prm := by cases n <;> rfl
@[simp] theorem State.onPd_cfg (n : Nat) (f : Pd → Pd) : (s.onPd n f).cfg = s.cfg := by cases n <;> rfl
@[simp] theorem State.onPd_trig (n : Nat) (f : Pd → Pd) : (s.onPd n f).trig = s.trig := by cases n <;> rfl
@[simp] theorem State.onPd_ops (n : Nat) (f : Pd → Pd) : (s.onPd n f).ops = s.ops := by cases n <;> rfl
@[simp] theorem State.onPd_spine (n : Nat) (f : Pd → Pd) : (s.onPd n f).spine = s.spine := by cases n <;> rfl
@[simp] theorem State.onPd_tts (n : Nat) (f : Pd → Pd) : (s.onPd n f).tts = s.tts := by cases n <;> rfl
@[simp] theorem State.onPd_chans (n : Nat) (f : Pd → Pd) : (s.onPd n f).chans = s.chans := by cases n <;> rfl
@[simp] theorem State.onPd_rails (n : Nat) (f : Pd → Pd) : (s.onPd n f).rails = s.rails := by cases n <;> rfl
@[simp] theorem State.onPd_store (n : Nat) (f : Pd → Pd) : (s.onPd n f).store = s.store := by cases n <;> rfl
@[simp] theorem State.onPd_segs (n : Nat) (f : Pd → Pd) : (s.onPd n f).segs = s.segs := by cases n <;> rfl
@[simp] theorem State.onPd_forager (n : Nat) (f : Pd → Pd) : (s.onPd n f).forager = s.forager := by cases n <;> rfl
@[simp] theorem State.onPd_pw (n : Nat) (f : Pd → Pd) : (s.onPd n f).pw = s.pw := by cases n <;> rfl
@[simp] theorem State.onPd_hub (n : Nat) (f : Pd → Pd) : (s.onPd n f).hub = s.hub := by cases n <;> rfl
@[simp] theorem State.onPd_seen (n : Nat) (f : Pd → Pd) : (s.onPd n f).seen = s.seen := by cases n <;> rfl
@[simp] theorem State.onPd_flash (n : Nat) (f : Pd → Pd) : (s.onPd n f).flash = s.flash := by cases n <;> rfl
@[simp] theorem State.onPd_chan (n : Nat) (f : Pd → Pd) (k : Nat) : (s.onPd n f).chan k = s.chan k := by cases n <;> rfl
@[simp] theorem State.onPd_tt (n : Nat) (f : Pd → Pd) (k : Nat) : (s.onPd n f).tt k = s.tt k := by cases n <;> rfl
@[simp] theorem State.onPd_seg (n : Nat) (f : Pd → Pd) (k : Nat) : (s.onPd n f).seg k = s.seg k := by cases n <;> rfl
@[simp] theorem State.onPd_die (n : Nat) (f : Pd → Pd) (k : Nat) : (s.onPd n f).die k = s.die k := by cases n <;> rfl
@[simp] theorem State.onPd_link (n : Nat) (f : Pd → Pd) (k : Nat) : (s.onPd n f).link k = s.link k := by cases n <;> rfl
@[simp] theorem State.onPd_value (n : Nat) (f : Pd → Pd) (q : Param) (j : Nat) : (s.onPd n f).value q j = s.value q j := by cases n <;> rfl
@[simp] theorem State.onPd_nat (n : Nat) (f : Pd → Pd) (q : Param) (j : Nat) : (s.onPd n f).nat q j = s.nat q j := by cases n <;> rfl

@[simp] theorem State.setChan_pending (n : Nat) (c : Chan) : (s.setChan n c).pending = s.pending := by cases n <;> rfl
@[simp] theorem State.setChan_free (n : Nat) (c : Chan) : (s.setChan n c).free = s.free := by cases n <;> rfl
@[simp] theorem State.setChan_mode (n : Nat) (c : Chan) : (s.setChan n c).mode = s.mode := by cases n <;> rfl
@[simp] theorem State.setChan_phase (n : Nat) (c : Chan) : (s.setChan n c).phase = s.phase := by cases n <;> rfl
@[simp] theorem State.setChan_ember (n : Nat) (c : Chan) : (s.setChan n c).ember = s.ember := by cases n <;> rfl
@[simp] theorem State.setChan_ident (n : Nat) (c : Chan) : (s.setChan n c).ident = s.ident := by cases n <;> rfl
@[simp] theorem State.setChan_led (n : Nat) (c : Chan) : (s.setChan n c).led = s.led := by cases n <;> rfl
@[simp] theorem State.setChan_io (n : Nat) (c : Chan) : (s.setChan n c).io = s.io := by cases n <;> rfl
@[simp] theorem State.setChan_prm (n : Nat) (c : Chan) : (s.setChan n c).prm = s.prm := by cases n <;> rfl
@[simp] theorem State.setChan_cfg (n : Nat) (c : Chan) : (s.setChan n c).cfg = s.cfg := by cases n <;> rfl
@[simp] theorem State.setChan_trig (n : Nat) (c : Chan) : (s.setChan n c).trig = s.trig := by cases n <;> rfl
@[simp] theorem State.setChan_ops (n : Nat) (c : Chan) : (s.setChan n c).ops = s.ops := by cases n <;> rfl
@[simp] theorem State.setChan_spine (n : Nat) (c : Chan) : (s.setChan n c).spine = s.spine := by cases n <;> rfl
@[simp] theorem State.setChan_ports (n : Nat) (c : Chan) : (s.setChan n c).ports = s.ports := by cases n <;> rfl
@[simp] theorem State.setChan_tts (n : Nat) (c : Chan) : (s.setChan n c).tts = s.tts := by cases n <;> rfl
@[simp] theorem State.setChan_rails (n : Nat) (c : Chan) : (s.setChan n c).rails = s.rails := by cases n <;> rfl
@[simp] theorem State.setChan_store (n : Nat) (c : Chan) : (s.setChan n c).store = s.store := by cases n <;> rfl
@[simp] theorem State.setChan_segs (n : Nat) (c : Chan) : (s.setChan n c).segs = s.segs := by cases n <;> rfl
@[simp] theorem State.setChan_forager (n : Nat) (c : Chan) : (s.setChan n c).forager = s.forager := by cases n <;> rfl
@[simp] theorem State.setChan_pw (n : Nat) (c : Chan) : (s.setChan n c).pw = s.pw := by cases n <;> rfl
@[simp] theorem State.setChan_hub (n : Nat) (c : Chan) : (s.setChan n c).hub = s.hub := by cases n <;> rfl
@[simp] theorem State.setChan_seen (n : Nat) (c : Chan) : (s.setChan n c).seen = s.seen := by cases n <;> rfl
@[simp] theorem State.setChan_flash (n : Nat) (c : Chan) : (s.setChan n c).flash = s.flash := by cases n <;> rfl
@[simp] theorem State.setChan_port (n : Nat) (c : Chan) (k : Nat) : (s.setChan n c).port k = s.port k := by cases n <;> rfl
@[simp] theorem State.setChan_tt (n : Nat) (c : Chan) (k : Nat) : (s.setChan n c).tt k = s.tt k := by cases n <;> rfl
@[simp] theorem State.setChan_seg (n : Nat) (c : Chan) (k : Nat) : (s.setChan n c).seg k = s.seg k := by cases n <;> rfl
@[simp] theorem State.setChan_die (n : Nat) (c : Chan) (k : Nat) : (s.setChan n c).die k = s.die k := by cases n <;> rfl
@[simp] theorem State.setChan_link (n : Nat) (c : Chan) (k : Nat) : (s.setChan n c).link k = s.link k := by cases n <;> rfl
@[simp] theorem State.setChan_value (n : Nat) (c : Chan) (q : Param) (j : Nat) : (s.setChan n c).value q j = s.value q j := by cases n <;> rfl
@[simp] theorem State.setChan_nat (n : Nat) (c : Chan) (q : Param) (j : Nat) : (s.setChan n c).nat q j = s.nat q j := by cases n <;> rfl

@[simp] theorem State.onChan_pending (n : Nat) (f : Chan → Chan) : (s.onChan n f).pending = s.pending := by cases n <;> rfl
@[simp] theorem State.onChan_free (n : Nat) (f : Chan → Chan) : (s.onChan n f).free = s.free := by cases n <;> rfl
@[simp] theorem State.onChan_mode (n : Nat) (f : Chan → Chan) : (s.onChan n f).mode = s.mode := by cases n <;> rfl
@[simp] theorem State.onChan_phase (n : Nat) (f : Chan → Chan) : (s.onChan n f).phase = s.phase := by cases n <;> rfl
@[simp] theorem State.onChan_ember (n : Nat) (f : Chan → Chan) : (s.onChan n f).ember = s.ember := by cases n <;> rfl
@[simp] theorem State.onChan_ident (n : Nat) (f : Chan → Chan) : (s.onChan n f).ident = s.ident := by cases n <;> rfl
@[simp] theorem State.onChan_led (n : Nat) (f : Chan → Chan) : (s.onChan n f).led = s.led := by cases n <;> rfl
@[simp] theorem State.onChan_io (n : Nat) (f : Chan → Chan) : (s.onChan n f).io = s.io := by cases n <;> rfl
@[simp] theorem State.onChan_prm (n : Nat) (f : Chan → Chan) : (s.onChan n f).prm = s.prm := by cases n <;> rfl
@[simp] theorem State.onChan_cfg (n : Nat) (f : Chan → Chan) : (s.onChan n f).cfg = s.cfg := by cases n <;> rfl
@[simp] theorem State.onChan_trig (n : Nat) (f : Chan → Chan) : (s.onChan n f).trig = s.trig := by cases n <;> rfl
@[simp] theorem State.onChan_ops (n : Nat) (f : Chan → Chan) : (s.onChan n f).ops = s.ops := by cases n <;> rfl
@[simp] theorem State.onChan_spine (n : Nat) (f : Chan → Chan) : (s.onChan n f).spine = s.spine := by cases n <;> rfl
@[simp] theorem State.onChan_ports (n : Nat) (f : Chan → Chan) : (s.onChan n f).ports = s.ports := by cases n <;> rfl
@[simp] theorem State.onChan_tts (n : Nat) (f : Chan → Chan) : (s.onChan n f).tts = s.tts := by cases n <;> rfl
@[simp] theorem State.onChan_rails (n : Nat) (f : Chan → Chan) : (s.onChan n f).rails = s.rails := by cases n <;> rfl
@[simp] theorem State.onChan_store (n : Nat) (f : Chan → Chan) : (s.onChan n f).store = s.store := by cases n <;> rfl
@[simp] theorem State.onChan_segs (n : Nat) (f : Chan → Chan) : (s.onChan n f).segs = s.segs := by cases n <;> rfl
@[simp] theorem State.onChan_forager (n : Nat) (f : Chan → Chan) : (s.onChan n f).forager = s.forager := by cases n <;> rfl
@[simp] theorem State.onChan_pw (n : Nat) (f : Chan → Chan) : (s.onChan n f).pw = s.pw := by cases n <;> rfl
@[simp] theorem State.onChan_hub (n : Nat) (f : Chan → Chan) : (s.onChan n f).hub = s.hub := by cases n <;> rfl
@[simp] theorem State.onChan_seen (n : Nat) (f : Chan → Chan) : (s.onChan n f).seen = s.seen := by cases n <;> rfl
@[simp] theorem State.onChan_flash (n : Nat) (f : Chan → Chan) : (s.onChan n f).flash = s.flash := by cases n <;> rfl
@[simp] theorem State.onChan_port (n : Nat) (f : Chan → Chan) (k : Nat) : (s.onChan n f).port k = s.port k := by cases n <;> rfl
@[simp] theorem State.onChan_tt (n : Nat) (f : Chan → Chan) (k : Nat) : (s.onChan n f).tt k = s.tt k := by cases n <;> rfl
@[simp] theorem State.onChan_seg (n : Nat) (f : Chan → Chan) (k : Nat) : (s.onChan n f).seg k = s.seg k := by cases n <;> rfl
@[simp] theorem State.onChan_die (n : Nat) (f : Chan → Chan) (k : Nat) : (s.onChan n f).die k = s.die k := by cases n <;> rfl
@[simp] theorem State.onChan_link (n : Nat) (f : Chan → Chan) (k : Nat) : (s.onChan n f).link k = s.link k := by cases n <;> rfl
@[simp] theorem State.onChan_value (n : Nat) (f : Chan → Chan) (q : Param) (j : Nat) : (s.onChan n f).value q j = s.value q j := by cases n <;> rfl
@[simp] theorem State.onChan_nat (n : Nat) (f : Chan → Chan) (q : Param) (j : Nat) : (s.onChan n f).nat q j = s.nat q j := by cases n <;> rfl

@[simp] theorem State.onTt_pending (n : Nat) (f : Tt → Tt) : (s.onTt n f).pending = s.pending := by cases n <;> rfl
@[simp] theorem State.onTt_free (n : Nat) (f : Tt → Tt) : (s.onTt n f).free = s.free := by cases n <;> rfl
@[simp] theorem State.onTt_mode (n : Nat) (f : Tt → Tt) : (s.onTt n f).mode = s.mode := by cases n <;> rfl
@[simp] theorem State.onTt_phase (n : Nat) (f : Tt → Tt) : (s.onTt n f).phase = s.phase := by cases n <;> rfl
@[simp] theorem State.onTt_ember (n : Nat) (f : Tt → Tt) : (s.onTt n f).ember = s.ember := by cases n <;> rfl
@[simp] theorem State.onTt_ident (n : Nat) (f : Tt → Tt) : (s.onTt n f).ident = s.ident := by cases n <;> rfl
@[simp] theorem State.onTt_led (n : Nat) (f : Tt → Tt) : (s.onTt n f).led = s.led := by cases n <;> rfl
@[simp] theorem State.onTt_io (n : Nat) (f : Tt → Tt) : (s.onTt n f).io = s.io := by cases n <;> rfl
@[simp] theorem State.onTt_prm (n : Nat) (f : Tt → Tt) : (s.onTt n f).prm = s.prm := by cases n <;> rfl
@[simp] theorem State.onTt_cfg (n : Nat) (f : Tt → Tt) : (s.onTt n f).cfg = s.cfg := by cases n <;> rfl
@[simp] theorem State.onTt_trig (n : Nat) (f : Tt → Tt) : (s.onTt n f).trig = s.trig := by cases n <;> rfl
@[simp] theorem State.onTt_ops (n : Nat) (f : Tt → Tt) : (s.onTt n f).ops = s.ops := by cases n <;> rfl
@[simp] theorem State.onTt_spine (n : Nat) (f : Tt → Tt) : (s.onTt n f).spine = s.spine := by cases n <;> rfl
@[simp] theorem State.onTt_ports (n : Nat) (f : Tt → Tt) : (s.onTt n f).ports = s.ports := by cases n <;> rfl
@[simp] theorem State.onTt_chans (n : Nat) (f : Tt → Tt) : (s.onTt n f).chans = s.chans := by cases n <;> rfl
@[simp] theorem State.onTt_rails (n : Nat) (f : Tt → Tt) : (s.onTt n f).rails = s.rails := by cases n <;> rfl
@[simp] theorem State.onTt_store (n : Nat) (f : Tt → Tt) : (s.onTt n f).store = s.store := by cases n <;> rfl
@[simp] theorem State.onTt_segs (n : Nat) (f : Tt → Tt) : (s.onTt n f).segs = s.segs := by cases n <;> rfl
@[simp] theorem State.onTt_forager (n : Nat) (f : Tt → Tt) : (s.onTt n f).forager = s.forager := by cases n <;> rfl
@[simp] theorem State.onTt_pw (n : Nat) (f : Tt → Tt) : (s.onTt n f).pw = s.pw := by cases n <;> rfl
@[simp] theorem State.onTt_hub (n : Nat) (f : Tt → Tt) : (s.onTt n f).hub = s.hub := by cases n <;> rfl
@[simp] theorem State.onTt_seen (n : Nat) (f : Tt → Tt) : (s.onTt n f).seen = s.seen := by cases n <;> rfl
@[simp] theorem State.onTt_flash (n : Nat) (f : Tt → Tt) : (s.onTt n f).flash = s.flash := by cases n <;> rfl
@[simp] theorem State.onTt_port (n : Nat) (f : Tt → Tt) (k : Nat) : (s.onTt n f).port k = s.port k := by cases n <;> rfl
@[simp] theorem State.onTt_chan (n : Nat) (f : Tt → Tt) (k : Nat) : (s.onTt n f).chan k = s.chan k := by cases n <;> rfl
@[simp] theorem State.onTt_seg (n : Nat) (f : Tt → Tt) (k : Nat) : (s.onTt n f).seg k = s.seg k := by cases n <;> rfl
@[simp] theorem State.onTt_die (n : Nat) (f : Tt → Tt) (k : Nat) : (s.onTt n f).die k = s.die k := by cases n <;> rfl
@[simp] theorem State.onTt_link (n : Nat) (f : Tt → Tt) (k : Nat) : (s.onTt n f).link k = s.link k := by cases n <;> rfl
@[simp] theorem State.onTt_value (n : Nat) (f : Tt → Tt) (q : Param) (j : Nat) : (s.onTt n f).value q j = s.value q j := by cases n <;> rfl
@[simp] theorem State.onTt_nat (n : Nat) (f : Tt → Tt) (q : Param) (j : Nat) : (s.onTt n f).nat q j = s.nat q j := by cases n <;> rfl

/-! Banks. -/

theorem bankGet_set {α : Type} {n : Nat} (v : Vector α n) (i j : Nat) (x d : α) :
    bankGet (bankSet v i x) j d = if j = i ∧ i < n then x else bankGet v j d := by
  unfold bankGet bankSet
  rw [Vector.getElem?_setIfInBounds]
  by_cases h : i = j
  · subst h
    by_cases hi : i < n
    · simp [hi]
    · simp [hi]
  · rw [if_neg h, if_neg (by omega)]

/-- A port set reads back; every other port is as it was. -/
theorem State.setPort_port (n k : Nat) (p : Port) :
    (s.setPort n p).port k = if k = n ∧ isPort n = true then p else s.port k := by
  unfold State.setPort State.port
  cases n with
  | zero => simp [isPort]
  | succ n =>
    rw [if_neg (Nat.succ_ne_zero n)]
    by_cases hk : k = 0
    · subst hk; simp
    · rw [if_neg hk, if_neg hk]
      dsimp only
      rw [bankGet_set]
      simp only [isPort, Bool.and_eq_true, decide_eq_true_eq]
      by_cases h : k = n + 1 ∧ n < 16
      · rw [if_pos (by omega), if_pos (by omega)]
      · rw [if_neg (by omega), if_neg (by omega)]

theorem State.onPort_port (n k : Nat) (f : Port → Port) :
    (s.onPort n f).port k = if k = n ∧ isPort n = true then f (s.port k) else s.port k := by
  unfold State.onPort
  rw [State.setPort_port]
  by_cases h : k = n ∧ isPort n = true
  · rw [if_pos h, if_pos h, h.1]
  · rw [if_neg h, if_neg h]

/-- A channel set reads back; every other channel is as it was. -/
theorem State.setChan_chan (n k : Nat) (c : Chan) :
    (s.setChan n c).chan k = if k = n ∧ isChan n = true then c else s.chan k := by
  unfold State.setChan State.chan
  cases n with
  | zero => simp [isChan]
  | succ n =>
    rw [if_neg (Nat.succ_ne_zero n)]
    by_cases hk : k = 0
    · subst hk; simp
    · rw [if_neg hk, if_neg hk]
      dsimp only
      rw [bankGet_set]
      simp only [isChan, Bool.and_eq_true, decide_eq_true_eq]
      by_cases h : k = n + 1 ∧ n < 24
      · rw [if_pos (by omega), if_pos (by omega)]
      · rw [if_neg (by omega), if_neg (by omega)]

theorem State.onChan_chan (n k : Nat) (f : Chan → Chan) :
    (s.onChan n f).chan k = if k = n ∧ isChan n = true then f (s.chan k) else s.chan k := by
  unfold State.onChan
  rw [State.setChan_chan]
  by_cases h : k = n ∧ isChan n = true
  · rw [if_pos h, if_pos h, h.1]
  · rw [if_neg h, if_neg h]

theorem State.onSeg_seg (n k : Nat) (f : Seg → Seg) :
    (s.onSeg n f).seg k = if k = n ∧ n < 5 then f (s.seg k) else s.seg k := by
  unfold State.onSeg State.seg
  dsimp only
  rw [bankGet_set]
  by_cases h : k = n ∧ n < 5
  · rw [if_pos h, if_pos h, h.1]
  · rw [if_neg h, if_neg h]

theorem State.onDie_die (n k : Nat) (f : Die → Die) :
    (s.onDie n f).die k = if k = n ∧ n < 4 then f (s.die k) else s.die k := by
  unfold State.onDie State.onSpine State.die
  dsimp only
  rw [bankGet_set]
  by_cases h : k = n ∧ n < 4
  · rw [if_pos h, if_pos h, h.1]
  · rw [if_neg h, if_neg h]

theorem State.onLink_link (n k : Nat) (f : Link → Link) :
    (s.onLink n f).link k = if k = n ∧ n < 3 then f (s.link k) else s.link k := by
  unfold State.onLink State.onSpine State.link
  dsimp only
  rw [bankGet_set]
  by_cases h : k = n ∧ n < 3
  · rw [if_pos h, if_pos h, h.1]
  · rw [if_neg h, if_neg h]

/-- Changes of one port, one after the other, are one change. -/
theorem State.onPort_onPort (n : Nat) (f g : Port → Port) : (s.onPort n f).onPort n g = s.onPort n fun p => g (f p) := by
  unfold State.onPort
  rw [State.setPort_port]
  by_cases h : isPort n = true
  · rw [if_pos ⟨rfl, h⟩]
    unfold State.setPort bankSet
    split
    · rfl
    · simp only [State.mk.injEq, true_and, and_true]
      apply Vector.ext
      intro i hi
      simp only [Vector.getElem_setIfInBounds]
      split <;> rfl
  · rw [if_neg (by simp [h])]
    have e : ∀ (t : State) (p : Port), t.setPort n p = t := by
      intro t p
      unfold State.setPort bankSet
      split
      · rfl
      · rw [Vector.setIfInBounds_eq_of_size_le]
        simp [isPort] at h; omega
    rw [e, e, e]

/-- Changes of one channel, one after the other, are one change. -/
theorem State.onChan_onChan (n : Nat) (f g : Chan → Chan) : (s.onChan n f).onChan n g = s.onChan n fun c => g (f c) := by
  unfold State.onChan
  rw [State.setChan_chan]
  by_cases h : isChan n = true
  · rw [if_pos ⟨rfl, h⟩]
    unfold State.setChan bankSet
    split
    · rfl
    · simp only [State.mk.injEq, true_and, and_true]
      apply Vector.ext
      intro i hi
      simp only [Vector.getElem_setIfInBounds]
      split <;> rfl
  · rw [if_neg (by simp [h])]
    have e : ∀ (t : State) (c : Chan), t.setChan n c = t := by
      intro t c
      unfold State.setChan bankSet
      split
      · rfl
      · rw [Vector.setIfInBounds_eq_of_size_le]
        simp [isChan] at h; omega
    rw [e, e, e]

/-- A port's bus or PD engine changed is its port changed. -/
theorem State.onBus_eq (n : Nat) (f : Bus → Bus) : s.onBus n f = s.onPort n fun p => { p with bus := f p.bus } := rfl
theorem State.onPd_eq (n : Nat) (f : Pd → Pd) : s.onPd n f = s.onPort n fun p => { p with pd := f p.pd } := rfl

/-- Changes of one segment, one after the other, are one change. -/
theorem State.onSeg_onSeg (n : Nat) (f g : Seg → Seg) (h : n < 5) : (s.onSeg n f).onSeg n g = s.onSeg n fun c => g (f c) := by
  unfold State.onSeg
  simp only [State.mk.injEq, true_and, and_true]
  rw [show State.seg { s with segs := bankSet s.segs n (f (s.seg n)) } n = f (s.seg n) by
    have := State.onSeg_seg s n n f; rw [if_pos ⟨rfl, h⟩] at this; exact this]
  apply Vector.ext
  intro i hi
  simp only [bankSet, Vector.getElem_setIfInBounds]
  split <;> rfl

/-- A state change over a list that changes nothing at any element changes nothing. -/
theorem State.each_id (l : List Nat) (f : Nat → State → State) (h : ∀ n ∈ l, f n s = s) : s.each l f = s := by
  unfold State.each
  induction l with
  | nil => rfl
  | cons a l ih => rw [List.foldl_cons, h a (by simp)]; exact ih (fun n hn => h n (by simp [hn]))

/-! What is reported (R5) changes nothing else. -/

@[simp] theorem State.noted_pending : s.noted.pending = s.pending := by unfold State.noted; split <;> rfl
@[simp] theorem State.noted_free : s.noted.free = s.free := by unfold State.noted; split <;> rfl
@[simp] theorem State.noted_mode : s.noted.mode = s.mode := by unfold State.noted; split <;> rfl
@[simp] theorem State.noted_phase : s.noted.phase = s.phase := by unfold State.noted; split <;> rfl
@[simp] theorem State.noted_ember : s.noted.ember = s.ember := by unfold State.noted; split <;> rfl
@[simp] theorem State.noted_ident : s.noted.ident = s.ident := by unfold State.noted; split <;> rfl
@[simp] theorem State.noted_led : s.noted.led = s.led := by unfold State.noted; split <;> rfl
@[simp] theorem State.noted_io : s.noted.io = s.io := by unfold State.noted; split <;> rfl
@[simp] theorem State.noted_prm : s.noted.prm = s.prm := by unfold State.noted; split <;> rfl
@[simp] theorem State.noted_cfg : s.noted.cfg = s.cfg := by unfold State.noted; split <;> rfl
@[simp] theorem State.noted_trig : s.noted.trig = s.trig := by unfold State.noted; split <;> rfl
@[simp] theorem State.noted_ops : s.noted.ops = s.ops := by unfold State.noted; split <;> rfl
@[simp] theorem State.noted_spine : s.noted.spine = s.spine := by unfold State.noted; split <;> rfl
@[simp] theorem State.noted_ports : s.noted.ports = s.ports := by unfold State.noted; split <;> rfl
@[simp] theorem State.noted_tts : s.noted.tts = s.tts := by unfold State.noted; split <;> rfl
@[simp] theorem State.noted_chans : s.noted.chans = s.chans := by unfold State.noted; split <;> rfl
@[simp] theorem State.noted_rails : s.noted.rails = s.rails := by unfold State.noted; split <;> rfl
@[simp] theorem State.noted_store : s.noted.store = s.store := by unfold State.noted; split <;> rfl
@[simp] theorem State.noted_segs : s.noted.segs = s.segs := by unfold State.noted; split <;> rfl
@[simp] theorem State.noted_forager : s.noted.forager = s.forager := by unfold State.noted; split <;> rfl
@[simp] theorem State.noted_pw : s.noted.pw = s.pw := by unfold State.noted; split <;> rfl
@[simp] theorem State.noted_hub : s.noted.hub = s.hub := by unfold State.noted; split <;> rfl
@[simp] theorem State.noted_flash : s.noted.flash = s.flash := by unfold State.noted; split <;> rfl
@[simp] theorem State.noted_port (n : Nat) : s.noted.port n = s.port n := by unfold State.noted; split <;> rfl
@[simp] theorem State.noted_chan (n : Nat) : s.noted.chan n = s.chan n := by unfold State.noted; split <;> rfl
@[simp] theorem State.noted_tt (n : Nat) : s.noted.tt n = s.tt n := by unfold State.noted; split <;> rfl
@[simp] theorem State.noted_seg (n : Nat) : s.noted.seg n = s.seg n := by unfold State.noted; split <;> rfl
@[simp] theorem State.noted_die (n : Nat) : s.noted.die n = s.die n := by unfold State.noted; split <;> rfl
@[simp] theorem State.noted_link (n : Nat) : s.noted.link n = s.link n := by unfold State.noted; split <;> rfl

/-- Two states with the same fields are one. -/
theorem State.ext_fields {s t : State}
    (pending : s.pending = t.pending) (free : s.free = t.free) (mode : s.mode = t.mode) (phase : s.phase = t.phase) (ember : s.ember = t.ember) (ident : s.ident = t.ident) (led : s.led = t.led) (io : s.io = t.io) (prm : s.prm = t.prm) (cfg : s.cfg = t.cfg) (trig : s.trig = t.trig) (ops : s.ops = t.ops)
    (spine : s.spine = t.spine) (ports : s.ports = t.ports) (tts : s.tts = t.tts) (chans : s.chans = t.chans) (rails : s.rails = t.rails) (store : s.store = t.store) (segs : s.segs = t.segs) (forager : s.forager = t.forager) (pw : s.pw = t.pw) (hub : s.hub = t.hub) (seen : s.seen = t.seen) (flash : s.flash = t.flash) : s = t := by
  cases s; cases t; simp_all

end Sys2Proof.Machine
end

