-- ==== Sys2Proof/Laws/Take.lean ====
section
/-! SUPPORT. When an input is taken: an event or a command that finds the arbiter open runs at once, and nothing follows an input that leaves nothing to do. -/

namespace Sys2Proof.Machine

variable {s u : State}

/-- With no firing and no work, list work ends as it began. -/
theorem runWork_nil (n : Nat) (u : State) (w : u.trig.work = []) (d : u.trig.depth = 0) : u.runWork n = u := by
  cases n with
  | zero => rfl
  | succ n =>
    unfold State.runWork
    split
    · rfl
    · rw [w]
      cases u with | mk _ _ _ _ _ _ _ _ _ _ trig => cases trig; cases d; rfl

theorem pushFires_nil (u : State) (h : u.led.fires = []) : u.pushFires = u := by
  unfold State.pushFires
  rw [h]
  cases u with | mk _ _ _ _ _ _ led => cases led; cases h; rfl

/-- Nothing follows a still input but that the command's tag goes, and that what it leaves is reported. -/
theorem finish_still (h : u.Still) : u.finish = (u.tagged 0xFFFF).noted := by
  unfold State.finish State.firesRun
  rw [pushFires_nil u h.fires, runWork_nil _ u h.work h.depth]

theorem pump_none (n : Nat) (u : State) (h : u.nextInput u.io.waiting = none) : u.pump n = u := by
  cases n with
  | zero => rfl
  | succ n =>
    unfold State.pump State.takeOne
    rw [h]
    split <;> simp_all

theorem admits_io (t : State) (i : Input) (h : t.io.replies0 = s.io.replies0) (h1 : t.io.replies1 = s.io.replies1)
    (h3 : t.io.replies3 = s.io.replies3) : t.admits i = s.admits i := by
  have e : t.io.heldClient = s.io.heldClient := by
    funext c
    have e : t.io.replies c = s.io.replies c := by cases c <;> assumption
    unfold Transports.heldClient; rw [e]
  unfold State.admits; rw [e]

theorem nextInput_io (t : State) (l : List Input) (h : t.io.replies0 = s.io.replies0)
    (h1 : t.io.replies1 = s.io.replies1) (h3 : t.io.replies3 = s.io.replies3) : t.nextInput l = s.nextInput l := by
  induction l with
  | nil => rfl
  | cons i l ih => simp only [State.nextInput, admits_io t i h h1 h3, ih]

/-- An input that may be taken, behind inputs that may not, is the one that is taken. -/
theorem nextInput_append (s : State) (l : List Input) (i : Input) (h : s.nextInput l = none) (a : s.admits i = true) :
    s.nextInput (l ++ [i]) = some (i, l) := by
  induction l with
  | nil => simp [State.nextInput, a]
  | cons j l ih =>
    unfold State.nextInput at h
    split at h
    · simp at h
    · rename_i hj
      have hl : s.nextInput l = none := by
        revert h; cases s.nextInput l with
        | none => simp
        | some p => simp
      simp [State.nextInput, hj, ih hl]

/-- What follows a still input is nothing. -/
theorem after_still (s : State) (h : u.Still) : s.after u = (u.tagged 0xFFFF).noted := by
  unfold State.after
  rw [finish_still h]
  exact pump_none _ _ ((nextInput_io (s := u) (u.tagged 0xFFFF).noted _ (by simp) (by simp) (by simp)).trans
    (by simpa using h.waits))

theorem settled_still (h : u.Still) : u.settled = (u.tagged 0xFFFF).noted := by
  unfold State.settled State.pumpAll
  rw [finish_still h]
  exact pump_none _ _ ((nextInput_io (s := u) (u.tagged 0xFFFF).noted _ (by simp) (by simp) (by simp)).trans
    (by simpa using h.waits))

/-- An input that joins where the arbiter is open is taken at once. -/
theorem enqueue_pumpAll (h : s.Open) (i : Input) (a : s.admits i = true) :
    (s.enqueue i).pumpAll = (s.takeInput i).pump (s.io.waiting.length + 195) := by
  have e1 : (s.enqueue i).io.waiting = s.io.waiting ++ [i] := rfl
  have e2 : (s.enqueue i).listening = true := h.listening
  have e3 : (s.enqueue i).nextInput (s.io.waiting ++ [i]) = some (i, s.io.waiting) :=
    (nextInput_io (s := s) (s.enqueue i) _ rfl rfl rfl).trans (nextInput_append s _ i h.waits a)
  unfold State.pumpAll
  rw [e1, List.length_append, List.length_singleton, Nat.add_right_comm, State.pump, State.takeOne]
  simp only [e1, e2, e3, if_true]
  rfl

theorem heard_of {i : Instr} {d b : Nat} (e : eventSource i = some (d, b)) (h : s.Hears d b) : s.Heard i := by
  intro d' b' e'
  rw [e] at e'
  cases e'
  exact h

theorem heard_none {i : Instr} (e : eventSource i = none) : s.Heard i := by
  intro d b e'
  rw [e] at e'
  cases e'

/-- An event that finds the arbiter open does its own effect at once, and then what follows. -/
theorem event_open (h : s.Open) (i : Instr) (w : i.wf = true) (a : s.Heard i) (k : s.unchecked i = false) :
    s.event i = s.after (s.runEvent i) := by
  have hl := h.listening
  have hp : s.phase = .up := by simp [State.listening] at hl; exact hl.1.1.1
  have hb : s.mode ≠ .banked ∧ s.mode.asleep = false := by
    simp only [State.listening, Bool.and_eq_true] at hl
    obtain ⟨_, hm⟩ := hl
    cases hmode : s.mode <;> simp_all [Mode.asleep]
  have hu : s.unheard i = false := by
    unfold State.unheard State.segDeaf
    rw [hb.2]
    cases i <;> simp [hb.1]
  have hd : s.sourceDead i = false := by
    unfold State.sourceDead
    cases he : eventSource i with
    | none => rfl
    | some p => simp [(a p.1 p.2 he).quarantined, (a p.1 p.2 he).block]
  have ha : s.arrive i = s.after (s.runEvent i) := by
    unfold State.arrive
    split
    iterate 3 exact absurd (hb.2.symm.trans ‹_›) Bool.false_ne_true
    exact enqueue_pumpAll h _ rfl
  unfold State.event
  simp only [w, hp, hu, hd, k, hb.1, ha, Bool.not_true, Bool.false_eq_true, if_false, ne_eq, not_true_eq_false, or_self]
  cases he : eventSource i with
  | none => rfl
  | some p => simp [(a p.1 p.2 he).absent]

/-- Fewer than sixteen commands of a client wait where the arbiter is open and the client is not held. -/
theorem room_open (h : s.Open) (cl : ExtClient) (f : s.io.heldClient cl = false) : s.room cl = true := by
  have hn : ∀ l, s.nextInput l = none → l.filter (·.ofClient cl) = [] := by
    intro l hl
    induction l with
    | nil => rfl
    | cons i l ih =>
      have ho : i.ofClient cl = false := by
        cases hi : i.ofClient cl with
        | false => rfl
        | true =>
          have : s.admits i = true := by
            cases i <;> simp_all [Input.ofClient, State.admits]
          simp [State.nextInput, this] at hl
      unfold State.nextInput at hl
      split at hl
      · simp at hl
      · rw [List.filter_cons_of_neg (by simp [ho])]
        apply ih
        cases hs : s.nextInput l with
        | none => rfl
        | some p => simp [hs] at hl
  unfold State.room Transports.queued
  rw [hn _ h.waits]
  cases (s.io.part cl).isEmpty <;> rfl

/-- A command that finds the arbiter open is taken at once. -/
theorem submit_open (hd : CmdHeader) (op : Opcode) (p : List Byte) (t : s.Takes hd.client (headerCommand hd op p)) :
    s.submit hd op p = s.after (s.runCommand (extClient hd.client) 0xFF (headerCommand hd op p)) := by
  have hl := t.isOpen.listening
  have hr : s.hiveRuns = true := by
    have hp : s.phase = .up := by simp [State.listening] at hl; exact hl.1.1.1
    simp only [State.listening, Bool.and_eq_true] at hl
    obtain ⟨_, hm⟩ := hl
    unfold State.hiveRuns
    rw [hp]
    cases hmode : s.mode <;> simp_all [Mode.asleep]
  unfold State.submit rowInput
  rw [hr, room_open t.isOpen _ t.free]
  simp only [t.fits, Bool.and_self, if_true]
  exact enqueue_pumpAll t.isOpen _ (by simp [State.admits, t.free])

/-- An event row whose detector is heard does its own effect where the arbiter is open. -/
theorem does_of {i : Instr} {R : State → Prop} (h : s.Open) (w : i.wf = true) (a : s.Heard i)
    (e : exec i s = .next (s.event i)) (r : R (s.runEvent i)) (k : s.unchecked i = false := by rfl) : s.Does i R :=
  ⟨_, e.trans (congrArg _ (event_open h i w a k)), r⟩

/-- A row that acts at once does its own effect in every state. -/
theorem acts_of {i : Instr} {R : State → Prop} {f : State → State} (w : i.wf = true)
    (e : exec i s = .next (s.direct i f)) (r : R (f s)) : s.Acts i R :=
  ⟨f s, by rw [e, State.direct, if_pos w], r⟩

/-- The order of a command touches the Spine alone (R12). -/
theorem ordered_spine (s : State) (c : Command) : ∃ f : Spine → Spine, s.ordered c = s.onSpine f := by
  unfold State.ordered
  split
  · rename_i d _
    unfold State.sendFrame
    dsimp only
    split
    · exact ⟨id, rfl⟩
    · exact ⟨_, rfl⟩
  · exact ⟨id, rfl⟩

/-- A command that is refused leaves its reply, and its `CMD_APPLIED` where it is not read-only. -/
theorem runCommand_refused (cl : ExtClient) (c : Command) (st : Status)
    (r : (s.taken c).refusal (extClient cl) c = some st) :
    s.runCommand (extClient cl) 0xFF c =
      if c.op.readOnly then (s.taken c).reply (extClient cl) ((s.taken c).replyOf c st [])
      else ((s.taken c).countWrongCode (extClient cl) c st).answered cl c st := by
  have hc : extClient cl ≠ Client.c2 := by cases cl <;> decide
  unfold State.runCommand
  simp only [if_neg hc]
  rw [show (s.tagged c.tag).onIo (fun io => { io with admitted := io.admitted + 1 }) = s.taken c from rfl, r]
  rfl

/-- A command that is not refused answers `DONE` with its payload, or appends `CMD_APPLIED`, replies and has its effect. -/
theorem runCommand_taken (cl : ExtClient) (c : Command) (r : (s.taken c).refusal (extClient cl) c = none) :
    s.runCommand (extClient cl) 0xFF c =
      if c.op.readOnly then
        ((s.taken c).payload c).2.reply (extClient cl) (((s.taken c).payload c).2.replyOf c .done ((s.taken c).payload c).1)
      else
        let v := (s.taken c).answered cl c ((s.taken c).success c)
        (v.ordered c).effect (extClient cl) c (v.operation (extClient cl) c) := by
  have hc : extClient cl ≠ Client.c2 := by cases cl <;> decide
  unfold State.runCommand
  simp only [if_neg hc]
  rw [show (s.tagged c.tag).onIo (fun io => { io with admitted := io.admitted + 1 }) = s.taken c from rfl, r]
  rfl

/-- A command row that is not refused carries its own effect out. -/
theorem carries_of {i : Instr} {R : State → State → Prop} {h : CmdHeader} {op : Opcode} {p : List Byte}
    (hc : commandOf i = some (h, op, p)) (e : exec i s = .next (s.submit h op p)) (ro : op.readOnly = false)
    (r : let c := headerCommand h op p
      s.Takes h.client c → (s.taken c).refusal (extClient h.client) c = none →
      let v := (s.taken c).answered h.client c ((s.taken c).success c)
      R (v.ordered c) ((v.ordered c).effect (extClient h.client) c (v.operation (extClient h.client) c))) : s.Carries i R := by
  intro h' op' p' hc'
  rw [hc] at hc'
  cases hc'
  intro c t n
  refine ⟨_, e.trans (congrArg _ ((submit_open h op p t).trans (congrArg _ (runCommand_taken h.client c n)))), ?_⟩
  have hro : c.op.readOnly = false := ro
  rw [if_neg (by rw [hro]; exact Bool.false_ne_true)]
  exact r t n

end Sys2Proof.Machine
end

