-- ==== Sys2Proof/Laws/Tell.lean ====
section
/-! SUPPORT. What appending entries does to a state, said once: which notes it adds to the ledger, and that it changes nothing else. -/

namespace Sys2Proof.Machine

variable {s t u : State}

theorem told_self (s : State) : s.told s = s := rfl

theorem told_trans (s t u : State) : State.told (s.told t) u = s.told u := rfl

theorem Logs.nil (s u : State) (n : u.led.next = s.led.next) (r : u.led.ring = s.led.ring) (h : s.led.ring.length ≤ 4096) :
    Logs s u [] := ⟨n, [], rfl, rfl, by rw [r]; simp [h]⟩

theorem take_append_take {α : Type} (n : Nat) (a x : List α) : (a ++ x.take n).take n = (a ++ x).take n := by
  rw [List.take_append, List.take_append, List.take_take, Nat.min_eq_left (Nat.sub_le _ _)]

/-- What is said from `s` to `t` and from `t` to `u` is said from `s` to `u`. -/
theorem Logs.trans {a b : List Note} (h : Logs s t a) (k : Logs t u b) : Logs s u (a ++ b) := by
  obtain ⟨n1, e1, m1, c1, r1⟩ := h
  obtain ⟨n2, e2, m2, c2, r2⟩ := k
  refine ⟨by simp; omega, e1 ++ e2, by simp [m1, m2], ?_, ?_⟩
  · rw [List.map_append, c1, c2, n1, List.length_append, List.range_add, List.map_append, List.map_map]
    congr 1
    apply List.map_congr_left
    intro x _; simp; omega
  · rw [r2, r1, List.reverse_append, List.append_assoc, take_append_take]

/-- The bounds of the ring, after any entries. -/
theorem Logs.bound {l : List Note} (h : Logs s u l) : u.led.ring.length ≤ 4096 := by
  obtain ⟨_, _, _, _, r⟩ := h
  rw [r]; exact List.length_take_le _ _

theorem recordLoss_next (l : Ledger) (e : Entry) : (l.recordLoss e).next = l.next ∧ (l.recordLoss e).ring = l.ring := by
  unfold Ledger.recordLoss
  dsimp only
  split
  · split <;> exact ⟨rfl, rfl⟩
  · exact ⟨rfl, rfl⟩

theorem push_next (l : Ledger) (e : Entry) : (l.push e).next = l.next + 1 ∧ (l.push e).ring = e :: l.ring.take 4095 := by
  unfold Ledger.push
  dsimp only
  split
  · split
    · exact ⟨(recordLoss_next _ _).1, (recordLoss_next _ _).2⟩
    · exact ⟨rfl, rfl⟩
  · exact ⟨rfl, rfl⟩

theorem tally_next (l : Ledger) (e : Entry) : (l.tally e).next = l.next ∧ (l.tally e).ring = l.ring := by
  unfold Ledger.tally
  dsimp only
  split <;> split <;> exact ⟨rfl, rfl⟩

/-- An append says one note. -/
theorem append_logs (s : State) (ext : Bool) (die block : Nat) (k : Kind) (subject : Nat) (data : List Byte) :
    Logs s (s.append ext die block k subject data) [noteOf s.led.tag ext die block k subject data] := by
  have key : ∀ e : Entry, e.note = noteOf s.led.tag ext die block k subject data → e.count = s.led.next →
      ∀ u : State, u.led.next = ((s.led.push e).tally e).next → u.led.ring = ((s.led.push e).tally e).ring →
      Logs s u [noteOf s.led.tag ext die block k subject data] := by
    intro e hn hc u h1 h2
    refine ⟨?_, [e], by simp [hn], by simp [hc], ?_⟩
    · rw [h1, (tally_next _ _).1, (push_next _ _).1]; rfl
    · rw [h2, (tally_next _ _).2, (push_next _ _).2]; simp
  unfold State.append
  dsimp only
  split
  · exact key _ rfl rfl _ rfl rfl
  · exact key _ rfl rfl _ rfl rfl

theorem recordLoss_told (l : Ledger) (e : Entry) :
    l.recordLoss e = { l with lost := (l.recordLoss e).lost, q61 := (l.recordLoss e).q61, q61Next := (l.recordLoss e).q61Next,
                              q61Open := (l.recordLoss e).q61Open } := by
  unfold Ledger.recordLoss
  dsimp only
  split
  · split <;> rfl
  · rfl

theorem push_told (l : Ledger) (e : Entry) :
    l.push e = { l with next := (l.push e).next, ring := (l.push e).ring, lost := (l.push e).lost, q61 := (l.push e).q61,
                        q61Next := (l.push e).q61Next, q61Open := (l.push e).q61Open } := by
  unfold Ledger.push
  dsimp only
  split
  · split
    · rw [recordLoss_told]
    · rfl
  · rfl

theorem tally_told (l : Ledger) (e : Entry) :
    l.tally e = { l with external := (l.tally e).external, violations := (l.tally e).violations,
                         lastViolation := (l.tally e).lastViolation, lastFault := (l.tally e).lastFault } := by
  unfold Ledger.tally
  dsimp only
  split <;> split <;> rfl

/-- An append changes the ring, its losses and counters, the firings it calls for, and uptime within the millisecond. -/
theorem append_told (s : State) (ext : Bool) (die block : Nat) (k : Kind) (subject : Nat) (data : List Byte) :
    s.append ext die block k subject data = s.told (s.append ext die block k subject data) := by
  have key : ∀ e : Entry, ∀ f : List Firing, ∀ m : State, m = s.passTime →
      (m.onLed fun l => { (l.push e).tally e with fires := f })
        = s.told (m.onLed fun l => { (l.push e).tally e with fires := f }) := by
    intro e f m hm
    subst hm
    unfold State.onLed State.told State.passTime
    dsimp only
    rw [tally_told, push_told]
  unfold State.append
  dsimp only
  split
  · exact key _ _ _ rfl
  · have := key ⟨s.passTime.led.next, s.passTime.uptime, ext, die, block, k, subject, s.passTime.led.tag, padTo 10 data⟩
      ((s.passTime.led.push ⟨s.passTime.led.next, s.passTime.uptime, ext, die, block, k, subject, s.passTime.led.tag, padTo 10 data⟩).tally
        ⟨s.passTime.led.next, s.passTime.uptime, ext, die, block, k, subject, s.passTime.led.tag, padTo 10 data⟩).fires _ rfl
    exact this

/-! Telling: entries appended and nothing else changed. Changes of other parts of the state may be made before or after. -/

theorem append_tells (s : State) (ext : Bool) (die block : Nat) (k : Kind) (subject : Nat) (data : List Byte) :
    Tells s (s.append ext die block k subject data) [noteOf s.led.tag ext die block k subject data] :=
  ⟨append_logs s ext die block k subject data, append_told s ext die block k subject data⟩

theorem Tells.trans {a b : List Note} (h : Tells s t a) (k : Tells t u b) : Tells s u (a ++ b) := by
  refine ⟨h.1.trans k.1, ?_⟩
  have := k.2
  rw [h.2] at this
  exact this

theorem Tells.refl (s : State) (h : s.led.ring.length ≤ 4096) : Tells s s [] := ⟨Logs.nil s s rfl rfl h, rfl⟩

theorem Tells.onPw {l : List Note} (h : Tells s u l) (f : Power → Power) : Tells (s.onPw f) (u.onPw f) l := by
  have e : u.onPw f = (s.told u).onPw f := by rw [← h.2]
  have k : (s.told u).onPw f = (s.onPw f).told ((s.told u).onPw f) := rfl
  rw [← e] at k
  exact ⟨h.1, k⟩

theorem Tells.onHub {l : List Note} (h : Tells s u l) (f : Hub → Hub) : Tells (s.onHub f) (u.onHub f) l := by
  have e : u.onHub f = (s.told u).onHub f := by rw [← h.2]
  have k : (s.told u).onHub f = (s.onHub f).told ((s.told u).onHub f) := rfl
  rw [← e] at k
  exact ⟨h.1, k⟩

theorem Tells.onStore {l : List Note} (h : Tells s u l) (f : Store → Store) : Tells (s.onStore f) (u.onStore f) l := by
  have e : u.onStore f = (s.told u).onStore f := by rw [← h.2]
  have k : (s.told u).onStore f = (s.onStore f).told ((s.told u).onStore f) := rfl
  rw [← e] at k
  exact ⟨h.1, k⟩

theorem Tells.onForager {l : List Note} (h : Tells s u l) (f : Forager → Forager) : Tells (s.onForager f) (u.onForager f) l := by
  have e : u.onForager f = (s.told u).onForager f := by rw [← h.2]
  have k : (s.told u).onForager f = (s.onForager f).told ((s.told u).onForager f) := rfl
  rw [← e] at k
  exact ⟨h.1, k⟩

theorem Tells.onCfg {l : List Note} (h : Tells s u l) (f : Cfg → Cfg) : Tells (s.onCfg f) (u.onCfg f) l := by
  have e : u.onCfg f = (s.told u).onCfg f := by rw [← h.2]
  have k : (s.told u).onCfg f = (s.onCfg f).told ((s.told u).onCfg f) := rfl
  rw [← e] at k
  exact ⟨h.1, k⟩

theorem Tells.onIo {l : List Note} (h : Tells s u l) (f : Transports → Transports) : Tells (s.onIo f) (u.onIo f) l := by
  have e : u.onIo f = (s.told u).onIo f := by rw [← h.2]
  have k : (s.told u).onIo f = (s.onIo f).told ((s.told u).onIo f) := rfl
  rw [← e] at k
  exact ⟨h.1, k⟩

theorem Tells.onSpine {l : List Note} (h : Tells s u l) (f : Spine → Spine) : Tells (s.onSpine f) (u.onSpine f) l := by
  have e : u.onSpine f = (s.told u).onSpine f := by rw [← h.2]
  have k : (s.told u).onSpine f = (s.onSpine f).told ((s.told u).onSpine f) := rfl
  rw [← e] at k
  exact ⟨h.1, k⟩

theorem Tells.onSeg {l : List Note} (h : Tells s u l) (n : Nat) (f : Seg → Seg) : Tells (s.onSeg n f) (u.onSeg n f) l := by
  have e : u.onSeg n f = (s.told u).onSeg n f := by rw [← h.2]
  have k : (s.told u).onSeg n f = (s.onSeg n f).told ((s.told u).onSeg n f) := rfl
  rw [← e] at k
  exact ⟨h.1, k⟩

theorem Tells.onDie {l : List Note} (h : Tells s u l) (n : Nat) (f : Die → Die) : Tells (s.onDie n f) (u.onDie n f) l := by
  have e : u.onDie n f = (s.told u).onDie n f := by rw [← h.2]
  have k : (s.told u).onDie n f = (s.onDie n f).told ((s.told u).onDie n f) := rfl
  rw [← e] at k
  exact ⟨h.1, k⟩

theorem Tells.onLink {l : List Note} (h : Tells s u l) (n : Nat) (f : Link → Link) : Tells (s.onLink n f) (u.onLink n f) l := by
  have e : u.onLink n f = (s.told u).onLink n f := by rw [← h.2]
  have k : (s.told u).onLink n f = (s.onLink n f).told ((s.told u).onLink n f) := rfl
  rw [← e] at k
  exact ⟨h.1, k⟩

theorem Tells.answering {l : List Note} (h : Tells s u l) (a : Answer) : Tells (s.answering a) (u.answering a) l := by
  have e : u.answering a = (s.told u).answering a := by rw [← h.2]
  have k : (s.told u).answering a = (s.answering a).told ((s.told u).answering a) := rfl
  rw [← e] at k
  exact ⟨h.1, k⟩

theorem Tells.onPort {l : List Note} (h : Tells s u l) (n : Nat) (f : Port → Port) : Tells (s.onPort n f) (u.onPort n f) l := by
  by_cases hn : n = 0
  · subst hn; exact h
  · have e : u.onPort n f = (s.told u).onPort n f := by rw [← h.2]
    have k : (s.told u).onPort n f = (s.onPort n f).told ((s.told u).onPort n f) := by
      obtain ⟨m, rfl⟩ := Nat.exists_eq_succ_of_ne_zero hn; rfl
    have r : (u.onPort n f).led = u.led ∧ (s.onPort n f).led = s.led := by
      obtain ⟨m, rfl⟩ := Nat.exists_eq_succ_of_ne_zero hn; exact ⟨rfl, rfl⟩
    rw [← e] at k
    refine ⟨?_, k⟩
    unfold Logs; rw [r.1, r.2]; exact h.1

theorem Tells.onBus {l : List Note} (h : Tells s u l) (n : Nat) (f : Bus → Bus) : Tells (s.onBus n f) (u.onBus n f) l := by
  by_cases hn : n = 0
  · subst hn; exact h
  · have e : u.onBus n f = (s.told u).onBus n f := by rw [← h.2]
    have k : (s.told u).onBus n f = (s.onBus n f).told ((s.told u).onBus n f) := by
      obtain ⟨m, rfl⟩ := Nat.exists_eq_succ_of_ne_zero hn; rfl
    have r : (u.onBus n f).led = u.led ∧ (s.onBus n f).led = s.led := by
      obtain ⟨m, rfl⟩ := Nat.exists_eq_succ_of_ne_zero hn; exact ⟨rfl, rfl⟩
    rw [← e] at k
    refine ⟨?_, k⟩
    unfold Logs; rw [r.1, r.2]; exact h.1

theorem Tells.onPd {l : List Note} (h : Tells s u l) (n : Nat) (f : Pd → Pd) : Tells (s.onPd n f) (u.onPd n f) l := by
  by_cases hn : n = 0
  · subst hn; exact h
  · have e : u.onPd n f = (s.told u).onPd n f := by rw [← h.2]
    have k : (s.told u).onPd n f = (s.onPd n f).told ((s.told u).onPd n f) := by
      obtain ⟨m, rfl⟩ := Nat.exists_eq_succ_of_ne_zero hn; rfl
    have r : (u.onPd n f).led = u.led ∧ (s.onPd n f).led = s.led := by
      obtain ⟨m, rfl⟩ := Nat.exists_eq_succ_of_ne_zero hn; exact ⟨rfl, rfl⟩
    rw [← e] at k
    refine ⟨?_, k⟩
    unfold Logs; rw [r.1, r.2]; exact h.1

theorem Tells.onChan {l : List Note} (h : Tells s u l) (n : Nat) (f : Chan → Chan) : Tells (s.onChan n f) (u.onChan n f) l := by
  by_cases hn : n = 0
  · subst hn; exact h
  · have e : u.onChan n f = (s.told u).onChan n f := by rw [← h.2]
    have k : (s.told u).onChan n f = (s.onChan n f).told ((s.told u).onChan n f) := by
      obtain ⟨m, rfl⟩ := Nat.exists_eq_succ_of_ne_zero hn; rfl
    have r : (u.onChan n f).led = u.led ∧ (s.onChan n f).led = s.led := by
      obtain ⟨m, rfl⟩ := Nat.exists_eq_succ_of_ne_zero hn; exact ⟨rfl, rfl⟩
    rw [← e] at k
    refine ⟨?_, k⟩
    unfold Logs; rw [r.1, r.2]; exact h.1

/-- Entries told under a command's tag, which is put back. -/
theorem Tells.tagged {l : List Note} (a : BitVec 16) (h : Tells (s.tagged a) u l) : Tells s (u.tagged s.led.tag) l := by
  have e : u.tagged s.led.tag = ((s.tagged a).told u).tagged s.led.tag := by rw [← h.2]
  have k : ((s.tagged a).told u).tagged s.led.tag = s.told (((s.tagged a).told u).tagged s.led.tag) := rfl
  rw [← e] at k
  exact ⟨h.1, k⟩

/-- A `CMD_COMPLETE` is one note under the operation's tag, or none where it was QUIET (R66). -/
theorem completion_tells (s : State) (o : PendingOp) (st : Status) (external : Bool) (q : o.quiet = false) :
    Tells s (s.completion o st external)
      [noteOf o.tag external 0 blkCmd .cmdComplete o.number (b16 o.op.code ++ b8 o.client.code ++ b8 st.code ++ leBytes 6 o.count)] := by
  unfold State.completion
  simp only [q, Bool.false_eq_true, if_false]
  exact Tells.tagged _ (append_tells _ _ _ _ _ _ _)

/-! What appending leaves. -/

@[simp] theorem append_pending (s : State) (e : Bool) (die block : Nat) (k : Kind) (n : Nat) (d : List Byte) :
    (s.append e die block k n d).pending = s.pending := by rw [append_told]; rfl
@[simp] theorem append_mode (s : State) (e : Bool) (die block : Nat) (k : Kind) (n : Nat) (d : List Byte) :
    (s.append e die block k n d).mode = s.mode := by rw [append_told]; rfl
@[simp] theorem append_phase (s : State) (e : Bool) (die block : Nat) (k : Kind) (n : Nat) (d : List Byte) :
    (s.append e die block k n d).phase = s.phase := by rw [append_told]; rfl
@[simp] theorem append_ident (s : State) (e : Bool) (die block : Nat) (k : Kind) (n : Nat) (d : List Byte) :
    (s.append e die block k n d).ident = s.ident := by rw [append_told]; rfl
@[simp] theorem append_io (s : State) (e : Bool) (die block : Nat) (k : Kind) (n : Nat) (d : List Byte) :
    (s.append e die block k n d).io = s.io := by rw [append_told]; rfl
@[simp] theorem append_prm (s : State) (e : Bool) (die block : Nat) (k : Kind) (n : Nat) (d : List Byte) :
    (s.append e die block k n d).prm = s.prm := by rw [append_told]; rfl
@[simp] theorem append_cfg (s : State) (e : Bool) (die block : Nat) (k : Kind) (n : Nat) (d : List Byte) :
    (s.append e die block k n d).cfg = s.cfg := by rw [append_told]; rfl
@[simp] theorem append_trig (s : State) (e : Bool) (die block : Nat) (k : Kind) (n : Nat) (d : List Byte) :
    (s.append e die block k n d).trig = s.trig := by rw [append_told]; rfl
@[simp] theorem append_ops (s : State) (e : Bool) (die block : Nat) (k : Kind) (n : Nat) (d : List Byte) :
    (s.append e die block k n d).ops = s.ops := by rw [append_told]; rfl
@[simp] theorem append_spine (s : State) (e : Bool) (die block : Nat) (k : Kind) (n : Nat) (d : List Byte) :
    (s.append e die block k n d).spine = s.spine := by rw [append_told]; rfl
@[simp] theorem append_ports (s : State) (e : Bool) (die block : Nat) (k : Kind) (n : Nat) (d : List Byte) :
    (s.append e die block k n d).ports = s.ports := by rw [append_told]; rfl
@[simp] theorem append_tts (s : State) (e : Bool) (die block : Nat) (k : Kind) (n : Nat) (d : List Byte) :
    (s.append e die block k n d).tts = s.tts := by rw [append_told]; rfl
@[simp] theorem append_chans (s : State) (e : Bool) (die block : Nat) (k : Kind) (n : Nat) (d : List Byte) :
    (s.append e die block k n d).chans = s.chans := by rw [append_told]; rfl
@[simp] theorem append_rails (s : State) (e : Bool) (die block : Nat) (k : Kind) (n : Nat) (d : List Byte) :
    (s.append e die block k n d).rails = s.rails := by rw [append_told]; rfl
@[simp] theorem append_store (s : State) (e : Bool) (die block : Nat) (k : Kind) (n : Nat) (d : List Byte) :
    (s.append e die block k n d).store = s.store := by rw [append_told]; rfl
@[simp] theorem append_segs (s : State) (e : Bool) (die block : Nat) (k : Kind) (n : Nat) (d : List Byte) :
    (s.append e die block k n d).segs = s.segs := by rw [append_told]; rfl
@[simp] theorem append_forager (s : State) (e : Bool) (die block : Nat) (k : Kind) (n : Nat) (d : List Byte) :
    (s.append e die block k n d).forager = s.forager := by rw [append_told]; rfl
@[simp] theorem append_pw (s : State) (e : Bool) (die block : Nat) (k : Kind) (n : Nat) (d : List Byte) :
    (s.append e die block k n d).pw = s.pw := by rw [append_told]; rfl
@[simp] theorem append_seen (s : State) (e : Bool) (die block : Nat) (k : Kind) (n : Nat) (d : List Byte) :
    (s.append e die block k n d).seen = s.seen := by rw [append_told]; rfl
@[simp] theorem append_hub (s : State) (e : Bool) (die block : Nat) (k : Kind) (n : Nat) (d : List Byte) :
    (s.append e die block k n d).hub = s.hub := by rw [append_told]; rfl
@[simp] theorem append_flash (s : State) (e : Bool) (die block : Nat) (k : Kind) (n : Nat) (d : List Byte) :
    (s.append e die block k n d).flash = s.flash := by rw [append_told]; rfl
@[simp] theorem append_led_tag (s : State) (e : Bool) (die block : Nat) (k : Kind) (n : Nat) (d : List Byte) :
    (s.append e die block k n d).led.tag = s.led.tag := by rw [append_told]; rfl
@[simp] theorem append_led_mark (s : State) (e : Bool) (die block : Nat) (k : Kind) (n : Nat) (d : List Byte) :
    (s.append e die block k n d).led.mark = s.led.mark := by rw [append_told]; rfl
@[simp] theorem append_led_boot (s : State) (e : Bool) (die block : Nat) (k : Kind) (n : Nat) (d : List Byte) :
    (s.append e die block k n d).led.boot = s.led.boot := by rw [append_told]; rfl
@[simp] theorem append_led_q62 (s : State) (e : Bool) (die block : Nat) (k : Kind) (n : Nat) (d : List Byte) :
    (s.append e die block k n d).led.q62 = s.led.q62 := by rw [append_told]; rfl
@[simp] theorem append_led_q62Next (s : State) (e : Bool) (die block : Nat) (k : Kind) (n : Nat) (d : List Byte) :
    (s.append e die block k n d).led.q62Next = s.led.q62Next := by rw [append_told]; rfl
@[simp] theorem append_led_openFaults (s : State) (e : Bool) (die block : Nat) (k : Kind) (n : Nat) (d : List Byte) :
    (s.append e die block k n d).led.openFaults = s.led.openFaults := by rw [append_told]; rfl
@[simp] theorem append_led_vdmDrops (s : State) (e : Bool) (die block : Nat) (k : Kind) (n : Nat) (d : List Byte) :
    (s.append e die block k n d).led.vdmDrops = s.led.vdmDrops := by rw [append_told]; rfl
@[simp] theorem append_led_attentions (s : State) (e : Bool) (die block : Nat) (k : Kind) (n : Nat) (d : List Byte) :
    (s.append e die block k n d).led.attentions = s.led.attentions := by rw [append_told]; rfl
@[simp] theorem append_led_next (s : State) (e : Bool) (die block : Nat) (k : Kind) (n : Nat) (d : List Byte) :
    (s.append e die block k n d).led.next = s.led.next + 1 := (append_logs s e die block k n d).1
@[simp] theorem append_ember_ms (s : State) (e : Bool) (die block : Nat) (k : Kind) (n : Nat) (d : List Byte) :
    (s.append e die block k n d).ember.ms = s.ember.ms := by rw [append_told]; rfl
@[simp] theorem append_ember_latched (s : State) (e : Bool) (die block : Nat) (k : Kind) (n : Nat) (d : List Byte) :
    (s.append e die block k n d).ember.latched = s.ember.latched := by rw [append_told]; rfl
@[simp] theorem append_ember_staged (s : State) (e : Bool) (die block : Nat) (k : Kind) (n : Nat) (d : List Byte) :
    (s.append e die block k n d).ember.staged = s.ember.staged := by rw [append_told]; rfl
@[simp] theorem append_ember_cause (s : State) (e : Bool) (die block : Nat) (k : Kind) (n : Nat) (d : List Byte) :
    (s.append e die block k n d).ember.cause = s.ember.cause := by rw [append_told]; rfl
@[simp] theorem append_ember_stretch (s : State) (e : Bool) (die block : Nat) (k : Kind) (n : Nat) (d : List Byte) :
    (s.append e die block k n d).ember.stretch = s.ember.stretch := by rw [append_told]; rfl
@[simp] theorem append_ember_retained (s : State) (e : Bool) (die block : Nat) (k : Kind) (n : Nat) (d : List Byte) :
    (s.append e die block k n d).ember.retained = s.ember.retained := by rw [append_told]; rfl
@[simp] theorem append_ember_fuseBank (s : State) (e : Bool) (die block : Nat) (k : Kind) (n : Nat) (d : List Byte) :
    (s.append e die block k n d).ember.fuseBank = s.ember.fuseBank := by rw [append_told]; rfl
@[simp] theorem append_ember_fuseBurn (s : State) (e : Bool) (die block : Nat) (k : Kind) (n : Nat) (d : List Byte) :
    (s.append e die block k n d).ember.fuseBurn = s.ember.fuseBurn := by rw [append_told]; rfl
@[simp] theorem append_port (s : State) (e : Bool) (die block : Nat) (k : Kind) (n : Nat) (d : List Byte) (m : Nat) :
    (s.append e die block k n d).port m = s.port m := by rw [append_told]; rfl
@[simp] theorem append_chan (s : State) (e : Bool) (die block : Nat) (k : Kind) (n : Nat) (d : List Byte) (m : Nat) :
    (s.append e die block k n d).chan m = s.chan m := by rw [append_told]; rfl
@[simp] theorem append_tt (s : State) (e : Bool) (die block : Nat) (k : Kind) (n : Nat) (d : List Byte) (m : Nat) :
    (s.append e die block k n d).tt m = s.tt m := by rw [append_told]; rfl
@[simp] theorem append_seg (s : State) (e : Bool) (die block : Nat) (k : Kind) (n : Nat) (d : List Byte) (m : Nat) :
    (s.append e die block k n d).seg m = s.seg m := by rw [append_told]; rfl
@[simp] theorem append_die (s : State) (e : Bool) (die block : Nat) (k : Kind) (n : Nat) (d : List Byte) (m : Nat) :
    (s.append e die block k n d).die m = s.die m := by rw [append_told]; rfl
@[simp] theorem append_link (s : State) (e : Bool) (die block : Nat) (k : Kind) (n : Nat) (d : List Byte) (m : Nat) :
    (s.append e die block k n d).link m = s.link m := by rw [append_told]; rfl
@[simp] theorem append_value (s : State) (e : Bool) (die block : Nat) (k : Kind) (n : Nat) (d : List Byte) (q : Param) (j : Nat) :
    (s.append e die block k n d).value q j = s.value q j := by rw [append_told]; rfl
@[simp] theorem append_nat (s : State) (e : Bool) (die block : Nat) (k : Kind) (n : Nat) (d : List Byte) (q : Param) (j : Nat) :
    (s.append e die block k n d).nat q j = s.nat q j := by rw [append_told]; rfl
theorem Tells.pending {l : List Note} (h : Tells s u l) : u.pending = s.pending := by rw [h.2]; rfl
theorem Tells.mode {l : List Note} (h : Tells s u l) : u.mode = s.mode := by rw [h.2]; rfl
theorem Tells.phase {l : List Note} (h : Tells s u l) : u.phase = s.phase := by rw [h.2]; rfl
theorem Tells.ident {l : List Note} (h : Tells s u l) : u.ident = s.ident := by rw [h.2]; rfl
theorem Tells.io {l : List Note} (h : Tells s u l) : u.io = s.io := by rw [h.2]; rfl
theorem Tells.prm {l : List Note} (h : Tells s u l) : u.prm = s.prm := by rw [h.2]; rfl
theorem Tells.cfg {l : List Note} (h : Tells s u l) : u.cfg = s.cfg := by rw [h.2]; rfl
theorem Tells.trig {l : List Note} (h : Tells s u l) : u.trig = s.trig := by rw [h.2]; rfl
theorem Tells.ops {l : List Note} (h : Tells s u l) : u.ops = s.ops := by rw [h.2]; rfl
theorem Tells.spine {l : List Note} (h : Tells s u l) : u.spine = s.spine := by rw [h.2]; rfl
theorem Tells.ports {l : List Note} (h : Tells s u l) : u.ports = s.ports := by rw [h.2]; rfl
theorem Tells.tts {l : List Note} (h : Tells s u l) : u.tts = s.tts := by rw [h.2]; rfl
theorem Tells.chans {l : List Note} (h : Tells s u l) : u.chans = s.chans := by rw [h.2]; rfl
theorem Tells.rails {l : List Note} (h : Tells s u l) : u.rails = s.rails := by rw [h.2]; rfl
theorem Tells.store {l : List Note} (h : Tells s u l) : u.store = s.store := by rw [h.2]; rfl
theorem Tells.segs {l : List Note} (h : Tells s u l) : u.segs = s.segs := by rw [h.2]; rfl
theorem Tells.forager {l : List Note} (h : Tells s u l) : u.forager = s.forager := by rw [h.2]; rfl
theorem Tells.pw {l : List Note} (h : Tells s u l) : u.pw = s.pw := by rw [h.2]; rfl
theorem Tells.hub {l : List Note} (h : Tells s u l) : u.hub = s.hub := by rw [h.2]; rfl
theorem Tells.seen {l : List Note} (h : Tells s u l) : u.seen = s.seen := by rw [h.2]; rfl
theorem Tells.flash {l : List Note} (h : Tells s u l) : u.flash = s.flash := by rw [h.2]; rfl
theorem Tells.port {l : List Note} (h : Tells s u l) (k : Nat) : u.port k = s.port k := by rw [h.2]; rfl
theorem Tells.chan {l : List Note} (h : Tells s u l) (k : Nat) : u.chan k = s.chan k := by rw [h.2]; rfl
theorem Tells.tt {l : List Note} (h : Tells s u l) (k : Nat) : u.tt k = s.tt k := by rw [h.2]; rfl
theorem Tells.seg {l : List Note} (h : Tells s u l) (k : Nat) : u.seg k = s.seg k := by rw [h.2]; rfl
theorem Tells.die {l : List Note} (h : Tells s u l) (k : Nat) : u.die k = s.die k := by rw [h.2]; rfl
theorem Tells.link {l : List Note} (h : Tells s u l) (k : Nat) : u.link k = s.link k := by rw [h.2]; rfl
theorem Tells.value {l : List Note} (h : Tells s u l) (q : Param) (j : Nat) : u.value q j = s.value q j := by rw [h.2]; rfl
theorem Tells.nat {l : List Note} (h : Tells s u l) (q : Param) (j : Nat) : u.nat q j = s.nat q j := by rw [h.2]; rfl
theorem Tells.tag {l : List Note} (h : Tells s u l) : u.led.tag = s.led.tag := by rw [h.2]; rfl

/-- One more entry. -/
theorem Tells.append {l : List Note} (h : Tells s u l) (e : Bool) (die block : Nat) (k : Kind) (n : Nat) (d : List Byte) :
    Tells s (u.append e die block k n d) (l ++ [noteOf s.led.tag e die block k n d]) := by
  rw [← h.tag]; exact h.trans (append_tells _ _ _ _ _ _ _)

/-- The notes of one append, with the tag named. -/
theorem append_tells_tag (s : State) (t : BitVec 16) (ht : s.led.tag = t) (e : Bool) (die block : Nat) (k : Kind) (n : Nat)
    (d : List Byte) : Tells s (s.append e die block k n d) [noteOf t e die block k n d] := by
  rw [← ht]; exact append_tells _ _ _ _ _ _ _

end Sys2Proof.Machine
end

