-- ==== Sys2Proof/Laws/Rest.lean ====
section
/-! SUPPORT. Operations that find nothing to do do nothing, and what the accessors say of an element just changed. -/

namespace Sys2Proof.Machine

variable {s u : State}

/-- Ending the operations of a subject that has none changes nothing. -/
theorem endOps_none (subj : Subject) (st : Status) (e : Bool) (h : s.NoOp subj) : s.endOps subj st e = s := by
  unfold State.endOps
  have h2 : s.ops.filter (fun o => !(o.subject == subj)) = s.ops := by
    rw [List.filter_eq_self]
    intro o ho
    have := (List.filter_eq_nil_iff.mp h) o ho
    simpa using this
  simp only [h2]
  rw [show s.ops.filter (fun o => o.subject == subj) = [] from h]
  rfl

theorem mem_upTo (lo hi n : Nat) : n ∈ upTo lo hi ↔ lo ≤ n ∧ n ≤ hi := by
  simp only [upTo, List.mem_map, List.mem_range]
  constructor
  · rintro ⟨a, h, rfl⟩; omega
  · intro h; exact ⟨n - lo, by omega, by omega⟩

theorem mem_allPorts (n : Nat) : n ∈ allPorts ↔ isPort n = true := by
  rw [allPorts, mem_upTo]; simp [isPort]

/-- A trip of a channel on which no recovery rests ends none. -/
theorem linkTripped_none (ch : Nat) (h : s.Unlinked ch) : s.linkTripped ch = s := by
  unfold State.linkTripped
  apply State.each_id
  intro n hn
  rw [mem_upTo] at hn
  rw [if_neg]
  intro hc
  simp at hc
  exact h n hn.2 hc.1 hc.2

/-- A redistribution that finds no port waiting and no claim changes nothing. -/
theorem redistribute_none (h : s.NoneWaits) : s.redistribute = s := by
  have e1 : s.waitingPorts = [] := by
    unfold State.waitingPorts
    rw [List.filter_eq_nil_iff.mpr]
    · rfl
    · intro p hp; simp [(h p ((mem_allPorts p).mp hp)).1]
  have e2 : s.claimPorts = [] := by
    unfold State.claimPorts
    rw [List.filter_eq_nil_iff.mpr]
    · rfl
    · intro p hp; simp [(h p ((mem_allPorts p).mp hp)).2]
  unfold State.redistribute
  rw [e1]
  show State.each s s.claimPorts _ = s
  rw [e2]
  rfl

theorem isChan_of_isPort (ch : Nat) (h : isPort ch = true) : isChan ch = true := by simp [isPort, isChan] at *; omega

theorem onChan_chan_self (s : State) (ch : Nat) (f : Chan → Chan) (h : isChan ch = true) : (s.onChan ch f).chan ch = f (s.chan ch) := by
  rw [State.onChan_chan, if_pos ⟨rfl, h⟩]
theorem onPort_port_self (s : State) (ch : Nat) (f : Port → Port) (h : isPort ch = true) : (s.onPort ch f).port ch = f (s.port ch) := by
  rw [State.onPort_port, if_pos ⟨rfl, h⟩]

theorem onChan_onPort (s : State) (a b : Nat) (f : Port → Port) (g : Chan → Chan) : (s.onPort a f).onChan b g = (s.onChan b g).onPort a f := by
  unfold State.onPort State.onChan State.setPort State.setChan
  split <;> split <;> rfl

theorem exitMode_none (p : Nat) (h : (s.port p).pd.mode = none) : s.exitMode p = s := by
  unfold State.exitMode; rw [h]

/-- Where no P1 action is open, closing it changes nothing. -/
theorem closeP1_none (p g : Nat) (h : (s.port p).pd.p1.state ≠ 1) : s.closeP1 p g = s := by
  unfold State.closeP1; rw [if_neg h]

/-- The end of a port's power where no mode is entered. -/
theorem endPower_plain (p : Nat) (h : (s.port p).pd.mode = none) : s.endPower p = s.onPort p fun q => { q with vconn := false, bus := q.bus.unpowered, pd := q.pd.endContract } := by
  unfold State.endPower; rw [exitMode_none p h]

theorem NoOp_of {t : State} {subj : Subject} (h : s.NoOp subj) (e : t.ops = s.ops) : t.NoOp subj := by unfold State.NoOp; rw [e]; exact h


/-- The same for operations of some opcodes only. -/
theorem endOpsOf_none (subj : Subject) (codes : List Opcode) (st : Status) (e : Bool) (h : s.NoOp subj) :
    s.endOpsOf subj codes st e = s := by
  unfold State.endOpsOf
  have h1 : ∀ o ∈ s.ops, (o.subject == subj) = false := by
    intro o ho
    simpa using (List.filter_eq_nil_iff.mp h) o ho
  have h2 : s.ops.filter (fun o => !(o.subject == subj && codes.contains o.op)) = s.ops := by
    rw [List.filter_eq_self]
    intro o ho; simp [h1 o ho]
  have h3 : s.ops.filter (fun o => o.subject == subj && codes.contains o.op) = [] := by
    rw [List.filter_eq_nil_iff]
    intro o ho; simp [h1 o ho]
  dsimp only
  rw [h2, h3]
  rfl

/-- A subject with one pending operation, which ends with its `CMD_COMPLETE` (R66). -/
theorem endOps_one (subj : Subject) (o : PendingOp) (st : Status) (e : Bool)
    (h : s.ops.filter (fun o => o.subject == subj) = [o]) :
    s.endOps subj st e = State.completion { s with ops := s.ops.filter fun o => !(o.subject == subj) } o st e := by
  unfold State.endOps
  dsimp only
  rw [h]
  rfl

/-- A latched fault that is not outstanding is appended once, and is outstanding from then on (R290). -/
theorem latch_tells (s : State) (e : Bool) (die block code subject : Nat) (d : List Byte) (h : s.faultOpen code subject = false) :
    Tells (s.faulted code subject (byteOf d 0)) (s.latch e die block code subject d)
      [noteOf s.led.tag e die block .fault subject (b16 code ++ b8 1 ++ d)] := by
  have a := append_tells s e die block .fault subject (b16 code ++ b8 1 ++ d)
  unfold State.latch
  rw [if_neg (by rw [h]; exact Bool.false_ne_true)]
  refine ⟨a.1, ?_⟩
  dsimp only
  rw [a.2]
  rfl

/-- A latched fault that is outstanding is not appended again (R290). -/
theorem latch_open (s : State) (e : Bool) (die block code subject : Nat) (d : List Byte) (h : s.faultOpen code subject = true) :
    s.latch e die block code subject d = s := by
  unfold State.latch; rw [h]; rfl

theorem Tells.faulted {l : List Note} (h : Tells s u l) (code subject d3 : Nat) :
    Tells (s.faulted code subject d3) (u.faulted code subject d3) l := by
  refine ⟨h.1, ?_⟩
  have e : u.faulted code subject d3 = (s.told u).faulted code subject d3 := by rw [← h.2]
  rw [e]
  rfl

/-! Numbers of channels and ports. -/

theorem aux_notport {ch : Nat} (h : isAux ch = true) : isPort ch = false := by simp [isAux, isPort] at *; omega
theorem aux_ext {ch : Nat} (h : isAux ch = true) : isExternal ch = true := by simp [isAux, isExternal] at *; omega
theorem int_port {ch : Nat} (h : isIntegrated ch = true) : isPort ch = true := by simp [isIntegrated, isPort] at *; omega
theorem int_notext {ch : Nat} (h : isIntegrated ch = true) : isExternal ch = false := by simp [isIntegrated, isExternal] at *; omega
theorem int_notaux {ch : Nat} (h : isIntegrated ch = true) : isAux ch = false := by simp [isIntegrated, isAux] at *; omega

theorem onChan_congr (s : State) (n : Nat) (f g : Chan → Chan) (h : f (s.chan n) = g (s.chan n)) : s.onChan n f = s.onChan n g := by unfold State.onChan; rw [h]

theorem lockChan_aux (s : State) (ch r : Nat) (h : isPort ch = false) : s.lockChan ch r = (s.onChan ch fun c => { c with state := .locked, lock := some r, leg := none, gate := none, offCheck := .none, gateCheck := false, retryWaits := false, tripped := false, crossing := none }).append false 3 blkChan .chanLocked ch (b8 r) := by
  unfold State.lockChan State.when
  simp [h]

theorem releaseGrant_zero (s : State) (p : Nat) (h : (s.port p).grant = 0) : s.releaseGrant p = s.onPort p fun q => { q with claim := 0 } := by
  unfold State.releaseGrant; rw [if_pos h]

theorem lockChan_port (s : State) (ch r : Nat) (h : isPort ch = true) (pl : s.Plain ch) :
   ∃ t, Tells ((s.onChan ch fun c => { c with state := .locked, lock := some r, leg := none, gate := none, offCheck := .none, gateCheck := false, retryWaits := false, tripped := false, crossing := none }).onPort ch fun q => { q with vconn := false, bus := q.bus.unpowered, pd := q.pd.endContract, waiting := false }) t [noteOf s.led.tag false 3 blkChan .chanLocked ch (b8 r)] ∧ s.lockChan ch r = t.releaseGrant ch := by
  unfold State.lockChan State.when
  simp only [h, if_true]
  rw [closeP1_none _ _ pl.p1]
  have a := append_tells (s.onChan ch fun c => { c with state := .locked, lock := some r, leg := none, gate := none, offCheck := .none, gateCheck := false, retryWaits := false, tripped := false, crossing := none }) false 3 blkChan .chanLocked ch (b8 r)
  have b := a.onPort ch fun q => { q with vconn := false, bus := q.bus.unpowered, pd := q.pd.endContract, waiting := false }
  refine ⟨_, by simpa using b, ?_⟩
  rw [endPower_plain _ (by simpa using pl.mode), State.onPort_onPort]
  rw [endOps_none]
  apply NoOp_of pl.op
  unfold State.releaseGrant State.setGrant
  split <;> simp

theorem noneWaits_of {s t : State} (h : s.NoneWaits) (e : ∀ p, (t.port p).waiting = true → (s.port p).waiting = true) (e2 : ∀ p, (t.port p).claim ≠ 0 → (s.port p).claim ≠ 0) : t.NoneWaits := by
  intro p hp
  obtain ⟨a, b⟩ := h p hp
  refine ⟨?_, ?_⟩
  · cases hw : (t.port p).waiting with
    | false => rfl
    | true => rw [e p hw] at a; exact absurd a (by simp)
  · by_contra hc; exact e2 p hc b

theorem redistribute_tells {T u : State} {l : List Note} (h : Tells T u l) (n : T.NoneWaits) : u.redistribute = u :=
  redistribute_none (by intro p hp; rw [h.port]; exact n p hp)

theorem noneWaits_onPort {s : State} (h : s.NoneWaits) (n : Nat) (f : Port → Port) (e : (f (s.port n)).waiting = false) (e2 : (f (s.port n)).claim = 0) : (s.onPort n f).NoneWaits := by
  intro p hp
  rw [State.onPort_port]
  split
  · rename_i hh; rw [hh.1]; exact ⟨e, e2⟩
  · exact h p hp

theorem unlinked_of {s t : State} {ch : Nat} (h : s.Unlinked ch) (e : t.prm = s.prm) (e2 : t.segs = s.segs) : t.Unlinked ch := by
  intro n hn hl
  unfold State.seg; rw [e2]
  apply h n hn
  rw [← hl]; unfold State.nat State.value; rw [e]

theorem noneWaits_onChan {s : State} (h : s.NoneWaits) (n : Nat) (f : Chan → Chan) : (s.onChan n f).NoneWaits := by
  intro p hp; simpa using h p hp

theorem Tells_free {T V u : State} {n : Nat} {l : List Note} (h : Tells V u l) (e : V = { T with free := n }) : Tells T u l := by subst e; exact h

end Sys2Proof.Machine
end

