-- ==== Sys2Proof/Tests/Slice0.lean ====
section
/-! SUPPORT. Tests of the model, each about one step from a small state: ill-formed operands are refused, and every statement's hypotheses are met by a state from which its rows do what it says. -/

namespace Sys2Proof.Tests

open Machine

set_option Elab.async false

/-! States. -/

/-- A device in RUN: the rails are up, an image is applied, the channels are off and the ports free. -/
def up : State :=
  { State.reset with
    mode := .run, phase := .up, rails := 0xF, led := { Ledger.init with next := 1 }
    cfg := { Cfg.init with state := .applied, slotValid := 1 }
    spine := { Spine.init with bootOff := false, epoch := 1 }, hub := { Hub.init with upVbus := true } }

/-- The same with parameter values. -/
def par (l : List (Param × Nat × Word)) (s : State) : State := l.foldl (fun s x => s.setValue x.1 x.2.1 x.2.2) s

/-- Every family is allowed to every client. -/
def fam (s : State) : State :=
  par [(.cmdC0Families, 0, 0xFFFFFFFF), (.cmdC1Families, 0, 0xFFFFFFFF), (.cmdC3Families, 0, 0xFFFFFFFF)] s

/-- A port that is attached and powered. -/
def on (p : Nat) (s : State) : State :=
  (s.onChan p fun c => { c with state := .on, leg := some 0, gate := some 0 }).onPort p fun q => { q with attached := true, grant := 150 }

/-- A channel in a state. -/
def ch (n : Nat) (x : ChanState) (s : State) : State := s.onChan n fun c => { c with state := x }

/-- An attached, powered port in a phase of its negotiation. -/
def ph (p : Nat) (x : PdPhase) (f : Pd → Pd) (s : State) : State :=
  (on p s).onPd p fun d => f { d with phase := x, revision := 3, caps := [⟨0, 300⟩, ⟨1, 17⟩] }

/-- An explicit contract for 100 mA at 5 V. -/
def contracted (d : Pd) : Pd := { d with contract := some ⟨0, 1, 10, 10, 5⟩ }

/-- The upstream link in U0 at High-Speed, with the management function configured. -/
def linkUp (s : State) : State := s.onHub fun h => { h with link := 1, speed := 2, configuredM := true }

/-- The header of the commands here. -/
def h0 : CmdHeader := { client := .c3, tag := 7 }

/-- A pending operation. -/
def op (subject : Subject) (o : Opcode) (s : State) : State := { s with ops := s.ops ++ [⟨subject, 0, o, .c0, 0x99, 3, false⟩] }

/-! The hypotheses, as Booleans. -/

def openB (s : State) : Bool := s.listening && (s.nextInput s.io.waiting).isNone && s.led.tag == 0xFFFF && s.led.fires.isEmpty

theorem open_of {s : State} (h : openB s = true) : s.Open := by
  simp only [openB, Bool.and_eq_true, Option.isNone_iff_eq_none, beq_iff_eq, List.isEmpty_iff] at h
  exact ⟨h.1.1.1, h.1.1.2, h.1.2, h.2⟩

def hearsB (s : State) (d b : Nat) : Bool := !(s.die d).quarantined && !s.blockDown d b && !(s.die d).absent

theorem hears_of {s : State} {d b : Nat} (h : hearsB s d b = true) : s.Hears d b := by
  simp only [hearsB, Bool.and_eq_true, Bool.not_eq_true'] at h
  exact ⟨h.1.1, h.1.2, h.2⟩

def plainB (s : State) (p : Nat) : Bool :=
  (s.port p).pd.p1.state != 1 && (s.port p).pd.mode.isNone && (s.ops.filter fun o => o.subject == .port p).isEmpty

theorem plain_of {s : State} {p : Nat} (h : plainB s p = true) : s.Plain p := by
  simp only [plainB, Bool.and_eq_true, bne_iff_ne, Option.isNone_iff_eq_none, List.isEmpty_iff] at h
  exact ⟨h.1.1, h.1.2, h.2⟩

def freeB (s : State) : Bool := (upTo 1 16).all fun p => !(s.port p).waiting && (s.port p).claim == 0

theorem noneWaits_of {s : State} (h : freeB s = true) : s.NoneWaits := by
  intro p hp
  simp only [isPort, Bool.and_eq_true, decide_eq_true_eq] at hp
  simp only [freeB, List.all_eq_true, Bool.and_eq_true, Bool.not_eq_true', beq_iff_eq] at h
  exact h p ((mem_upTo 1 16 p).2 hp)

def noOpB (s : State) (x : Subject) : Bool := (s.ops.filter fun o => o.subject == x).isEmpty

theorem noOp_of {s : State} {x : Subject} (h : noOpB s x = true) : s.NoOp x := List.isEmpty_iff.1 h

def unlinkedB (s : State) (c : Nat) : Bool := (upTo 0 3).all fun n => s.nat .twiPowerLink n != c || (s.seg n).recovery != .linkSettle

theorem unlinked_of {s : State} {c : Nat} (h : unlinkedB s c = true) : s.Unlinked c := by
  intro n hn e
  simp only [unlinkedB, List.all_eq_true, Bool.or_eq_true, bne_iff_ne] at h
  exact (h n ((mem_upTo 0 3 n).2 ⟨Nat.zero_le n, hn⟩)).resolve_left fun x => x e

/-- A command is taken at once, and no check refuses it. -/
def takesB (s : State) (i : Instr) : Bool :=
  match commandOf i with
  | some (h, o, p) =>
    let c := headerCommand h o p
    openB s && !s.io.heldClient h.client && decide (c.plen ≤ 1012) && ((s.taken c).refusal (extClient h.client) c).isNone
  | none => false

theorem takes_of {s : State} {i : Instr} (h : takesB s i = true) : ∃ hd o p, commandOf i = some (hd, o, p) ∧
    s.Takes hd.client (headerCommand hd o p) ∧
    (s.taken (headerCommand hd o p)).refusal (extClient hd.client) (headerCommand hd o p) = none := by
  unfold takesB at h
  split at h
  · rename_i hd o p e
    simp only [Bool.and_eq_true, Bool.not_eq_true', decide_eq_true_eq, Option.isNone_iff_eq_none] at h
    exact ⟨hd, o, p, e, ⟨open_of h.1.1.1, h.1.1.2, h.1.2⟩, h.2⟩
  · cases h

/-- The next state of a row has a property. -/
def runs (s : State) (i : Instr) (f : State → Bool) : Bool :=
  match exec i s with
  | .next u => f u
  | _ => false

/-- A state that takes inputs meets a condition, and a row does something there. -/
def meets (s : State) (c : Bool) (i : Instr) (f : State → Bool) : Bool := openB s && c && runs s i f

/-- A state meets a condition, and a row does something there. -/
def acts (s : State) (c : Bool) (i : Instr) (f : State → Bool) : Bool := c && runs s i f

/-- A command that is not refused does something. -/
def gives (s : State) (i : Instr) (f : State → Bool) : Bool := takesB s i && runs s i f

/-- The newest entry is of a kind. -/
def newest (u : State) (k : Kind) : Bool := (u.led.ring.head?.map (·.kind)) == some k

/-- The reply that waits last for C3. -/
def reply (u : State) : Option Reply := u.io.replies3.getLast?

/-! Well-formedness: an ill-formed term for each check of a row is refused. -/

theorem test_wf_packets :
    ([Instr.echo, Instr.identify, Instr.reset, Instr.modeRequest, Instr.queueStatus, Instr.serviceEnter, Instr.paramGet,
     Instr.paramSet, Instr.paramGetBlock, Instr.paramStage, Instr.paramCommit, Instr.portEnable, Instr.portDisable,
     Instr.portReset, Instr.portSuspend, Instr.portResume, Instr.portStatus, Instr.chanOn, Instr.chanOff,
     Instr.chanClearTrip, Instr.chanMeasure, Instr.pdStatus, Instr.pdRenegotiate, Instr.pdHardReset, Instr.pdVdmSend,
     Instr.pdModeEnter, Instr.pdModeExit, Instr.twiXfer, Instr.twiRecover, Instr.twiAttnRead, Instr.ledgerRead,
     Instr.ledgerMark, Instr.ledgerHead, Instr.voteSet, Instr.voteClear, Instr.pstateStatus, Instr.plSet,
     Instr.padRelease, Instr.cfgRead, Instr.cfgWriteBegin, Instr.cfgWriteData, Instr.cfgWriteCommit, Instr.cfgApply,
     Instr.testRun, Instr.testStatus, Instr.healthRead, Instr.holdStatus, Instr.holdTapTest, Instr.trigLoad,
     Instr.trigArm, Instr.trigDisarm] :
      List (CmdHeader → List Byte → Instr)).all (fun f => !(f h0 (List.replicate 1013 0)).wf && (f h0 (List.replicate 1012 0)).wf) = true := by decide +kernel

theorem test_wf_numbers_1 :
    ([.c0BulkOutPacket (List.replicate 513 0), .bor 2, .parityReset 4 0, .blockReady 4 none, .clockDeadTimeout 4 1,
     .clockDeadTimeout 1 18, .frameReceived 3 true ⟨0, true, 0⟩ true, .laneDrop 3 0 0, .laneRetrainAttempt 3 1,
     .laneRetrainAttempt 1 4, .laneRejoin 3 1, .laneRejoin 1 4, .retrainIntervalReset 3 1, .retrainIntervalReset 1 4,
     .tickFrame 4 0 true, .stateDigestExchange 4 0 [], .answer 4 0 0 0, .answerTimeout 4, .wake 10 0, .upLink 1 1 ⟨3, false⟩,
     .upLaneRecovery 2, .hostPortPower 0 true, .hostPortReset 17, .hostSelectiveSuspend 0, .hostPortResume 17,
     .portResumeComplete 0, .downstreamRemoteWake 17, .portResetComplete 0 none, .ssLinkU0 17 1, .babble 0 1,
     .connectChatter 17 1, .ssTrainingFail 0, .ssInactive 17, .suspendCurrentCheck 0 0, .cycleOffExpiry 17,
     .ttStartSplit 0 ⟨.isochronous, 0⟩ 1, .ttCompleteSplit 17 ⟨.interrupt, 0⟩, .ttResultExpiry 0, .clearTtBuffer 17, .resetTt 0] : List Instr).all (fun i => !i.wf) = true := by decide +kernel

theorem test_wf_numbers_2 :
    ([.getTtState 17, .stopTt 0, .portAttach 17 1 true, .portAttach 1 3 true, .portDetach 0, .vconnOverload 17 0,
     .cableDiscovery 0, .rampComplete 25, .reservationArrival 0, .srcCapsRepeat 17, .request 0 1 1 1 true,
     .request 1 16 1 1 true, .sameRailPsRdy 17, .transitionStart 0 true, .vbusInBand 17, .railTransition 0 0,
     .pdContract 17, .transMaxExpiry 0 0, .settleMaxExpiry 17 0, .hardResetReceived 0, .hardResetRestore 17,
     .softReset 0, .getSourceCap 17, .getRevision 0, .swapRequest 17 .drSwap, .unsupportedMessage 0 .alert,
     .bist 17 true, .requestTimeout 0, .vdmReceived 17 1 [], .vdmReceived 1 3 [], .vdmResponseTimeout 0,
     .vdmSendDone 17 true, .sbuSwitchClose 0, .sbuOvervoltage 17 0, .hardShort 0 0 0, .currentLimitReached 25,
     .overloadTimeout 0 0 0, .overTemperature 25 0 0, .rampFault 0 0 0, .retryDelayExpiry 25] : List Instr).all (fun i => !i.wf) = true := by decide +kernel

theorem test_wf_numbers_3 :
    ([.gateCheckTimeout 0 0, .dischargeEnd 25, .offCheckTimeout 0 0, .backdrive 25 0, .legLeak 0 0 0, .railLow 4,
     .railHigh 4, .railBackInBand 4, .cellBleed 7 true, .cellDeviation 7, .tapTest 7 0, .holdCell 0 1, .holdCell 1 6,
     .capacitanceEstimate 7 1, .transferStart 5 true, .transferComplete 5 (.stop []), .arbitrationLost 5,
     .stretchTimeout 5 0, .stretchInsideByte 5, .stretchHoldTimeout 5, .inBandRequest 5 true, .twAttn 5 1 [],
     .twAttn 1 3 [], .mailboxWrite 5 [], .mailboxOverflow 5, .recoveryPulses 5 1 true, .powerLinkOffExpiry 5,
     .powerLinkSettle 5, .recoverBusFreeWait 5 true, .regulationEnd 0, .gateCheckPass 25, .goodcrcReceived 0,
     .softResetAccepted 17, .downstreamConnectChange 0 true true, .portSuspendComplete 17, .sbuSwitchOpen 0] : List Instr).all (fun i => !i.wf) = true := by decide +kernel

/-! Channels and rails. -/

theorem witness_TripEntersRetryWait :
    [meets (on 1 up) (hearsB (on 1 up) 3 blkChan && unlinkedB up 1 && plainB (on 1 up) 1) (.hardShort 1 9000 4000) fun u =>
      (u.chan 1).state == .retryWait && newest u .chanTrip && (u.port 1).bus.overCurrent && (u.chan 1).trips == 1,
     meets (ch 16 .regulating up) (hearsB up 3 blkChan && decide (0 < up.nat .chanRetryMax 16)) (.overloadTimeout 16 1 2) fun u =>
      (u.chan 16).state == .retryWait,
     meets (ch 24 .ramping up) (hearsB up 3 blkChan && unlinkedB up 24) (.rampFault 24 1 2) fun u =>
      (u.chan 24).state == .retryWait && (u.led.ring.head?.map (·.data.take 2)) == some [2, 0],
     meets (ch 12 .on up) (isIntegrated 12 && plainB up 12) (.overTemperature 12 1 2) fun u => newest u .chanTrip].all id = true := by
  decide +kernel

theorem witness_TripWithoutRetriesLocks :
    (let s := (on 16 up).onChan 16 fun c => { c with retries := 9 }
     [meets s (freeB s && decide (s.nat .chanRetryMax 16 ≤ (s.chan 16).retries) && decide (0 < (s.port 16).grant))
        (.hardShort 16 60000 2) fun u => (u.chan 16).lock == some 0 && (u.port 16).grant == 0 && newest u .allotChange,
      let s := (ch 17 .on up).onChan 17 fun c => { c with retries := 9 }
      meets s (plainB s 16 && unlinkedB s 17) (.hardShort 17 60000 2) fun u => (u.chan 17).state == .locked && newest u .chanLocked].all
      id) = true := by
  decide +kernel

theorem witness_ChannelStateEvents :
    [meets (ch 1 .on up) (hearsB up 3 blkChan) (.currentLimitReached 1) fun u => (u.chan 1).state == .regulating,
     meets (ch 24 .regulating up) (isChan 24) (.regulationEnd 24) fun u => (u.chan 24).state == .on,
     meets (ch 13 .ramping up) (isExternal 13) (.rampComplete 13) fun u => (u.chan 13).gateCheck,
     (let s := ch 12 .ramping (up.onPort 12 fun q => { q with attached := true })
      meets s (isIntegrated 12 && s.pdOn 12) (.rampComplete 12) fun u => (u.port 12).pd.phase == .waitGrant),
     meets (up.onChan 17 fun c => { c with state := .ramping, gateCheck := true }) (isAux 17) (.gateCheckPass 17) fun u =>
      (u.chan 17).state == .on,
     meets (up.onChan 1 fun c => { c with offCheck := .discharging }) (isIntegrated 1) (.dischargeEnd 1) fun u =>
      (u.chan 1).offCheck == .window,
     meets ((ch 24 .retryWait up).onEmber fun e => { e with latched := true }) (isAux 24) (.retryDelayExpiry 24) fun u =>
      (u.chan 24).retryWaits,
     meets (ch 24 .retryWait up) (isAux 24) (.retryDelayExpiry 24) fun u =>
      (u.chan 24).state == .ramping && (u.chan 24).retries == 1 && newest u .chanOn].all id = true := by
  decide +kernel

theorem witness_GateAndOffChecks :
    [meets (up.onChan 17 fun c => { c with state := .ramping, gateCheck := true }) (freeB up && unlinkedB up 17)
      (.gateCheckTimeout 17 900) fun u => (u.chan 17).lock == some 1,
     meets ((up.onChan 12 fun c => { c with offCheck := .window }).onPort 12 fun q => { q with attached := true }) (isIntegrated 12)
      (.offCheckTimeout 12 900) fun u => (u.port 12).rpRemoved && (u.chan 12).offCheck == .rpOff,
     meets (up.onChan 1 fun c => { c with offCheck := .rpOff }) (isIntegrated 1) (.backdrive 1 5) fun u => (u.chan 1).refused,
     meets (up.onChan 1 fun c => { c with offCheck := .rpOff }) (plainB up 1) (.legLeak 1 2 900) fun u => (u.chan 1).lock == some 2,
     meets (up.onChan 1 fun c => { c with offCheck := .window }) (plainB up 1) (.offCheckTimeout 1 900) fun u =>
      (u.chan 1).lock == some 2 && newest u .chanLocked].all id = true := by
  decide +kernel

theorem witness_RailsFollowTheirFaults :
    [meets (on 2 up) (up.railUp 0) (.railLow 0) fun u => !u.rails.getLsbD 0 && (u.port 2).waiting && (u.chan 2).state == .off,
     meets up (up.railUp 3) (.railHigh 3) fun u => u.rails == 7 && newest u .fault,
     meets { up with rails := 0xE } ((up.value .railMask 0).getLsbD 0) (.railBackInBand 0) fun u => u.rails == 0xF,
     meets { up with rails := 7 } ((up.value .railMask 0).getLsbD 3) (.railBackInBand 3) fun u => u.rails == 0xF].all id = true := by
  decide +kernel

/-! The Honeystore. -/

/-- A device with four cells. -/
def cells (s : State) : State := par [(.holdCells, 0, 4)] s

theorem witness_ChargerAndBalancer :
    [acts (cells up) (cells up).monitorUp .chargerStart fun u => u.store.charging,
     acts (up.onStore fun g => { g with charging := true }) true .chargerStop fun u => !u.store.charging,
     acts ((cells up).onStore fun g => { g with bleeding := 0xF }) true (.cellBleed 4 false) fun u => u.store.bleeding == 7,
     acts (cells up) (decide ((cells up).cells = 4)) (.cellBleed 1 true) fun u => u.store.bleeding == 1,
     acts { cells up with mode := .deepSleep } true .refillWake fun u => u.pw.wakeLatch.getLsbD 9].all id = true := by
  decide +kernel

theorem witness_MonitorFindings :
    (let s := cells up
     let t := fun tap (s : State) => s.onStore fun g => { g with tapTesting := tapBit tap }
     [meets s (s.monitorUp && hearsB s 3 blkStore) (.chargerFault true) fun u => newest u .fault && u.faultOpen 0x0432 0,
      meets s s.monitorUp (.cellSumMismatch false 300) fun u => u.store.tapTesting == 0x11 && u.faultOpen 0x0431 0,
      meets s s.monitorUp (.cellDeviation 3) fun u => u.store.tapTesting == 8,
      meets (t 0 s) (noOpB s .honeystore) (.tapTest 0 2) fun u => u.store.tapsOpen == 1 && newest u .holdTapOpen,
      meets (t 4 s) (noOpB s .honeystore) (.tapTest 4 1500) fun u => u.store.tapsOpen == 0x10,
      meets (t 3 s) true (.tapTest 3 1) fun u => u.store.tapTesting == 0 && u.store.tapsOpen == 0,
      meets s (!s.store.besideOpen 4) (.holdCell 4 5) fun u => u.store.bleeding == 8 && newest u .holdCell,
      meets s true (.holdCell 1 4) fun u => u.store.latchedCells == 1,
      meets s true (.capacitanceEstimate 1 60) fun u => bankGet u.store.caps 0 none == some (6000, 60),
      meets s (decide (0 < s.nat .holdEMin 0)) (.energyThreshold true 0) fun u => u.store.below && newest u .fault].all id) = true := by
  decide +kernel

/-! The two-wire segments. -/

/-- The segments are enabled. -/
def segs (s : State) : State := par [(.twiEnable, 0, 1), (.twiEnable, 1, 1), (.twiEnable, 2, 1), (.twiEnable, 3, 1)] s

/-- A write of one byte and a read of two. -/
def xfer : Transfer := ⟨⟨.segment 3, 3, .twiXfer, .c3, 0x55, 0, false⟩, 0x20, true, [9], 2, 0, [], 0, 0⟩

/-- A segment with it. -/
def seg (n : Nat) (f : Seg → Seg) : State := (segs up).onSeg n f

theorem witness_TransfersRunAndEnd :
    [meets (seg 3 fun g => { g with queue := [xfer] }) (hearsB up 3 blkTwi) (.transferStart 3 false) fun u =>
      (u.seg 3).running.isSome && (u.seg 3).queue.isEmpty,
     meets (seg 0 fun g => { g with running := some xfer }) true (.transferComplete 0 (.stop [1, 2])) fun u =>
      (u.seg 0).running.isNone && ((u.seg 0).results.map (·.bytes)) == [[1, 2]] && newest u .cmdComplete,
     meets (seg 3 fun g => { g with running := some xfer }) true (.transferComplete 3 .addressNack) fun u =>
      ((u.seg 3).results.map (·.bytes.take 1)) == [[1]],
     meets (seg 3 fun g => { g with running := some xfer }) true (.transferComplete 3 (.byteNack 0)) fun u =>
      ((u.seg 3).results.map (·.bytes)) == [[2, 0]],
     meets (seg 3 fun g => { g with running := some xfer }) (hearsB up 3 blkTwi) (.arbitrationLost 3) fun u =>
      ((u.seg 3).queue.map (·.losses)) == [1],
     meets (seg 1 fun g => { g with running := some { xfer with losses := 2 } }) true (.arbitrationLost 1) fun u =>
      newest u .cmdComplete,
     meets (seg 1 fun g => { g with running := some xfer }) (decide ((segs up).value .twiStretchMode 1 = 0)) (.stretchTimeout 1 5)
      fun u => (u.seg 1).stretched && newest u .cmdComplete,
     meets (seg 1 fun g => { g with running := some xfer }) true (.stretchInsideByte 1) fun u => newest u .cmdComplete,
     meets (par [(.twiAttnAddr, 2, 0x31)] (seg 2 fun g => { g with attention := true })) true (.stretchTimeout 2 5) fun u =>
      newest u .violation && (u.seg 2).stretched,
     meets (par [(.twiStretchMode, 1, 1)] (seg 1 fun g => { g with running := some xfer })) true (.stretchTimeout 1 5) fun u =>
      (u.seg 1).running.isSome,
     meets (par [(.twiStretchMode, 1, 1)] (seg 1 fun g => { g with running := some xfer })) true (.stretchInsideByte 1) fun u =>
      (u.seg 1).running.isSome].all
      id = true := by
  decide +kernel

theorem witness_AttentionAndMailboxes :
    [meets (segs up) ((segs up).segEnabled 3 && !(segs up).segDown 3) (.inBandRequest 3 true) fun u => (u.seg 3).attention,
     meets (segs up) ((segs up).segEnabled 0) (.inBandRequest 0 false) fun u => newest u .violation,
     meets (seg 1 fun g => { g with attention := true }) (decide ((segs up).nat .twiAttnAddr 1 = 0)) (.twAttn 1 0 []) fun u =>
      newest u .twAttn && !(u.seg 1).attention,
     meets (par [(.twiAttnAddr, 1, 0x31), (.twiAttnLen, 1, 2)] (seg 1 fun g => { g with attention := true })) true
      (.twAttn 1 0 [1, 2, 3]) fun u => (u.seg 1).attn == some (0, [1, 2]),
     meets (par [(.twiMboxAddr, 2, 0x30)] (segs up)) true (.mailboxWrite 2 [5]) fun u => (u.seg 2).mailbox == some [5],
     meets (par [(.twiMboxAddr, 2, 0x30)] (segs up)) true (.mailboxOverflow 2) fun u => newest u .violation,
     meets (par [(.twiMboxAddr, 4, 0x30)] (segs up)) true (.mailboxWrite 4 [5]) fun u => (u.seg 4).mailbox == some [5]].all id = true := by
  decide +kernel

theorem witness_SegmentRecovery :
    (let linked := par [(.twiPowerLink, 1, 17)]
     [meets (seg 0 fun g => { g with stretched := true }) true (.stretchHoldTimeout 0) fun u => (u.seg 0).recovery == .pulses false,
      meets (seg 3 fun g => { g with recovery := .pulses false }) (decide (9 ≤ (segs up).nat .twiRecoverPulses 3))
        (.recoveryPulses 3 9 true) fun u => newest u .twRecovered,
      meets (seg 3 fun g => { g with recovery := .pulses true }) true (.recoveryPulses 3 9 false) fun u => (u.seg 3).held,
      (let s := linked (ch 17 .on (seg 1 fun g => { g with recovery := .pulses false }))
       meets s (s.linkApplies 1 && isAux (s.nat .twiPowerLink 1)) (.recoveryPulses 1 9 false) fun u =>
         (u.seg 1).recovery == .linkOff && (u.chan 17).state == .off),
      meets (linked (seg 1 fun g => { g with recovery := .linkOff })) true (.powerLinkOffExpiry 1) fun u =>
        (u.chan 17).state == .ramping,
      meets (linked (ch 17 .on (seg 1 fun g => { g with recovery := .linkSettle }))) true (.powerLinkSettle 1) fun u =>
        (u.seg 1).recovery == .pulses true,
      meets (seg 2 fun g => { g with recovery := .waitFree }) true (.recoverBusFreeWait 2 true) fun u => newest u .twRecovered,
      meets (seg 2 fun g => { g with recovery := .waitFree }) true (.recoverBusFreeWait 2 false) fun u =>
        (u.seg 2).recovery == .pulses false,
      meets ((linked (seg 1 fun g => { g with recovery := .linkOff })).onSpine fun p => { p with extestOff := true }) true
        (.powerLinkOffExpiry 1) fun u => newest u .twHeld && (u.seg 1).held].all id) = true := by
  decide +kernel
/-! Transports. -/

/-- Commands of a client that wait. -/
def mail (c : ExtClient) (n : Nat) : List Input :=
  List.replicate n (.command c { op := .echo, tag := 1, flags := 0, cond := none, params := [], crc := 0 })

/-- A reply with a payload of n bytes. -/
def rep (n : Nat) : Reply := { opcode := 1, status := .done, tag := 3, lsn := 0, payload := List.replicate n 5 }

/-- A state with its transports changed. -/
def io (f : Transports → Transports) (s : State) : State := s.onIo f

/-- The answer of a state. -/
def ans (u : State) (a : Answer) : Bool := decide (u.io.answer = a)

theorem witness_ManagementEndpoints :
    (let s := linkUp up
     let full := io (fun i => { i with waiting := mail .c0 16 }) s
     [acts s s.functionOpen .interruptInPoll fun u => match u.io.answer with | .data _ => true | _ => false,
      acts s s.functionOpen .c0BulkIn fun u => ans u .nak,
      acts (io (fun i => { i with replies0 := [rep 600] }) s) true .c0BulkIn fun u => u.io.sent0 == 512 && u.io.replies0.length == 1,
      acts (io (fun i => { i with replies0 := [rep 600], sent0 := 512 }) s) true .c0BulkIn fun u => u.io.replies0.isEmpty,
      acts s true .c0Ping fun u => ans u .ack,
      acts full true .c0Ping fun u => ans u .nak,
      acts (s.onHub fun h => { h with haltOut := true }) true .c0Ping fun u => ans u .stall,
      acts (s.onHub fun h => { h with haltOut := true }) true (.c0BulkOutPacket [1]) fun u => ans u .stall,
      acts full true (.c0BulkOutPacket [1]) fun u => ans u .nak,
      acts s true (.c0BulkOutPacket (List.replicate 512 9)) fun u => u.io.part0.length == 512 && ans u .ack,
      acts (io (fun i => { i with waiting := mail .c0 15 }) s) true (.c0BulkOutPacket [1, 2]) fun u =>
        ans u .nyet && u.io.part0.isEmpty,
      acts (s.onHub fun h => { h with haltIn := true }) true .c0BulkIn fun u => ans u .stall].all id) = true := by
  decide +kernel

theorem witness_ControlEndpoint :
    (let s := linkUp up
     [acts s s.linkOpen (.controlClassVendorRequest ⟨0xC0, 1, 0, 0, 0⟩) fun u => ans u .stall,
      acts s s.linkOpen (.controlStandardRequest ⟨0x00, 9, 1, 0, 0⟩) fun u => u.hub.configuredM && ans u .ack,
      acts s true (.controlStandardRequest ⟨0x00, 9, 2, 0, 0⟩) fun u => ans u .stall,
      acts s true (.controlStandardRequest ⟨0x00, 5, 0x7F, 0, 0⟩) fun u => u.hub.address == 0x7F,
      acts s true (.controlStandardRequest ⟨0x80, 6, 0x0100, 0, 18⟩) fun u => ans u (.data deviceDescriptor),
      acts s true (.controlStandardRequest ⟨0x80, 6, 0x0200, 0, 4⟩) fun u => ans u (.data ((configDescriptor false).take 4)),
      acts s true (.controlStandardRequest ⟨0x80, 6, 0x0303, 0, 2⟩) fun u => ans u (.data ((serialString 0).take 2)),
      acts s true (.controlStandardRequest ⟨0x80, 6, 0x0F00, 0, 5⟩) fun u => ans u (.data (bosDescriptor.take 5)),
      acts s true (.controlStandardRequest ⟨0x02, 3, 0, 0x0081, 0⟩) fun u => u.hub.haltIn,
      acts s true (.functionBusReset .busReset) fun u => !u.hub.configuredM,
      acts s true (.functionBusReset .setConfiguration0) fun u => !u.hub.configuredM,
      acts s true (.functionBusReset .clearHaltOut) fun u => ans u .ack,
      acts (io (fun i => { i with part0 := [1, 2] }) s) true (.functionBusReset .clearHaltOut) fun u =>
        u.io.part0.isEmpty].all id) = true := by
  decide +kernel

theorem witness_SvcWindow :
    (let win := fun (p : Byte) (f : Transports → Transports) => io (fun i => f { i with svcPointer := p }) up
     [acts up up.hiveRuns (.svcPointerWrite 0x10) fun u => u.io.svcPointer == 0x10,
      acts (win 0xFF id) true (.svcWindowWrite 7) fun u => u.io.svcPointer == 0 && ans u .ack,
      acts (win 0x11 id) true (.svcWindowWrite 7) fun u => u.io.svcPointer == 0x11,
      acts (win 0x10 fun i => { i with waiting := mail .c1 16 }) true (.svcCommandByte 0xA5) fun u => ans u .nak,
      acts (win 0x10 id) true (.svcCommandByte 0xA5) fun u => u.io.part1 == [0xA5],
      acts (win 0x10 fun i => { i with part1 := [0, 0, 0, 0, 7, 0, 0, 0, 0] }) true (.svcCommandByte 1) fun u => u.io.part1.isEmpty,
      acts (win 0x11 id) true .svcReplyRead fun u => ans u (.data [0]),
      acts (win 0x11 fun i => { i with replies1 := [rep 4] }) true .svcReplyRead fun u => u.io.sent1 == 1,
      acts (win 0x11 fun i => { i with replies1 := [rep 4], sent1 := 21 }) true .svcReplyRead fun u => u.io.replies1.isEmpty,
      acts (win 0xE id) true (.svcWindowRead 2) fun u => u.io.svcPointer == 0x10,
      acts up true .cmdSvcGapExpiry fun u => u.io.waiting.isEmpty,
      acts (win 0x10 fun i => { i with part1 := [1, 2] }) true .cmdSvcGapExpiry fun u => u.io.part1.isEmpty].all id) = true := by
  decide +kernel

theorem witness_CommandPort :
    [acts up (up.jtagUp && up.hiveRuns && up.io.jtag != 3) (.cmdPortShift 0) fun u => ans u (.capture 10 512),
     acts (io (fun i => { i with waiting := mail .c3 16, captureByte := some 4 }) up) true (.cmdPortShift 0x03F) fun u =>
      ans u (.capture 10 260) && u.io.captureByte.isNone,
     acts up true (.cmdPortShift 0x1A5) fun u => u.io.part3 == [0xA5],
     acts (io (fun i => { i with part3 := [0, 0, 0, 0, 7, 0, 0, 0, 0] }) up) true (.cmdPortShift 0x101) fun u => u.io.part3.isEmpty,
     acts (io (fun i => { i with replies3 := [rep 4] }) up) true (.cmdPortShift 0x200) fun u =>
      u.io.captureByte.isSome && u.io.sent3 == 1].all id = true := by
  decide +kernel

theorem witness_JtagInstructions :
    (let svc := { up with mode := .service }
     let cold := { State.reset with phase := .noClock }
     [acts up up.jtagUp .jtagIdcode fun u => u.io.jtag == 0,
      acts up true .jtagBypass fun u => ans u (.capture 1 0),
      acts up true .jtagSamplePreload fun u => ans u (.capture 4 1),
      acts svc svc.scanAllowed .jtagIntest fun u => u.io.jtag == 4,
      acts up (!up.scanAllowed) .jtagExtest fun u => u.io.jtag == 1 && ans u (.capture 4 5),
      acts cold (cold.jtagUp && cold.mode != .service) .jtagExtest fun u => u.io.jtag == 3,
      acts svc (freeB svc && (upTo 0 30).all fun c => !(svc.chan c).state.active) .jtagExtest fun u => u.sbOff,
      acts up true .jtagExtestExit fun u => u.mode == .run,
      acts (io (fun i => { i with jtag := 3 }) up) up.phase.live .jtagExtestExit fun u =>
        u.mode == .boot && u.ember.detail == 0x0A0000FF].all id) = true := by
  decide +kernel

/-! Start-up, resets and OFF. -/

/-- A device in BANKED, writing. -/
def banked (w : Nat) (s : State) : State := { s.onStore fun g => { g with writing := w } with mode := .banked }

theorem witness_WholeDeviceResets :
    [acts up (up.coreOn && up.forager.runTest != 0x20) (.bor 1) fun u => u.ember.cause == 3 && u.ember.detail == 0x01000001,
     acts up true (.wdtExpiry 0x301) fun u => u.ember.cause == 9 && u.mode == .boot,
     acts (ch 5 .locked up) true (.eccReset 0) fun u => (u.chan 5).state == .locked && u.ember.cause == 0x21,
     acts up up.phase.live .pinReset fun u => u.phase == .pinHeld,
     acts (up.onPw fun w => { w with resetTag := some 0x55 }) true .deviceResetDelay fun u => u.ember.detail == 0x04000055,
     acts (banked 1 up) up.phase.live .pinReset fun u => u.phase == .off,
     acts (banked 1 up) true .holdNodeCollapse fun u => u.mode == .off,
     acts (banked 2 up) true .flashTailDone fun u => u.phase == .off,
     acts { State.reset with phase := .pinHeld } true .pinResetRelease fun u => u.phase == .starting,
     acts up true .resetStretchExpiry fun u => !u.ember.resetOutLow,
     acts { State.reset with phase := .porHeld } true .pinReset fun u => u.phase == .porHeld && u.ember.resetInLow].all id = true := by
  decide +kernel

theorem witness_ColdStartsAndStartUp :
    (let off := { up with phase := .off, mode := .off }
     [acts (ch 24 .locked up) true .por fun u => u.phase == .porHeld && (u.chan 24).state == .locked,
      acts off true .wakeOffStart fun u => u.ember.cause == 0x800,
      acts up true .porAssert fun u => u.phase == .unpowered,
      acts off true .retentionLoss fun u => !u.ember.retentionHeld,
      acts { State.reset with phase := .porHeld } true (.porRelease 2 3 false) fun u => u.phase == .noClock && u.ember.bootSel == 2,
      acts { State.reset with phase := .porHeld } true (.porRelease 0 0 true) fun u => u.phase == .testHeld,
      acts State.reset true .pllLock fun u => u.phase == .training,
      acts State.reset true .pllLockRetry fun u => u.pw.pllStarts == State.reset.pw.pllStarts + 1,
      acts { State.reset with phase := .authenticating } true (.firmwareAuth true 0x300 false) fun u =>
        u.ident.flashFirmware && u.ident.version == 0x300,
      acts { State.reset with phase := .authenticating } true (.firmwareAuth false 0 true) fun u =>
        u.ident.authFailed == some true,
      acts (ch 24 .locked off) true .wakeOffStart fun u => (u.chan 24).state == .locked,
      acts State.reset.nextBoot.2 (State.reset.nextBoot.2.newestBoot == some (0, 0)) .pllLock fun u => u.led.boot == 1].all id) = true := by
  decide +kernel

/-- A device that waits for a download. -/
def loads (sel : BitVec 2) (n : Nat) (p : Phase) : State :=
  io (fun i => { i with dfuState := n, svcDownload := n, svcImage := [8, 0, 0, 0, 1, 2, 3] })
    ({ State.reset with phase := p, hub := { Hub.init with link := 1, speed := 2 } }.onEmber fun e => { e with bootSel := sel })

theorem witness_FirmwareDownloads :
    [acts (loads 2 0 .downloading) true (.dfuDnload [1]) fun u => u.io.dfuImage == [1],
     acts (loads 2 1 .downloading) true (.dfuDnload []) fun u => u.phase == .verifying,
     acts (loads 2 3 .downloading) true .dfuClrstatus fun u => u.io.dfuState == 0,
     acts (loads 2 1 .downloading) true .dfuAbort fun u => u.io.dfuState == 0,
     acts (loads 2 0 .downloading) true .dfuGetstate fun u => ans u (.data [2]),
     acts (loads 2 2 .verifying) true .dfuGetstatus fun u => ans u (.data [0, 0, 0, 0, 7, 0]),
     acts (loads 2 1 .downloading) true .dfuUpload fun u => u.io.dfuStatus == 0x0F && ans u .stall,
     acts (loads 3 0 .downloading) true (.svcImageDownload [8]) fun u => u.io.svcDownload == 1,
     acts (loads 3 1 .downloading) true (.svcImageDownload [4, 5, 6, 7, 8]) fun u => u.phase == .verifying,
     acts (loads 3 2 .verifying) true (.downloadAuth true 0x123) fun u => u.phase == .training && u.ident.version == 0x123,
     acts (loads 2 2 .verifying) true (.downloadAuth false 0) fun u => u.io.dfuState == 3 && u.phase == .downloading].all
      id = true := by
  decide +kernel

theorem witness_BootReachesAgreement :
    (let s := { State.reset with phase := .training }
     [acts s (s.io.waiting.isEmpty && !s.slotOk 0 && !s.slotOk 1 && s.ident.authFailed.isNone
       && [1, 2, 3].all fun d => !s.dieGone d && !(s.die d).resetting) (.spineTraining 0x3FF 0xF) fun u =>
         u.phase == .up && newest u .boot && u.spine.round.isSome].all id) = true := by
  decide +kernel

theorem witness_HoldUp :
    (let s := cells up
     let b := banked 1 s
     let held := b.onStore fun g => { g with gateHold := true }
     [acts s (s.monitorUp && s.spine.round.isNone && (upTo 0 30).all fun c => !(s.chan c).state.conducts) (.holdEnter 5000 6000)
        fun u => u.mode == .banked && newest u .holdEnter && u.store.writing == 1,
      acts held (decide (0 < held.cells)) (.gateHoldCheck 6000 6501) fun u => newest u .fault && u.faultOpen 0x0433 0,
      acts held true (.gateHoldCheck 6000 6500) fun u => u.led.next == held.led.next,
      acts (s.onStore fun g => { g with writing := 1 }) true .retainedWriteDone fun u => u.store.writing == 2,
      acts b (b.store.plan == 0) .retainedWriteDone fun u => u.store.writing == 2,
      acts (b.onStore fun g => { g with plan := 1 }) true .retainedWriteDone fun u => u.phase == .off,
      acts { s with mode := .deepSleep } true (.holdEnter 5000 6000) fun u => u.mode == .banked && newest u .holdEnter,
      acts (ch 17 .on s) (s.auxOrder.count 17 == 1 && !(s.chan 17).tripped) (.holdEnter 5000 6000) fun u =>
        (u.chan 17).state == .off && newest u .chanOff,
      acts { State.reset with phase := .training } true (.holdEnter 5000 6000) fun u => u.phase == .heldUp].all id) = true := by
  decide +kernel

theorem witness_TailsHoldTheNewestEntries :
    Memory.wf retainedDefault up.ember.retained ∧ Memory.wf flashDefault up.flash ∧
      (up.append false 0 0 .boot 0 []).led.ring ≠ [] := by
  decide +kernel
/-! Dies, Spine and agreement. -/

/-- Lanes of a link out of service. -/
def off (l n : Nat) (s : State) : State := s.onLane l n fun x => { x with inService := false, attempts := 3 }

/-- A link on which Hive's sender has one frame on its way. -/
def sending (l : Nat) (b : Payload) : State := up.onLink l fun k =>
  { k with fromHive := { k.fromHive with busy := true, nextSeq := 1, unacked := [⟨.control, 0, b, false⟩] } }

/-- A link on which frames wait at Hive's sender. -/
def waits (l : Nat) (q : List (TrafficClass × Payload)) : State := up.onLink l fun k =>
  { k with fromHive := { k.fromHive with queue := q } }

theorem witness_SpineFramesAndLanes :
    [acts up (!(up.link 2).lost) (.frameReceived 2 true ⟨0, true, 0⟩ false) fun u => u.spine.crcFailed == 1,
     acts up true (.frameReceived 0 true ⟨0, true, 0⟩ true) fun u => (u.link 0).nextToHive == 1,
     acts up true (.frameReceived 2 false ⟨0, true, 0⟩ true) fun u => (u.link 2).nextFromHive == 1,
     acts up true (.frameReceived 1 true ⟨0xFFFF, true, 0⟩ true) fun u => u.spine.duplicates == 1,
     acts up true (.frameReceived 1 true ⟨1, true, 0⟩ true) fun u => u.spine.duplicates == 0 && (u.link 1).nextToHive == 0,
     acts (up.onLane 1 3 fun x => { x with factor := 8, rejoined := some 0 }) true (.retrainIntervalReset 1 3) fun u =>
      ((u.link 1).lane 3).factor == 1,
     meets (up.onLane 2 0 fun x => { x with factor := 16, rejoined := some 0 }) (decide (up.nat .spineMinLanes 0 ≤ 1))
      (.laneDrop 2 1 9) fun u => ((u.link 2).lane 0).factor == 16 && newest u .laneDrop && u.spine.replayed == 9,
     acts (off 0 3 up) true (.laneRetrainAttempt 0 3) fun u => ((u.link 0).lane 3).attempts == 4,
     meets (off 2 1 up) true (.laneRejoin 2 1) fun u => ((u.link 2).lane 1).inService && newest u .laneRejoin,
     acts (sending 0 (.tick 5000)) true (.frameReceived 0 false ⟨0, false, 0⟩ true) fun u => (u.die 1).ticks == [(5000, false)],
     acts (sending 1 (.propose 1 2 3 (some ⟨up.cfg.applied, []⟩))) true (.frameReceived 1 false ⟨0, false, 0⟩ true) fun u => (u.die 2).hasEpoch,
     acts (up.onLink 0 fun l => { l with lost := true }) true (.frameReceived 0 true ⟨0, true, 0⟩ true) fun u => (u.link 0).nextToHive == 0,
     acts (waits 2 [(.async, .usb 1 8), (.periodic, .usb 2 8), (.control, .tick 9)]) true (.frameReceived 2 false ⟨5, true, 0⟩ false) fun u =>
      u.spine.crcFailed == 1,
     acts (waits 0 [(.periodic, .usb 2 8)]) true (.frameReceived 0 false ⟨5, true, 0⟩ false) fun u => u.spine.crcFailed == 1,
     meets ((up.onLane 0 1 id).onLink 0 fun l => { l with lost := true }) true (.laneDrop 0 2 9) fun u =>
      !((u.link 0).lane 1).inService && u.led.next == 1,
     acts { off 0 3 up with mode := .sleep } true (.laneRetrainAttempt 0 3) fun u => ((u.link 0).lane 3).attempts == 3].all id = true := by
  decide +kernel

theorem witness_LinkLoss :
    (let s := off 1 1 (off 1 2 (off 1 3 up))
     let t := par [(.spineMinLanes, 0, 4)] up
     [meets s (freeB s && s.chosenMode == s.mode && !s.faultOpen 0x0601 1
          && (upTo 1 16).all fun p => !(s.port p).attached && noOpB s (.port p)) (.laneDrop 1 1 5) fun u =>
        (u.link 1).lost && (u.die 2).absent && newest u .resetBlock,
      meets t (decide (3 < t.nat .spineMinLanes 0)) (.laneDrop 0 8 0) fun u => (u.link 0).lost && u.ember.cause == 0x81].all id)
      = true := by
  decide +kernel

theorem witness_ForgeLossEntersSafe :
    (let s := off 2 0 (off 2 1 up)
     let rests := fun (s : State) => !s.spine.forgeOff && freeB s && (upTo 0 30).all fun c => !(s.chan c).state.active
     [meets s (rests s) .forgeLossTimeout fun u => u.mode == .safe && u.sbOff && newest u .modeChange,
      meets up (rests up) .forgeLossTimeout fun u => u.mode == .run && !u.sbOff].all id) = true := by
  decide +kernel

theorem witness_MemoryErrors :
    [meets up true (.eccErrorNoncritical 0x1234) fun u => newest u .fault,
     meets up true (.parityReset 0 5) fun u => u.mode == .boot && u.ember.detail == 0x06000005,
     meets up (!up.dieGone 2 && freeB up && up.chosenMode == up.mode) (.parityReset 2 5) fun u =>
      (u.die 2).resetting && newest u .resetBlock,
     acts (banked 1 up) (up.forager.runTest != 0x20) (.parityReset 0 7) fun u => u.phase == .off && u.mode == .off].all id = true := by
  decide +kernel

/-- A die changed. -/
def die (n : Nat) (f : Die → Die) (s : State) : State := s.onDie n f

theorem witness_BlocksTicksAndSkew :
    (let closed := die 3 (fun d => { d with blocks := 0x2, awaited := 0x2 }) up
     let down := die 1 (fun d => { d with resetting := true }) up
     [meets closed (noOpB closed (.die 3)) (.blockReady 3 (some 1)) fun u => (u.die 3).blocks == 0,
      meets closed (!closed.faultOpen 0x0709 3) (.clockDeadTimeout 3 1) fun u => (u.die 3).clockDead == 2 && newest u .fault,
      meets (down.onLink 0 fun l => { l with lost := true }) true (.blockReady 1 none) fun u =>
        !(u.die 1).resetting && u.spine.round.isNone,
      meets down (!(down.link 0).lost) (.blockReady 1 none) fun u => (u.spine.round.map (·.trigger)) == some 3,
      acts { up with mode := .sleep } true (.sbTick 5) fun u => u.pw.sleepMs == 1 && u.ember.ms == 1,
      acts (die 0 (fun d => { d with skewCount := 1 }) up) up.listening (.sbTick 0) fun u => (u.die 0).skewCount == 0,
      acts (die 0 (fun d => { d with skewCount := 1 }) up) true (.sbTick 0x80000000) fun u => (u.die 0).skewCount == 2,
      acts up (!up.dieGone 3) (.tickFrame 3 99 true) fun u => u.led.next == 1,
      acts (die 1 (fun d => { d with skewCount := 1 }) up) true (.tickFrame 1 0 false) fun u => (u.die 1).skewCount == 0,
      acts up true (.tickFrame 3 0xFFFF0000 false) fun u => (u.die 3).skewCount == 1 && newest u .skewResync,
      meets (op (.die 3) .reset (die 3 (fun d => { d with resetting := true, clockDead := 2 }) up)) true (.clockDeadTimeout 3 1) fun u =>
        newest u .cmdComplete && u.ops.isEmpty,
      acts State.reset.evPorAssert (State.reset.evPorAssert.phase == .unpowered) (.sbTick 5) fun u => u.ember.ms == State.reset.evPorAssert.ember.ms,
      acts ({ up with mode := .deepSleep }.onEmber fun e => { e with lprcTrim := 0x10000 }) true (.sbTick 5) fun u => u.pw.sleepMs == 1,
      acts (die 2 (fun d => { d with ticks := [(1000, true)], skewCount := 1 }) up) true (.tickFrame 2 0 false) fun u => (u.die 2).ticks.isEmpty && (u.die 2).skewCount == 1,
      acts { die 2 (fun d => { d with ticks := [(1000, false)] }) up with mode := .boot } true (.tickFrame 2 0x7FFFFFFF false) fun u =>
        (u.die 2).skewCount == 1 && u.io.waiting.length == 1].all id) = true := by
  decide +kernel

/-- A round that asks die 1. -/
def asks (tries : Nat) : State :=
  { up with spine := { up.spine with round := some ⟨3, .nothing, [⟨1, tries, 0, none⟩], none, 0x44, []⟩ } }

/-- A round that asks die 1, with what die 2 has answered before its turn. -/
def both (early : Option Response) : State :=
  { up with spine := { up.spine with round := some ⟨3, .nothing, [⟨1, 0, 0, none⟩, ⟨2, 0, 0, early⟩], none, 0x44, []⟩ } }

theorem witness_AgreementAnswers :
    [!(asks 0).versionBad 0x43 0x21 && (asks 0).chosenMode == (asks 0).mode && (asks 0).spine.round.isSome,
     acts (asks 2) true (.answerTimeout 1) fun u => newest u .agreeFail && u.spine.round.isSome,
     meets (die 2 (fun d => { d with settleCount := 3 }) up) (hearsB up 2 blkSpine) (.stateDigestExchange 2 9 []) fun u =>
      (u.die 2).settleCount == 0,
     meets (die 1 (fun d => { d with settleCount := 6 }) up) (freeB up) (.stateDigestExchange 1 9 [.policy]) fun u =>
      (u.die 1).settleCount == 7 && newest u .agreeFail,
     acts (both none) true (.answerTimeout 2) fun u => u.led.next == 1,
     acts (both (some .timeout)) true (.answer 2 0x43 0x21 0) fun u => u.led.next == 1,
     meets ((on 1 up).onBus 1 fun b => { b with fsPresent := true, enabled := true, suspended := true, speed := some 2 })
       (((on 1 up).onBus 1 fun b => { b with fsPresent := true, enabled := true }).connectedPort 1) (.stateDigestExchange 1 9 [.linkAwake 1])
       fun u => newest u .portResume,
     meets (up.onChan 24 fun c => { c with state := .locked, lock := some 0 }) (freeB up) (.stateDigestExchange 3 9 [.unlocked 24]) fun u => (u.chan 24).state == .off].all id = true := by
  decide +kernel

/-! Votes, sleep states, CRANK and the upstream port. -/

/-- A device that may sleep. -/
def quiet (deepest : Word) : State :=
  par [(.trigEnable, 0, 0), (.pstateDeepest, 0, deepest), (.pstateWakeEn, 0, 0x3FF)] { up with mode := .standalone }

/-- A device asleep. -/
def asleep (m : Mode) : State :=
  { quiet 2 with mode := m, pw := { up.pw with left := .run }, ember := { up.ember with latched := true } }

theorem witness_SleepStatesAreEntered :
    (let s := quiet 2
     [acts (quiet 0) (quiet 0).target.isNone (.pstateEnter ⟨[], 0⟩) fun u => u.mode == .standalone,
      acts s (openB s && s.target == some .deepSleep && !s.alarmDue && s.trig.work.isEmpty && s.trig.depth == 0) (.pstateEnter ⟨[], 0⟩)
        fun u => u.mode == .deepSleep && u.ember.latched && newest u .modeChange,
      acts (quiet 1) (openB (quiet 1) && (quiet 1).target == some .sleep) (.pstateEnter ⟨[], 0⟩) fun u => u.mode == .sleep,
      acts s (s.wakeEnabled 9) (.pstateEnter ⟨[.source 4 9], 0⟩) fun u => u.mode == .standalone && newest u .pstateAbandon,
      acts s (s.wakeEnabled 1) (.pstateEnter ⟨[.source 0 1], 0⟩) fun u => u.pw.holdoff,
      acts (par [(.pstateAlarm, 0, 1)] (s.onEmber fun e => { e with ms := 9000 })) true (.pstateEnter ⟨[], 0⟩) fun u => newest u .pstateAbandon].all id) = true := by
  decide +kernel

theorem witness_WakeFromSleep :
    (let s := asleep .deepSleep
     let due := par [(.pstateAlarm, 0, 1)] (s.onEmber fun e => { e with ms := 9000 })
     [acts (up.onPw fun w => { w with holdoff := true }) true .reentryHoldoffExpiry fun u => !u.pw.holdoff,
      acts due due.alarmDue .pstateAlarm fun u => u.pw.wakeLatch.getLsbD 7,
      acts s (!s.safeCondition && !s.pw.crank && s.wakeEnabled 9 && s.wakesFrom 9) (.wake 9 0) fun u =>
        u.mode == .run && newest u .wake && u.ember.latched,
      (let s := asleep .busSuspend
       acts s (s.wakesFrom 1 && s.wakeEnabled 1) (.wake 1 0) fun u => u.mode == .run && !u.ember.latched)].all id) = true := by
  decide +kernel

theorem witness_CrankShedsAndRestores :
    (let idle := (upTo 0 30).all fun c => !(up.chan c).state.active
     let c := { up with mode := .crank, pw := { up.pw with crank := true } }
     let d := par [(.allotDefaultClass, 0, 1)] (on 16 c)
     [meets up (idle && freeB up && !up.safeCondition) .crankEnter fun u => u.mode == .crank && u.pw.cranks == 1,
      meets c (c.pw.shedOrder.isEmpty && !c.pw.service) .crankExit fun u => u.mode == .run && newest u .modeChange,
      meets d (plainB d 16 && d.classOf 16 == 1 && (d.chan 16).state.active) .crankDeepShed fun u =>
        u.pw.shedOrder == [16] && (u.port 16).shed && newest u .allotChange].all id) = true := by
  decide +kernel

theorem witness_UpstreamPort :
    (let alone := { up with mode := .standalone, hub := { up.hub with upVbus := false } }
     let s := linkUp up
     let ss := s.onHub fun h => { h with speed := 3, lanes := 2 }
     [meets alone (!alone.safeCondition) .upstreamVbusArrival fun u => u.mode == .run,
      meets up (up.hub.link == 0) .upstreamVbusLoss fun u => u.mode == .standalone,
      meets s (s.hub.link != 0) .upstreamVbusLoss fun u => u.hub.link == 0 && newest u .modeChange,
      meets up up.mode.presents (.upLink 1 2 ⟨0, false⟩) fun u => u.hub.speed == 2 && newest u .upLink,
      meets up (!up.hub.x1) (.upLink 1 3 ⟨2, false⟩) fun u => u.hub.lastLanes == some 2 && newest u .upLanes,
      meets s (s.value .hubLinkPmLog 0 != 1) (.upLink 2 2 ⟨0, false⟩) fun u => u.hub.link == 2 && u.led.next == 1,
      meets ss (decide (1 < ss.nat .hubUpLaneRetries 0)) (.upLaneRecovery 1) fun u => u.hub.retries == 1,
      meets (ss.onHub fun h => { h with retries := 200 }) true (.upLaneRecovery 0) fun u => u.hub.lanes == 1 && newest u .upLanes,
      acts s true .lpmL1Request fun u => ans u .ack,
      acts (io (fun i => { i with part0 := [1] }) s) true .lpmL1Request fun u => ans u .nyet,
      (let t := s.onBus 16 fun b => { b with enabled := true }
       meets t true .hubSuspend fun u => (u.port 16).bus.busSuspended && newest u .portSuspend),
      meets s true (.hubControlRequest false (.setConfiguration 1)) fun u => u.hub.configured2,
      meets s true (.hubControlRequest true (.setConfiguration 0)) fun u => !u.hub.configured3,
      meets s true (.hubControlRequest false .setRemoteWake) fun u => u.hub.wake2,
      meets s true (.hubControlRequest true .clearRemoteWake) fun u => !u.hub.wake3].all id) = true := by
  decide +kernel

/-! Downstream ports on USB. -/

/-- A port's bus changed. -/
def bus (p : Nat) (f : Bus → Bus) (s : State) : State := s.onBus p f

theorem witness_HostPortRequests :
    (let sus := fun v f => bus 16 (fun b => f { b with suspended := true, enabled := true, speed := some v }) up
     [meets (bus 1 (fun b => { b with portPower := false }) up) (noOpB up (.port 1) && up.value .hubPortPowerMode 0 != 1)
        (.hostPortPower 1 true) fun u => (u.port 1).bus.portPower && newest u .portEnabled,
      meets up true (.hostPortPower 16 false) fun u => !(u.port 16).bus.portPower && newest u .portDisabled,
      (let s := bus 1 (fun b => { b with fsPresent := true }) (on 1 up)
       meets s (s.connectedPort 1) (.hostPortReset 1) fun u => (u.port 1).bus.reset == .host),
      (let s := bus 1 (fun b => { b with fsPresent := true, enabled := true }) (on 1 up)
       meets s (s.shown 1) (.hostSelectiveSuspend 1) fun u => (u.port 1).bus.suspended && newest u .portSuspend),
      meets (sus 2 id) true (.hostPortResume 16) fun u => (u.port 16).bus.resuming && newest u .portResume,
      meets ((sus 2 id).onHub fun h => { h with wake2 := true }) (hearsB up 2 blkUsb2) (.downstreamRemoteWake 16) fun u =>
        newest u .portResume,
      meets (sus 3 id) true (.downstreamRemoteWake 16) fun u => (u.port 16).bus.wakeRecorded && newest u .violation,
      meets (sus 2 fun b => { b with wakeRecorded := true }) true (.downstreamRemoteWake 16) fun u => u.led.next == 1,
      (let s := par [(.hubPortPowerMode, 0, 1)] (on 1 up)
      meets s (freeB s && plainB s 1) (.hostPortPower 1 false) fun u => (u.chan 1).state == .off && newest u .allotChange)].all id)
      = true := by
  decide +kernel

theorem witness_PortConnectionEvents :
    [meets (bus 1 (fun b => { b with reset := .host }) up) (hearsB up 1 blkUsb2 && hearsB up 1 blkUsb3) (.portResetComplete 1 (some 2))
      fun u => (u.port 1).bus.speed == some 2 && newest u .portSpeed,
     meets (bus 16 (fun b => { b with reset := .host }) up) true (.portResetComplete 16 none) fun u => (u.port 16).bus.cReset,
     meets (bus 1 (fun b => { b with resuming := true }) up) true (.portResumeComplete 1) fun u => (u.port 1).bus.cSuspend,
     meets (bus 1 (fun b => { b with suspending := true }) up) true (.portSuspendComplete 1) fun u => !(u.port 1).bus.suspending,
     meets (on 16 up) true (.downstreamConnectChange 16 true false) fun u => (u.port 16).bus.fsPresent,
     meets (bus 16 (fun b => { b with fsPresent := true, enabled := true }) (on 16 up)) true (.downstreamConnectChange 16 false false)
      fun u => !(u.port 16).bus.enabled,
     (let s := par [(.hubSsPorts, 0, 0xFFFF)] (on 1 up)
      meets s (s.ssPort 1) (.ssLinkU0 1 4) fun u => (u.port 1).bus.speed == some 4 && newest u .portSpeed),
     (let s := par [(.hubSsPorts, 0, 0xFFFF)] (on 10 up)
      meets s (s.ssPort 10) (.ssTrainingFail 10) fun u => (u.port 10).bus.ssDisabled && newest u .violation)].all id = true := by
  decide +kernel

theorem witness_UsbMisbehaviour :
    (let sus := fun n => par [(.portSuspAction, 16, n)] (bus 16 (fun b => { b with suspended := true }) (on 16 up))
     [meets (bus 1 (fun b => { b with enabled := true }) up) (hearsB up 1 blkUsb2) (.babble 1 2) fun u =>
        (u.port 1).bus.held == .violation && newest u .portDisabled,
      meets up (decide (up.nat .hubChatterLimit 0 < 300)) (.connectChatter 16 300) fun u => (u.port 16).bus.chatter,
      meets (bus 1 (fun b => { b with ssPresent := true }) up) (hearsB up 1 blkUsb3) (.ssInactive 1) fun u => (u.port 1).bus.cLinkState,
      meets (sus 1) (((sus 1).port 16).rp == 0 && decide ((sus 1).nat .portSuspIlim 16 < 6000000)) (.suspendCurrentCheck 16 60000)
        fun u => (u.port 16).bus.limited,
      meets (sus 2) (plainB (sus 2) 16) (.suspendCurrentCheck 16 60000) fun u =>
        (u.chan 16).state == .off && (u.port 16).bus.cycling && newest u .chanOff,
      meets (bus 1 (fun b => { b with cycling := true, held := .violation }) up) true (.cycleOffExpiry 1) fun u =>
        (u.port 1).bus.held == .none && newest u .portEnabled,
      meets { sus 1 with mode := .safe } true (.suspendCurrentCheck 16 60000) fun u => !(u.port 16).bus.limited].all id) = true := by
  decide +kernel

/-- A port's Transaction Translator. -/
def tt (f : Tt → Tt) : State := (linkUp up).onTt 16 f

theorem witness_TransactionTranslators :
    (let s := linkUp up
     [acts s s.linkOpen (.ttStartSplit 1 ⟨.isochronous, 3⟩ 4096) fun u => (u.tt 1).ssFill == 4096,
      acts s true (.ttStartSplit 16 ⟨.interrupt, 3⟩ 4097) fun u => (u.tt 16).dropped == [3] && (u.tt 16).droppedCount == 1,
      acts (tt fun t => { t with buffers := [(1, true)] }) true (.ttStartSplit 16 ⟨.asynchronous, 2⟩ 8) fun u => (u.tt 16).buffers.length == 2,
      acts (tt fun t => { t with buffers := [(1, true), (2, false)] }) true (.ttStartSplit 16 ⟨.asynchronous, 3⟩ 8) fun u => ans u .nak,
      acts (tt fun t => { t with dropped := [4] }) true (.ttCompleteSplit 16 ⟨.interrupt, 4⟩) fun u => ans u .err,
      acts (tt fun t => { t with buffers := [(1, true)] }) true (.ttCompleteSplit 16 ⟨.asynchronous, 1⟩) fun u =>
        ans u .ack && (u.tt 16).buffers.isEmpty,
      acts (tt fun t => { t with buffers := [(1, true), (2, false)] }) true (.clearTtBuffer 16) fun u => (u.tt 16).buffers == [(2, false)],
      acts (tt fun t => { t with ssFill := 9 }) true (.resetTt 16) fun u => (u.tt 16).ssFill == 0,
      acts s true (.getTtState 1) fun u => ans u .stall,
      acts s true (.stopTt 16) fun u => ans u .stall,
      acts (tt fun t => { t with csFill := 9 }) true (.ttResultExpiry 16) fun u => (u.tt 16).csFill == 0 && (u.tt 16).expired == 1,
      acts (off 1 0 s) ((off 1 0 s).asyncHeld 2) (.ttStartSplit 16 ⟨.asynchronous, 3⟩ 8) fun u => ans u .nak,
      acts (off 1 0 s) true (.ttCompleteSplit 16 ⟨.asynchronous, 3⟩) fun u => ans u .nak].all
      id) = true := by
  decide +kernel
/-! Type-C and Power Delivery. -/

/-- A port changed. -/
def pt (p : Nat) (f : Port → Port) (s : State) : State := s.onPort p f

/-- A port's grant as a reservation would set it. -/
def granted (p : Nat) (s : State) : State := pt p (fun q => { q with grant := s.nextGrant p }) s

/-- The message a port sent last. -/
def sent (u : State) (p msg : Nat) : Bool := ans u (.pd p msg)

theorem witness_AttachPowersThePort :
    [meets { up with cfg := { up.cfg with state := .defaults } } (hearsB up 1 blkPd && up.value .portEnablePolicy 1 != 0)
      (.portAttach 1 1 false) fun u => newest u .portAttach && (u.chan 1).state == .off,
     meets { up with rails := 0xE } (!({ up with rails := 0xE } : State).railUp 0) (.portAttach 16 2 true) fun u => (u.port 16).waiting,
     meets up (up.railUp 0 && decide (45 ≤ up.ceiling 12) && decide (up.ceiling 12 ≤ up.remaining)) (.portAttach 12 2 true) fun u =>
      (u.port 12).grant == up.ceiling 12 && (u.chan 12).state == .ramping && newest u .chanOn,
     meets (ch 1 .locked up) true (.portAttach 1 1 false) fun u => (u.port 1).attached && newest u .portAttach,
     meets (par [(.hubPortPowerMode, 0, 1)] (bus 1 (fun b => { b with portPower := false }) up)) true (.portAttach 1 1 false) fun u =>
      (u.port 1).bus.awaitsPower].all id = true := by
  decide +kernel

theorem witness_DetachReleasesThePort :
    [meets (on 1 up) (freeB (on 1 up) && plainB (on 1 up) 1 && hearsB up 1 blkPd) (.portDetach 1) fun u =>
      !(u.port 1).attached && newest u .allotChange,
     meets (on 16 up) (decide (0 < ((on 16 up).port 16).grant)) (.portDetach 16) fun u => (u.chan 16).state == .off].all id
      = true := by
  decide +kernel

/-- A port in a mode with a tether to segment 3. -/
def tethered (f : Pd → Pd) : State := ph 16 .ready (fun d => f { contracted d with mode := some ⟨0xFF01, 1, 5, some 3⟩ }) up

theorem witness_VconnCableAndSbu :
    [meets (pt 13 (fun q => { q with vconn := true }) (on 13 up)) (hearsB up 2 blkPd) (.vconnOverload 13 400) fun u =>
      (u.port 13).vconnFault && newest u .violation,
     meets (pt 13 (fun q => { q with vconn := true }) (ph 13 .cableWait id up)) true (.cableDiscovery 13) fun u =>
      (u.port 13).pd.phase == .cableAsked && sent u 13 10,
     meets (tethered fun d => { d with sbuClosing := true }) (hearsB up 2 blkPd) (.sbuSwitchClose 16) fun u => (u.port 16).pd.sbuClosed,
     meets (tethered fun d => { d with wait := .exitOpen, sbuClosed := true }) true (.sbuSwitchOpen 16) fun u =>
      !(u.port 16).pd.sbuClosed && sent u 16 10,
     meets (tethered fun d => { d with sbuClosed := true }) true (.sbuOvervoltage 16 9000) fun u =>
      !(u.port 16).pd.sbuClosed && newest u .violation,
     meets (tethered fun d => { d with sbuClosing := true, sbuFault := true }) true (.sbuSwitchClose 16) fun u => !(u.port 16).pd.sbuClosed,
     meets (tethered fun d => { d with sbuClosed := true, wait := .plain }) true (.sbuOvervoltage 16 9000) fun u => (u.port 16).pd.exitDue].all id = true := by
  decide +kernel

theorem witness_CapabilitiesAreSent :
    [meets (ph 1 .waitGrant id up) (hearsB up 1 blkPd) (.reservationArrival 1) fun u => (u.port 1).pd.phase == .offered && sent u 1 1,
     meets (ph 16 .offered (fun d => { d with sends := 49 }) up) true (.srcCapsRepeat 16) fun u => (u.port 16).pd.sends == 50,
     meets (pt 16 (fun q => { q with grant := 45 }) (ph 16 .offered (fun d => { d with sends := 50 }) up)) true (.srcCapsRepeat 16)
      fun u => (u.port 16).pd.phase == .typeC && newest u .pdContract,
     meets (ph 1 .offered id up) true (.goodcrcReceived 1) fun u => (u.port 1).pd.phase == .awaitRequest,
     meets (ph 1 .accepted id up) true (.goodcrcReceived 1) fun u => (u.port 1).pd.phase == .transDelay,
     meets (ph 1 .softReset (fun d => { d with arrived := true }) up) true (.softResetAccepted 1) fun u => sent u 1 1].all id
      = true := by
  decide +kernel

theorem witness_RequestsAndContracts :
    [(let s := ph 1 .awaitRequest id up
      meets s (s.listens 1) (.request 1 1 300 300 false) fun u => (u.port 1).pd.phase == .sameRail && sent u 1 2),
     (let s := ph 16 .ready id up
      meets s (s.listens 16) (.request 16 2 17 17 false) fun u => (u.port 16).pd.phase == .accepted && sent u 16 2),
     meets (ph 1 .awaitRequest id up) (decide (1 < up.nat .pdViolLimit 1)) (.request 1 3 1 1 false) fun u =>
      sent u 1 3 && newest u .violation,
     meets (ph 1 .awaitRequest id up) true (.request 1 0 1 1 true) fun u => sent u 1 3,
     meets (ph 1 .sameRail id up) true (.sameRailPsRdy 1) fun u => (u.port 1).pd.phase == .psRdy && sent u 1 5,
     (let s := pt 1 (fun q => { q with grant := 45 }) (ph 1 .psRdy (fun d => { d with reqPos := 1, reqOp := 80, reqMax := 90 }) up)
      meets s (plainB s 1 && railVolts 0 * 90 / 10 == 45) (.pdContract 1) fun u =>
        newest u .pdContract && (u.port 1).pd.contract == some ⟨0, 1, 80, 90, 45⟩)].all id = true := by
  decide +kernel

/-- A port that changes to the rail of its second object. -/
def toRail (p : Nat) (x : PdPhase) : State := granted p (ph p x (fun d => { d with reqPos := 2, reqOp := 9, reqMax := 9 }) up)

theorem witness_RailTransitions :
    [meets (toRail 1 .transDelay) ((toRail 1 .transDelay).railUp ((toRail 1 .transDelay).nextRail 1)) (.transitionStart 1 true) fun u =>
      (u.port 1).pd.phase == .slewing,
     meets (toRail 16 .slewing) (hearsB up 2 blkPd) (.vbusInBand 16) fun u => (u.port 16).pd.phase == .settling && (u.chan 16).gateCheck,
     meets (toRail 1 .settling) true (.railTransition 1 35) fun u => (u.chan 1).leg == some 1 && newest u .railTransition,
     meets (toRail 1 .transDelay) (plainB (toRail 1 .transDelay) 1) (.transitionStart 1 false) fun u => newest u .pdHardreset,
     meets (toRail 16 .settling) (((toRail 16 .settling).port 16).pd.inTransition) (.transMaxExpiry 16 9) fun u => sent u 16 7,
     meets (toRail 16 .slewing) true (.settleMaxExpiry 16 9) fun u => (u.port 16).pd.phase == .hardReset].all id = true := by
  decide +kernel

theorem witness_HardResets :
    (let s := granted 1 (ph 1 .ready contracted up)
     let w := granted 16 (ph 16 .awaitRequest id up)
     [meets s (plainB s 1 && s.value .pdEnable 1 == 1) (.hardResetReceived 1) fun u =>
        (u.port 1).pd.phase == .hardReset && newest u .pdHardreset,
      meets w (plainB w 16) (.requestTimeout 16) fun u => sent u 16 7 && newest u .pdHardreset,
      meets (pt 1 (fun q => { q with ra := true }) (ph 1 .hardReset id up)) true (.hardResetRestore 1) fun u =>
        (u.port 1).pd.phase == .waitGrant && (u.port 1).vconn].all id) = true := by
  decide +kernel

theorem witness_PdMessages :
    (let s := ph 1 .ready (fun d => { d with arrived := true }) up
     let old := ph 16 .ready (fun d => { d with revision := 2 }) up
     [meets s (s.listens 1) (.getRevision 1) fun u => sent u 1 9,
      meets old (old.listens 16) (.getRevision 16) fun u => sent u 16 9,
      meets s true (.swapRequest 1 .vconnSwap) fun u => sent u 1 3,
      meets s true (.unsupportedMessage 1 (.unsupported 9 0)) fun u => sent u 1 8,
      meets old true (.unsupportedMessage 16 (.unsupported 9 0)) fun u => sent u 16 3,
      meets s true (.unsupportedMessage 1 .alert) fun u => u.led.next == 1,
      meets s true (.bist 1 true) fun u => u.led.next == 1,
      meets (ph 1 .waitGrant id up) true (.softReset 1) fun u => sent u 1 2,
      meets s true (.getSourceCap 1) fun u => sent u 1 1 && (u.port 1).pd.phase == .offered,
      meets s true (.softReset 1) fun u => sent u 1 1].all id) = true := by
  decide +kernel

theorem witness_VendorMessages :
    (let s := ph 1 .ready contracted up
     let w := ph 1 .ready (fun d => { contracted d with wait := .request 0 1 0xFF01 }) up
     let full := s.onLed fun l => { l with q62 := List.replicate 32 ⟨0, 0, 1, 0, false, false, []⟩ }
     [meets s (s.listens 1 && noOpB s (.port 1) && (s.port 1).pd.explicit) (.vdmReceived 1 0 [0xFF018001]) fun u =>
        u.led.q62.length == 1 && sent u 1 11 && newest u .pdVdm,
      meets w true (.vdmReceived 1 0 [0xFF018041]) fun u => u.led.q62.length == 1 && (u.port 1).pd.wait == .none,
      meets w true (.vdmResponseTimeout 1) fun u => newest u .violation && (u.port 1).pd.wait == .none,
      meets (ph 1 .ready (fun d => { contracted d with wait := .plain }) up) true (.vdmSendDone 1 true) fun u =>
        (u.port 1).pd.wait == .none,
      meets full (decide (32 ≤ full.led.q62.length)) (.vdmReceived 1 0 [0xFF018001]) fun u =>
        u.led.q62.length == 32 && u.led.vdmDrops == 1 && newest u .pdVdm,
      meets (ph 1 .ready id up) (decide ((up.nat .pdViolLimit 1) > 1)) (.vdmReceived 1 0 [0xFF018001]) fun u =>
        u.led.ring.any (·.kind == .pdVdm) && newest u .violation && sent u 1 6].all id) = true := by
  decide +kernel

/-! Commands. -/

/-- The status of the reply that waits last for C3. -/
def status (u : State) (x : Status) : Bool := (reply u).map (·.status) == some x

/-- The payload of the reply that waits last for C3. -/
def payload (u : State) : List Byte := ((reply u).map (·.payload)).getD []

/-- A command is taken at once, and is refused. -/
def refused (s : State) (i : Instr) (x : Status) : Bool :=
  match commandOf i with
  | some (h, o, p) => openB s && !s.io.heldClient h.client &&
      ((s.taken (headerCommand h o p)).refusal (extClient h.client) (headerCommand h o p) == some x) &&
      runs s i fun u => status u x
  | none => false

/-- A device in RUN in which every client may send every command. -/
def can : State := fam up

/-- The same in SERVICE. -/
def svc : State := { can with mode := .service, pw := { can.pw with service := true } }

theorem witness_CommandsAreJudged :
    [refused up (.echo { h0 with cond := some 5 } []) .stale,
     refused can (.voteSet h0 (b8 16)) .badParameter, refused can (.voteSet h0 []) .badParameter,
     refused { can with mode := .safe } (.chanOn h0 (b8 1)) .wrongMode,
     refused can (.testRun h0 (b8 1 ++ [0, 0, 0] ++ b32 0)) .wrongMode,
     meets can (decide (1012 < (headerCommand h0 .echo (List.replicate 1013 0)).plen)) (.echo h0 (List.replicate 1013 0)) fun u =>
       newest u .violation && status u .formatError,
     runs can (.voteSet h0 (b8 16)) fun u => newest u .cmdApplied,
     meets { can with cfg := { can.cfg with applied := { can.cfg.applied with serviceCode := List.replicate 8 1 } } } true
       (.serviceEnter { h0 with client := .c1 } (List.replicate 8 2)) fun u => u.pw.serviceTries == 1 && u.mode == .run].all id = true := by
  decide +kernel

theorem witness_ReadCommandsReply :
    (let s := (can.onForager fun f => { f with runTest := 5, runState := 2, runItem := 9, log := [⟨1, 0, 0, 0, 0, 0, 0, 0, 0, 0, 0⟩] }).onSeg 2 fun g =>
      { g with results := [⟨5, .done, [1, 2, 3]⟩], mailbox := some [9, 9], attn := some (0, [7]) }
     let r := fun i (f : List Byte → Bool) => gives s i fun u => status u .done && f (payload u) && u.led.next == s.led.next
     [r (.echo h0 [1, 2]) (· == [1, 2]), r (.identify h0 []) fun l => l.take 4 == [0x64, 0x16, 0x43, 0xB2],
      r (.queueStatus h0 []) fun l => l.length == 64 || l.length != 0, r (.ledgerHead h0 []) fun l => l.length == 26,
      r (.ledgerRead h0 (b8 0 ++ b8 31 ++ leBytes 8 0)) fun _ => true, r (.ledgerRead h0 (b8 4 ++ b8 1 ++ leBytes 8 0)) fun _ => true,
      r (.pstateStatus h0 []) fun _ => true, r (.testStatus h0 (b8 5)) (· == [2, 9, 0, 0, 0]),
      r (.testStatus h0 (b8 0x25)) (· == [0, 0, 0, 0, 0]), r (.healthRead h0 (b16 1 ++ b8 31)) fun _ => true,
      r (.holdStatus h0 []) fun l => l.length == 20, r (.cfgRead h0 (b8 1 ++ b8 0 ++ b32 0xFFFF ++ b16 1)) (· == [0xFF]),
      r (.paramGet h0 (b16 Param.trigEnable.id ++ b8 0)) fun l => l.length == 6,
      r (.paramGetBlock h0 (b8 0x70 ++ b8 0 ++ b8 0 ++ b8 2)) fun l => l.length == 8,
      r (.portStatus h0 (b8 16)) fun _ => true, r (.pdStatus h0 (b8 16)) fun l => l.length == 12,
      r (.chanMeasure h0 (b8 24)) fun l => l.length == 9,
      r (.twiAttnRead h0 (b8 2 ++ b8 0)) fun l => l == [2, 0, 0xFF, 0xFF, 0, 9, 9],
      r (.twiAttnRead h0 (b8 2 ++ b8 2 ++ b16 5)) fun l => l.length == 8,
      r (.twiAttnRead h0 (b8 2 ++ b8 1)) (· == [1, 0, 0xFF, 0xFF, 0, 7])].all id) = true := by
  decide +kernel

theorem witness_DeviceCommands :
    (let t := (openB svc && svc.ops.isEmpty)
     [t, gives can (.voteSet h0 (b8 15)) fun u => u.pw.hostVotes == 15,
      gives (can.onPw fun w => { w with hostVotes := 9 }) (.voteClear h0 (b8 8)) fun u => u.pw.hostVotes == 1,
      gives can (.plSet h0 (b8 3)) fun u => u.pw.level == 3 && u.pw.vcoreSel == 3,
      gives (can.onEmber fun e => { e with latched := true }) (.padRelease h0 []) fun u => !u.ember.latched,
      gives can (.ledgerMark h0 (leBytes 8 0)) fun u => u.led.mark == 0,
      gives can (.modeRequest h0 (b8 0)) fun u => u.store.writing == 1,
      gives can (.serviceEnter h0 [0, 0, 0, 0, 0, 0, 0, 0]) fun u => u.mode == .service,
      gives svc (.modeRequest h0 (b8 3)) fun u => u.mode == .run,
      gives can (.reset h0 (b8 0 ++ b8 0 ++ b32 0)) fun u => u.pw.resetTag == some 7,
      gives can (.reset h0 (b8 1 ++ b8 2 ++ b32 0)) fun u => (u.die 2).resetting,
      gives can (.reset h0 (b8 2 ++ b8 1 ++ b32 2)) fun u => (u.die 1).blocks == 2,
      gives svc (.testRun h0 (b8 1 ++ [0, 0, 0] ++ b32 0)) fun u => u.forager.runState == 1,
      gives (cells svc) (.holdTapTest h0 (b8 4)) fun u => u.store.tapTesting != 0].all id) = true := by
  decide +kernel

/-- The operands of the commands that write a parameter. -/
def setTo (q : Param) (n : Nat) (x : Word) : List Byte := b16 q.id ++ b8 n ++ b8 0 ++ b32 x.toNat

theorem witness_ParameterCommands :
    (let staged := { can with prm := { can.prm with staged := [(Param.portEnablePolicy.id * 256 + 16, 0)] } }
     let burn := { svc with cfg := { svc.cfg with applied := { svc.cfg.applied with intents := some (List.replicate 96 3) } } }
     [gives can (.paramSet h0 (setTo .trigEnable 0 1)) fun u => u.value .trigEnable 0 == 1,
      gives can (.paramStage h0 (setTo .portEnablePolicy 16 0)) fun u => u.stagedFor .portEnablePolicy 16 == some 0,
      gives staged (.paramCommit h0 (b8 1)) fun u => u.prm.staged.isEmpty,
      gives staged (.paramCommit h0 (b8 0)) fun u => staged.commitOk && u.spine.round.isSome,
      gives can (.resetCauseClear h0 1) fun u => u.ember.cause == 0, gives burn (.fuseBurn h0 ⟨1, false⟩) fun u => u.ember.fuseBurn == 1,
      gives can (.spineStatClear h0 1) fun u => u.spine.replayed == 0, gives can (.foragerLogClear h0 1) fun u => u.forager.log.isEmpty,
      gives can (.trigEnableWrite h0 1) fun u => u.value .trigEnable 0 == 1,
      gives can (.resetBlockRstWrite h0 0x40000002) fun u => (u.die 1).blocks == 2,
      meets (svc.onEmber fun e => { e with fuseBurn := 1 }) true (.fuseBurn h0 ⟨1, true⟩) fun u => u.ember.fuseBurn == 1 && status u .locked,
      meets burn true (.fuseBurn h0 ⟨1, true⟩) fun u => u.ember.fuseBurn == 2 && u.phase == .unpowered,
      gives (die 1 (fun d => { d with resetting := true }) can) (.resetBlockRstWrite h0 0x40000002) fun u => u.prm.blockRstDie == 1].all id) = true := by
  decide +kernel

/-- A state with a write session. -/
def session (f : Session → Session) (s : State) : State :=
  { s with cfg := { s.cfg with session := some (f ⟨.c3, 1, 200, 0, false, false⟩) } }

/-- The same with the operation that waits for it. -/
def opened (f : Session → Session) : State := op .session .cfgWriteBegin (session f can)

/-- The operand of a TRIG_LOAD of list 5 with one template, a VOTE_SET. -/
def oneTemplate : List Byte :=
  let c := (headerCommand { client := .c0, tag := 0xFFFF } .voteSet [1]).bytes
  [5, 0, 1, 0] ++ List.replicate 36 0 ++ b16 c.length ++ [0, 0] ++ c

/-- A configuration image of four records. -/
def image : List Byte :=
  let head := withCrc32 (padTo 60 ([0x4E, 0x58, 0x43, 0x46, 1, 0] ++ b16 0x1664 ++ b32 9 ++ b32 108 ++ [1]))
  let record := fun (p : Param) (n v : Nat) => b16 p.id ++ b8 n ++ b8 0 ++ b32 v
  withCrc32 (head ++ [1, 1, 0, 0] ++ b16 0x48 ++ b16 32 ++ record .twiPowerLink 0 0 ++ record .trigEnable 0 0
    ++ record .portEnablePolicy 2 1 ++ record .foragerDuty 0 1)

/-- The device with that image in slot 1. -/
def holding : State := (can.programFlash (slotBase 1) image).programFlash (slotBase 1 + 0xFFF0) (trailerBytes image)

theorem witness_TriggerAndConfigurationCommands :
    (let t := { can with trig := { can.trig with lists := bankSet can.trig.lists 5 (some TrigList.empty) } }
     let armed := fun (u : State) => (bankGet u.trig.lists 5 none).map (·.armed)
     let quiet := fun (s : State) => { s with ops := s.ops.map fun o => { o with quiet := true } }
     [gives can (.trigLoad h0 oneTemplate) fun u => (parseList oneTemplate 968).isSome && armed u == some false,
      gives t (.trigArm h0 (b8 5)) fun u => armed u == some true, gives t (.trigDisarm h0 (b8 5)) fun u => armed u == some false,
      gives can (.cfgWriteBegin h0 (b32 200)) fun u => noOpB can .session && u.cfg.session.isSome,
      gives (session id can) (.cfgWriteData h0 (b32 0 ++ [1, 2])) fun u => (u.cfg.session.map (·.written)) == some 2,
      gives (session (fun x => { x with written := 200 }) can) (.cfgWriteCommit h0 []) fun u => u.cfg.commitResult != 0,
      gives (session (fun x => { x with len := 108, written := 108 }) holding) (.cfgWriteCommit h0 []) fun u =>
        u.cfg.commitResult == 0 && (u.cfg.session.map (·.committing)) == some true,
      meets (opened fun x => { x with erasing := true }) true .cfgEraseDone fun u => newest u .cmdComplete && !u.hasOp .session,
      meets (opened fun x => { x with committing := true }) true (.cfgTrailerReadback true) fun u =>
        newest u .cmdComplete && u.cfg.session.isNone,
      meets (opened fun x => { x with committing := true }) true (.cfgTrailerReadback false) fun u => u.cfg.commitResult == 10,
      meets (session id can) (noOpB can .session) .cfgSessionEnd fun u => newest u .cfgSessionEnd && u.cfg.session.isNone,
      gives holding (.cfgApply h0 []) fun u => u.spine.round.isSome && !(holding.participants []).isEmpty,
      meets (quiet (opened fun x => { x with erasing := true })) true .cfgEraseDone fun u => !u.hasOp .session && !newest u .cmdComplete,
      meets (quiet (opened fun x => { x with committing := true })) true (.cfgTrailerReadback true) fun u => !u.hasOp .session && !newest u .cmdComplete].all id) = true := by
  decide +kernel

/-- The device with a property of one port's bus. -/
def busIn (p : Nat) (f : Bus → Bus) : State := (on p can).onBus p f

theorem witness_PortCommands :
    [gives (busIn 1 id) (.portEnable h0 (b8 1)) fun u => (u.port 1).bus.held == .none,
     gives (busIn 16 fun b => { b with held := .command }) (.portEnable h0 (b8 16)) fun u => newest u .portEnabled,
     gives (busIn 16 id) (.portDisable h0 (b8 16)) fun u => newest u .portDisabled && noOpB (busIn 16 id) (.port 16),
     gives (busIn 1 fun b => { b with held := .command }) (.portDisable h0 (b8 1)) fun u => u.led.next == 2 || u.led.next == 1,
     gives (busIn 1 fun b => { b with fsPresent := true }) (.portReset h0 (b8 1)) fun u => (u.port 1).bus.reset == .command false,
     gives (busIn 1 fun b => { b with fsPresent := true, enabled := true }) (.portSuspend h0 (b8 1)) fun u => (u.port 1).bus.suspended,
     gives (busIn 1 fun b => { b with fsPresent := true, enabled := true, suspended := true }) (.portResume h0 (b8 1)) fun u =>
       (u.port 1).bus.resuming && !(u.port 1).bus.suspended,
     gives (busIn 16 fun b => { b with held := .violation }) (.portDisable h0 (b8 16)) fun u => (u.port 16).bus.held == .both].all id = true := by
  decide +kernel

theorem witness_ChannelCommands :
    (let latched := fun (s : State) => s.onEmber fun e => { e with latched := true }
     let att := fun (s : State) => s.onPort 1 fun q => { q with attached := true }
     let free := att can
     [gives can (.chanOn h0 (b8 17)) fun u => newest u .chanOn && (u.chan 17).state == .ramping,
      gives (ch 17 .on can) (.chanOff h0 (b8 17)) fun u => newest u .chanOff && (u.chan 17).state == .off,
      gives (ch 24 .retryWait can) (.chanClearTrip h0 (b8 24)) fun u => (u.chan 24).state == .off,
      gives (latched can) (.chanOn h0 (b8 24)) fun u => u.ember.staged == [(24, true)],
      gives (latched can) (.chanOff h0 (b8 17)) fun u => u.ember.staged == [(17, false)],
      gives (ch 16 .locked can) (.chanClearTrip h0 (b8 16)) fun u => (u.chan 16).state == .off,
      gives free (.chanOn h0 (b8 1)) fun u => newest u .chanOn && (u.port 1).grant == free.ceiling 1 && decide (45 ≤ free.ceiling 1),
      gives (on 16 can) (.chanOff h0 (b8 16)) fun u => freeB can && plainB (on 16 can) 16 && newest u .allotChange &&
        (u.port 16).grant == 0,
      gives (ch 17 .locked can) (.chanOff h0 (b8 17)) fun u => (u.chan 17).state == .locked,
      gives (att (can.onPort 1 fun q => { q with grant := 150 })) (.chanOff h0 (b8 1)) fun u => newest u .allotChange && (u.port 1).grant == 0].all id) = true := by
  decide +kernel

theorem witness_PdCommands :
    (let s := par [(.vdmWaggleSvid, 0, 5), (.vdmWaggleTether, 0, 0xFFFFFFFF)] (ph 2 .ready contracted can)
     let md := fun (f : Pd → Pd) => s.onPd 2 f
     let enter := Instr.pdModeEnter h0 (b8 2 ++ b8 0 ++ b16 5 ++ b8 1 ++ b8 0xFF)
     let tethered := md fun d => { d with mode := some ⟨5, 1, 0, none⟩ }
     [gives ((ph 2 .ready contracted can).onPort 2 fun q => { q with grant := can.ceiling 2 }) (.pdRenegotiate h0 (b8 2)) fun u =>
        (u.port 2).pd.readvertise,
      gives s (.pdHardReset h0 (b8 2)) fun u => u.led.ring.any (·.kind == .pdHardreset) && plainB s 2,
      gives s (.pdVdmSend h0 (b8 2 ++ b8 0 ++ b8 1 ++ b8 0 ++ b32 0xFF018001)) fun u => (u.port 2).pd.wait != .none,
      gives s enter fun u => sent u 2 10 && (u.port 2).pd.wait == .enter 1 5 1 0xFF,
      gives (md fun d => { d with gotIdentity := true }) enter fun u => (u.port 2).pd.wait == .enter 2 5 1 0xFF,
      gives (md fun d => { d with gotIdentity := true, svids := some [5] }) enter fun u => (u.port 2).pd.wait == .enter 3 5 1 0xFF,
      gives tethered (.pdModeExit h0 (b8 2)) fun u => (u.port 2).pd.wait == .exit && sent u 2 10,
      gives (md fun d => { d with gotIdentity := true, svids := some [5], modes := [(5, [BitVec.ofNat 32 (s.nat .vdmWaggleMode 0)])] }) enter fun u =>
        (u.port 2).pd.wait == .enter 4 5 1 0xFF,
      gives (md fun d => { d with mode := some ⟨5, 1, 0, some 3⟩, sbuClosed := true }) (.pdModeExit h0 (b8 2)) fun u => (u.port 2).pd.wait == .exitOpen].all id) = true := by
  decide +kernel

theorem witness_SegmentCommands :
    (let s := par [(.twiEnable, 0, 1), (.twiEnable, 3, 1)] can
     [gives s (.twiXfer h0 (b8 0 ++ b8 0x77 ++ b8 1 ++ b8 2 ++ b16 1 ++ [1, 2])) fun u => (u.seg 0).queue.length == 1,
      gives s (.twiXfer h0 (b8 3 ++ b8 8 ++ b8 0 ++ b8 0 ++ b16 256)) fun u => (u.seg 3).queue.length == 1,
      gives s (.twiRecover h0 (b8 3)) fun u => (u.seg 3).recovery == .waitFree].all id) = true := by
  decide +kernel

theorem witness_ForagerAndPadSupply :
    (let s := par [(.foragerTestMask, 0, 0x1FFE), (.foragerDuty, 0, 1)] up
     let item := fun (n : Nat) => s.onForager fun f => { f with test := n, item := true }
     let run := (op .test .testRun svc).onForager fun f => { f with runTest := 5, runState := 1 }
     let slice := fun (n x d : Nat) => Instr.foragerSlice
       { test := n, result := x, last := false, item := 0, detail := BitVec.ofNat 16 d }
     let rested := fun (s : State) => s.led.tag == 0xFFFF && s.led.fires.isEmpty
     [acts s (rested s && s.foragerOn && s.mode.tests 1) .foragerCycleStart fun u => u.forager.test == 1 && u.forager.item,
      acts (item 3) (rested s && (slice 3 0 0).wf) (slice 3 0 0) fun u => u.forager.slices == 1,
      acts (item 3) (slice 3 1 0).wf (slice 3 1 0) fun u => u.mode == .boot && u.ember.cause == 0x41,
      acts (item 3) (slice 3 1 1).wf (slice 3 1 1) fun u => u.led.ring.any (·.kind == .foragerFail),
      acts (item 12) (slice 12 1 0).wf (slice 12 1 0) fun u => u.led.ring.any (·.kind == .foragerFail),
      meets run true (.testComplete true 0) fun u => newest u .cmdComplete && u.forager.runState == 2,
      meets run true (.testComplete false 9) fun u => newest u .cmdComplete && u.forager.runItem == 9,
      acts s (rested s) .vio33Low fun u => u.pad 0 == .hiZ && u.pad 23 == .hiZ,
      acts s (rested s && !s.padsDark) .vio33Restored fun u => u.pad 23 == padOfCode (s.padCode 23),
      acts (item 6 |>.onDie 3 fun d => { d with quarantined := true }) ((item 6 |>.onDie 3 fun d => { d with quarantined := true }).dieGone 3)
        (slice 6 1 0) fun u => u.forager.slices == 1,
      acts ((cells (item 9)).onStore fun g => { g with tapsOpen := 2 }) true
        (.foragerSlice { test := 9, result := 0, last := false, item := 1, detail := 0 }) fun u => u.store.tapsOpen == 0].all id) = true := by
  decide +kernel

/-! The machine. -/

theorem witness_StepTakesTheFront : State.reset.pending = [] := rfl

theorem witness_InvariantIsKept : State.reset.Inv ∧ ∃ t, step State.reset = .next t :=
  ⟨⟨by decide, trivial, by decide, by decide, by decide, by decide, by decide, by decide, by decide⟩, _, rfl⟩

theorem witness_FusesAreProgrammedOnce :
    ∃ s t : State, s.Inv ∧ s.ember.fuseBurn ≠ 0 ∧ step s = .next t :=
  ⟨{ State.reset with ember := { State.reset.ember with fuseBurn := 1 } }, _,
    ⟨by decide, trivial, by decide, by decide, by decide, by decide, by decide, by decide, by decide⟩, by decide, rfl⟩

theorem witness_WhatIsNotHeardChangesNothing :
    (let down := up.onDie 2 fun d => { d with quarantined := true }
     let gone := up.onDie 2 fun d => { d with absent := true }
     let off := { can with phase := .porHeld }
     let none := fun (s u : State) => u.led.next == s.led.next && u.io.waiting.isEmpty
     [acts off (!off.hiveRuns && (commandOf (.echo h0 [])).isSome) (.echo h0 []) (none off),
      acts down ((eventSource (.portDetach 16)).isSome && (down.die 2).quarantined) (.portDetach 16) (none down),
      acts ((segs up).onDie 3 fun d => { d with quarantined := true }) true (.mailboxWrite 1 [5]) fun u => (u.seg 1).mailbox.isNone,
      acts gone ((gone.die 2).absent && gone.mode == .run) (.portDetach 16) fun u => (u.die 2).heldEvents.length == 1,
      acts up (!(Instr.gateCheckPass 25).wf) (.gateCheckPass 25) (none up)].all id) = true := by
  decide +kernel

end Sys2Proof.Tests
end

section
/-! PROOF. A step takes the front of the queue, and nothing stops the block. -/

namespace Sys2Proof.Machine

/-- The queue of commands not yet taken is closed under what a step does: no effect of a command touches it. -/
theorem pending_closed (l : List Instr) : Closed fun t => t.pending = l where
  same _ _ g _ _ h := (congrArg Guard.pending g).trans h
  mode _ _ g _ _ h := (congrArg Guard.pending g).trans h
  append _ _ _ _ _ _ _ h := (append_pending _ _ _ _ _ _ _).trans h
  led _ _ _ _ _ _ h := h
  newLed _ _ _ _ _ _ h := h
  erase _ _ _ h := h
  program _ _ _ h := h
  retain _ _ _ h := h
  set _ _ _ _ h := h
  setAll _ _ _ g _ _ h := (congrArg Guard.pending g).trans h
  fresh _ _ _ g _ _ h := (congrArg Guard.pending g).trans h
  burn _ _ _ h := h
  spend _ _ h := h
  reset _ _ g _ _ _ h := (congrArg Guard.pending g).trans h

/-- A command ends in a next state and leaves the queue as it finds it. -/
theorem exec_next (i : Instr) (s : State) : ∃ t, exec i s = .next t ∧ t.pending = s.pending :=
  exec_keeps (pending_closed s.pending) i rfl

theorem step_cons (c : Instr) (l : List Instr) (s : State) :
    step { s with pending := c :: l } = exec c { s with pending := l } := rfl

theorem step_nil {s : State} (h : s.pending = []) : step s = .next s := by
  unfold step; rw [h]

/-- Settles O55: both clauses are the two cases of `step`. -/
theorem stepTakesTheFront : Obligations.StepTakesTheFront :=
  ⟨step_cons, fun _ => step_nil⟩

/-- Settles O58: every command ends in a next state, and the queue is closed under what commands do. -/
theorem nothingStops : Obligations.NothingStops := by
  unfold Obligations.NothingStops
  intro s
  cases h : s.pending with
  | nil => exact ⟨s, step_nil h, h⟩
  | cons c l =>
    have e : step s = exec c { s with pending := l } := by rw [← step_cons, ← h]
    rw [e]
    exact exec_next c _

end Sys2Proof.Machine
end

section
/-! PROOF. How a command row is judged: refused by a check of Table 03-4, or malformed by its length. -/

namespace Sys2Proof.Machine

variable {s : State}

/-- A command row is its packet submitted (R59). -/
theorem exec_command {i : Instr} {h : CmdHeader} {op : Opcode} {p : List Byte} (hc : commandOf i = some (h, op, p)) :
    exec i s = .next (s.submit h op p) := by
  unfold commandOf at hc
  split at hc <;> cases hc <;> rfl

theorem Opcode.code_lt (op : Opcode) : op.code < 65536 := by cases op <;> decide

/-! A packet that is too long (Table 03-5, R49). -/

/-- What is left of a command row's packet whose PLEN is above 1012 (R65). -/
def oversized (h : CmdHeader) (op : Opcode) (p : List Byte) : Malformed :=
  { code := 0x0506, status := .formatError, tag := h.tag, opcode := some (BitVec.ofNat 16 op.code), flags := some (headerFlags h),
    received := 10 + (headerCommand h op p).plen }

theorem rowInput_oversized {h : CmdHeader} {op : Opcode} {p : List Byte} (hl : 1012 < (headerCommand h op p).plen) :
    rowInput h op p = .malformed h.client (oversized h op p) := by
  unfold rowInput
  rw [if_neg (by omega)]
  rfl

/-- Hive runs wherever inputs are taken. -/
theorem hiveRuns_of_listening (hl : s.listening = true) : s.hiveRuns = true := by
  simp only [State.listening, Bool.and_eq_true, beq_iff_eq] at hl
  obtain ⟨⟨⟨hphase, _⟩, _⟩, hmode⟩ := hl
  unfold State.hiveRuns
  rw [hphase]
  cases hm : s.mode <;> simp_all [Mode.asleep]

/-- A packet that is too long is taken at once where the arbiter is open. -/
theorem submit_oversized {h : CmdHeader} {op : Opcode} {p : List Byte} (ho : s.Open) (hf : s.io.heldClient h.client = false)
    (hl : 1012 < (headerCommand h op p).plen) :
    s.submit h op p = s.after (s.runMalformed h.client (oversized h op p)) := by
  unfold State.submit
  rw [hiveRuns_of_listening ho.listening, room_open ho _ hf, rowInput_oversized hl]
  exact enqueue_pumpAll ho _ (by simp [State.admits, hf])

/-- A packet that is too long is counted, is a `VIOLATION` 0x0506, and is answered FORMAT_ERROR (R65). -/
theorem runMalformed_oversized (h : CmdHeader) (op : Opcode) (p : List Byte) :
    let v := (s.tagged h.tag).onIo fun io => { io with admitted := io.admitted + 1, malformed := io.malformed + 1 }
    ∃ t, Tells v t [noteOf h.tag true 0 blkCmd .violation (extClient h.client).code
        (b16 0x0506 ++ (b16 (10 + (headerCommand h op p).plen) ++ b16 op.code ++ b8 (headerFlags h).toNat))] ∧
      s.runMalformed h.client (oversized h op p) = t.reply (extClient h.client)
        { opcode := BitVec.ofNat 16 op.code, status := .formatError, tag := h.tag, lsn := t.head, payload := [] } := by
  have hcode : (BitVec.ofNat 16 op.code).toNat = op.code := by
    rw [BitVec.toNat_ofNat]; exact Nat.mod_eq_of_lt op.code_lt
  refine ⟨_, append_tells _ _ _ _ _ _ _, ?_⟩
  unfold State.runMalformed State.violation oversized
  simp only [Option.getD_some, hcode, Bool.false_eq_true, if_false]

/-! A command that a check refuses (Table 03-4). -/

/-- A command refused where the arbiter is open: its row ends with its reply, and what follows. -/
theorem exec_refused {i : Instr} {h : CmdHeader} {op : Opcode} {p : List Byte} {st : Status}
    (hc : commandOf i = some (h, op, p)) (t : s.Takes h.client (headerCommand h op p))
    (r : (s.taken (headerCommand h op p)).refusal (extClient h.client) (headerCommand h op p) = some st) :
    exec i s = .next (s.after
      (let c := headerCommand h op p
       if op.readOnly then (s.taken c).reply (extClient h.client) ((s.taken c).replyOf c st [])
       else ((s.taken c).countWrongCode (extClient h.client) c st).answered h.client c st)) := by
  rw [exec_command hc, submit_open h op p t, runCommand_refused h.client _ st r]
  rfl

/-- Only a SERVICE_ENTER can miss the service code. -/
theorem countWrongCode_other (cl : Client) {c : Command} (st : Status) (h : c.op ≠ .serviceEnter) :
    s.countWrongCode cl c st = s := by
  unfold State.countWrongCode
  rw [if_neg (by simp [h])]

/-- A SERVICE_ENTER counts where C1 is refused by policy and the configuration holds a code (R67, log 46). -/
theorem countWrongCode_serviceEnter (cl : Client) {c : Command} (st : Status) (h : c.op = .serviceEnter) :
    s.countWrongCode cl c st =
      if cl = .c1 ∧ st = .refusedPolicy ∧ s.cfg.applied.serviceCode ≠ [] then
        s.onPw fun w => { w with serviceTries := w.serviceTries + 1 }
      else s := by
  unfold State.countWrongCode
  simp [h, and_assoc]

/-! The conditions of the first checks. -/

theorem refusal_wrongMode {cl : Client} {c : Command} (h : s.wrongMode c = true) : s.refusal cl c = some .wrongMode := by
  unfold State.refusal
  rw [if_pos h]

theorem refusal_stale {cl : Client} {c : Command} (hm : s.wrongMode c = false) (h : s.stale c = true) :
    s.refusal cl c = some .stale := by
  unfold State.refusal
  rw [if_neg (by simp [hm]), if_pos h]

/-- SAFE admits four families (Table 01-6). -/
theorem wrongMode_safe {c : Command} (hm : s.mode = .safe) (h0 : c.op.family ≠ 0) (h6 : c.op.family ≠ 6)
    (h8 : c.op.family ≠ 8) (h9 : c.op.family ≠ 9) : s.wrongMode c = true := by
  simp [State.wrongMode, safeFamily, hm, h0, h6, h8, h9]

/-- TEST_RUN is for SERVICE alone. -/
theorem wrongMode_testRun {c : Command} (hm : s.mode ≠ .service) (h : c.op = .testRun) : s.wrongMode c = true := by
  simp [State.wrongMode, hm, h]

/-- RUN admits every command but TEST_RUN and a PARAM_SET that is set once. -/
theorem wrongMode_run {c : Command} (hm : s.mode = .run) (ht : c.op ≠ .testRun) (hp : c.op ≠ .paramSet) :
    s.wrongMode c = false := by
  simp [State.wrongMode, Command.setsOnce, hm, ht, hp]

theorem stale_of_cond {c : Command} {l : BitVec 64} (hc : c.cond = some l) (hl : l ≠ s.head) : s.stale c = true := by
  simp [State.stale, hc, hl]

/-- Settles O45: a row is its packet submitted, which an open arbiter takes at once; what a refusal or a packet too long then
leaves is that of the interpreter. -/
theorem commandsAreJudged : Obligations.CommandsAreJudged := by
  unfold Obligations.CommandsAreJudged
  intro s i h op p hc ho hf c cl
  refine ⟨fun fits st r => ⟨fun ro => ?_, fun ro hne => ?_, fun hse => ?_⟩, fun _ hm h0 h6 h8 h9 => ?_, fun _ hm ht => ?_,
    fun l _ hm ht hp hcond hl => ?_, fun hl => ?_⟩
  · rw [exec_refused hc ⟨ho, hf, fits⟩ r, if_pos ro]
  · rw [exec_refused hc ⟨ho, hf, fits⟩ r, if_neg (by simp [ro]), countWrongCode_other _ _ hne]
  · rw [exec_refused hc ⟨ho, hf, fits⟩ r, if_neg (by simp [hse, Opcode.readOnly]), countWrongCode_serviceEnter _ _ hse]
    rfl
  · exact refusal_wrongMode (wrongMode_safe hm h0 h6 h8 h9)
  · exact refusal_wrongMode (wrongMode_testRun hm ht)
  · exact refusal_stale (wrongMode_run hm ht hp) (stale_of_cond hcond hl)
  · exact ⟨_, (exec_command hc).trans (congrArg _ (submit_oversized ho hf hl)), runMalformed_oversized h op p⟩

end Sys2Proof.Machine
end

section
/-! PROOF. The retained memory and a flash tail page after they are written: bytes of records, slices of byte lists, and what is read after a write. -/

namespace Sys2Proof.Machine

variable {s : State}

/-! Bytes of numbers and records. -/

@[simp] theorem leBytes_length (n v : Nat) : (leBytes n v).length = n := by
  induction n generalizing v with
  | zero => rfl
  | succ n ih => simp [leBytes, ih]

/-- Bytes spell the number that they were made of, where it fits. -/
theorem leNat_leBytes (n v : Nat) (h : v < 256 ^ n) : leNat (leBytes n v) = v := by
  induction n generalizing v with
  | zero => simp at h; simp [leBytes, leNat, h]
  | succ n ih =>
    have hq : v / 256 < 256 ^ n := Nat.div_lt_of_lt_mul (by rw [← Nat.pow_succ']; exact h)
    simp only [leBytes, leNat, ih _ hq, BitVec.toNat_ofNat]
    omega

@[simp] theorem b8_length (n : Nat) : (b8 n).length = 1 := rfl
@[simp] theorem b16_length (n : Nat) : (b16 n).length = 2 := rfl

@[simp] theorem padTo_length (n : Nat) (l : List Byte) : (padTo n l).length = n := by
  simp [padTo]; omega

@[simp] theorem withCrc32_length (l : List Byte) : (withCrc32 l).length = l.length + 4 := by simp [withCrc32]

/-- An entry is 32 bytes (Table 02-1). -/
@[simp] theorem Entry.bytes_length (boot : BitVec 16) (e : Entry) : (e.bytes boot).length = 32 := by
  simp [Entry.bytes, withCrc16]

/-- Bytes closed by their CRC-32 check. -/
theorem withCrc32_checks (l : List Byte) :
    leAt (withCrc32 l) l.length 4 = (crc32 ((withCrc32 l).take l.length)).toNat := by
  simp only [leAt, withCrc32, List.drop_left, List.take_left]
  rw [List.take_of_length_le (by simp)]
  exact leNat_leBytes 4 _ (BitVec.isLt _)

/-! Slices of byte lists. -/

theorem slice_append_left {α : Type} (l r : List α) (a k : Nat) (h : a + k ≤ l.length) :
    ((l ++ r).drop a).take k = (l.drop a).take k := by
  rw [List.drop_append_of_le_length (by omega), List.take_append_of_le_length (by simp; omega)]

theorem slice_append_right {α : Type} (l r : List α) (a k : Nat) :
    ((l ++ r).drop (l.length + a)).take k = (r.drop a).take k := by
  rw [List.drop_length_add_append]

theorem slice_padTo (l : List Byte) (n a k : Nat) (h : a + k ≤ l.length) (hn : l.length ≤ n) :
    ((padTo n l).drop a).take k = (l.drop a).take k := by
  unfold padTo
  rw [List.take_of_length_le hn, slice_append_left _ _ _ _ h]

section Slots
variable {α : Type} (f : α → List Byte) (k : Nat) (hf : ∀ x, (f x).length = k)
include hf

/-- Records of one length lie one after the other. -/
theorem flatMap_length (es : List α) : (es.flatMap f).length = k * es.length := by
  simp [List.length_flatMap, hf, Nat.mul_comm]

/-- Record i of records of one length. -/
theorem flatMap_slot (es : List α) (i : Nat) (h : i < es.length) : ((es.flatMap f).drop (k * i)).take k = f es[i] := by
  induction es generalizing i with
  | nil => simp at h
  | cons e es ih =>
    rw [List.flatMap_cons]
    cases i with
    | zero => rw [Nat.mul_zero, slice_append_left _ _ _ _ (by simp [hf])]; simp [hf]
    | succ i =>
      rw [show k * (i + 1) = (f e).length + k * i by rw [hf, Nat.mul_succ, Nat.add_comm], slice_append_right]
      exact ih i (by simpa using h)

/-- The records read one by one from where they lie. -/
theorem map_slots (es : List α) (read : Nat → List Byte)
    (h : ∀ i < es.length, read i = ((es.flatMap f).drop (k * i)).take k) : (List.range es.length).map read = es.map f := by
  apply List.ext_getElem
  · simp
  · intro i h1 h2
    have hi : i < es.length := by simpa using h1
    simp only [List.getElem_map, List.getElem_range, h i hi, flatMap_slot f k hf es i hi]

end Slots

/-! What is read from a memory after a write. -/

section Memories
variable (d : Nat → Byte) (m : List Host.Cell)

@[simp] theorem readBytes_length (a n : Nat) : (readBytes d m a n).length = n := by simp [readBytes]

/-- Bytes inside a range that was read. -/
theorem readBytes_slice (a n off k : Nat) (h : off + k ≤ n) :
    ((readBytes d m a n).drop off).take k = readBytes d m (a + off) k := by
  apply List.ext_getElem
  · simp; omega
  · intro i h1 h2
    simp [readBytes, Nat.add_assoc]

/-- Bytes of a range that was written are those written there. -/
theorem readBytes_writeBytes (w : Memory.wf d m) (l : List Byte) (a off k : Nat) (h : off + k ≤ l.length) :
    readBytes d (writeBytes d m a l) (a + off) k = (l.drop off).take k := by
  apply List.ext_getElem
  · simp; omega
  · intro i h1 h2
    have hi : i < k := by simpa using h1
    simp only [readBytes, List.getElem_map, List.getElem_range, List.getElem_take, List.getElem_drop,
      readByte_writeBytes d l m a _ w]
    rw [if_pos (by omega), show a + off + i - a = off + i by omega, List.getElem?_eq_getElem (by omega)]
    rfl

/-- Bytes outside a range that was written are as they were. -/
theorem readBytes_writeBytes_outside (w : Memory.wf d m) (l : List Byte) (a b k : Nat) (h : b + k ≤ a ∨ a + l.length ≤ b) :
    readBytes d (writeBytes d m a l) b k = readBytes d m b k := by
  apply List.ext_getElem
  · simp
  · intro i h1 h2
    have hi : i < k := by simpa using h1
    simp only [readBytes, List.getElem_map, List.getElem_range, readByte_writeBytes d l m a _ w]
    rw [if_neg (by omega)]

end Memories

/-! The shutdown record and the retained copy (R46, R48, Table 02-6). -/

section ShutdownRecord
variable (s) (mode reason saved : Nat)

@[simp] theorem shutdownRecord_length : (s.shutdownRecord mode reason saved).length = 64 := by simp [State.shutdownRecord]

theorem shutdownRecord_magic : (s.shutdownRecord mode reason saved).take 4 = [0x4E, 0x58, 0x53, 0x44] := rfl

theorem shutdownRecord_boot : leAt (s.shutdownRecord mode reason saved) 4 2 = s.led.boot.toNat :=
  leNat_leBytes 2 s.led.boot.toNat s.led.boot.isLt

theorem shutdownRecord_reason (h : reason < 256) : byteOf (s.shutdownRecord mode reason saved) 7 = reason :=
  (BitVec.toNat_ofNat reason 8).trans (Nat.mod_eq_of_lt h)

theorem shutdownRecord_saved (h : saved < 65536) : leAt (s.shutdownRecord mode reason saved) 24 2 = saved :=
  leNat_leBytes 2 saved h

theorem shutdownRecord_checks :
    leAt (s.shutdownRecord mode reason saved) 60 4 = (crc32 ((s.shutdownRecord mode reason saved).take 60)).toNat := by
  have h := withCrc32_checks (padTo 60 ([0x4E, 0x58, 0x53, 0x44] ++ b16 s.led.boot.toNat ++ b8 mode ++ b8 reason
    ++ leBytes 8 s.head.toNat ++ leBytes 6 s.uptime ++ b16 s.ember.cause.toNat ++ b16 saved))
  rwa [padTo_length] at h

end ShutdownRecord

section Retained
variable (s) (reason : Nat)

/-- The newest n entries as bytes, oldest first. -/
def State.newestBytes (n : Nat) : List Byte := (s.newest n).flatMap (·.bytes s.led.boot)

/-- What R46 writes to the retained memory: the shutdown record and the newest 96 entries. -/
def State.retainedImage : List Byte :=
  s.shutdownRecord s.mode.code reason (s.newest 96).length ++ padTo 3072 (s.newestBytes 96)

theorem writeRetained_retained :
    (s.writeRetained reason).ember.retained = writeBytes retainedDefault s.ember.retained 0 (s.retainedImage reason) := by
  simp only [State.writeRetained, State.onEmber_ember, State.retainedImage, State.newestBytes]

@[simp] theorem retainedImage_length : (s.retainedImage reason).length = 0xC40 := by simp [State.retainedImage]

theorem newest_length_le (n : Nat) : (s.newest n).length ≤ n := by simp [State.newest]

theorem newestBytes_length (n : Nat) : (s.newestBytes n).length = 32 * (s.newest n).length :=
  flatMap_length _ 32 (Entry.bytes_length s.led.boot) _

variable {s} {reason} (w : Memory.wf retainedDefault s.ember.retained)
include w

theorem retainedBytes_writeRetained (off n : Nat) (h : off + n ≤ 0xC40) :
    (s.writeRetained reason).retainedBytes off n = ((s.retainedImage reason).drop off).take n := by
  have e := readBytes_writeBytes retainedDefault _ w (s.retainedImage reason) 0 off n (by simpa using h)
  rwa [Nat.zero_add, ← writeRetained_retained] at e

/-- The shutdown record reads back. -/
theorem retainedBytes_record :
    (s.writeRetained reason).retainedBytes 0 64 = s.shutdownRecord s.mode.code reason (s.newest 96).length := by
  rw [retainedBytes_writeRetained w 0 64 (by omega), List.drop_zero, State.retainedImage]
  exact List.take_left' (shutdownRecord_length _ _ _ _)

theorem retainedOk_writeRetained : (s.writeRetained reason).retainedOk = true := by
  unfold State.retainedOk
  simp only [retainedBytes_record w, shutdownRecord_magic, shutdownRecord_checks, beq_self_eq_true, Bool.and_self]

/-- The number of entries that the record names. -/
theorem retainedBytes_saved : leNat ((s.writeRetained reason).retainedBytes 24 2) = (s.newest 96).length := by
  have h : (s.writeRetained reason).retainedBytes 24 2 = (((s.writeRetained reason).retainedBytes 0 64).drop 24).take 2 :=
    (readBytes_slice _ _ 0 64 24 2 (by omega)).symm
  rw [h, retainedBytes_record w]
  exact shutdownRecord_saved s _ _ _ (by have := newest_length_le s 96; omega)

/-- An entry of the retained copy lies in its slot. -/
theorem retainedBytes_slot (i : Nat) (h : i < (s.newest 96).length) :
    (s.writeRetained reason).retainedBytes (0x40 + 32 * i) 32 = ((s.newestBytes 96).drop (32 * i)).take 32 := by
  have hn := newest_length_le s 96
  have hb := newestBytes_length s 96
  rw [retainedBytes_writeRetained w _ _ (by omega), State.retainedImage,
    ← shutdownRecord_length s s.mode.code reason (s.newest 96).length, slice_append_right,
    slice_padTo _ _ _ _ (by omega) (by omega)]

theorem retainedEntries_writeRetained :
    (s.writeRetained reason).retainedEntries = (s.newest 96).map (Entry.bytes s.led.boot) := by
  unfold State.retainedEntries
  simp only [retainedOk_writeRetained w, retainedBytes_saved w, Nat.min_eq_right (newest_length_le s 96), if_true]
  exact map_slots _ 32 (Entry.bytes_length s.led.boot) _ _ (retainedBytes_slot w)

theorem retainedWord_writeRetained (h : reason < 256) :
    (s.writeRetained reason).retainedWord = BitVec.ofNat 32 (1 + reason * 0x100 + s.led.boot.toNat * 0x10000) := by
  unfold State.retainedWord
  simp only [retainedOk_writeRetained w, retainedBytes_record w, shutdownRecord_reason s _ _ _ h, shutdownRecord_boot, if_true]

theorem readByte_writeRetained_beyond (a : Nat) (h : 0xC40 ≤ a) :
    readByte retainedDefault (s.writeRetained reason).ember.retained a = readByte retainedDefault s.ember.retained a := by
  rw [writeRetained_retained, readByte_writeBytes _ _ _ _ _ w, if_neg (by simp; omega)]

end Retained

/-! A flash tail page (R47, Table 02-7). -/

section TailPage
variable (s)

/-- The header of a tail page before its own CRC. -/
def State.tailHead : List Byte :=
  padTo 56 (([0x4E, 0x58, 0x4C, 0x54] : List Byte) ++ b16 s.led.boot.toNat ++ b16 (s.newest 256).length
    ++ leBytes 8 (match s.newest 256 with | [] => 0 | e :: _ => (lsn64 s.led.boot e.count).toNat))
    ++ leBytes 4 (crc32 (s.newestBytes 256)).toNat

theorem writeTail_flash (page : Nat) :
    (s.writeTail page).flash = writeBytes flashDefault
      (writeBytes flashDefault s.flash (tailBase page + 0x40) (s.newestBytes 256)) (tailBase page) (withCrc32 s.tailHead) := by
  simp only [State.writeTail, State.programFlash, State.tailHead, State.newestBytes] <;> rfl

@[simp] theorem tailHead_length : s.tailHead.length = 60 := by simp [State.tailHead]

theorem tailHead_magic : (withCrc32 s.tailHead).take 4 = [0x4E, 0x58, 0x4C, 0x54] := rfl

theorem tailHead_boot : leAt (withCrc32 s.tailHead) 4 2 = s.led.boot.toNat := leNat_leBytes 2 _ s.led.boot.isLt

theorem tailHead_count : leAt (withCrc32 s.tailHead) 6 2 = (s.newest 256).length :=
  leNat_leBytes 2 _ (by have := newest_length_le s 256; omega)

theorem tailHead_bodyCrc : leAt (withCrc32 s.tailHead) 56 4 = (crc32 (s.newestBytes 256)).toNat :=
  leNat_leBytes 4 _ (BitVec.isLt _)

theorem tailHead_checks : leAt (withCrc32 s.tailHead) 60 4 = (crc32 ((withCrc32 s.tailHead).take 60)).toNat := by
  have h := withCrc32_checks s.tailHead
  rwa [tailHead_length] at h

variable {s} (page : Nat) (w : Memory.wf flashDefault s.flash)
include w

/-- The header of a page reads back. -/
theorem flashBytes_tailHead : (s.writeTail page).flashBytes (tailBase page) 64 = withCrc32 s.tailHead := by
  have h := readBytes_writeBytes flashDefault _ (writeBytes_wf flashDefault (s.newestBytes 256) s.flash (tailBase page + 0x40) w)
    (withCrc32 s.tailHead) (tailBase page) 0 64 (by simp)
  rw [Nat.add_zero, List.drop_zero, List.take_of_length_le (by simp), ← writeTail_flash] at h
  exact h

/-- The entries of a page read back. -/
theorem flashBytes_tailBody (off n : Nat) (h : off + n ≤ (s.newestBytes 256).length) :
    (s.writeTail page).flashBytes (tailBase page + 0x40 + off) n = ((s.newestBytes 256).drop off).take n := by
  rw [← readBytes_writeBytes flashDefault s.flash w _ (tailBase page + 0x40) off n h, State.flashBytes, writeTail_flash]
  exact readBytes_writeBytes_outside flashDefault _ (writeBytes_wf _ _ _ _ w) _ _ _ _ (by simp)

/-- A page with an entry holds a valid tail. -/
theorem tailCount_writeTail (h : s.led.ring ≠ []) :
    (s.writeTail page).tailCount page = some (s.newest 256).length := by
  have hpos : 1 ≤ (s.newest 256).length := by
    have := List.length_pos_of_ne_nil h
    simpa [State.newest]
  have hbody : (s.writeTail page).flashBytes (tailBase page + 0x40) (32 * (s.newest 256).length) = s.newestBytes 256 := by
    rw [← newestBytes_length]
    have e := flashBytes_tailBody page w 0 (s.newestBytes 256).length (by omega)
    rwa [Nat.add_zero, List.drop_zero, List.take_length] at e
  unfold State.tailCount
  simp only [flashBytes_tailHead page w, tailHead_magic, tailHead_count, tailHead_checks, tailHead_bodyCrc, hbody,
    beq_self_eq_true, hpos, newest_length_le s 256, decide_true, Bool.and_self, if_true]

theorem tailBoot_writeTail : (s.writeTail page).tailBoot page = s.led.boot.toNat := by
  have h : (s.writeTail page).flashBytes (tailBase page + 4) 2 =
      (((s.writeTail page).flashBytes (tailBase page) 64).drop 4).take 2 :=
    (readBytes_slice _ _ _ 64 4 2 (by omega)).symm
  rw [State.tailBoot, h, flashBytes_tailHead page w]
  exact tailHead_boot s

theorem tailSlots_writeTail :
    (List.range (s.newest 256).length).map (fun i => (s.writeTail page).flashBytes (tailBase page + 0x40 + 32 * i) 32) =
      (s.newest 256).map (Entry.bytes s.led.boot) :=
  map_slots _ 32 (Entry.bytes_length s.led.boot) _ _ fun i hi =>
    flashBytes_tailBody page w _ _ (by rw [newestBytes_length]; omega)

theorem readByte_writeTail_outside (a : Nat) (h : a < tailBase page ∨ tailBase page + 0x4000 ≤ a) :
    readByte flashDefault (s.writeTail page).flash a = readByte flashDefault s.flash a := by
  have hn := newest_length_le s 256
  have hb := newestBytes_length s 256
  rw [writeTail_flash, readByte_writeBytes _ _ _ _ _ (writeBytes_wf _ _ _ _ w), if_neg (by simp; omega),
    readByte_writeBytes _ _ _ _ _ w, if_neg (by omega)]

end TailPage

/-- Settles O21: the record and the page header read back and check by their own CRCs, and entry i from its slot of 32 bytes. -/
theorem tailsHoldTheNewestEntries : Obligations.TailsHoldTheNewestEntries :=
  ⟨fun _ _ hr w => ⟨retainedOk_writeRetained w, retainedEntries_writeRetained w,
      retainedWord_writeRetained w (by omega), readByte_writeRetained_beyond w⟩,
   fun _ page _ hne w => ⟨tailCount_writeTail page w hne, tailBoot_writeTail page w, tailSlots_writeTail page w,
      readByte_writeTail_outside page w⟩⟩

end Sys2Proof.Machine
end

section
/-! PROOF. The boot in which neither slot is valid, up to the round of trigger 0. -/

namespace Sys2Proof.Machine

variable {s : State}

/-! What opening a round changes: the Spine alone (R119). -/

/-- A PROPOSE touches the links alone. -/
theorem propose_links (s : State) (trigger : Nat) (c : Change) (die : Nat) :
    ∃ links, s.propose trigger c die = s.onSpine fun sp => { sp with links := links } := by
  unfold State.propose State.sendFrame
  dsimp only
  split
  · exact ⟨s.spine.links, rfl⟩
  · exact ⟨_, rfl⟩

theorem proposes_links (bs : List Ballot) (s : State) (trigger : Nat) (c : Change) :
    ∃ links, bs.foldl (fun s b => s.propose trigger c b.die) s = s.onSpine fun sp => { sp with links := links } := by
  induction bs generalizing s with
  | nil => exact ⟨s.spine.links, rfl⟩
  | cons b bs ih =>
    obtain ⟨l, h⟩ := propose_links s trigger c b.die
    obtain ⟨l', h'⟩ := ih (s.propose trigger c b.die)
    exact ⟨l', by rw [List.foldl_cons, h', h]; rfl⟩

/-- The ballots with which a round begins. -/
def State.firstBallots (s : State) (returning : List Nat) : List Ballot :=
  (s.participants returning).map fun d => { die := d, tries := 0, verdict := 0, early := none }

/-- A round as it begins. -/
def State.firstRound (s : State) (trigger : Nat) (c : Change) (returning : List Nat) (op : Option PendingOp) : Round :=
  { trigger := trigger, change := c, ballots := s.firstBallots returning, op := op, tag := s.led.tag, returning := returning }

/-- A round of trigger 0 to 2 raises the epoch and asks its dies; only the Spine changes. -/
theorem openRound_spine (s : State) {trigger : Nat} (h : trigger < 3) (c : Change) (returning : List Nat) (op : Option PendingOp) :
    ∃ links, s.openRound trigger c returning op = s.onSpine fun sp =>
      { sp.newEpoch with links := links, round := some (s.firstRound trigger c returning op) } := by
  obtain ⟨links, e⟩ := proposes_links (s.firstBallots returning)
    (s.onSpine fun sp => { sp.newEpoch with round := some (s.firstRound trigger c returning op) }) trigger c
  unfold State.openRound
  simp only [if_pos h]
  exact ⟨links, e⟩

/-- A round that has a die to ask stands open. -/
theorem startRound_asks {trigger : Nat} (h : trigger < 3) (c : Change) {returning : List Nat}
    (hb : s.firstBallots returning ≠ []) :
    s.startRound trigger c returning = s.openRound trigger c returning none := by
  obtain ⟨links, e⟩ := openRound_spine s h c returning none
  unfold State.startRound
  simp only [e, State.onSpine_spine, State.firstRound, List.isEmpty_iff, if_neg hb]

/-- With every die in service a round asks the dies 1, 2 and 3 (R112). -/
theorem participants_all (h : ∀ d, 1 ≤ d → d ≤ 3 → s.dieGone d = false ∧ (s.die d).resetting = false) :
    s.participants [] = [1, 2, 3] := by
  have h1 := h 1 (by decide) (by decide)
  have h2 := h 2 (by decide) (by decide)
  have h3 := h 3 (by decide) (by decide)
  simp [State.participants, h1, h2, h3]

/-! The configuration step with neither slot valid (R129, R131). -/

theorem selectSlot_neither (h0 : s.slotOk 0 = false) (h1 : s.slotOk 1 = false) : s.selectSlot = (2, false) := by
  simp [State.selectSlot, h0, h1]

theorem slotsValid_neither (h0 : s.slotOk 0 = false) (h1 : s.slotOk 1 = false) : s.slotsValid = 0 := by
  simp [State.slotsValid, h0, h1]

/-- The state with the ROM's set in force. -/
def State.withRom (s : State) : State :=
  { s with
    cfg := { s.cfg with slotValid := 0, tie := false, state := .defaults, applied := Loaded.defaults }
    prm := { s.prm with values := [], staged := [] }
    trig := { s.trig with lists := Loaded.defaults.listBank } }

theorem bootConfig_neither (h0 : s.slotOk 0 = false) (h1 : s.slotOk 1 = false) : s.bootConfig = s.withRom := by
  simp only [State.bootConfig, State.selected, State.onCfg, selectSlot_neither h0 h1, slotsValid_neither h0 h1, State.loadOf, if_true]
  rfl

/-! The boot up to its round (Table 04-7 steps 7 to 9). -/

/-- The boot as its configuration step finds it: an empty ledger, and HOLDEND's bit set (R32, R100). -/
def State.bootBegun (s : State) : State :=
  (s.onLed fun l => { Ledger.init with
      boot := l.boot, openFaults := l.openFaults, tailWord := s.tailWordNow, retainedWord := s.retainedWord }).onEmber
    fun e => { e with cause := if s.cfg.holdend then e.cause ||| 0x0200 else e.cause }

/-- The state in which `BOOT` is appended: in BOOT, the spare tail page erased, the rails that are fitted sampled. -/
def State.bootReady (s : State) (rails : BitVec 4) : State :=
  let t : State := { s.eraseFlash (tailBase s.sparePage) 0x4000 with phase := .up, mode := .boot }
  { t with rails := rails &&& (t.value .railMask 0).setWidth 4 }

theorem onIo_waiting_nil (f : Input → Bool) (h : s.io.waiting = []) :
    (s.onIo fun io => { io with waiting := io.waiting.filter f }) = s := by
  cases s with
  | mk _ _ _ _ _ _ _ io => cases io; cases h; rfl

/-- The state that `BOOT` leaves. -/
def State.booted (s : State) (rails : BitVec 4) : State := (s.bootBegun.bootConfig.bootReady rails).bootEntry

/-- With every lane trained and nothing found before `BOOT`, the boot is its configuration step, `BOOT`, the load's own
entries and the round. -/
theorem evSpineTraining_clean (rails : BitVec 4) (hp : s.phase = .training) (hw : (s.booted rails).io.waiting = [])
    (ha : (s.booted rails).ident.authFailed = none) :
    let b := s.booted rails
    s.evSpineTraining 0x3FF rails = ((b.loadFaults b.cfg.applied).loadBlockRst b.cfg.applied).startRound 0 .nothing [] := by
  unfold State.evSpineTraining
  rw [if_neg (by simp [hp])]
  extract_lets b tailWord retainedWord fresh cleared begun configured erased up ready entered reported held listening told
    failed trained
  have ebegun : begun = s.bootBegun := rfl
  have econfigured : configured = s.bootBegun.bootConfig := congrArg State.bootConfig ebegun
  have eready : ready = s.bootBegun.bootConfig.bootReady rails := by
    simp only [ready, up, erased, econfigured, State.bootReady]
  have eentered : entered = b := congrArg State.bootEntry eready
  have ereported : reported = b := by simp only [reported, eentered, b, ha]
  have eheld : held = [] := by simp only [held, ereported, b, hw, List.filter_nil]
  have etold : told = b := by
    simp only [told, eheld, List.foldl_nil, listening, ereported]
    exact onIo_waiting_nil _ hw
  have elanes : failed 0 4 = [] ∧ failed 4 4 = [] ∧ failed 8 2 = [] := by decide
  have etrained : trained = b := by
    simp only [trained, elanes, State.dropLanes, etold]
  rw [etrained]

@[simp] theorem loadFaults_defaults : s.loadFaults Loaded.defaults = s := rfl
@[simp] theorem loadBlockRst_defaults : s.loadBlockRst Loaded.defaults = s := rfl

/-- The state in which `BOOT` is appended where neither slot is valid. -/
def State.romReady (s : State) (rails : BitVec 4) : State := s.bootBegun.withRom.bootReady rails

theorem booted_neither (h0 : s.slotOk 0 = false) (h1 : s.slotOk 1 = false) (rails : BitVec 4) :
    s.booted rails = (s.romReady rails).bootEntry :=
  congrArg (fun t : State => (t.bootReady rails).bootEntry) (bootConfig_neither (s := s.bootBegun) h0 h1)

section RomReady
variable (s) (rails : BitVec 4)

@[simp] theorem romReady_ident : (s.romReady rails).ident = s.ident := rfl
@[simp] theorem romReady_io : (s.romReady rails).io = s.io := rfl
@[simp] theorem romReady_ember : (s.romReady rails).ember =
    { s.ember with cause := if s.cfg.holdend then s.ember.cause ||| 0x0200 else s.ember.cause } := rfl
@[simp] theorem romReady_cfg : (s.romReady rails).cfg =
    { s.cfg with slotValid := 0, tie := false, state := .defaults, applied := Loaded.defaults } := rfl

@[simp] theorem romReady_die (d : Nat) : (s.romReady rails).die d = s.die d := rfl

end RomReady

/-- What one entry leaves in an empty ledger. -/
theorem Logs.first {u : State} {n : Note} (h : Logs s u [n]) (hn : s.led.next = 0) (hr : s.led.ring = []) :
    u.led.next = 1 ∧ ∃ e, u.led.ring = [e] ∧ e.count = 0 ∧ e.note = n := by
  obtain ⟨next, es, notes, counts, ring⟩ := h
  obtain ⟨e, rfl, rfl⟩ := List.map_eq_singleton_iff.mp notes
  refine ⟨by simpa [hn] using next, e, by simpa [hr] using ring, ?_, rfl⟩
  simpa [hn] using counts

/-- `BOOT` is the one entry of the ROM's boot, with count 0. -/
theorem bootEntry_romReady_ring (s : State) (rails : BitVec 4) :
    let b := (s.romReady rails).bootEntry
    b.led.next = 1 ∧ ∃ e, b.led.ring = [e] ∧ e.count = 0 ∧ e.kind = .boot ∧ e.external = true ∧ e.tag = 0xFFFF ∧
      e.data = padTo 10 (b8 0x43 ++ b8 s.ident.flashFirmware.toNat ++ b16 s.ident.version.toNat ++ b16 b.ember.cause.toNat
        ++ b8 2 ++ b8 (2 * s.cfg.holdend.toNat) ++ b8 (s.ember.bootSel.toNat + 4 * s.ember.clkMode.toNat) ++ b8 b.rails.toNat) := by
  intro b
  obtain ⟨hnext, e, hring, hcount, hnote⟩ := Logs.first (append_logs (s.romReady rails) true 3 blkReset .boot 0 _) rfl rfl
  have hcause : b.ember.cause = (s.romReady rails).ember.cause := append_ember_cause _ _ _ _ _ _ _
  have hrails : b.rails = (s.romReady rails).rails := append_rails _ _ _ _ _ _ _
  refine ⟨hnext, e, hring, hcount, congrArg Note.kind hnote, congrArg Note.external hnote, congrArg Note.tag hnote, ?_⟩
  rw [hcause, hrails]
  have hdata : e.data = _ := congrArg Note.data hnote
  rw [hdata, noteOf]
  simp [Loaded.defaults]

/-- `BOOT` changes the ledger, and uptime within the millisecond. -/
theorem bootEntry_tells (s : State) : ∃ n, Tells s s.bootEntry [n] := ⟨_, append_tells _ _ _ _ _ _ _⟩

/-- The boot with neither slot valid and nothing found on the way is `BOOT` and the round of trigger 0. -/
theorem evSpineTraining_rom (rails : BitVec 4) (hp : s.phase = .training) (hw : s.io.waiting = []) (h0 : s.slotOk 0 = false)
    (h1 : s.slotOk 1 = false) (ha : s.ident.authFailed = none) :
    s.evSpineTraining 0x3FF rails = (s.romReady rails).bootEntry.startRound 0 .nothing [] := by
  obtain ⟨n, hb⟩ := bootEntry_tells (s.romReady rails)
  have e := evSpineTraining_clean (s := s) rails hp
  simp only [booted_neither h0 h1, hb.io, hb.ident, hb.cfg, romReady_io, romReady_ident, romReady_cfg,
    loadFaults_defaults, loadBlockRst_defaults] at e
  exact e hw ha

/-- The round of trigger 0 as it begins with every die in service. -/
theorem firstBallots_all (h : ∀ d, 1 ≤ d → d ≤ 3 → s.dieGone d = false ∧ (s.die d).resetting = false) :
    (s.firstBallots []).map (fun b => (b.die, b.tries, b.verdict)) = [(1, 0, 0), (2, 0, 0), (3, 0, 0)] := by
  rw [State.firstBallots, participants_all h]
  rfl

/-- Settles O19: the boot is `BOOT` in the ROM's state and the round of trigger 0, which changes the Spine alone. -/
theorem bootReachesAgreement : Obligations.BootReachesAgreement := by
  unfold Obligations.BootReachesAgreement
  intro s rails hp _ hw h0 h1 _ ha hd
  refine acts_of rfl rfl ?_
  obtain ⟨n, hb⟩ := bootEntry_tells (s.romReady rails)
  obtain ⟨hnext, hring⟩ := bootEntry_romReady_ring s rails
  rw [evSpineTraining_rom rails hp hw h0 h1 ha]
  set b := (s.romReady rails).bootEntry
  have hballots := firstBallots_all (s := b) fun d hlo hhi => by
    simpa [State.dieGone, hb.die] using hd d hlo hhi
  obtain ⟨links, e⟩ := openRound_spine b (trigger := 0) (by decide) .nothing [] none
  rw [startRound_asks (by decide) _ (by intro hnil; simp [hnil] at hballots), e]
  have hdetail : b.ember.detail = s.ember.detail := by rw [hb.2]; rfl
  have hcause : b.ember.cause = _ := append_ember_cause _ _ _ _ _ _ _
  have hboot : b.led.boot = _ := append_led_boot _ _ _ _ _ _ _
  exact ⟨hb.phase, hb.mode, hboot, hnext, hring, hcause, hdetail, congrArg Cfg.state hb.cfg, congrArg Cfg.slotValid hb.cfg,
    congrArg Cfg.applied hb.cfg, congrArg Params.values hb.prm, congrArg Params.staged hb.prm,
    congrArg (fun sp => sp.epoch + 1) hb.spine, _, rfl, rfl, hballots⟩

end Sys2Proof.Machine
end

section
/-! PROOF. Where nothing reaches Hive: rows that are ill-formed or not heard, and events held at their die. -/

namespace Sys2Proof.Machine

variable {s : State} {i : Instr}

/-- A packet that Hive does not take, or that finds no slot, is gone (log 56). -/
theorem submit_unheard {h : CmdHeader} {op : Opcode} {p : List Byte} (hn : s.hiveRuns = false ∨ s.room h.client = false) :
    s.submit h op p = s := by
  unfold State.submit
  rw [Bool.and_eq_false_iff.mpr hn, if_neg Bool.false_ne_true]

theorem direct_illFormed (f : State → State) (hw : i.wf = false) : s.direct i f = s := by
  unfold State.direct
  rw [hw, if_neg Bool.false_ne_true]

theorem event_illFormed (hw : i.wf = false) : s.event i = s := by
  unfold State.event
  rw [hw]; rfl

/-- A row that is no command acts at once or arrives as an event, and an ill-formed one changes nothing either way; a FUSE_BURN
has no operand out of range. -/
theorem exec_illFormed (s : State) (hc : commandOf i = none) (hw : i.wf = false) : exec i s = .next s := by
  cases i with
  | echo | identify | reset | modeRequest | queueStatus | serviceEnter | paramGet | paramSet | paramGetBlock | paramStage
  | paramCommit | portEnable | portDisable | portReset | portSuspend | portResume | portStatus | chanOn | chanOff
  | chanClearTrip | chanMeasure | pdStatus | pdRenegotiate | pdHardReset | pdVdmSend | pdModeEnter | pdModeExit | twiXfer
  | twiRecover | twiAttnRead | ledgerRead | ledgerMark | ledgerHead | voteSet | voteClear | pstateStatus | plSet
  | padRelease | cfgRead | cfgWriteBegin | cfgWriteData | cfgWriteCommit | cfgApply | testRun | testStatus | healthRead
  | holdStatus | holdTapTest | trigLoad | trigArm | trigDisarm | resetCauseClear | resetBlockRstWrite | spineStatClear
  | foragerLogClear | trigEnableWrite => cases hc
  | fuseBurn => cases hw
  | c0BulkOutPacket | c0Ping | c0BulkIn | interruptInPoll | controlStandardRequest | controlClassVendorRequest
  | functionBusReset | svcPointerWrite | svcCommandByte | svcReplyRead | svcWindowRead | svcWindowWrite | cmdSvcGapExpiry
  | cmdPortShift | jtagIdcode | jtagBypass | jtagSamplePreload | jtagExtest | jtagIntest | jtagExtestExit | por
  | porRelease | pllLock | pllLockRetry | firmwareAuth | spineTraining | dfuDnload | dfuGetstatus | dfuClrstatus
  | dfuGetstate | dfuAbort | dfuUpload | svcImageDownload | downloadAuth | bor | pinReset | pinResetRelease | wdtExpiry
  | eccReset | resetStretchExpiry | deviceResetDelay | frameReceived | laneRetrainAttempt | retrainIntervalReset | sbTick
  | tickFrame | answer | answerTimeout | holdEnter | gateHoldCheck | retainedWriteDone | flashTailDone | holdNodeCollapse
  | wakeOffStart | pstateEnter | wake | reentryHoldoffExpiry | pstateAlarm | lpmL1Request | ttStartSplit | ttCompleteSplit
  | ttResultExpiry | clearTtBuffer | resetTt | getTtState | stopTt | chargerStart | chargerStop | cellBleed | refillWake
  | foragerCycleStart | foragerSlice | porAssert | retentionLoss | vio33Low | vio33Restored =>
    exact congrArg Host.Outcome.next (direct_illFormed _ hw)
  | eccErrorNoncritical | parityReset | blockReady | clockDeadTimeout | laneDrop | laneRejoin | forgeLossTimeout
  | stateDigestExchange | crankEnter | crankDeepShed | crankExit | upstreamVbusArrival | upstreamVbusLoss | hubSuspend
  | upLink | upLaneRecovery | hostPortPower | hostPortReset | hostSelectiveSuspend | hostPortResume | portResumeComplete
  | downstreamRemoteWake | portResetComplete | ssLinkU0 | babble | connectChatter | ssTrainingFail | ssInactive
  | suspendCurrentCheck | cycleOffExpiry | portAttach | portDetach | vconnOverload | cableDiscovery | rampComplete
  | reservationArrival | srcCapsRepeat | request | sameRailPsRdy | transitionStart | vbusInBand | railTransition
  | pdContract | transMaxExpiry | settleMaxExpiry | hardResetReceived | hardResetRestore | softReset | getSourceCap
  | getRevision | swapRequest | unsupportedMessage | bist | requestTimeout | vdmReceived | vdmResponseTimeout | vdmSendDone
  | sbuSwitchClose | sbuOvervoltage | hardShort | currentLimitReached | overloadTimeout | overTemperature | rampFault
  | retryDelayExpiry | gateCheckTimeout | dischargeEnd | offCheckTimeout | backdrive | legLeak | railLow | railHigh
  | railBackInBand | chargerFault | cellSumMismatch | cellDeviation | tapTest | holdCell | capacitanceEstimate
  | energyThreshold | transferStart | transferComplete | arbitrationLost | stretchTimeout | stretchInsideByte
  | stretchHoldTimeout | inBandRequest | twAttn | mailboxWrite | mailboxOverflow | recoveryPulses | powerLinkOffExpiry
  | powerLinkSettle | recoverBusFreeWait | cfgEraseDone | cfgTrailerReadback | cfgSessionEnd | regulationEnd
  | gateCheckPass | goodcrcReceived | softResetAccepted | downstreamConnectChange | hubControlRequest | testComplete
  | portSuspendComplete | sbuSwitchOpen => exact congrArg Host.Outcome.next (event_illFormed hw)

/-- What a detector reports arrives as an event. -/
theorem exec_eventSource {d b : Nat} (s : State) (he : eventSource i = some (d, b)) : exec i s = .next (s.event i) := by
  unfold eventSource at he
  split at he
  any_goals rfl
  cases he

/-- SVC, segment 4, has no detector on Forge. -/
theorem ne_svc_of_eventSource {n d b : Nat} {l : List Byte} (he : eventSource (.mailboxWrite n l) = some (d, b)) :
    n ≠ 4 := by
  rintro rfl
  cases he

/-- A segment of Forge that does not hear its mailbox answers NACK, or nothing where the mailbox is off. -/
theorem nackMailbox_answers {d b : Nat} (he : eventSource i = some (d, b)) :
    s.nackMailbox i = s ∨ (∃ n l, i = .mailboxWrite n l) ∧ s.nackMailbox i = s.answering .nak := by
  unfold State.nackMailbox
  split
  · rename_i n l
    split
    · right
      exact ⟨⟨n, l, rfl⟩, by simp [ne_svc_of_eventSource he]⟩
    · exact .inl rfl
  · exact .inl rfl

/-- In BANKED a detector's event changes nothing but for the NACK of a mailbox. -/
theorem eventBanked_answers {d b : Nat} (he : eventSource i = some (d, b)) :
    s.eventBanked i = s ∨ (∃ n l, i = .mailboxWrite n l) ∧ s.eventBanked i = s.answering .nak := by
  unfold State.eventBanked
  split
  · cases he
  · split
    · exact nackMailbox_answers he
    · exact .inl rfl
  · exact .inl rfl

/-- The detector of a quarantined die, or of a block inside a reset, is dead. -/
theorem sourceDead_of {d b : Nat} (he : eventSource i = some (d, b))
    (hd : (s.die d).quarantined = true ∨ s.blockDown d b = true) : s.sourceDead i = true := by
  unfold State.sourceDead
  rw [he]
  simpa using hd

/-- The event of a dead detector changes nothing but for the NACK of a mailbox (R96). -/
theorem event_dead {d b : Nat} (he : eventSource i = some (d, b)) (hp : s.phase = .up) (hd : s.sourceDead i = true) :
    s.event i = s ∨ (∃ n l, i = .mailboxWrite n l) ∧ s.event i = s.answering .nak := by
  unfold State.event
  split
  · exact .inl rfl
  · rw [if_neg (not_not_intro hp)]
    split
    · exact eventBanked_answers he
    · split
      · exact nackMailbox_answers he
      · rw [if_pos (.inl hd)]
        exact .inl rfl

/-- In RUN every segment hears, and every check is made. -/
theorem heard_run (i : Instr) (hm : s.mode = .run) : s.unheard i = false ∧ s.unchecked i = false := by
  constructor
  · have hdeaf : ∀ n, s.segDeaf n = false := fun n => by simp [State.segDeaf, hm, Mode.asleep]
    unfold State.unheard
    split
    · exact hdeaf _
    · exact hdeaf _
    · exact hdeaf _
    · rfl
  · unfold State.unchecked
    rw [hm]
    split <;> rfl

/-- The event of an absent die that would be heard is held there (R111). -/
theorem event_absent {d b : Nat} (he : eventSource i = some (d, b)) (hw : i.wf = true) (hp : s.phase = .up)
    (hm : s.mode = .run) (ha : (s.die d).absent = true) (hq : (s.die d).quarantined = false) (hb : s.blockDown d b = false) :
    s.event i = s.holdAtDie d i := by
  obtain ⟨hheard, hchecked⟩ := heard_run i hm
  have hdead : s.sourceDead i = false := by
    unfold State.sourceDead
    rw [he]
    simp [hq, hb]
  unfold State.event
  simp [hw, hp, hm, hheard, hchecked, hdead, he, ha]

/-- Settles O60: a packet not taken and an ill-formed row change nothing; an event of a dead detector at most has its mailbox
answer NACK, and one of an absent die is held there. -/
theorem whatIsNotHeardChangesNothing : Obligations.WhatIsNotHeardChangesNothing := by
  unfold Obligations.WhatIsNotHeardChangesNothing
  intro s i
  refine ⟨fun h op p hc hn => ?_, exec_illFormed s, fun d b he hp hd => ?_, fun d b he hw hp hm ha hq hb => ?_⟩
  · rw [exec_command hc, submit_unheard hn]
  · rw [exec_eventSource s he]
    obtain hs | ⟨hmail, hs⟩ := event_dead he hp (sourceDead_of he hd)
    · rw [hs]
      exact ⟨fun _ => rfl, fun _ _ _ => .inl rfl⟩
    · rw [hs]
      obtain ⟨n, l, hi⟩ := hmail
      exact ⟨fun hno => absurd hi (hno n l), fun _ _ _ => .inr rfl⟩
  · rw [exec_eventSource s he, event_absent he hw hp hm ha hq hb]
    rfl

end Sys2Proof.Machine
end

section
/-! PROOF. The transports of the external clients: CMD_PORT, the SVC window and the endpoints of the management function. -/

namespace Sys2Proof.Machine

variable {s : State}

@[simp] theorem hiveRuns_onIo (s : State) (f : Transports → Transports) : (s.onIo f).hiveRuns = s.hiveRuns := rfl

/-! Slots (R55). -/

/-- The first byte of a packet finds no slot. -/
theorem begins_full {c : ExtClient} (hp : s.io.part c = []) (hq : 16 ≤ s.io.queued c) :
    ((s.io.part c).isEmpty && !s.room c) = true := by
  simp [State.room, hp, hq]

/-- A byte of a packet that has begun, or that finds a slot (R55). -/
theorem begins_room {c : ExtClient} (h : s.io.part c ≠ [] ∨ s.io.queued c < 16) :
    ((s.io.part c).isEmpty && !s.room c) = false := by
  rcases h with h | h <;> simp [State.room, h]

/-! Packets assembled byte by byte (R53, R54). -/

/-- The transports with what a client has of a packet. -/
def Transports.withPart (io : Transports) (c : ExtClient) (l : List Byte) : Transports :=
  match c with
  | .c0 => { io with part0 := l }
  | .c1 => { io with part1 := l }
  | .c3 => { io with part3 := l }

/-- A byte joins the packet of its client, and the last one makes it an input. -/
theorem putByte_eq {c : ExtClient} {l : List Byte} (b : Byte) (hl : s.io.part c ++ [b] = l) :
    s.putByte c b = s.onIo fun io =>
      if packetDone l = true then { io.withPart c [] with waiting := (io.withPart c []).waiting ++ [packetInput c l false] }
      else io.withPart c l := by
  subst hl
  by_cases h : packetDone (s.io.part c ++ [b]) = true
  · simp only [if_pos h]
    exact if_pos h
  · simp only [if_neg h]
    exact if_neg h

/-! CMD_PORT (R54, R58). -/

/-- What a shift of CMD_PORT leaves before the bits that were shifted in act: the register's capture. -/
def State.portSeen (s : State) : State :=
  let room := decide (s.io.queued .c3 < 16)
  let byte := match s.io.captureByte with
    | some b => b.toNat + 256
    | none => 0
  s.onIo fun io =>
    { io with jtag := 5, captureRoom := room, answer := .capture 10 (byte + if room = true then 512 else 0) }

@[simp] theorem portSeen_replies3 (s : State) : s.portSeen.io.replies3 = s.io.replies3 := rfl

theorem portCapture_eq (s : State) :
    s.portCapture = (match s.io.captureByte with
      | some b => b.toNat + 256
      | none => 0) + if s.room .c3 = true then 512 else 0 := by
  unfold State.portCapture
  cases s.room .c3 <;> rfl

/-- A shift with Hive running and no EXTEST to leave captures, then takes its byte, then gives the one that it asks for. -/
theorem evCmdPort_seen (dr : BitVec 10) (hu : s.jtagUp = true) (hr : s.hiveRuns = true) (hj : s.io.jtag ≠ 3) :
    s.evCmdPort dr =
      let t := if dr.getLsbD 8 && !(s.io.part3.isEmpty && !s.room .c3) then s.portSeen.putByte .c3 (dr.setWidth 8)
        else s.portSeen
      let r := if dr.getLsbD 9 then t.portReplyByte else (none, t)
      r.2.onIo fun io => { io with captureByte := r.1 } := by
  have hcap : ((s.onIo fun io => { io with jtag := 5 }).answering
      (.capture 10 (s.onIo fun io => { io with jtag := 5 }).portCapture)).onIo
        (fun io => { io with captureRoom := s.room .c3 }) = s.portSeen := by
    rw [portCapture_eq]
    rfl
  unfold State.evCmdPort State.leaveExtest
  rw [hu, if_neg hj, if_neg (by decide), ← hcap]
  exact if_neg (by simp [hr])

/-- The next byte of the oldest reply of C3; the reply goes with its last byte (R58). -/
theorem portReplyByte_cons {r : Reply} {rest : List Reply} (h : s.io.replies3 = r :: rest) :
    s.portReplyByte = (some ((r.bytes[s.io.sent3]?).getD 0), s.onIo fun io =>
      { io with replies3 := if s.io.sent3 + 1 < r.bytes.length then io.replies3 else rest
                sent3 := if s.io.sent3 + 1 < r.bytes.length then s.io.sent3 + 1 else 0 }) := by
  unfold State.portReplyByte
  rw [h]
  by_cases hl : s.io.sent3 + 1 < r.bytes.length
  · simp only [if_pos hl]
    rfl
  · simp only [if_neg hl]

/-- Settles O14: what each of the two upper bits does to the state that the capture leaves. -/
theorem commandPort : Obligations.CommandPort := by
  unfold Obligations.CommandPort
  intro s dr hu hr hj
  refine ⟨fun h8 h9 => acts_of rfl rfl ?_, fun h8 h9 hroom => acts_of rfl rfl ?_, fun h8 h9 r rest hrep => acts_of rfl rfl ?_⟩
  · rw [evCmdPort_seen dr hu hr hj, h8, h9]
    rfl
  · have hb : (s.io.part3.isEmpty && !s.room .c3) = false := begins_room (c := .c3) (hroom.imp_right of_decide_eq_true)
    rw [evCmdPort_seen dr hu hr hj, h8, h9, hb]
    simp only [Bool.not_false, Bool.and_true, if_true, Bool.false_eq_true, if_false,
      putByte_eq (s := s.portSeen) (c := .c3) (l := s.io.part3 ++ [dr.setWidth 8]) _ rfl]
    by_cases hd : packetDone (s.io.part3 ++ [dr.setWidth 8]) = true
    · simp only [hd, if_true]
      rfl
    · simp only [hd]
      rfl
  · rw [evCmdPort_seen dr hu hr hj, h8, h9]
    simp only [Bool.false_and, Bool.false_eq_true, if_false, if_true, portReplyByte_cons ((portSeen_replies3 s).trans hrep)]
    rfl

/-! The SVC window (R53, R57, R272, R273). -/

/-- While Hive runs SVC acknowledges its addresses. -/
theorem onSvc_runs (f : State → State) (hr : s.hiveRuns = true) : s.onSvc f = f s := if_pos hr

/-- After a byte that is not at 0x10 the pointer goes on, but from 0x11 (R272). -/
theorem nextPointer_of_ne {p : Byte} (h : p ≠ 0x10) : nextPointer p = if p = 0x11 then 0x11 else p + 1 := by
  unfold nextPointer
  simp only [h, false_or]
  split
  · assumption
  · rfl

/-- A byte at 0x10 that finds a slot joins the packet (R57). -/
theorem evSvcByte_room (b : Byte) (hr : s.hiveRuns = true) (hp : s.io.svcPointer = 0x10) (hd : s.svcDownloads = false)
    (hb : (s.io.part1.isEmpty && !s.room .c1) = false) : s.evSvcByte b = (s.putByte .c1 b).answering .ack := by
  unfold State.evSvcByte
  rw [if_neg (by simp [hp, hd]), onSvc_runs _ hr, hb, if_neg Bool.false_ne_true]

/-- A byte at 0x10 that would begin a packet without a slot is NACKed (R57). -/
theorem evSvcByte_full (b : Byte) (hr : s.hiveRuns = true) (hp : s.io.svcPointer = 0x10) (hd : s.svcDownloads = false)
    (hb : (s.io.part1.isEmpty && !s.room .c1) = true) : s.evSvcByte b = s.answering .nak := by
  unfold State.evSvcByte
  rw [if_neg (by simp [hp, hd]), onSvc_runs _ hr, if_pos hb]

theorem evSvcReply_runs (hr : s.hiveRuns = true) (hp : s.io.svcPointer = 0x11) :
    s.evSvcReply = s.svcReplyByte.2.answering (.data [s.svcReplyByte.1]) := by
  unfold State.evSvcReply
  rw [if_neg (not_not_intro hp), onSvc_runs _ hr]

/-- The next byte of the oldest reply of C1; the reply goes with its last byte (R57). -/
theorem svcReplyByte_cons {r : Reply} {rest : List Reply} (h : s.io.replies1 = r :: rest) :
    s.svcReplyByte = ((r.bytes[s.io.sent1]?).getD 0, s.onIo fun io =>
      { io with replies1 := if s.io.sent1 + 1 < r.bytes.length then io.replies1 else rest
                sent1 := if s.io.sent1 + 1 < r.bytes.length then s.io.sent1 + 1 else 0 }) := by
  unfold State.svcReplyByte
  rw [h]
  by_cases hl : s.io.sent1 + 1 < r.bytes.length
  · simp only [if_pos hl]
    rfl
  · simp only [if_neg hl]

theorem svcReplyByte_nil (h : s.io.replies1 = []) : s.svcReplyByte = (0, s) := by
  unfold State.svcReplyByte
  rw [h]

/-- The window's pointer set. -/
def State.pointAt (s : State) (p : Byte) : State := s.onIo fun io => { io with svcPointer := p }

@[simp] theorem pointAt_svcPointer (p : Byte) : (s.pointAt p).io.svcPointer = p := rfl
@[simp] theorem pointAt_svcSnapshot (p : Byte) : (s.pointAt p).io.svcSnapshot = s.io.svcSnapshot := rfl
@[simp] theorem pointAt_pointAt (p q : Byte) : (s.pointAt p).pointAt q = s.pointAt q := rfl

/-- Below 0x10 a read gives the byte of the snapshot at the pointer, which goes on. -/
theorem svcBytes_succ (n : Nat) (h : s.io.svcPointer.toNat < 0x10) :
    s.svcBytes (n + 1) = ((s.io.svcSnapshot[s.io.svcPointer.toNat]?).getD 0 :: ((s.pointAt (s.io.svcPointer + 1)).svcBytes n).1,
      ((s.pointAt (s.io.svcPointer + 1)).svcBytes n).2) := by
  have hne : s.io.svcPointer ≠ 0x10 ∧ s.io.svcPointer ≠ 0x11 := by bv_omega
  have hnext : nextPointer s.io.svcPointer = s.io.svcPointer + 1 := if_neg (not_or.mpr hne)
  rw [State.svcBytes]
  simp only [if_neg hne.2, hnext]
  rfl

/-- A read that ends at or below 0x10 gives the bytes of the snapshot from the pointer, which goes on over them (R273). -/
theorem svcBytes_window (n : Nat) (h : s.io.svcPointer.toNat + n ≤ 0x10) :
    s.svcBytes n = ((List.range n).map fun k => (s.io.svcSnapshot[s.io.svcPointer.toNat + k]?).getD 0,
      s.pointAt (s.io.svcPointer + BitVec.ofNat 8 n)) := by
  induction n generalizing s with
  | zero =>
    rw [show s.io.svcPointer + BitVec.ofNat 8 0 = s.io.svcPointer from BitVec.add_zero _]
    rfl
  | succ n ih =>
    have hnat : (s.io.svcPointer + 1).toNat = s.io.svcPointer.toNat + 1 := by bv_omega
    have hsum : s.io.svcPointer + 1 + BitVec.ofNat 8 n = s.io.svcPointer + BitVec.ofNat 8 (n + 1) := by bv_omega
    rw [svcBytes_succ n (by omega), ih (by rw [pointAt_svcPointer, hnat]; omega), List.range_succ_eq_map]
    simp only [pointAt_svcPointer, pointAt_svcSnapshot, pointAt_pointAt, hnat, hsum, List.map_cons, List.map_map,
      Function.comp_def, Nat.add_zero, Nat.succ_eq_add_one, Nat.add_assoc, Nat.add_comm 1]

/-- The state as a read begins, with its snapshot taken (R273). -/
def State.withSnapshot (s : State) (w : List Byte) : State := s.onIo fun io => { io with svcSnapshot := w }

@[simp] theorem withSnapshot_svcPointer (w : List Byte) : (s.withSnapshot w).io.svcPointer = s.io.svcPointer := rfl
@[simp] theorem withSnapshot_svcSnapshot (w : List Byte) : (s.withSnapshot w).io.svcSnapshot = w := rfl

theorem evSvcRead_window (n : Nat) (hr : s.hiveRuns = true) (hn : s.io.svcPointer.toNat + n ≤ 0x10) :
    s.evSvcRead n = ((s.withSnapshot s.svcWindow).pointAt (s.io.svcPointer + BitVec.ofNat 8 n)).answering
      (.data ((List.range n).map fun k => (s.svcWindow[s.io.svcPointer.toNat + k]?).getD 0)) := by
  have hread := svcBytes_window (s := s.withSnapshot s.svcWindow) n (by simpa using hn)
  simp only [withSnapshot_svcPointer, withSnapshot_svcSnapshot] at hread
  have hpair : s.evSvcRead n = ((s.withSnapshot s.svcWindow).svcBytes n).2.answering
      (.data ((s.withSnapshot s.svcWindow).svcBytes n).1) := onSvc_runs _ hr
  rw [hpair, hread]

/-- A gap ends the packet that has begun (R53). -/
theorem evSvcGap_begun (hr : s.hiveRuns = true) (hp : s.io.part1 ≠ []) :
    s.evSvcGap = (s.onIo fun io => { io with part1 := [] }).enqueue (packetInput .c1 s.io.part1 true) := by
  unfold State.evSvcGap
  exact if_neg (by simp [hr, hp])

/-- Settles O13: the rows of the window where Hive runs, the read as the bytes of one snapshot. -/
theorem svcWindow : Obligations.SvcWindow := by
  unfold Obligations.SvcWindow
  intro s hr
  refine ⟨fun b => acts_of rfl rfl (onSvc_runs _ hr), fun b hp => acts_of rfl rfl ?_,
    fun b hp hd => ⟨fun h1 hq => acts_of rfl rfl ?_, fun hroom => acts_of rfl rfl ?_⟩,
    fun hp => ⟨fun hnil => acts_of rfl rfl ?_, fun r rest hrep => acts_of rfl rfl ?_⟩,
    fun n hn => acts_of rfl rfl ?_, fun h1 => acts_of rfl rfl ?_, fun h1 => acts_of rfl rfl (evSvcGap_begun hr h1)⟩
  · unfold State.evSvcWrite
    rw [if_neg hp, onSvc_runs _ hr]
    exact congrArg (fun p => (s.pointAt p).answering .ack) (nextPointer_of_ne hp)
  · exact evSvcByte_full b hr hp hd (begins_full (c := .c1) h1 hq)
  · rw [evSvcByte_room b hr hp hd (begins_room (c := .c1) hroom), putByte_eq (l := s.io.part1 ++ [b]) b rfl]
    by_cases hdone : packetDone (s.io.part1 ++ [b]) = true
    · simp only [hdone, if_true]
      rfl
    · simp only [hdone]
      rfl
  · rw [evSvcReply_runs hr hp, svcReplyByte_nil hnil]
  · rw [evSvcReply_runs hr hp, svcReplyByte_cons hrep]
    rfl
  · rw [evSvcRead_window n hr hn]
    generalize s.svcWindow = w
    rfl
  · exact if_pos (by simp [h1])

/-! The endpoints of the management function (R52, R55, R56, R178, R180). -/

section FunctionOpen
variable (ho : s.functionOpen = true)
include ho

theorem evInterruptIn_open : s.evInterruptIn = s.answering (if s.hub.haltInt = true then .stall else .data s.summary) := by
  unfold State.evInterruptIn
  rw [ho, if_neg (by decide)]
  cases s.hub.haltInt <;> rfl

theorem evBulkIn_halted (hh : s.hub.haltIn = true) : s.evBulkIn = s.answering .stall := by
  unfold State.evBulkIn
  rw [ho, if_neg (by decide), if_pos hh]

/-- Without a reply bulk IN is NAKed (R56). -/
theorem evBulkIn_nil (hh : s.hub.haltIn = false) (hrep : s.io.replies0 = []) : s.evBulkIn = s.answering .nak := by
  unfold State.evBulkIn
  rw [ho, if_neg (by decide), hh, if_neg Bool.false_ne_true, hrep]

/-- The next data packet of the oldest reply; a short one ends it (R56). -/
theorem evBulkIn_cons (hh : s.hub.haltIn = false) {r : Reply} {rest : List Reply} (hrep : s.io.replies0 = r :: rest)
    {chunk : List Byte} (hc : (r.bytes.drop s.io.sent0).take s.bulkSize = chunk) :
    s.evBulkIn = s.onIo fun io =>
      { io with answer := .data chunk
                replies0 := if chunk.length < s.bulkSize then rest else io.replies0
                sent0 := if chunk.length < s.bulkSize then 0 else io.sent0 + chunk.length } := by
  unfold State.evBulkIn
  rw [ho, if_neg (by decide), hh, if_neg Bool.false_ne_true, hrep]
  by_cases hs : chunk.length < s.bulkSize
  · simp only [hc, if_pos hs]
    rfl
  · simp only [hc, if_neg hs]
    rfl

/-- A PING asks whether a new packet finds a slot (R55, R178). -/
theorem evPing_open (hf : s.hub.fullSpeed = false) (hh : s.hub.haltOut = false) :
    s.evPing = s.answering (if s.io.part0 = [] ∧ 16 ≤ s.io.queued .c0 then .nak else .ack) := by
  unfold State.evPing
  rw [ho, hf, hh, if_neg (by decide), if_neg Bool.false_ne_true]
  simp [State.room]

theorem evPing_halted (hf : s.hub.fullSpeed = false) (hh : s.hub.haltOut = true) : s.evPing = s.answering .stall := by
  unfold State.evPing
  rw [ho, hf, if_neg (by decide), if_pos hh]

variable {bytes : List Byte} (hl : bytes.length ≤ s.bulkSize)
include hl

theorem evBulkOut_halted (hh : s.hub.haltOut = true) : s.evBulkOut bytes = s.answering .stall := by
  unfold State.evBulkOut
  rw [if_neg (by simp [ho, hl]), if_pos hh]

/-- The first data packet of a transfer finds no slot (R55). -/
theorem evBulkOut_refused (hh : s.hub.haltOut = false) (hb : (s.io.part0.isEmpty && !s.room .c0) = true) :
    s.evBulkOut bytes = s.answering .nak := by
  unfold State.evBulkOut
  rw [if_neg (by simp [ho, hl]), hh, if_neg Bool.false_ne_true]
  exact if_pos hb

/-- A whole data packet joins the transfer (R52). -/
theorem evBulkOut_whole (hh : s.hub.haltOut = false) (hb : (s.io.part0.isEmpty && !s.room .c0) = false)
    (hw : bytes.length = s.bulkSize) :
    s.evBulkOut bytes = (s.onIo fun io => { io with part0 := s.io.part0 ++ bytes }).answering .ack := by
  unfold State.evBulkOut
  rw [if_neg (by simp [ho, hl]), hh, if_neg Bool.false_ne_true]
  refine (if_neg (by rw [hb]; exact Bool.false_ne_true)).trans (if_pos hw)

/-- A short data packet ends the transfer, and its command is an input (R52, R59); NYET says that no slot is left (R178). -/
theorem evBulkOut_short (hh : s.hub.haltOut = false) (hb : (s.io.part0.isEmpty && !s.room .c0) = false)
    (hw : bytes.length < s.bulkSize) :
    let t := (s.onIo fun io => { io with part0 := [] }).enqueue (packetInput .c0 (s.io.part0 ++ bytes) false)
    s.evBulkOut bytes = t.answering (if 16 ≤ t.io.queued .c0 ∧ s.hub.fullSpeed = false then .nyet else .ack) := by
  intro t
  have hans : s.evBulkOut bytes = t.answering (if (!t.room .c0 && !t.hub.fullSpeed) = true then .nyet else .ack) := by
    unfold State.evBulkOut
    rw [if_neg (by simp [ho, hl]), hh, if_neg Bool.false_ne_true]
    exact (if_neg (by rw [hb]; exact Bool.false_ne_true)).trans (if_neg hw.ne)
  have hhub : t.hub = s.hub := rfl
  rw [hans, hhub]
  simp [State.room]

end FunctionOpen

theorem bulkSize_le (s : State) : s.bulkSize ≤ 512 := by
  unfold State.bulkSize
  split <;> omega

/-- Settles O11: each endpoint's answer with the function configured. -/
theorem managementEndpoints : Obligations.ManagementEndpoints := by
  unfold Obligations.ManagementEndpoints
  intro s ho
  refine ⟨acts_of rfl rfl (evInterruptIn_open ho), fun hh => acts_of rfl rfl (evBulkIn_halted ho hh),
    fun hh => ⟨fun hrep => acts_of rfl rfl (evBulkIn_nil ho hh hrep),
      fun r rest hrep => acts_of rfl rfl (evBulkIn_cons ho hh hrep rfl)⟩,
    fun hf hh => acts_of rfl rfl (evPing_open ho hf hh), fun hh hf => acts_of rfl rfl (evPing_halted ho hf hh),
    fun bytes hl => ?_⟩
  have hwf : (Instr.c0BulkOutPacket bytes).wf = true := decide_eq_true (hl.trans (bulkSize_le s))
  refine ⟨fun hh => acts_of hwf rfl (evBulkOut_halted ho hl hh),
    fun hh => ⟨fun hp hq => acts_of hwf rfl (evBulkOut_refused ho hl hh (begins_full (c := .c0) hp hq)), fun hroom => ?_⟩⟩
  have hb : (s.io.part0.isEmpty && !s.room .c0) = false := begins_room (c := .c0) hroom
  exact ⟨fun hw => acts_of hwf rfl (evBulkOut_whole ho hl hh hb hw),
    fun hw => acts_of hwf rfl (evBulkOut_short ho hl hh hb hw)⟩

end Sys2Proof.Machine
end

section
/-! PROOF. What a command finds when its effect begins, and the port commands. -/

namespace Sys2Proof.Machine

variable {s v : State}

/-! From the packet to the effect: `CMD_APPLIED`, the reply and the order change the ledger, the transports and the links. -/

/-- What a command's effect begins with: the tag in force is the command's, and the ledger, the transports, the links of the Spine
and uptime within the millisecond are all that has changed. -/
structure State.Commanded (s : State) (tag : BitVec 16) (v : State) : Prop where
  tag : v.led.tag = tag
  rest : v = { s with
    free := v.free, ember := { s.ember with sub := v.ember.sub }, led := v.led, io := v.io
    spine := { s.spine with links := v.spine.links } }

/-- An order touches the links alone (R12). -/
theorem ordered_links (s : State) (c : Command) :
    ∃ links, s.ordered c = s.onSpine fun sp => { sp with links := links } := by
  unfold State.ordered State.sendFrame
  split
  · dsimp only
    split
    · exact ⟨s.spine.links, rfl⟩
    · exact ⟨_, rfl⟩
  · exact ⟨s.spine.links, rfl⟩

/-- Every command that is not refused begins its effect in such a state. -/
theorem commanded (s : State) (h : CmdHeader) (c : Command) (st : Status) :
    s.Commanded c.tag (((s.taken c).answered h.client c st).ordered c) := by
  obtain ⟨links, hl⟩ := ordered_links ((s.taken c).answered h.client c st) c
  rw [hl]
  unfold State.answered State.applied
  constructor
  · exact append_led_tag (s.taken c) _ _ _ _ _ _
  · dsimp only
    rw [append_told]
    rfl

/-- The operation that a command begins is the same before its order and after it. -/
theorem operation_ordered (s : State) (cl : Client) (c c' : Command) :
    (s.ordered c').operation cl c = s.operation cl c := by
  obtain ⟨links, hl⟩ := ordered_links s c'
  rw [hl]
  rfl

/-- A command row that is not refused carries its effect out from a state that differs in the ledger, the transports and the links
alone. -/
theorem carries_effect {i : Instr} {R : State → State → Prop} {h : CmdHeader} {op : Opcode} {p : List Byte}
    (hc : commandOf i = some (h, op, p)) (ro : op.readOnly = false)
    (r : ∀ v, s.Commanded h.tag v →
      R v (v.effect (extClient h.client) (headerCommand h op p) (v.operation (extClient h.client) (headerCommand h op p)))) :
    s.Carries i R :=
  carries_of hc (exec_command hc) ro fun _ _ => by
    intro v
    rw [← operation_ordered v _ _ (headerCommand h op p)]
    exact r _ (commanded s h (headerCommand h op p) _)

namespace State.Commanded
variable {tag : BitVec 16} (hv : s.Commanded tag v)
include hv

theorem ops : v.ops = s.ops := by rw [hv.rest]
theorem port (n : Nat) : v.port n = s.port n := by rw [hv.rest]; rfl

end State.Commanded

/-- An operation begun (R66). -/
def State.begun (s : State) (o : PendingOp) : State := { s with ops := s.ops ++ [o] }

/-! The port commands (R66, R170 to R172). -/

theorem headerCommand_p0 (h : CmdHeader) (op : Opcode) {n : Nat} (hn : n < 256) : (headerCommand h op (b8 n)).p 0 = n := by
  show (BitVec.ofNat 8 n).toNat = n
  rw [BitVec.toNat_ofNat, Nat.mod_eq_of_lt hn]

theorem isPort_lt {p : Nat} (h : isPort p = true) : p < 256 := by
  simp [isPort] at h
  omega

section PortEffects
variable (v) (cl : Client) (h : CmdHeader) (o : PendingOp) {p : Nat} (hp : isPort p = true)
include hp

theorem effect_portEnable : v.effect cl (headerCommand h .portEnable (b8 p)) o = v.doPortEnable p :=
  congrArg v.doPortEnable (headerCommand_p0 h _ (isPort_lt hp))

theorem effect_portDisable : v.effect cl (headerCommand h .portDisable (b8 p)) o = v.doPortDisable p :=
  congrArg v.doPortDisable (headerCommand_p0 h _ (isPort_lt hp))

theorem effect_portReset :
    v.effect cl (headerCommand h .portReset (b8 p)) o = (v.begun o).doPortReset p :=
  congrArg (State.doPortReset _) (headerCommand_p0 h _ (isPort_lt hp))

theorem effect_portSuspend :
    v.effect cl (headerCommand h .portSuspend (b8 p)) o = (v.begun o).doPortSuspend p :=
  congrArg (State.doPortSuspend _) (headerCommand_p0 h _ (isPort_lt hp))

theorem effect_portResume :
    v.effect cl (headerCommand h .portResume (b8 p)) o = (v.begun o).doPortResume p :=
  congrArg (State.doPortResume _) (headerCommand_p0 h _ (isPort_lt hp))

end PortEffects

/-- Setting an element of a bank to what it is changes nothing. -/
theorem bankSet_bankGet {α : Type} {n : Nat} (b : Vector α n) (i : Nat) (d : α) : bankSet b i (bankGet b i d) = b := by
  unfold bankSet bankGet
  apply Vector.ext
  intro j hj
  rw [Vector.getElem_setIfInBounds]
  split
  · subst i
    rw [Vector.getElem?_eq_getElem hj]
    rfl
  · rfl

/-- Changing a port to what it is changes nothing. -/
theorem onPort_self (s : State) (n : Nat) (f : Port → Port) (h : f (s.port n) = s.port n) : s.onPort n f = s := by
  unfold State.onPort
  rw [h]
  cases n with
  | zero => rfl
  | succ n => exact congrArg (fun b => { s with ports := b }) (bankSet_bankGet s.ports n Port.init)

/-- Where no exchange waits there is none to drop. -/
theorem dropExchange_none (p : Nat) (h : (s.port p).pd.wait = .none) : s.dropExchange p = s := by
  unfold State.dropExchange
  rw [State.onPd_eq]
  apply onPort_self
  have hwait : (if (s.port p).pd.wait.ofExit = true then (s.port p).pd.wait else .none) = (s.port p).pd.wait := by
    rw [h]
    rfl
  rw [hwait]

/-- Changes of one port's bus, one after the other, are one change. -/
theorem onBus_onBus (s : State) (n : Nat) (f g : Bus → Bus) : (s.onBus n f).onBus n g = s.onBus n fun b => g (f b) :=
  s.onPort_onPort n _ _

/-- An entry about a port's bus is one note. -/
theorem holdEntry_tells (s : State) (p : Nat) (k : Kind) (cause code : Nat) (e : Bool) :
    Tells s (s.holdEntry p k cause code e) [noteOf s.led.tag e 0 blkUsb2 k p (b8 cause ++ b16 code)] :=
  append_tells _ _ _ _ _ _ _

/-- PORT_ENABLE of a port that is not held does nothing (R170). -/
theorem doPortEnable_free (p : Nat) (h : (s.port p).bus.held = .none) : s.doPortEnable p = s := by
  unfold State.doPortEnable
  rw [h]

/-- PORT_ENABLE frees a port that is held (R170). -/
theorem doPortEnable_held (p : Nat) (h : (s.port p).bus.held ≠ .none) :
    Tells (s.onBus p fun b => { b with held := .none }) (s.doPortEnable p)
      [noteOf s.led.tag false 0 blkUsb2 .portEnabled p (b8 0 ++ b16 0)] := by
  unfold State.doPortEnable
  split
  · exact absurd ‹_› h
  · simpa [State.onBus_eq] using holdEntry_tells (s.onBus p fun b => { b with held := .none }) p .portEnabled 0 0 false

/-- PORT_DISABLE of a port that nothing holds disconnects its device (R170). -/
theorem doPortDisable_free (p : Nat) (hw : (s.port p).pd.wait = .none) (hn : s.NoOp (.port p))
    (h : (s.port p).bus.held = .none) :
    Tells (s.onBus p fun b => { b.dropped with held := .command, reset := .none }) (s.doPortDisable p)
      [noteOf s.led.tag false 0 blkUsb2 .portDisabled p (b8 0 ++ b16 0)] := by
  have ht := (holdEntry_tells (s.onBus p fun b => { b.dropped with held := .command }) p .portDisabled 0 0 false).onBus p
    fun b => { b with reset := .none }
  rw [onBus_onBus] at ht
  unfold State.doPortDisable
  rw [dropExchange_none p hw, endOps_none _ _ _ hn]
  simpa [State.onBus_eq, h] using ht

/-- PORT_DISABLE of a port that its own misbehaviour holds adds the command's hold (R170, R184). -/
theorem doPortDisable_violation (p : Nat) (hw : (s.port p).pd.wait = .none) (hn : s.NoOp (.port p))
    (h : (s.port p).bus.held = .violation) :
    s.doPortDisable p = s.onBus p fun b => { b with held := .both, reset := .none } := by
  unfold State.doPortDisable
  rw [dropExchange_none p hw, endOps_none _ _ _ hn]
  simp only [h, onBus_onBus]

/-- PORT_DISABLE of a port that a command holds ends a reset of it at most (R170). -/
theorem doPortDisable_held (p : Nat) (hw : (s.port p).pd.wait = .none) (hn : s.NoOp (.port p))
    (h : (s.port p).bus.held = .command ∨ (s.port p).bus.held = .both) :
    s.doPortDisable p = s.onBus p fun b => { b with reset := .none } := by
  unfold State.doPortDisable
  rw [dropExchange_none p hw, endOps_none _ _ _ hn]
  rcases h with h | h <;> simp only [h]

theorem doPortSuspend_suspended (p : Nat) (h : (s.port p).bus.suspended = true) :
    s.doPortSuspend p = s.onBus p fun b => { b with suspending := true } := by
  unfold State.doPortSuspend
  simp only [h, if_true]

/-- PORT_SUSPEND suspends a port that is not suspended (R172). -/
theorem doPortSuspend_awake (p : Nat) (h : (s.port p).bus.suspended = false) :
    Tells (s.onBus p fun b => { b with
        suspended := true, busSuspended := false, l1 := false, currentRecorded := false, wakeRecorded := false
        suspending := true }) (s.doPortSuspend p) [noteOf s.led.tag false 0 blkUsb2 .portSuspend p (b8 2)] := by
  have ht := (append_tells (s.onBus p fun b => { b with
      suspended := true, busSuspended := false, l1 := false, currentRecorded := false, wakeRecorded := false })
    false 0 blkUsb2 .portSuspend p (b8 2)).onBus p fun b => { b with suspending := true }
  rw [onBus_onBus] at ht
  unfold State.doPortSuspend
  simpa [State.onBus_eq, State.suspendPort, h] using ht

theorem doPortResume_awake (p : Nat) (h : (s.port p).bus.suspended = false) :
    s.doPortResume p = s.onBus p fun b => { b with resuming := true } := by
  unfold State.doPortResume
  simp only [h, Bool.false_eq_true, if_false]

/-- PORT_RESUME resumes a port that is suspended (R172). -/
theorem doPortResume_suspended (p : Nat) (h : (s.port p).bus.suspended = true) :
    Tells (s.onBus p fun b => { b with suspended := false, busSuspended := false, resuming := true, limited := false })
      (s.doPortResume p) [noteOf s.led.tag false 0 blkUsb2 .portResume p (b8 2)] := by
  have ht := (append_tells (s.onBus p fun b => { b with
      suspended := false, busSuspended := false, resuming := true, limited := false })
    false 0 blkUsb2 .portResume p (b8 2)).onBus p fun b => { b with resuming := true }
  rw [onBus_onBus] at ht
  unfold State.doPortResume
  simpa [State.onBus_eq, State.resumePort, h] using ht

/-- Settles O50: each command's effect on the port as it stands, since what comes before leaves the ports alone. -/
theorem portCommands : Obligations.PortCommands := by
  unfold Obligations.PortCommands
  intro s h p hp
  refine ⟨carries_effect rfl rfl fun v hv => ?_, fun hn hw => carries_effect rfl rfl fun v hv => ?_,
    carries_effect rfl rfl fun v hv => ?_, carries_effect rfl rfl fun v hv => ?_, carries_effect rfl rfl fun v hv => ?_⟩
  · rw [effect_portEnable _ _ _ _ hp, ← hv.port, ← hv.tag]
    exact ⟨doPortEnable_free p, doPortEnable_held p⟩
  · have hn' := NoOp_of hn hv.ops
    rw [← hv.port] at hw
    rw [effect_portDisable _ _ _ _ hp, ← hv.port, ← hv.tag]
    exact ⟨doPortDisable_free p hw hn', doPortDisable_violation p hw hn', doPortDisable_held p hw hn'⟩
  · exact effect_portReset _ _ _ _ hp
  · rw [effect_portSuspend _ _ _ _ hp, ← hv.port, ← hv.tag]
    exact ⟨doPortSuspend_suspended (s := v.begun _) p, doPortSuspend_awake (s := v.begun _) p⟩
  · rw [effect_portResume _ _ _ _ hp, ← hv.port, ← hv.tag]
    exact ⟨doPortResume_awake (s := v.begun _) p, doPortResume_suspended (s := v.begun _) p⟩

end Sys2Proof.Machine
end

section
/-! PROOF. Trigger lists, configuration write sessions and CFG_APPLY. -/

namespace Sys2Proof.Machine

variable {s t v : State}

/-! What is read of the configuration slots rests on the flash. -/

section Flash
variable (hf : t.flash = s.flash)
include hf

theorem slotOk_of_flash (n : Nat) : t.slotOk n = s.slotOk n := by
  unfold State.slotOk State.trailerOk State.imageOf State.flashBytes
  rw [hf]

theorem slotsValid_of_flash : t.slotsValid = s.slotsValid := by
  unfold State.slotsValid
  rw [slotOk_of_flash hf, slotOk_of_flash hf]

theorem selectSlot_of_flash : t.selectSlot = s.selectSlot := by
  unfold State.selectSlot State.flashBytes
  rw [slotOk_of_flash hf, slotOk_of_flash hf, hf]

theorem loadOf_of_flash (n : Nat) : t.loadOf n = s.loadOf n := by
  unfold State.loadOf State.imageOf State.flashBytes
  rw [hf]

theorem commitCode_of_flash (hc : t.cfg = s.cfg) (x : Session) : t.commitCode x = s.commitCode x := by
  unfold State.commitCode State.flashBytes
  rw [hf, hc]

/-- The slots judged anew, from an earlier state of the same flash. What they are judged to be is named, so that it need not be
computed. -/
theorem selected_of_flash :
    t.selected = { t with cfg := { t.cfg with slotValid := s.slotsValid, tie := s.selectSlot.2 } } := by
  unfold State.selected
  rw [slotsValid_of_flash hf, selectSlot_of_flash hf]
  generalize s.slotsValid = slots
  generalize s.selectSlot.2 = tie
  rfl

end Flash

namespace State.Commanded
variable {tag : BitVec 16} (hv : s.Commanded tag v)
include hv

theorem flash : v.flash = s.flash := by rw [hv.rest]
theorem cfg : v.cfg = s.cfg := by rw [hv.rest]
theorem trig : v.trig = s.trig := by rw [hv.rest]
theorem participants (l : List Nat) : v.participants l = s.participants l := by rw [hv.rest]; rfl

end State.Commanded

/-! Operands as bytes. -/

theorem leAt_b32 {n : Nat} (h : n < 2 ^ 32) : leAt (b32 n) 0 4 = n := leNat_leBytes 4 n h

/-! Trigger lists (R73). -/

/-- A trigger list put into the bank. -/
def State.setList (s : State) (n : Nat) (t : TrigList) : State :=
  { s with trig := { s.trig with lists := bankSet s.trig.lists n (some t) } }

theorem doTrigLoad_parsed {p : List Byte} {n : Nat} {l : TrigList} (h : parseList p 968 = some (n, l)) :
    s.doTrigLoad p = s.setList n { l with armed := false, fromLoad := true } := by
  unfold State.doTrigLoad
  rw [h]
  rfl

theorem doArm_loaded {n : Nat} {l : TrigList} (on : Bool) (h : bankGet s.trig.lists n none = some l) :
    s.doArm n on = s.setList n { l with armed := on } := by
  unfold State.doArm
  rw [h]
  rfl

theorem effect_trigArm (s : State) (cl : Client) (h : CmdHeader) (o : PendingOp) {n : Nat} (hn : n ≤ 15) :
    s.effect cl (headerCommand h .trigArm (b8 n)) o = s.doArm n true :=
  congrArg (s.doArm · true) (headerCommand_p0 h _ (by omega))

theorem effect_trigDisarm (s : State) (cl : Client) (h : CmdHeader) (o : PendingOp) {n : Nat} (hn : n ≤ 15) :
    s.effect cl (headerCommand h .trigDisarm (b8 n)) o = s.doArm n false :=
  congrArg (s.doArm · false) (headerCommand_p0 h _ (by omega))

/-! Write sessions (R132 to R134). -/

/-- CFG_WRITE_BEGIN opens a session on the slot that is not applied, and erases the sector of its trailer (R132). -/
theorem effect_cfgWriteBegin (cl : Client) (h : CmdHeader) (o : PendingOp) {len : Nat} (hl : len < 2 ^ 32)
    (hn : s.NoOp .session) :
    let slot := if s.cfg.applied.slot = 0 then 1 else 0
    s.effect cl (headerCommand h .cfgWriteBegin (b32 len)) o =
      { s.begun o with flash := eraseRange s.flash (slotBase slot + 0xF000) 0x1000
                       cfg := { s.cfg with session := some ⟨cl, slot, len, 0, true, false⟩ } } := by
  intro slot
  have hlen : (headerCommand h .cfgWriteBegin (b32 len)).field 0 4 = len := leAt_b32 hl
  have he : s.effect cl (headerCommand h .cfgWriteBegin (b32 len)) o =
      ((s.endOps .session .stale false).begun o).doBegin cl len := congrArg (State.doBegin _ cl) hlen
  rw [he, endOps_none _ _ _ hn]
  rfl

/-- CFG_WRITE_DATA programs its bytes after those written before (R132). -/
theorem effect_cfgWriteData (cl : Client) (h : CmdHeader) (o : PendingOp) (off : Nat) (l : List Byte) {x : Session}
    (hx : s.cfg.session = some x) :
    s.effect cl (headerCommand h .cfgWriteData (b32 off ++ l)) o =
      { s with flash := writeBytes flashDefault s.flash (slotBase x.slot + x.written) l
               cfg := { s.cfg with session := some { x with written := x.written + l.length } } } := by
  have he : s.effect cl (headerCommand h .cfgWriteData (b32 off ++ l)) o = s.doData l := rfl
  rw [he]
  unfold State.doData
  rw [hx]
  rfl

/-- A subject's one operation ends with its `CMD_COMPLETE`, or silently where it was QUIET (R66). -/
theorem endOps_ends {u : State} {subj : Subject} {o : PendingOp} {st : Status} {e : Bool} (hu : u = s.endOps subj st e)
    (h : s.ops.filter (fun o => o.subject == subj) = [o]) :
    let t := { s with ops := s.ops.filter fun o => !(o.subject == subj) }
    (o.quiet = false → Tells t u
      [noteOf o.tag e 0 blkCmd .cmdComplete o.number (b16 o.op.code ++ b8 o.client.code ++ b8 st.code ++ leBytes 6 o.count)]) ∧
    (o.quiet = true → u = t) := by
  intro t
  rw [hu, endOps_one subj o st e h]
  exact ⟨completion_tells t o st e, fun hq => if_pos hq⟩

/-- An operation begun on a subject that has none is its one operation. -/
theorem begun_filter {subj : Subject} {o : PendingOp} (hn : s.NoOp subj) (ho : o.subject = subj) :
    (s.begun o).ops.filter (fun o => o.subject == subj) = [o] := by
  unfold State.begun
  rw [List.filter_append, show s.ops.filter (fun o => o.subject == subj) = [] from hn]
  simp [ho]

/-- A commit: the slots are judged anew, and a failed check ends the command at once (R133). -/
theorem doCommitImage_open {x : Session} (h : s.cfg.session = some x) {code : Nat} (hcode : s.commitCode x = code) :
    let t := { s with cfg := { s.cfg with slotValid := s.slotsValid, tie := s.selectSlot.2, commitResult := code
                                          session := some { x with committing := code == 0 } } }
    s.doCommitImage = if code = 0 then t else t.endOps .session .fault false := by
  subst hcode
  unfold State.doCommitImage
  rw [h]
  rfl

/-- CFG_WRITE_COMMIT, with the slots and the image judged in an earlier state of the same flash and configuration. -/
theorem effect_cfgWriteCommit (cl : Client) (h : CmdHeader) (o : PendingOp) {x : Session} (hx : s.cfg.session = some x)
    (hf : v.flash = s.flash) (hc : v.cfg = s.cfg) :
    let code := s.commitCode x
    let t := { v.begun o with cfg := { v.cfg with
      slotValid := s.slotsValid, tie := s.selectSlot.2, commitResult := code
      session := some { x with committing := code == 0 } } }
    v.effect cl (headerCommand h .cfgWriteCommit []) o = if code = 0 then t else t.endOps .session .fault false := by
  rw [← slotsValid_of_flash hf, ← selectSlot_of_flash hf]
  exact doCommitImage_open (s := v.begun o) (hc ▸ hx) (commitCode_of_flash hf hc x)

/-- The end of an erase. -/
theorem evEraseDone_erasing {x : Session} (h : s.cfg.session = some x) (he : x.erasing = true) :
    let t := { s with flash := eraseRange s.flash (slotBase x.slot) 0xF000
                      cfg := { s.cfg with session := some { x with erasing := false } } }
    s.evEraseDone = t.endOps .session .done true := by
  unfold State.evEraseDone
  rw [h]
  exact if_pos he

/-- The slots judged anew and the session closed. -/
theorem selected_closed (t : State) :
    (t.selected.onCfg fun c => { c with session := none }) =
      { t with cfg := { t.cfg with session := none, slotValid := t.slotsValid, tie := t.selectSlot.2 } } := by
  rw [selected_of_flash (s := t) rfl]
  rfl

/-- A trailer that reads back closes the session (R132). -/
theorem evTrailerReadback_ok {x : Session} (h : s.cfg.session = some x) (hc : x.committing = true) :
    let trailer := trailerBytes (s.flashBytes (slotBase x.slot) x.len)
    let t := { s with flash := writeBytes flashDefault s.flash (slotBase x.slot + 0xFFF0) trailer }
    let w := { t with cfg := { s.cfg with session := none, slotValid := t.slotsValid, tie := t.selectSlot.2 } }
    s.evTrailerReadback true = w.endOps .session .done true := by
  intro trailer t w
  have ht : s.programFlash (slotBase x.slot + 0xFFF0) trailer = t := rfl
  have hw : (t.selected.onCfg fun c => { c with session := none }) = w := selected_closed t
  rw [← hw, ← ht]
  unfold State.evTrailerReadback
  rw [h]
  exact if_neg (by simp [hc])

/-- A trailer that reads back differently leaves the session open (R132). -/
theorem evTrailerReadback_bad {x : Session} (h : s.cfg.session = some x) (hc : x.committing = true) :
    let t := { s with cfg := { s.cfg with session := some { x with committing := false }, commitResult := 10 } }
    s.evTrailerReadback false = t.endOps .session .fault true := by
  unfold State.evTrailerReadback
  rw [h]
  exact if_neg (by simp [hc])

/-- The session's time-out without a command pending (R134). -/
theorem evSessionEnd_idle {x : Session} (h : s.cfg.session = some x) (hn : s.hasOp .session = false) :
    Tells { s with cfg := { s.cfg with session := none } } s.evSessionEnd
      [noteOf s.led.tag true 0 blkCfg .cfgSessionEnd 0 (b8 0 ++ b8 x.owner.code ++ b8 x.slot ++ b16 x.written)] := by
  unfold State.evSessionEnd
  rw [h]
  dsimp only
  rw [hn, if_neg Bool.false_ne_true]
  exact append_tells _ _ _ _ _ _ _

/-! CFG_APPLY (R129, R135). -/

/-- CFG_APPLY selects a slot and opens the round that applies it, where a die is there to ask. -/
theorem doApply_round (hp : s.participants [] ≠ []) :
    ∃ links, s.doApply = s.selected.onSpine fun sp =>
      { sp.newEpoch with links := links
                         round := some (s.selected.firstRound 1 (.apply (s.loadOf s.selectSlot.1)) [] none) } := by
  have hb : s.selected.firstBallots [] ≠ [] := mt List.map_eq_nil_iff.mp hp
  have he : s.doApply = s.selected.startRound 1 (.apply (s.loadOf s.selectSlot.1)) [] := by
    unfold State.doApply
    dsimp only
    rw [loadOf_of_flash (s := s) (t := s.selected) rfl, selectSlot_of_flash (s := s) (t := s.selected) rfl]
  rw [he, startRound_asks (by decide) _ hb]
  exact openRound_spine _ (by decide) _ _ _

theorem firstBallots_dies (s : State) (returning : List Nat) :
    (s.firstBallots returning).map (·.die) = s.participants returning := by
  unfold State.firstBallots
  rw [List.map_map]
  exact List.map_id _

/-- CFG_APPLY, with the slots judged in an earlier state. -/
theorem effect_cfgApply {tag : BitVec 16} (cl : Client) (h : CmdHeader) (o : PendingOp) (hv : s.Commanded tag v)
    (hp : s.participants [] ≠ []) :
    let u := v.effect cl (headerCommand h .cfgApply []) o
    ∃ r : Round, r.trigger = 1 ∧ r.ballots.map (·.die) = s.participants [] ∧
      r.change = .apply (s.loadOf s.selectSlot.1) ∧ u.spine.epoch = v.spine.epoch + 1 ∧ u.spine.round = some r ∧
      u = { v.begun o with spine := u.spine, cfg := { v.cfg with slotValid := s.slotsValid, tie := s.selectSlot.2 } } := by
  intro u
  have hpart : (v.begun o).participants [] = s.participants [] := hv.participants []
  obtain ⟨links, hu⟩ := doApply_round (s := v.begun o) (hpart ▸ hp)
  have hf : (v.begun o).flash = s.flash := hv.flash
  rw [loadOf_of_flash hf, selectSlot_of_flash hf, selected_of_flash hf] at hu
  have hu' : u = _ := hu
  rw [hu']
  exact ⟨State.firstRound _ 1 (.apply (s.loadOf s.selectSlot.1)) [] none, rfl, (firstBallots_dies _ _).trans hpart,
    rfl, rfl, rfl, rfl⟩

/-- Settles O49: each command's effect, and each end of an erase, a read-back or a session, on the state as it stands; what comes
before an effect leaves the flash, the configuration, the lists and the operations alone. -/
theorem triggerAndConfigurationCommands : Obligations.TriggerAndConfigurationCommands := by
  unfold Obligations.TriggerAndConfigurationCommands
  intro s h op sets ends pending
  refine ⟨fun p n t hp => carries_effect rfl rfl fun v _ => doTrigLoad_parsed hp,
    fun n t hn ht => ⟨carries_effect rfl rfl fun v hv => ?_, carries_effect rfl rfl fun v hv => ?_⟩,
    fun len hlen hno => carries_effect rfl rfl fun v hv => ?_, fun x hx => ?_,
    fun hpart => carries_effect rfl rfl fun v hv => effect_cfgApply _ _ _ hv hpart⟩
  · rw [effect_trigArm _ _ _ _ hn]
    exact doArm_loaded true (hv.trig ▸ ht)
  · rw [effect_trigDisarm _ _ _ _ hn]
    exact doArm_loaded false (hv.trig ▸ ht)
  · rw [effect_cfgWriteBegin _ _ _ hlen (NoOp_of hno hv.ops), ← hv.cfg]
    rfl
  · refine ⟨fun l off _ => carries_effect rfl rfl fun v hv => effect_cfgWriteData _ _ _ off l (hv.cfg ▸ hx),
      fun hno => carries_effect rfl rfl fun v hv => ?_, fun o ho hpend he => ?_, fun o ho hpend hc => ⟨?_, ?_⟩,
      fun ho hno => ?_⟩
    · have hu := effect_cfgWriteCommit (extClient h.client) h (op v .cfgWriteCommit []) hx hv.flash hv.cfg
      exact ⟨fun h0 => hu.trans (if_pos h0),
        fun h0 => endOps_ends (hu.trans (if_neg h0)) (begun_filter (NoOp_of hno hv.ops) rfl)⟩
    · exact does_of ho rfl (heard_none rfl) rfl (endOps_ends (evEraseDone_erasing hx he) hpend)
    · exact does_of ho rfl (heard_none rfl) rfl (endOps_ends (evTrailerReadback_ok hx hc) hpend)
    · exact does_of ho rfl (heard_none rfl) rfl (endOps_ends (evTrailerReadback_bad hx hc) hpend)
    · refine does_of ho rfl (heard_none rfl) rfl ?_
      rw [← ho.rested.1]
      exact evSessionEnd_idle hx hno

end Sys2Proof.Machine
end

section
/-! PROOF. A fuse bank is programmed once: a closed property of the guarded part, kept by every step. -/

namespace Sys2Proof.Machine

/-- A closed property that does not look at the queue is kept by every step, which takes one command from it. -/
theorem step_keeps {P : State → Prop} {s t : State} (c : Closed P) (hq : ∀ l, P s → P { s with pending := l })
    (h : P s) (hs : step s = .next t) : P t := by
  cases hp : s.pending with
  | nil =>
    rw [step_nil hp] at hs
    cases hs
    exact h
  | cons i l =>
    have e : step s = exec i { s with pending := l } := by rw [← step_cons, ← hp]
    obtain ⟨u, hu, hP⟩ := exec_keeps c i (hq l h)
    rw [e, hu] at hs
    cases hs
    exact hP

/-- What production put in, the customer bank and its marker. -/
def Guard.fuses (g : Guard) : BitVec 64 × BitVec 16 × List Byte × Nat := (g.serial, g.romVersion, g.fuseBank, g.fuseBurn)

/-- What production put in stands, and so does a bank that is programmed or spent (R80, R81). -/
structure State.FusesOf (s t : State) : Prop where
  serial : t.ident.serial = s.ident.serial
  romVersion : t.ident.romVersion = s.ident.romVersion
  bank : s.ember.fuseBurn ≠ 0 → t.ember.fuseBank = s.ember.fuseBank ∧ t.ember.fuseBurn = s.ember.fuseBurn

/-- A change that leaves the fuses alone. -/
theorem State.FusesOf.same {s t u : State} (h : s.FusesOf t) (e : u.guard.fuses = t.guard.fuses) : s.FusesOf u := by
  simp only [Guard.fuses, Prod.mk.injEq] at e
  obtain ⟨hserial, hrom, hbank, hburn⟩ := e
  exact ⟨hserial.trans h.serial, hrom.trans h.romVersion, fun hb => ⟨hbank.trans (h.bank hb).1, hburn.trans (h.bank hb).2⟩⟩

/-- A blank bank may become anything, for it was blank before. -/
theorem State.FusesOf.ofBlank {s t u : State} (h : s.FusesOf t) (hblank : t.ember.fuseBurn = 0) (hident : u.ident = t.ident) :
    s.FusesOf u where
  serial := (congrArg Ident.serial hident).trans h.serial
  romVersion := (congrArg Ident.romVersion hident).trans h.romVersion
  bank hb := absurd ((h.bank hb).2.symm.trans hblank) hb

/-- Only FUSE_BURN touches the fuses, and only a blank bank. -/
theorem fusesOf_closed (s : State) : Closed s.FusesOf where
  same _ _ g _ _ h := h.same (congrArg Guard.fuses g)
  mode _ _ g _ _ h := h.same (congrArg Guard.fuses g)
  append _ _ _ _ _ _ _ h := h.same (by simp [Guard.fuses])
  led _ _ _ _ _ _ h := h.same rfl
  newLed _ _ _ _ _ _ h := h.same rfl
  erase _ _ _ h := h.same rfl
  program _ _ _ h := h.same rfl
  retain _ _ _ h := h.same rfl
  set _ _ _ _ h := h.same rfl
  setAll _ _ _ g _ _ h := h.same ((congrArg Guard.fuses g).trans rfl)
  fresh _ _ _ g _ _ h := h.same ((congrArg Guard.fuses g).trans rfl)
  burn _ _ hblank h := h.ofBlank hblank rfl
  spend _ hblank h := h.ofBlank hblank rfl
  reset _ _ g _ _ _ h := h.same ((congrArg Guard.fuses g).trans rfl)

/-- Settles O59: that a bank is as it was unless it was blank is closed under what a step does. -/
theorem fusesAreProgrammedOnce : Obligations.FusesAreProgrammedOnce := by
  unfold Obligations.FusesAreProgrammedOnce
  intro s t hs
  have h := step_keeps (fusesOf_closed s) (fun _ h => h.same rfl)
    ⟨rfl, rfl, fun _ => ⟨rfl, rfl⟩⟩ hs
  exact ⟨h.serial, h.romVersion, h.bank⟩

end Sys2Proof.Machine
end

section
/-! PROOF. L1 resets, the way to OFF, and the JTAG instructions. -/

namespace Sys2Proof.Machine

variable {s : State}

/-! What an L1 reset leaves (R82, R84, R85, R88). -/

/-- An L1 reset outside BANKED. -/
theorem beginL1_live (bit detail : Nat) (hl : s.phase.live = true) (hm : s.mode ≠ .banked) :
    s.beginL1 bit detail = s.cleared (s.setCause bit detail).ember.l1 (s.setCause bit detail).ember.l1.startPhase .boot := by
  unfold State.beginL1
  rw [hl, if_neg (by decide), if_neg hm]

/-! The JTAG instructions (R76, R286, R311). -/

theorem leaveExtest_of_ne (hj : s.io.jtag ≠ 3) : s.leaveExtest = s := if_neg hj

/-- An instruction taken by the register while no EXTEST is carried out. -/
def State.jtagTake (s : State) (instr : Nat) (a : Answer) : State := s.onIo fun io => { io with jtag := instr, answer := a }

theorem jtagTo_take (hu : s.jtagUp = true) (hj : s.io.jtag ≠ 3) (instr : Nat) (a : Answer) :
    s.jtagTo instr a = s.jtagTake instr a := by
  unfold State.jtagTo
  rw [if_pos hu, leaveExtest_of_ne hj]
  rfl

/-- With every channel off SB_OFF turns none off. -/
theorem sbOffAll_none (st : Status) (byEvent : Bool) (h : ∀ ch, (s.chan ch).state.active = false) : s.sbOffAll st byEvent = s := by
  refine State.each_id _ _ _ fun ch _ => ?_
  rw [h ch, if_pos (by decide)]

section Extest
variable (hu : s.jtagUp = true) (hj : s.io.jtag ≠ 3)
include hu hj

/-- Where EXTEST may not be carried out the register falls back to BYPASS (R286). -/
theorem evExtest_refused (ha : s.scanAllowed = false) : s.evExtest = s.jtagTake 1 (.capture 4 5) := by
  unfold State.evExtest
  rw [if_neg (by simp [hu, hj]), ha, if_pos (by decide), jtagTo_take hu hj]

/-- While Hive has no clock EXTEST is carried out with nothing turned off (R76). -/
theorem evExtest_noClock (hm : s.mode ≠ .service) (hp : s.phase = .noClock) : s.evExtest = s.jtagTake 3 (.capture 4 1) := by
  have ha : s.scanAllowed = true := by simp [State.scanAllowed, hp]
  unfold State.evExtest
  rw [if_neg (by simp [hu, hj]), ha, if_neg (by decide)]
  exact if_neg (by simpa using hm)

/-- In SERVICE EXTEST asserts SB_OFF; with every channel off that is all (R286). -/
theorem evExtest_service (hm : s.mode = .service) (hw : s.NoneWaits) (hc : ∀ ch, (s.chan ch).state.active = false) :
    s.evExtest = (s.jtagTake 3 (.capture 4 1)).onSpine fun sp => { sp with extestOff := true } := by
  have ha : s.scanAllowed = true := by simp [State.scanAllowed, hm]
  have hoff : s.evExtest =
      (((s.jtagTake 3 (.capture 4 1)).onSpine fun sp => { sp with extestOff := true }).sbOffAll .fault true).redistribute := by
    unfold State.evExtest
    rw [if_neg (by simp [hu, hj]), ha, if_neg (by decide)]
    exact if_pos (by simp [hm])
  rw [hoff, sbOffAll_none _ _ (by simpa [State.jtagTake] using hc), redistribute_none (by simpa [State.jtagTake, State.NoneWaits] using hw)]

end Extest

/-- Leaving EXTEST is an L1 reset with source TEST and detail 0xFF (R311). -/
theorem evExtestExit_resets (hu : s.jtagUp = true) (hj : s.io.jtag = 3) :
    s.evExtestExit = (s.beginL1 10 0xFF).onIo fun io => { io with jtag := 1 } := by
  unfold State.evExtestExit State.leaveExtest
  rw [hu, hj, if_pos (by decide), if_pos rfl]

theorem evExtestExit_idle (hj : s.io.jtag ≠ 3) : s.evExtestExit = s := if_neg (by simp [hj])

/-- Settles O15: each instruction without an EXTEST to leave, and the L1 reset that leaves one. -/
theorem jtagInstructions : Obligations.JtagInstructions := by
  unfold Obligations.JtagInstructions
  intro s hu
  refine ⟨fun hj => ?_, fun hj hl hm => acts_of rfl rfl ?_⟩
  · intro take
    have hintest : s.evIntest = if s.scanAllowed = true then take 4 4 1 else take 1 4 5 := by
      unfold State.evIntest
      rw [jtagTo_take hu hj, jtagTo_take hu hj]
      rfl
    exact ⟨acts_of rfl rfl (jtagTo_take hu hj 0 _), acts_of rfl rfl (jtagTo_take hu hj 1 _),
      acts_of rfl rfl (jtagTo_take hu hj 2 _), acts_of rfl rfl hintest, fun ha => acts_of rfl rfl (evExtest_refused hu hj ha),
      fun hm hp => acts_of rfl rfl (evExtest_noClock hu hj hm hp),
      fun hm hw hc => acts_of rfl rfl (evExtest_service hu hj hm hw hc), acts_of rfl rfl (evExtestExit_idle hj)⟩
  · rw [evExtestExit_resets hu hj, beginL1_live 10 0xFF hl hm]
    exact ⟨rfl, rfl, rfl, rfl, rfl, rfl, rfl, rfl, rfl⟩

/-! Where O16 fails (R46, R248, log 35). -/

/-- A BANKED device with its flash blank and nothing in its ledger, as its tail ends. HOLD_ENTER before `BOOT` takes the restricted
plan, which has no tail; the statement's hypotheses do not ask for an entry. -/
def bankedEmpty : State :=
  { State.reset with phase := .heldUp, mode := .banked, store := { Store.init with writing := 2 } }

/-- A device whose ledger is empty writes no tail page (log 35). -/
theorem evTailDone_empty (hw : s.store.writing = 2) (hn : s.led.next = 0) : s.evTailDone = s.enterOff := by
  unfold State.evTailDone
  rw [if_pos hw, if_pos hn]

/-- A device in OFF, with whatever flash, has nothing left to do. -/
theorem enterOff_still (s : State) (flash : List Host.Cell) : ({ s.enterOff with flash := flash } : State).Still where
  fires := rfl
  work := rfl
  depth := rfl
  round := rfl
  waits := rfl

/-- Entering OFF settles with the flash as it is. -/
theorem enterOff_settled_flash (s : State) (flash : List Host.Cell) :
    ({ s.enterOff with flash := flash } : State).settled.flash = flash := by
  rw [settled_still (enterOff_still s flash), State.noted_flash, State.tagged_flash]

/-- A written tail page is not blank: its header reads back. -/
theorem writeTail_flash_ne_nil (page : Nat) (hf : s.flash = []) : (s.writeTail page).flash ≠ [] := by
  intro hnil
  have hhead := flashBytes_tailHead (s := s) page (by rw [hf]; rfl)
  have hmagic := tailHead_magic s
  rw [← hhead, State.flashBytes, hnil] at hmagic
  revert hmagic
  simp [readBytes, readByte, sparseGet, flashDefault, List.range_succ]

/-- Refutes O16: a device in BANKED whose ledger is empty goes to OFF at FLASH_TAIL_DONE without a tail page (log 35), where the
statement has every device write one. -/
theorem not_wholeDeviceResets : ¬ Obligations.WholeDeviceResets := by
  unfold Obligations.WholeDeviceResets
  intro h
  obtain ⟨-, -, hbanked, -⟩ := h bankedEmpty (by decide)
  obtain ⟨-, -, htail⟩ := hbanked rfl rfl
  obtain ⟨u, hu, hoff, hflash⟩ := htail rfl
  have hu' : bankedEmpty.enterOff.settled = u.settled := by
    rw [← evTailDone_empty (s := bankedEmpty) rfl rfl]
    exact Host.Outcome.next.inj hu
  have hstate : u = { bankedEmpty.enterOff with flash := u.flash } :=
    congrArg (fun t : State => { t with flash := u.flash }) hoff
  have hsettled : ([] : List Host.Cell) = u.flash := by
    have e := congrArg State.flash hu'
    rw [hstate, enterOff_settled_flash] at e
    exact (enterOff_settled_flash bankedEmpty []).symm.trans e
  exact writeTail_flash_ne_nil bankedEmpty.sparePage rfl (hflash ▸ hsettled).symm

end Sys2Proof.Machine
end

section
/-! PROOF. The firmware downloads over a USB link and over SVC. -/

namespace Sys2Proof.Machine

variable {s : State}

/-! DFU requests (R78). -/

section Dfu
variable (hb : s.ember.bootSel = 2) (hp : s.phase = .downloading ∨ s.phase = .verifying) (hl : s.hub.link ≠ 0)
include hb hp hl

theorem dfuOpen_of : s.dfuOpen = true := by
  rcases hp with hp | hp <;> simp [State.dfuOpen, State.dfuUp, State.linked, hb, hp, hl]

theorem evDfuGetstate_open : s.evDfuGetstate = s.answering (.data (b8 (dfuCode s.io.dfuState))) := if_pos (dfuOpen_of hb hp hl)

theorem evDfuGetstatus_open :
    s.evDfuGetstatus = s.answering (.data (b8 s.io.dfuStatus ++ [0, 0, 0] ++ b8 (dfuCode s.io.dfuState) ++ [0])) :=
  if_pos (dfuOpen_of hb hp hl)

/-- An upload is answered with STALL. -/
theorem evDfuUpload_stalls (h3 : s.io.dfuState ≠ 3) :
    s.evDfuUpload = s.onIo fun io => { io with answer := .stall, dfuState := 3, dfuStatus := 0x0F } := by
  have hstall : s.evDfuUpload = s.dfuStall := if_pos (dfuOpen_of hb hp hl)
  rw [hstall]
  simp only [State.dfuStall, State.onIo, if_neg h3, dfuErrStalled]

theorem evDfuClrstatus_error (h3 : s.io.dfuState = 3) :
    s.evDfuClrstatus = s.onIo fun io => { io with dfuState := 0, dfuStatus := 0, dfuImage := [], answer := .ack } := by
  unfold State.evDfuClrstatus
  rw [dfuOpen_of hb hp hl, if_neg (by decide), if_pos h3]

theorem evDfuAbort_idle (h2 : s.io.dfuState < 2) :
    s.evDfuAbort = s.onIo fun io => { io with dfuState := 0, dfuImage := [], answer := .ack } := by
  unfold State.evDfuAbort
  rw [dfuOpen_of hb hp hl, if_neg (by decide), if_pos h2]

end Dfu

section DfuDownload
variable (hb : s.ember.bootSel = 2) (hp : s.phase = .downloading) (hl : s.hub.link ≠ 0)
include hb hp hl

/-- A block joins the image, or begins it. -/
theorem evDfuDnload_block {block : List Byte} (hne : block ≠ []) (h2 : s.io.dfuState < 2) :
    s.evDfuDnload block = s.onIo fun io =>
      { io with dfuState := 1, answer := .ack, dfuImage := if io.dfuState = 0 then block else io.dfuImage ++ block } := by
  have himage : (if s.io.dfuState = 0 then [] else s.io.dfuImage) ++ block =
      if s.io.dfuState = 0 then block else s.io.dfuImage ++ block := by
    split <;> rfl
  unfold State.evDfuDnload
  rw [dfuOpen_of hb (.inl hp) hl, if_neg (by decide), if_neg (by simp [hp, h2]), if_neg (by simpa using hne)]
  simp only [State.onIo, himage]

/-- An empty block ends the image. -/
theorem evDfuDnload_end (h1 : s.io.dfuState = 1) :
    s.evDfuDnload [] = { s.onIo fun io => { io with dfuState := 2, answer := .ack } with phase := .verifying } := by
  unfold State.evDfuDnload
  rw [dfuOpen_of hb (.inl hp) hl, if_neg (by decide), if_neg (by simp [hp, h1]), if_pos (by rfl), if_pos h1]

end DfuDownload

/-- The codes of DFU 1.1 (log 42). -/
theorem dfuCode_eq (n : Nat) : dfuCode n = match n with | 0 => 2 | 1 => 5 | 2 => 7 | _ => 10 := by
  unfold dfuCode
  match n with
  | 0 => rfl
  | 1 => rfl
  | 2 => rfl
  | n + 3 => rfl

/-! SVC (R78). -/

section Svc
variable {bytes l : List Byte} (hb : s.ember.bootSel = 3) (hp : s.phase = .downloading) (hne : bytes ≠ [])
  (hl : (if s.io.svcDownload = 1 then s.io.svcImage else []) ++ bytes = l)
include hb hp hne hl

/-- Bytes below the length that the first four give join the download. -/
theorem evSvcImage_part (h : l.length < 4 ∨ l.length < 4 + leAt l 0 4) :
    s.evSvcImage bytes = s.onIo fun io => { io with svcImage := l, svcDownload := 1 } := by
  have hfull : (decide (4 ≤ l.length) && decide (4 + leAt l 0 4 ≤ l.length)) = false := by
    rcases h with h | h
    · rw [decide_eq_false (by omega), Bool.false_and]
    · rw [decide_eq_false (p := 4 + leAt l 0 4 ≤ l.length) (by omega), Bool.and_false]
  unfold State.evSvcImage
  rw [if_pos ⟨hp, hb, hne⟩]
  simp only [hl, hfull, Bool.false_eq_true, if_false]

/-- With the length that the first four bytes give the image is whole, and is authenticated. -/
theorem evSvcImage_whole (h4 : 4 ≤ l.length) (h : 4 + leAt l 0 4 ≤ l.length) :
    s.evSvcImage bytes =
      { s.onIo fun io => { io with svcImage := l.take (4 + leAt l 0 4), svcDownload := 2 } with phase := .verifying } := by
  have hfull : (decide (4 ≤ l.length) && decide (4 + leAt l 0 4 ≤ l.length)) = true := by
    rw [decide_eq_true h4, decide_eq_true h, Bool.and_self]
  unfold State.evSvcImage
  rw [if_pos ⟨hp, hb, hne⟩]
  simp only [hl, hfull, if_true]

end Svc

/-! Authentication (R78, log 105). -/

/-- The image that has been downloaded. -/
def State.downloaded (s : State) : List Byte := if s.ember.bootSel = 2 then s.io.dfuImage else s.io.svcImage.drop 4

/-- Changes of ports one after the other touch the ports alone. -/
theorem each_onBus_ports (l : List Nat) (f : Bus → Bus) (s : State) :
    ∃ ports, (s.each l fun p s => s.onBus p f) = { s with ports := ports } := by
  induction l generalizing s with
  | nil => exact ⟨s.ports, rfl⟩
  | cons p l ih =>
    have hone : ∃ ports, s.onBus p f = { s with ports := ports } := by
      unfold State.onBus State.onPort State.setPort
      split
      · exact ⟨s.ports, rfl⟩
      · exact ⟨_, rfl⟩
    obtain ⟨ports, h⟩ := hone
    obtain ⟨ports', h'⟩ := ih (s.onBus p f)
    exact ⟨ports', by rw [State.each, List.foldl_cons]; exact h'.trans (by rw [h])⟩

/-- The end of the upstream link touches the hub and the ports alone. -/
theorem linkDrop_hub (s : State) : ∃ ports, s.linkDrop = { s with hub := s.hub.disconnect, ports := ports } :=
  each_onBus_ports allPorts Bus.dropped (s.onHub Hub.disconnect)

theorem evDownloadAuth_ok (hp : s.phase = .verifying) (version : BitVec 16) :
    ∃ ports, s.evDownloadAuth true version =
      { s with
        phase := .training, ident := { s.ident with flashFirmware := true, version := version }
        hub := s.hub.disconnect, ports := ports
        flash := writeBytes flashDefault (eraseRange s.flash 0 0x100000) 0 (s.downloaded.take 0x100000)
        io := { s.io with svcDownload := 3, dfuState := 0, dfuImage := [], svcImage := [] } } := by
  obtain ⟨ports, h⟩ := linkDrop_hub s
  refine ⟨ports, ?_⟩
  unfold State.evDownloadAuth
  rw [if_pos hp]
  simp only [h, if_true]
  rfl

theorem evDownloadAuth_bad (hp : s.phase = .verifying) (version : BitVec 16) :
    s.evDownloadAuth false version =
      { s.onIo fun io =>
          { io with svcDownload := 4, dfuState := if s.ember.bootSel = 2 then 3 else 0
                    dfuStatus := if s.ember.bootSel = 2 then dfuErrVerify else 0, dfuImage := [], svcImage := [] } with
        phase := .downloading } := by
  unfold State.evDownloadAuth
  rw [if_pos hp]
  exact if_neg (by decide)

/-- The firmware area after an image is written there: the image, cut to the area, and blank bytes behind it. -/
theorem readByte_firmware {m : List Host.Cell} (w : Memory.wf flashDefault m) (image : List Byte) (a : Nat) :
    readByte flashDefault (writeBytes flashDefault (eraseRange m 0 0x100000) 0 (image.take 0x100000)) a =
      if a < 0x100000 then (image[a]?).getD 0xFF else readByte flashDefault m a := by
  rw [readByte_writeBytes _ _ _ _ _ (eraseRange_wf flashDefault m 0 0x100000 w), readByte_eraseRange]
  by_cases ha : a < 0x100000
  · rw [if_pos ha]
    by_cases hi : a < image.length
    · rw [if_pos (by simp; omega)]
      simp [ha, hi]
    · rw [if_neg (by simp; omega), if_pos (by omega)]
      simp [hi, flashDefault]
  · rw [if_neg ha, if_neg (by simp; omega), if_neg (by omega)]

/-- Settles O18: what each request does in its state, and the firmware area after an image is accepted. -/
theorem firmwareDownloads : Obligations.FirmwareDownloads := by
  unfold Obligations.FirmwareDownloads
  intro s
  refine ⟨fun hb hp hl => ⟨fun block hne h2 => acts_of rfl rfl (evDfuDnload_block hb hp hl hne h2),
      fun h1 => acts_of rfl rfl (evDfuDnload_end hb hp hl h1),
      fun h3 => acts_of rfl rfl (evDfuClrstatus_error hb (.inl hp) hl h3),
      fun h2 => acts_of rfl rfl (evDfuAbort_idle hb (.inl hp) hl h2)⟩,
    fun hb hp hl => ?_, fun hb hp bytes hne => ?_, fun hp w version => ⟨acts_of rfl rfl ?_, acts_of rfl rfl ?_⟩⟩
  · intro code
    have hcode : dfuCode s.io.dfuState = code := dfuCode_eq _
    exact ⟨acts_of rfl rfl (hcode ▸ evDfuGetstate_open hb hp hl), acts_of rfl rfl (hcode ▸ evDfuGetstatus_open hb hp hl),
      fun h3 => acts_of rfl rfl (evDfuUpload_stalls hb hp hl h3)⟩
  · exact ⟨fun h => acts_of rfl rfl (evSvcImage_part hb hp hne rfl h),
      fun h4 h => acts_of rfl rfl (evSvcImage_whole hb hp hne rfl h4 h)⟩
  · obtain ⟨ports, h⟩ := evDownloadAuth_ok hp version
    rw [h]
    exact ⟨rfl, rfl, rfl, readByte_firmware w _⟩
  · rw [evDownloadAuth_bad hp version]
    exact ⟨rfl, rfl, rfl, rfl, rfl, fun hb => ⟨if_pos hb, if_pos hb⟩⟩

end Sys2Proof.Machine
end

section
/-! PROOF. A Comb link that loses a lane too many. -/

namespace Sys2Proof.Machine

variable {s t u : State}

/-! Lanes. -/

/-- One lane fewer is in service. -/
theorem Link.count_remove (l : Link) {n : Nat} (hn : n < 4) (x : Lane) (hl : (l.lane n).inService = true)
    (hx : x.inService = false) : ({ l with lanes := bankSet l.lanes n x } : Link).count = l.count - 1 := by
  have hlane : l.lanes.toList[n]'(by simpa using hn) = l.lane n := by
    simp [Link.lane, bankGet, hn]
  have hset := List.countP_set (p := fun k : Lane => k.inService) (l := l.lanes.toList) (i := n) (a := x) (by simpa using hn)
  rw [hlane, hl, hx] at hset
  simpa [Link.count, bankSet, List.countP_eq_length_filter] using hset

/-- A report of one lane in service names that lane alone. -/
theorem liveLanes_one {link lane : Nat} (hl : lane < 4) (h : ((s.link link).lane lane).inService = true) :
    s.liveLanes link (1#4 <<< lane) = [lane] := by
  have hmask : ∀ lane < 4, ∀ n < 4, (1#4 <<< lane).getLsbD n = decide (n = lane) := by decide
  have hlanes : ∀ lane < 4, (List.range 4).filter (fun n => decide (n = lane)) = [lane] := by decide
  unfold State.liveLanes
  rw [← hlanes lane hl]
  refine List.filter_congr fun n hn => ?_
  rw [hmask lane hl n (List.mem_range.mp hn)]
  by_cases hnl : n = lane
  · subst hnl; simp [h]
  · simp [hnl]

/-- A link with a lane taken out of service and its frames sent again (R104, R105). -/
def State.laneOut (s : State) (link lane frames : Nat) : State :=
  ((s.onSpine fun sp => { sp with replayed := saturate 0xFFFFFFFF (sp.replayed + frames) }).onLink link fun l =>
    { l with toHive := l.toHive.replay, fromHive := l.fromHive.replay }).onLane link lane fun l => l.removed s.ember.ms

theorem dropLanes_one (link lane frames : Nat) :
    s.dropLanes link [lane] frames =
      let t := (s.laneOut link lane frames).laneDropEntry link lane frames
      if (t.link link).count < t.nat .spineMinLanes 0 then t.loseLink link else t := by
  unfold State.dropLanes
  simp only [State.each, List.foldl_cons, List.foldl_nil, if_true]
  rfl

theorem laneOut_link (link lane frames : Nat) (hk : link < 3) :
    (s.laneOut link lane frames).link link =
      { s.link link with
        toHive := (s.link link).toHive.replay, fromHive := (s.link link).fromHive.replay
        lanes := bankSet (s.link link).lanes lane (((s.link link).lane lane).removed s.ember.ms) } := by
  unfold State.laneOut State.onLane
  rw [State.onLink_link, if_pos ⟨rfl, hk⟩, State.onLink_link, if_pos ⟨rfl, hk⟩]
  rfl

theorem laneOut_link_ne (link lane frames k : Nat) (hk : k ≠ link) : (s.laneOut link lane frames).link k = s.link k := by
  unfold State.laneOut State.onLane
  rw [State.onLink_link, if_neg (by tauto), State.onLink_link, if_neg (by tauto)]
  rfl

theorem laneOut_count {link lane : Nat} (frames : Nat) (hk : link < 3) (hl : lane < 4)
    (h : ((s.link link).lane lane).inService = true) :
    ((s.laneOut link lane frames).link link).count = (s.link link).count - 1 := by
  rw [laneOut_link link lane frames hk]
  exact Link.count_remove (s.link link) hl _ h rfl

section LaneOut
variable (s) (link lane frames : Nat)

@[simp] theorem laneOut_mode : (s.laneOut link lane frames).mode = s.mode := by simp [State.laneOut, State.onLane]
@[simp] theorem laneOut_ember : (s.laneOut link lane frames).ember = s.ember := by simp [State.laneOut, State.onLane]
@[simp] theorem laneOut_led : (s.laneOut link lane frames).led = s.led := by simp [State.laneOut, State.onLane]
@[simp] theorem laneOut_ops : (s.laneOut link lane frames).ops = s.ops := by simp [State.laneOut, State.onLane]
@[simp] theorem laneOut_ports : (s.laneOut link lane frames).ports = s.ports := by simp [State.laneOut, State.onLane]
@[simp] theorem laneOut_port (p : Nat) : (s.laneOut link lane frames).port p = s.port p := by
  simp [State.laneOut, State.onLane]
@[simp] theorem laneOut_chans : (s.laneOut link lane frames).chans = s.chans := by simp [State.laneOut, State.onLane]
@[simp] theorem laneOut_pw : (s.laneOut link lane frames).pw = s.pw := by simp [State.laneOut, State.onLane]
@[simp] theorem laneOut_hub : (s.laneOut link lane frames).hub = s.hub := by simp [State.laneOut, State.onLane]
@[simp] theorem laneOut_flash : (s.laneOut link lane frames).flash = s.flash := by simp [State.laneOut, State.onLane]
@[simp] theorem laneOut_die (d : Nat) : (s.laneOut link lane frames).die d = s.die d := by simp [State.laneOut, State.onLane, State.die]
@[simp] theorem laneOut_forgeOff : (s.laneOut link lane frames).spine.forgeOff = s.spine.forgeOff := by
  simp [State.laneOut, State.onLane, State.onLink]
@[simp] theorem laneOut_nat (p : Param) (i : Nat) : (s.laneOut link lane frames).nat p i = s.nat p i := by
  simp [State.laneOut, State.onLane]

end LaneOut

/-! What the loss of a Comb die finds nothing to turn off. -/

theorem isPort_of_mem_portsOf {die p : Nat} (h : p ∈ portsOf die) : isPort p = true := by
  unfold portsOf at h
  split at h
  · rw [mem_upTo] at h; simp [isPort]; omega
  · split at h
    · rw [mem_upTo] at h; simp [isPort]; omega
    · cases h

/-- No port is attached and no operation of a port or a test is pending: the loss of a Comb die turns nothing off. -/
structure State.PortsRest (s : State) : Prop where
  detached : ∀ p, isPort p = true → (s.port p).attached = false
  noOp : ∀ p, isPort p = true → s.NoOp (.port p)
  noTest : s.NoOp .test

theorem State.PortsRest.of (h : s.PortsRest) (hport : ∀ p, t.port p = s.port p) (hops : t.ops = s.ops) : t.PortsRest where
  detached p hp := (congrArg Port.attached (hport p)).trans (h.detached p hp)
  noOp p hp := NoOp_of (h.noOp p hp) hops
  noTest := NoOp_of h.noTest hops

theorem testReset_none (die : Nat) (inMask : Nat → Bool) (byEvent : Bool) (h : s.NoOp .test) :
    s.testReset die inMask byEvent = s := by
  have hop : s.hasOp .test = false := by
    have hall := List.filter_eq_nil_iff.mp h
    simpa [State.hasOp, State.opOf] using hall
  unfold State.testReset
  exact if_neg (by simp [hop])

theorem dieDown_rest {die : Nat} (cause : Nat) (byEvent : Bool) (hd : die ≠ 3) (h : s.PortsRest) :
    s.dieDown die cause byEvent = s := by
  have hdetach : s.detachAll die cause byEvent = s := by
    refine State.each_id _ _ _ fun p hp => ?_
    exact if_neg (by simp [h.detached p (isPort_of_mem_portsOf hp)])
  have hops : s.endPortOps die byEvent = s :=
    State.each_id _ _ _ fun p hp => endOps_none _ _ _ (h.noOp p (isPort_of_mem_portsOf hp))
  unfold State.dieDown
  rw [if_neg hd, hdetach, hops, testReset_none _ _ _ h.noTest]

/-! The mode (R25). -/

/-- The mode of Table 01-7 rests on Forge, its link, the conditions of CRANK and SERVICE, and upstream VBUS. -/
theorem chosenMode_of (hdie : t.die 3 = s.die 3) (hlink : t.link 2 = s.link 2) (hoff : t.spine.forgeOff = s.spine.forgeOff)
    (hpw : t.pw = s.pw) (hhub : t.hub = s.hub) : t.chosenMode = s.chosenMode := by
  unfold State.chosenMode State.safeCondition
  rw [hdie, hlink, hoff, hpw, hhub]

/-- The mode whose condition holds stays. -/
theorem reselect_chosen (reason : Nat) (external : Bool) (h : s.chosenMode = s.mode) : s.reselect reason external = s := by
  unfold State.reselect
  split
  iterate 5 rfl
  · rename_i hm
    have hsafe : s.safeCondition = false := by
      cases hc : s.safeCondition with
      | false => rfl
      | true => simp [State.chosenMode, hc, hm] at h
    exact if_neg (by simp [hsafe])
  · exact if_pos h

/-! The L2 reset of a die (R97). -/

/-- A die as its L2 reset begins. -/
def Die.underL2 (d : Die) : Die :=
  { d with resetting := true, blocks := 0, awaited := 0, skewCount := 0, settleCount := 0,
           lostEvents := d.lostEvents + d.heldEvents.length, heldEvents := [], hasEpoch := false, set := none, mirror := [],
           ticks := [] }

theorem Tells.setCause {l : List Note} (h : Tells s u l) (bit detail : Nat) : Tells (s.setCause bit detail) (u.setCause bit detail) l := by
  have e : u.setCause bit detail = (s.told u).setCause bit detail := by rw [← h.2]
  have k : (s.told u).setCause bit detail = (s.setCause bit detail).told ((s.told u).setCause bit detail) := rfl
  rw [← e] at k
  exact ⟨h.1, k⟩

/-- The L2 reset of a die is its cause, what it leaves of the die, and `RESET_BLOCK`. -/
theorem beginL2_tells {l : List Note} (h : Tells s u l) (die bit detail : Nat) (external : Bool) :
    Tells ((s.setCause bit detail).onDie die Die.underL2) (u.beginL2 die bit detail external)
      (l ++ [noteOf s.led.tag external 3 blkReset .resetBlock die (b8 2 ++ b32 (dieBlocks die) ++ b8 bit)]) :=
  ((h.setCause bit detail).append external 3 blkReset .resetBlock die _).onDie die Die.underL2

/-! The loss of a Comb link (R109, Table 05-6). -/

/-- A link as its loss leaves it: nothing waits and nothing is unacknowledged. -/
def Link.cut (l : Link) : Link := { l with lost := true, toHive := l.toHive.dropped, fromHive := l.fromHive.dropped }

/-- A die that no frame reaches. -/
def Die.gone (d : Die) : Die := { d with absent := true }

/-- A state with a link lost and its far die absent, the fault of it latched. -/
def State.linkGone (s : State) (link : Nat) : State :=
  ((s.onLink link Link.cut).faulted 0x0601 link (byteOf (b8 link) 0)).onDie (dieOfLink link) Die.gone

section LinkGone
variable (s) (link : Nat)

theorem linkGone_die (k : Nat) :
    (s.linkGone link).die k = if k = dieOfLink link ∧ dieOfLink link < 4 then (s.die k).gone else s.die k :=
  State.onDie_die ((s.onLink link Link.cut).faulted 0x0601 link (byteOf (b8 link) 0)) (dieOfLink link) k Die.gone

theorem linkGone_link (k : Nat) :
    (s.linkGone link).link k = if k = link ∧ link < 3 then (s.link k).cut else s.link k :=
  State.onLink_link s link k Link.cut

theorem linkGone_chosenMode (hk : link ≤ 1) : (s.linkGone link).chosenMode = s.chosenMode :=
  chosenMode_of (by rw [linkGone_die, if_neg (by unfold dieOfLink; omega)]) (by rw [linkGone_link, if_neg (by omega)]) rfl rfl rfl

end LinkGone

/-- Entries change nothing that the choice of the mode rests on. -/
theorem Tells.chosenMode {l : List Note} (h : Tells s u l) : u.chosenMode = s.chosenMode :=
  chosenMode_of (h.die 3) (h.link 2) (congrArg Spine.forgeOff h.spine) h.pw h.hub

/-- A state with a link lost and its far die inside its L2 reset (R97, R109). -/
def State.linkReset (s : State) (link : Nat) : State :=
  ((s.linkGone link).setCause 7 link).onDie (dieOfLink link) Die.underL2

section LinkReset
variable (s) (link : Nat)

theorem linkReset_link (hk : link < 3) : (s.linkReset link).link link = (s.link link).cut :=
  (linkGone_link s link link).trans (if_pos ⟨rfl, hk⟩)

theorem linkReset_die (hk : link < 3) :
    (s.linkReset link).die (dieOfLink link) = (s.die (dieOfLink link)).gone.underL2 := by
  have hd : dieOfLink link < 4 := Nat.succ_lt_succ hk
  unfold State.linkReset
  rw [State.onDie_die, if_pos ⟨rfl, hd⟩]
  exact congrArg Die.underL2 ((linkGone_die s link _).trans (if_pos ⟨rfl, hd⟩))

@[simp] theorem linkReset_cause : (s.linkReset link).ember.cause = s.ember.cause ||| 0x80 := by
  simp [State.linkReset, State.setCause, State.linkGone, State.faulted]
@[simp] theorem linkReset_openFaults :
    (s.linkReset link).led.openFaults = s.led.openFaults ++ [⟨0x0601, link, byteOf (b8 link) 0⟩] := by
  simp [State.linkReset, State.setCause, State.linkGone, State.faulted]
@[simp] theorem linkReset_mode : (s.linkReset link).mode = s.mode := by
  simp [State.linkReset, State.setCause, State.linkGone, State.faulted]
@[simp] theorem linkReset_ports : (s.linkReset link).ports = s.ports := by
  simp [State.linkReset, State.setCause, State.linkGone, State.faulted]
@[simp] theorem linkReset_chans : (s.linkReset link).chans = s.chans := by
  simp [State.linkReset, State.setCause, State.linkGone, State.faulted]
@[simp] theorem linkReset_ops : (s.linkReset link).ops = s.ops := by
  simp [State.linkReset, State.setCause, State.linkGone, State.faulted]
@[simp] theorem linkReset_flash : (s.linkReset link).flash = s.flash := by
  simp [State.linkReset, State.setCause, State.linkGone, State.faulted]

end LinkReset

/-- The loss of a Comb link where nothing rests on its ports: the latched fault, and the L2 reset of the die. -/
theorem loseLink_tells {link : Nat} {l : List Note} (h : Tells s u l) (hk : link ≤ 1) (hf : s.faultOpen 0x0601 link = false)
    (hw : s.NoneWaits) (hm : s.chosenMode = s.mode) (hr : s.PortsRest) :
    Tells (s.linkReset link) (u.loseLink link)
      (l ++ [noteOf s.led.tag false 0 blkSpine .fault link (b16 0x0601 ++ b8 1 ++ b8 link),
        noteOf s.led.tag true 3 blkReset .resetBlock (dieOfLink link) (b8 2 ++ b32 (dieBlocks (dieOfLink link)) ++ b8 7)]) := by
  have hopen : (u.onLink link Link.cut).faultOpen 0x0601 link = false := by
    rw [h.2]
    exact hf
  have hlatch := latch_tells (u.onLink link Link.cut) false 0 blkSpine 0x0601 link (b8 link) hopen
  have hgone := (((h.onLink link Link.cut).faulted 0x0601 link (byteOf (b8 link) 0)).trans hlatch).onDie (dieOfLink link) Die.gone
  rw [State.onLink_led, h.tag] at hgone
  change Tells (s.linkGone link) _ _ at hgone
  set w := ((u.onLink link Link.cut).latch false 0 blkSpine 0x0601 link (b8 link)).onDie (dieOfLink link) Die.gone
  have hrest : w.PortsRest := hr.of hgone.port hgone.ops
  have hmode : w.chosenMode = w.mode := by
    rw [hgone.chosenMode, hgone.mode, linkGone_chosenMode s link hk]
    exact hm
  have hlose : u.loseLink link = w.beginL2 (dieOfLink link) 7 link true := by
    show ((w.dieDown (dieOfLink link) 2 true).redistribute.reselect 1 false).beginL2 (dieOfLink link) 7 link true = _
    rw [dieDown_rest 2 true (by unfold dieOfLink; omega) hrest, redistribute_tells (T := s.linkGone link) hgone hw,
      reselect_chosen 1 false hmode]
  rw [hlose, List.append_cons]
  exact beginL2_tells hgone (dieOfLink link) 7 link true

theorem laneOut_chosenMode (link lane frames : Nat) (hk : link ≤ 1) : (s.laneOut link lane frames).chosenMode = s.chosenMode :=
  chosenMode_of (by simp) (laneOut_link_ne link lane frames 2 (by omega)) (by simp) (by simp) (by simp)

/-- A lane dropped from a link that is left with too few is its entry and the loss of the link (R104, R109). -/
theorem evLaneDrop_loses {link lane : Nat} (frames : Word) (hk : link < 3) (hl : lane < 4) (hlost : (s.link link).lost = false)
    (hin : ((s.link link).lane lane).inService = true) (hfew : (s.link link).count - 1 < s.nat .spineMinLanes 0) :
    s.evLaneDrop link (1#4 <<< lane) frames =
      ((s.laneOut link lane frames.toNat).laneDropEntry link lane frames.toNat).loseLink link := by
  unfold State.evLaneDrop
  rw [hlost, if_neg (by decide), liveLanes_one hl hin, dropLanes_one]
  refine if_pos ?_
  rw [State.laneDropEntry, append_link, append_nat, laneOut_count frames.toNat hk hl hin]
  exact hfew

/-- Settles O23: the lane's entry, and then the loss of the link where nothing rests on the die's ports. -/
theorem linkLoss : Obligations.LinkLoss := by
  unfold Obligations.LinkLoss
  intro s link lane frames ho hk hl hlost hin hfew hf hw hm hports htest
  have hk3 : link < 3 := by omega
  have htag : s.led.tag = 0xFFFF := ho.rested.1
  have hentry := append_tells_tag (s.laneOut link lane frames.toNat) 0xFFFF (by simpa using htag) true 0 blkSpine .laneDrop link
    (b8 lane ++ b8 ((s.laneOut link lane frames.toNat).link link).count ++ b32 frames.toNat)
  have hrest : s.PortsRest := ⟨fun p hp => (hports p hp).1, fun p hp => (hports p hp).2, htest⟩
  have hmode : (s.laneOut link lane frames.toNat).chosenMode = (s.laneOut link lane frames.toNat).mode := by
    rw [laneOut_chosenMode link lane _ hk, laneOut_mode, hm]
  have hloss := loseLink_tells hentry hk (by simpa [State.faultOpen] using hf) (by simpa [State.NoneWaits] using hw) hmode
    (hrest.of (laneOut_port s link lane _) (laneOut_ops s link lane _))
  have hlink := (linkReset_link (s.laneOut link lane frames.toNat) link hk3).trans
    (congrArg Link.cut (laneOut_link link lane frames.toNat hk3))
  have hdie := linkReset_die (s.laneOut link lane frames.toNat) link hk3
  refine does_of ho (decide_eq_true (by omega)) (heard_none rfl) rfl ⟨(s.laneOut link lane frames.toNat).linkReset link, ?_, ?_⟩
  · show Tells _ (s.evLaneDrop link (1#4 <<< lane) frames) _
    rw [evLaneDrop_loses frames hk3 hl hlost hin hfew, State.laneDropEntry]
    rw [laneOut_led, htag] at hloss
    rw [laneOut_count frames.toNat hk3 hl hin] at hloss ⊢
    exact hloss
  · rw [dieOfLink] at hdie
    rw [hlink, hdie]
    exact ⟨rfl, rfl, rfl, rfl, rfl, rfl, rfl, rfl, by simp, by simp, by simp, by simp, by simp, by simp, by simp⟩

end Sys2Proof.Machine
end

section
/-! PROOF. The Transaction Translators. -/

namespace Sys2Proof.Machine

variable {s u : State}

/-! A port's Transaction Translator. -/

/-- A Transaction Translator set reads back; every other one is as it was. -/
theorem State.onTt_tt (n k : Nat) (f : Tt → Tt) :
    (s.onTt n f).tt k = if k = n ∧ isPort n = true then f (s.tt k) else s.tt k := by
  cases n with
  | zero => simp [State.onTt, isPort]
  | succ n =>
    unfold State.onTt State.tt
    by_cases hk : k = 0
    · subst hk; simp
    · simp only [if_neg (Nat.succ_ne_zero n), if_neg hk, bankGet_set, isPort, Bool.and_eq_true, decide_eq_true_eq]
      by_cases h : k = n + 1 ∧ n < 16
      · obtain ⟨rfl, hn⟩ := h
        rw [if_pos ⟨rfl, hn⟩, if_pos (by omega)]
      · rw [if_neg (by omega), if_neg (by omega)]

theorem onTt_tt_same {p : Nat} (hp : isPort p = true) (f : Tt → Tt) : (s.onTt p f).tt p = f (s.tt p) :=
  (State.onTt_tt p p f).trans (if_pos ⟨rfl, hp⟩)

theorem onTt_tt_ne {p q : Nat} (hq : q ≠ p) (f : Tt → Tt) : (s.onTt p f).tt q = s.tt q :=
  (State.onTt_tt p q f).trans (if_neg fun h => hq h.1)

/-! The frame to a Comb die (R106). -/

/-- A frame for a die changes the Spine alone, and what the Spine becomes rests on the Spine, the phase and the mode. -/
theorem sendFrame_of (hs : u.spine = s.spine) (hp : u.phase = s.phase) (hm : u.mode = s.mode) (die : Nat) (c : TrafficClass)
    (x : Payload) : u.sendFrame die c x = { u with spine := (s.sendFrame die c x).spine } := by
  have hlink (k : Nat) : u.link k = s.link k := by simp only [State.link, hs]
  have hon (k : Nat) : u.linkOn k = s.linkOn k := by simp only [State.linkOn, State.spineOn, hlink, hp, hm]
  unfold State.sendFrame
  simp only [hon]
  split
  · rw [← hs]
  · simp only [State.onLink, State.onSpine, State.degraded, hlink, hs]

@[simp] theorem sendFrame_tt (s : State) (die : Nat) (c : TrafficClass) (x : Payload) (k : Nat) :
    (s.sendFrame die c x).tt k = s.tt k := by
  rw [sendFrame_of (s := s) rfl rfl rfl]
  rfl

/-! What a row of a Transaction Translator leaves unchanged. -/

/-- But for the free values, the answer, the Spine as given and the Transaction Translator of port `p`, all is as it was. -/
def State.TtOnly (s : State) (p : Nat) (sp : Spine) (u : State) : Prop :=
  u = { s with free := u.free, tts := u.tts, spine := sp, io := { s.io with answer := u.io.answer } } ∧
    ∀ q, isPort q = true → q ≠ p → u.tt q = s.tt q

namespace State.TtOnly

variable {p : Nat} {sp : Spine}

theorem onTt (h : s.TtOnly p sp u) (f : Tt → Tt) : s.TtOnly p sp (u.onTt p f) := by
  obtain ⟨hu, htt⟩ := h
  refine ⟨?_, fun q hq hne => (onTt_tt_ne hne f).trans (htt q hq hne)⟩
  rw [hu]
  cases p <;> rfl

theorem answering (h : s.TtOnly p sp u) (a : Answer) : s.TtOnly p sp (u.answering a) := by
  obtain ⟨hu, htt⟩ := h
  refine ⟨?_, htt⟩
  rw [hu]
  rfl

theorem sendFrame (h : s.TtOnly p s.spine u) (die : Nat) (c : TrafficClass) (x : Payload) :
    s.TtOnly p (s.sendFrame die c x).spine (u.sendFrame die c x) := by
  obtain ⟨hu, htt⟩ := h
  refine ⟨?_, fun q hq hne => (sendFrame_tt u die c x q).trans (htt q hq hne)⟩
  rw [sendFrame_of (s := s) (by rw [hu]) (by rw [hu]) (by rw [hu]), hu]

/-- What its bus has served is the Transaction Translator's own. -/
theorem served (s : State) (p : Nat) : s.TtOnly p s.spine (s.ttServe p) := by
  unfold State.ttServe
  exact onTt (u := { s with free := s.free + 1 }) ⟨rfl, fun _ _ _ => rfl⟩ _

end State.TtOnly

/-! What a Transaction Translator's bus may have served since the last request (log 1). -/

/-- The transactions that hold a non-periodic buffer. -/
def Tt.ids (t : Tt) : List Nat := t.buffers.map (·.1)

/-- What serving leaves of a Transaction Translator: its statistics and its transactions; a result stays ready, start-split data is
served whole or not at all, and where there is none no result comes. -/
structure Tt.Serves (t t' : Tt) : Prop where
  dropped : t'.dropped = t.dropped
  droppedCount : t'.droppedCount = t.droppedCount
  expired : t'.expired = t.expired
  ids : t'.ids = t.ids
  ready : ∀ id, (id, true) ∈ t.buffers → (id, true) ∈ t'.buffers
  ssFill : t'.ssFill = t.ssFill ∨ t'.ssFill = 0
  csFill : t.ssFill = 0 → t'.csFill = t.csFill

/-- Serving keeps how many non-periodic buffers are held. -/
theorem Tt.Serves.length {t t' : Tt} (h : t.Serves t') : t'.buffers.length = t.buffers.length := by
  simpa [Tt.ids] using congrArg List.length h.ids

theorem ttServe_serves {p : Nat} (hp : isPort p = true) : (s.tt p).Serves ((s.ttServe p).tt p) := by
  unfold State.ttServe
  rw [onTt_tt_same hp]
  constructor
  case ids =>
    show List.map _ (List.map _ (s.tt p).buffers.zipIdx) = List.map _ (s.tt p).buffers
    conv_rhs => rw [← List.zipIdx_map_fst 0 (s.tt p).buffers, List.map_map]
    exact List.map_map
  case ready =>
    intro id h
    obtain ⟨i, hi⟩ := List.mem_iff_getElem?.mp h
    exact List.mem_map.mpr ⟨((id, true), i), List.mk_mem_zipIdx_iff_getElem?.mpr hi, rfl⟩
  case ssFill =>
    dsimp only
    split
    · exact .inr rfl
    · exact .inl rfl
  case csFill =>
    intro h
    have h' : ({ s with free := s.free + 1 } : State).tt p = s.tt p := rfl
    simp [h', h]
  all_goals rfl

@[simp] theorem ttServe_asyncHeld (s : State) (p die : Nat) : (s.ttServe p).asyncHeld die = s.asyncHeld die := by
  rw [(State.TtOnly.served s p).1]
  rfl

/-! The branches of a split transaction (R106, R174, R175), from the Transaction Translator as its bus has left it. -/

section Split
variable {p id : Nat} {k : SplitKind}

/-- A periodic transaction fits in its interval on a link with all its lanes (R106). -/
theorem unfit_full (hd : s.degraded (linkOfDie (combOf p)) = false) : s.unfit p = false := by
  simp [State.unfit, hd]

theorem evTtStart_fits {bytes : Nat} (hk : k ≠ .asynchronous) (hd : s.degraded (linkOfDie (combOf p)) = false)
    (hb : ((s.ttServe p).tt p).ssFill + bytes ≤ ttQueue) :
    s.evTtStart p k bytes id =
      (((s.ttServe p).onTt p fun t => { t with ssFill := t.ssFill + bytes }).sendFrame (combOf p) (splitClass k)
        (.usb p bytes)).answering .nothing := by
  cases k with
  | asynchronous => exact absurd rfl hk
  | isochronous | interrupt => simp only [State.evTtStart, unfit_full hd, Bool.false_eq_true, if_false, if_pos hb]

theorem evTtStart_drops {bytes : Nat} (hk : k ≠ .asynchronous) (hd : s.degraded (linkOfDie (combOf p)) = false)
    (hb : ttQueue < ((s.ttServe p).tt p).ssFill + bytes) :
    s.evTtStart p k bytes id =
      ((s.ttServe p).onTt p fun t =>
        { t with dropped := t.dropped ++ [id]
                 droppedCount := saturate 0xFFFFFFFF (t.droppedCount + 1) }).answering .nothing := by
  cases k with
  | asynchronous => exact absurd rfl hk
  | isochronous | interrupt => simp only [State.evTtStart, unfit_full hd, Bool.false_eq_true, if_false, if_neg hb.not_ge]

theorem evTtStart_async (bytes : Nat) (ha : s.asyncHeld (combOf p) = false) (hb : ((s.ttServe p).tt p).buffers.length < 2) :
    s.evTtStart p .asynchronous bytes id =
      (((s.ttServe p).onTt p fun t => { t with buffers := t.buffers ++ [(id, false)] }).sendFrame (combOf p)
        (splitClass .asynchronous) (.usb p bytes)).answering .ack := by
  simp only [State.evTtStart, ttServe_asyncHeld, ha, Bool.false_or, decide_eq_true_eq, if_neg hb.not_ge]

theorem evTtStart_async_nak (bytes : Nat) (h : s.asyncHeld (combOf p) = true ∨ 2 ≤ ((s.ttServe p).tt p).buffers.length) :
    s.evTtStart p .asynchronous bytes id = (s.ttServe p).answering .nak := by
  simp only [State.evTtStart, ttServe_asyncHeld, Bool.or_eq_true, decide_eq_true_eq, if_pos h]

theorem evTtComplete_dropped (hk : k ≠ .asynchronous) (h : id ∈ ((s.ttServe p).tt p).dropped) :
    s.evTtComplete p k id = ((s.ttServe p).onTt p fun t => { t with dropped := t.dropped.erase id }).answering .err := by
  cases k with
  | asynchronous => exact absurd rfl hk
  | isochronous | interrupt => simp only [State.evTtComplete, List.contains_iff_mem, if_pos h]

theorem evTtComplete_periodic (hk : k ≠ .asynchronous) (hd : s.degraded (linkOfDie (combOf p)) = false)
    (h : id ∉ ((s.ttServe p).tt p).dropped) :
    s.evTtComplete p k id =
      if ((s.ttServe p).tt p).csFill = 0 then (s.ttServe p).answering .nyet
      else ((s.ttServe p).onTt p fun t => { t with csFill := 0 }).answering .ack := by
  cases k with
  | asynchronous => exact absurd rfl hk
  | isochronous | interrupt =>
    simp only [State.evTtComplete, List.contains_iff_mem, if_neg h, unfit_full hd, Bool.false_eq_true, if_false]

theorem evTtComplete_async_nak (ha : s.asyncHeld (combOf p) = true) :
    s.evTtComplete p .asynchronous id = (s.ttServe p).answering .nak := by
  simp only [State.evTtComplete, ttServe_asyncHeld, if_pos ha]

theorem evTtComplete_async_ready (ha : s.asyncHeld (combOf p) = false) (h : (id, true) ∈ ((s.ttServe p).tt p).buffers) :
    s.evTtComplete p .asynchronous id =
      ((s.ttServe p).onTt p fun t => { t with buffers := t.buffers.erase (id, true) }).answering .ack := by
  simp only [State.evTtComplete, ttServe_asyncHeld, ha, Bool.false_eq_true, if_false, List.contains_iff_mem, if_pos h]

theorem evTtComplete_async_nyet (ha : s.asyncHeld (combOf p) = false) (h : (id, true) ∉ ((s.ttServe p).tt p).buffers) :
    s.evTtComplete p .asynchronous id = (s.ttServe p).answering .nyet := by
  simp only [State.evTtComplete, ttServe_asyncHeld, ha, Bool.false_eq_true, if_false, List.contains_iff_mem, if_neg h]

theorem evTtExpiry_expires (h : ((s.ttServe p).tt p).csFill ≠ 0) :
    s.evTtExpiry p = (s.ttServe p).onTt p fun t =>
      { t with csFill := 0, expired := saturate 0xFFFFFFFF (t.expired + 1) } :=
  if_neg h

end Split

/-! What a row leaves of the port's Transaction Translator. -/

/-- A row's effect on port `p`: its answer is `a`, the Spine is as given, and `g` changes the Transaction Translator as its bus may
have left it. -/
structure State.TtDone (s : State) (p : Nat) (sp : Spine) (a : Answer) (g : Tt → Tt) (u : State) : Prop where
  only : s.TtOnly p sp u
  answer : u.io.answer = a
  tt : ∃ t, (s.tt p).Serves t ∧ u.tt p = g t

section Rows
variable {p : Nat} (hp : isPort p = true)
include hp

theorem State.TtDone.served (a : Answer) : s.TtDone p s.spine a id ((s.ttServe p).answering a) :=
  ⟨(State.TtOnly.served s p).answering a, rfl, _, ttServe_serves hp, rfl⟩

theorem State.TtDone.changed (g : Tt → Tt) (a : Answer) : s.TtDone p s.spine a g (((s.ttServe p).onTt p g).answering a) :=
  ⟨((State.TtOnly.served s p).onTt g).answering a, rfl, _, ttServe_serves hp, onTt_tt_same hp g⟩

theorem State.TtDone.sent (g : Tt → Tt) (a : Answer) (die : Nat) (c : TrafficClass) (x : Payload) :
    s.TtDone p (s.sendFrame die c x).spine a g ((((s.ttServe p).onTt p g).sendFrame die c x).answering a) :=
  ⟨(((State.TtOnly.served s p).onTt g).sendFrame die c x).answering a, rfl, _, ttServe_serves hp,
    (sendFrame_tt _ die c x p).trans (onTt_tt_same hp g)⟩

end Rows

theorem onLinkOpen_open (f : State → State) (ho : s.linkOpen = true) : s.onLinkOpen f = f s := if_pos ho

/-- A row of the host on an open link does its own effect. -/
theorem acts_of_open {i : Instr} {R : State → Prop} {f : State → State} (ho : s.linkOpen = true) (w : i.wf = true)
    (e : exec i s = .next (s.direct i fun s => s.onLinkOpen f)) (r : R (f s)) : s.Acts i R :=
  acts_of w e ((onLinkOpen_open f ho).symm ▸ r)

/-- A split transaction on an open link, from what its branch does with the Transaction Translator. -/
theorem acts_of_ttDone {p : Nat} {sp : Spine} {a : Answer} {g : Tt → Tt} {i : Instr} {f : State → State} {Q : State → Prop}
    (ho : s.linkOpen = true) (w : i.wf = true) (e : exec i s = .next (s.direct i fun s => s.onLinkOpen f)) (hu : f s = u)
    (h : s.TtDone p sp a g u) (q : ∀ u t, (s.tt p).Serves t → u.tt p = g t → Q u) :
    s.Acts i fun u => s.TtOnly p sp u ∧ u.io.answer = a ∧ Q u := by
  obtain ⟨honly, ha, t, ht, hg⟩ := h
  exact acts_of_open ho w e (hu ▸ ⟨honly, ha, q u t ht hg⟩)

/-- Settles O35: each branch of a split transaction on what its bus may have served, the hub's requests, and the expiry. -/
theorem transactionTranslators : Obligations.TransactionTranslators := by
  unfold Obligations.TransactionTranslators
  intro s p hp only sent ids
  have hv : (s.tt p).Serves ((s.ttServe p).tt p) := ttServe_serves hp
  refine ⟨fun ho => ⟨
      fun k hk hd => ⟨fun bytes id hb => ?fits, fun bytes id hb => ?drops, fun id hid hss => ?periodicResult⟩,
      fun k id hk hid => ?errs,
      fun ha => ⟨fun bytes id hb => ?asyncTaken, fun bytes id hb => ?buffersHeld,
        fun id hid => ?asyncReady, fun id hid => ?asyncUnknown⟩,
      fun ha => ⟨fun bytes id => ?startNoCredit, fun id => ?completeNoCredit⟩,
      acts_of_open ho hp rfl rfl, acts_of_open ho hp rfl rfl, acts_of_open ho hp rfl rfl, acts_of_open ho hp rfl rfl⟩,
    fun hss hcs => ?expires⟩
  case fits =>
    have hfit : ((s.ttServe p).tt p).ssFill + bytes ≤ ttQueue := by
      have hq : ttQueue = 4096 := rfl
      have := hv.ssFill
      omega
    refine acts_of_ttDone ho hp rfl (evTtStart_fits hk hd hfit) (.sent hp _ _ _ _ _) fun u t ht hu => ?_
    rw [hu]
    exact ⟨ht.dropped, ht.ids, ht.ssFill.imp (congrArg (· + bytes)) fun h => by simp [h]⟩
  case drops =>
    have hfull : ttQueue < ((s.ttServe p).tt p).ssFill + bytes := Nat.lt_add_left _ hb
    refine acts_of_ttDone ho hp rfl (evTtStart_drops hk hd hfull) (.changed hp _ _) fun u t ht hu => ?_
    rw [hu]
    exact ⟨congrArg (· ++ [id]) ht.dropped, ht.ids, congrArg (fun n => saturate 0xFFFFFFFF (n + 1)) ht.droppedCount⟩
  case periodicResult =>
    have heq := evTtComplete_periodic hk hd (hv.dropped ▸ hid)
    rw [hv.csFill hss] at heq
    by_cases hcs : (s.tt p).csFill = 0
    · rw [if_pos hcs] at heq ⊢
      refine acts_of_ttDone ho hp rfl heq (.served hp _) fun u t ht hu => ?_
      rw [hu]
      exact ⟨(ht.csFill hss).trans hcs, ht.dropped⟩
    · rw [if_neg hcs] at heq ⊢
      refine acts_of_ttDone ho hp rfl heq (.changed hp _ _) fun u t ht hu => ?_
      rw [hu]
      exact ⟨rfl, ht.dropped⟩
  case errs =>
    refine acts_of_ttDone ho hp rfl (evTtComplete_dropped hk (hv.dropped ▸ hid)) (.changed hp _ _) fun u t ht hu => ?_
    rw [hu]
    exact congrArg (·.erase id) ht.dropped
  case asyncTaken =>
    refine acts_of_ttDone ho hp rfl (evTtStart_async bytes ha (hv.length ▸ hb)) (.sent hp _ _ _ _ _) fun u t ht hu => ?_
    rw [hu]
    exact List.map_append.trans (congrArg (· ++ [id]) ht.ids)
  case buffersHeld =>
    exact acts_of_ttDone ho hp rfl (evTtStart_async_nak bytes (.inr (hv.length ▸ hb))) (.served hp _)
      fun u t ht hu => hu ▸ ht.ids
  case asyncReady =>
    refine acts_of_ttDone ho hp rfl (evTtComplete_async_ready ha (hv.ready id hid)) (.changed hp _ _) fun u t ht hu => ?_
    rw [hu]
    exact (List.length_erase_add_one (ht.ready id hid)).trans ht.length
  case asyncUnknown =>
    have hnot : (id, true) ∉ ((s.ttServe p).tt p).buffers :=
      fun h => (hv.ids ▸ hid : id ∉ ((s.ttServe p).tt p).ids) (List.mem_map_of_mem (f := Prod.fst) h)
    exact acts_of_ttDone ho hp rfl (evTtComplete_async_nyet ha hnot) (.served hp _) fun u t ht hu => hu ▸ ht.ids
  case startNoCredit =>
    exact acts_of_ttDone ho hp rfl (evTtStart_async_nak bytes (.inl ha)) (.served hp _) fun u t ht hu => hu ▸ ht.ids
  case completeNoCredit =>
    exact acts_of_ttDone ho hp rfl (evTtComplete_async_nak ha) (.served hp _) fun u t ht hu => hu ▸ ht.ids
  case expires =>
    refine acts_of hp rfl ?_
    rw [evTtExpiry_expires (by rw [hv.csFill hss]; exact hcs)]
    refine ⟨(State.TtOnly.served s p).onTt _, ?_⟩
    rw [onTt_tt_same hp]
    exact ⟨rfl, hv.ids, congrArg (fun n => saturate 0xFFFFFFFF (n + 1)) hv.expired⟩

end Sys2Proof.Machine
end

section
/-! PROOF. An attach, and when it powers the port. -/

namespace Sys2Proof.Machine

variable {s u : State} {p : Nat}

theorem onPort_congr (s : State) (n : Nat) (f g : Port → Port) (h : f (s.port n) = g (s.port n)) :
    s.onPort n f = s.onPort n g := by
  unfold State.onPort
  rw [h]

/-! The allotment (R230): a reservation where enough power remains takes it from no other port. -/

/-- The sum of all grants, with one port's set apart. -/
theorem granted_eq (hp : isPort p = true) : s.granted = (s.port p).grant + s.grantedBut p := by
  have hnodup : allPorts.Nodup := by decide
  unfold State.granted State.grantedBut
  rw [← hnodup.erase_eq_filter p]
  exact (List.sum_map_erase (fun q => (s.port q).grant) ((mem_allPorts p).mpr hp)).symm

theorem grantedBut_onPort (s : State) (p : Nat) (f : Port → Port) : (s.onPort p f).grantedBut p = s.grantedBut p := by
  unfold State.grantedBut
  congr 1
  apply List.map_congr_left
  intro q hq
  have hne : q ≠ p := by simpa using (List.mem_filter.mp hq).2
  rw [State.onPort_port, if_neg fun h => hne h.1]

theorem remaining_eq (hp : isPort p = true) :
    s.remaining = s.nat .allotTotalW 0 - ((s.port p).grant + s.grantedBut p) := by
  rw [State.remaining, granted_eq hp]

theorem remaining_onPort (hp : isPort p = true) (f : Port → Port) :
    (s.onPort p f).remaining = s.nat .allotTotalW 0 - ((f (s.port p)).grant + s.grantedBut p) := by
  rw [remaining_eq hp, grantedBut_onPort, onPort_port_self _ _ _ hp, State.onPort_nat]

theorem remaining_onPort_same (hp : isPort p = true) (f : Port → Port) (hf : (f (s.port p)).grant = (s.port p).grant) :
    (s.onPort p f).remaining = s.remaining := by
  rw [remaining_onPort hp, remaining_eq hp, hf]

/-- A port without a grant that is given one takes it from what remains. -/
theorem remaining_onPort_granted (hp : isPort p = true) (hg : (s.port p).grant = 0) (f : Port → Port) :
    (s.onPort p f).remaining = s.remaining - (f (s.port p)).grant := by
  rw [remaining_onPort hp, remaining_eq hp, hg]
  omega

theorem setGrant_tells (hp : isPort p = true) (hg : (s.port p).grant = 0) (a : Nat) :
    Tells (s.onPort p fun q => { q with grant := a, claim := if q.claim ≤ a then 0 else q.claim }) (s.setGrant p 0 a 0)
      [noteOf s.led.tag false 0 blkAllot .allotChange p (b8 0 ++ b16 0 ++ b16 a ++ b16 (s.remaining - a) ++ b8 0)] := by
  have ht := append_tells (s.onPort p fun q => { q with grant := a, claim := if q.claim ≤ a then 0 else q.claim })
    false 0 blkAllot .allotChange p (b8 0 ++ b16 0 ++ b16 a ++ b16 (s.remaining - a) ++ b8 0)
  unfold State.setGrant
  simp only [OfNat.zero_ne_ofNat, false_or, hg, remaining_onPort_granted hp hg]
  rw [State.onPort_led] at ht
  exact ht

/-- A port without a grant whose ceiling is free reserves its ceiling. -/
theorem reserve_free (hp : isPort p = true) (hg : (s.port p).grant = 0) (h45 : 45 ≤ s.ceiling p)
    (hfree : s.ceiling p ≤ s.remaining) (reclaim : Bool) : s.reserve p reclaim = some (s.setGrant p 0 (s.ceiling p) 0) := by
  have hrem : s.remaining = s.nat .allotTotalW 0 - s.grantedBut p := by
    rw [remaining_eq hp, hg, Nat.zero_add]
  rw [hrem] at hfree
  have hne : ¬ (s.port p).grant = s.ceiling p := by omega
  unfold State.reserve
  simp only [decide_eq_false hfree.not_gt, Bool.false_and, Bool.false_eq_true, if_false, List.map_nil, List.sum_nil,
    Nat.add_zero, min_eq_left hfree, if_neg h45.not_gt, List.foldl_nil, if_neg hne]

/-! The channel, and what negotiation begins with (R186 steps 3 and 4). -/

theorem chanUp_tells (hp : isPort p = true) (cause : Nat) (external : Bool) :
    Tells ((s.onPort p fun q => { q with bus := { q.bus with overCurrent := false, awaitsPower := false } }).onChan p
        fun c => c.wentOn true s.led.next) (s.chanUp p cause external)
      [noteOf s.led.tag external 3 blkChan .chanOn p (b8 cause ++ b8 0)] := by
  have ht := append_tells ((s.onPort p fun q => { q with bus := { q.bus with overCurrent := false, awaitsPower := false } }).onChan p
    fun c => c.wentOn true s.led.next) external 3 blkChan .chanOn p (b8 cause ++ b8 0)
  unfold State.chanUp State.when
  simp only [hp, if_true]
  rw [State.onBus_eq, ← onChan_onPort]
  rw [State.onChan_led, State.onPort_led] at ht
  exact ht

/-- Without the cable step and without P1, negotiation begins with VCONN alone. -/
theorem negotiate_plain (h12 : p ≤ 12) (hprov : s.value .pdProvisional p ≠ 1) (p1 : Bool) :
    s.negotiate p p1 = s.onPort p fun q =>
      { q with vconn := q.ra && !q.vconnFault && (s.value .typecVconnEn 0).getLsbD (p - 1)
               pd := { q.pd with cable := false, noP1 := !p1, arrived := false } } := by
  have hcable : decide (13 ≤ p) = false := decide_eq_false (by omega)
  have hp1 : (s.value .pdProvisional p == 1) = false := beq_false_of_ne hprov
  unfold State.negotiate State.p1On State.vconnUp
  simp only [State.onPd_eq, State.onPort_onPort, State.onPort_value, hcable, hp1, Bool.and_false, Bool.false_and,
    Bool.false_eq_true, if_false]

/-- A port as its power on the grant it has leaves it: Rp, VCONN as policy has it, and an over-current that is over. -/
def State.poweredPort (s : State) (p : Nat) (q : Port) : Port :=
  { q with rp := s.rpFor p q.grant, rpRemoved := false, waiting := false
           vconn := q.ra && !q.vconnFault && (s.value .typecVconnEn 0).getLsbD (p - 1)
           bus := { q.bus with overCurrent := false, awaitsPower := false }
           pd := { q.pd with reserved := q.grant, cable := false, noP1 := false, arrived := false } }

theorem poweredPort_of (h : u.prm = s.prm) (p : Nat) : u.poweredPort p = s.poweredPort p := by
  unfold State.poweredPort State.rpFor State.nat State.value
  rw [h]

/-- A port of legs without P1 that has its grant is turned on. -/
theorem powerPort_tells (hp : isPort p = true) (h12 : p ≤ 12) (hprov : s.value .pdProvisional p ≠ 1) (cause : Nat) (external : Bool) :
    Tells ((s.onPort p (s.poweredPort p)).onChan p fun c => c.wentOn true s.led.next) (s.powerPort p cause external true)
      [noteOf s.led.tag external 3 blkChan .chanOn p (b8 cause ++ b8 0)] := by
  unfold State.powerPort
  set t := s.onPort p fun q =>
    { q with rp := s.rpFor p q.grant, rpRemoved := false, waiting := false, pd := { q.pd with reserved := q.grant } } with ht
  have hup := chanUp_tells (s := t) hp cause external
  have hvalue (x : Param) (i : Nat) : (t.chanUp p cause external).value x i = s.value x i := by
    rw [hup.value, State.onChan_value, State.onPort_value, ht, State.onPort_value]
  rw [negotiate_plain h12 (by rw [hvalue]; exact hprov), hvalue]
  have hall := hup.onPort p fun q =>
    { q with vconn := q.ra && !q.vconnFault && (s.value .typecVconnEn 0).getLsbD (p - 1)
             pd := { q.pd with cable := false, noP1 := !true, arrived := false } }
  rw [onChan_onPort, State.onPort_onPort, State.onPort_led, ← onChan_onPort, ht, State.onPort_onPort] at hall
  exact hall

/-- A port of legs without P1 and without a grant whose ceiling is free is granted it and turned on. -/
theorem reserveAndPower_tells (hp : isPort p = true) (h12 : p ≤ 12) (hprov : s.value .pdProvisional p ≠ 1)
    (hg : (s.port p).grant = 0) (h45 : 45 ≤ s.ceiling p) (hfree : s.ceiling p ≤ s.remaining) (reclaim : Bool) :
    let a := s.ceiling p
    Tells ((s.onPort p fun q => s.poweredPort p { q with grant := a, claim := if q.claim ≤ a then 0 else q.claim }).onChan p
        fun c => c.wentOn true (s.led.next + 1)) (s.reserveAndPower p 1 false reclaim true)
      [noteOf s.led.tag false 0 blkAllot .allotChange p (b8 0 ++ b16 0 ++ b16 a ++ b16 (s.remaining - a) ++ b8 0),
       noteOf s.led.tag false 3 blkChan .chanOn p (b8 1 ++ b8 0)] := by
  intro a
  have hgrant := setGrant_tells hp hg a
  have hnext : (s.setGrant p 0 a 0).led.next = s.led.next + 1 := by
    simpa using hgrant.1.1
  have hprm : (s.setGrant p 0 a 0).prm = s.prm := hgrant.prm.trans (State.onPort_prm ..)
  have hpower := powerPort_tells (s := s.setGrant p 0 a 0) hp h12 (by rw [hgrant.value, State.onPort_value]; exact hprov) 1 false
  rw [poweredPort_of hprm, hnext, hgrant.tag, State.onPort_led] at hpower
  have hboth := ((hgrant.onPort p (s.poweredPort p)).onChan p fun c => c.wentOn true (s.led.next + 1)).trans hpower
  rw [State.onPort_onPort] at hboth
  unfold State.reserveAndPower
  rw [reserve_free hp hg h45 hfree]
  exact hboth

/-! The attach (R185, R186). -/

/-- An attach recorded: `PORT_ATTACH`, and the port as the attach leaves it before anything is powered. -/
def State.attachedAt (s : State) (p pin : Nat) (ra : Bool) : State :=
  (s.pdEntry p true .portAttach (b8 pin ++ b8 ra.toNat ++ b8 (s.rpIdle p))).onPort p fun q => q.fresh pin ra s.led.next

/-- What a recorded attach does about the port's power. -/
def State.attachPower (s : State) (p : Nat) : State :=
  if s.cfg.state == .defaults || s.sbOff then s
  else if s.barred p then s.noteAwaits p
  else
    let t := s.onPort p fun q => { q with rp := s.nat .pdRpLevel p }
    if !t.railUp 0 then t.onPort p fun q => { q with waiting := true } else t.reserveAndPower p 1 false true true

theorem evPortAttach_eq (h : (s.port p).attached = false) (pin : Nat) (ra : Bool) :
    s.evPortAttach p pin ra = ((s.attachedAt p pin ra).attachPower p).enablePolicy p := by
  unfold State.evPortAttach
  rw [h]
  rfl

theorem enablePolicy_enabled (h : s.value .portEnablePolicy p ≠ 0) : s.enablePolicy p = s := by
  unfold State.enablePolicy
  rw [beq_false_of_ne h]
  rfl

theorem attachPower_off (h : s.cfg.state = .defaults ∨ s.sbOff = true) : s.attachPower p = s := by
  unfold State.attachPower
  rw [if_pos (by simpa using h)]

theorem noteAwaits_barred (h : (s.chan p).state = .locked ∨ (s.chan p).refused = true) : s.noteAwaits p = s := by
  unfold State.noteAwaits
  rw [if_neg (by rcases h with h | h <;> simp [h])]

theorem noteAwaits_unpowered (hl : (s.chan p).state ≠ .locked) (hr : (s.chan p).refused = false) (hu : s.unpowered p = true) :
    s.noteAwaits p = s.onBus p fun b => { b with awaitsPower := true } := by
  unfold State.noteAwaits
  rw [if_pos (by simp [hl, hr, hu])]

section AttachPower
variable (hd : s.cfg.state ≠ .defaults) (hsb : s.sbOff = false)
include hd hsb

theorem attachPower_barred (hb : s.barred p = true) : s.attachPower p = s.noteAwaits p := by
  unfold State.attachPower
  rw [if_neg (by simp [hd, hsb]), if_pos hb]

theorem attachPower_railless (hb : s.barred p = false) (hr : s.railUp 0 = false) :
    s.attachPower p = s.onPort p fun q => { q with rp := s.nat .pdRpLevel p, waiting := true } := by
  have hr' : (s.onPort p fun q => { q with rp := s.nat .pdRpLevel p }).railUp 0 = false := by
    simpa [State.railUp] using hr
  unfold State.attachPower
  simp only [hr', hb, hsb, beq_false_of_ne hd, State.onPort_onPort, Bool.or_self,
    Bool.false_eq_true, if_false, Bool.not_false, if_true]

/-- A port of legs without P1 and without a grant whose ceiling is free is granted it and turned on. -/
theorem attachPower_powers (hb : s.barred p = false) (hr : s.railUp 0 = true) (hp : isPort p = true) (h12 : p ≤ 12)
    (hprov : s.value .pdProvisional p ≠ 1) (hg : (s.port p).grant = 0) (h45 : 45 ≤ s.ceiling p)
    (hfree : s.ceiling p ≤ s.remaining) :
    let a := s.ceiling p
    Tells ((s.onPort p fun q => s.poweredPort p { q with grant := a, claim := if q.claim ≤ a then 0 else q.claim }).onChan p
        fun c => c.wentOn true (s.led.next + 1)) (s.attachPower p)
      [noteOf s.led.tag false 0 blkAllot .allotChange p (b8 0 ++ b16 0 ++ b16 a ++ b16 (s.remaining - a) ++ b8 0),
       noteOf s.led.tag false 3 blkChan .chanOn p (b8 1 ++ b8 0)] := by
  intro a
  set t := s.onPort p fun q => { q with rp := s.nat .pdRpLevel p } with ht
  have hr' : t.railUp 0 = true := by simpa [ht, State.railUp] using hr
  have hpower : s.attachPower p = t.reserveAndPower p 1 false true true := by
    unfold State.attachPower
    simp only [← ht, hr', hb, hsb, beq_false_of_ne hd, Bool.or_self, Bool.false_eq_true, if_false, Bool.not_true]
  have hceiling : t.ceiling p = s.ceiling p := by simp [ht, State.ceiling]
  have hremaining : t.remaining = s.remaining := remaining_onPort_same hp _ rfl
  have hgrant : (t.port p).grant = 0 := by rw [ht, onPort_port_self _ _ _ hp]; exact hg
  have h := reserveAndPower_tells (s := t) hp h12 (by simpa [ht] using hprov) hgrant (by rwa [hceiling])
    (by rwa [hceiling, hremaining]) true
  dsimp only at h
  rw [hceiling, hremaining, poweredPort_of (s := s) (State.onPort_prm ..), ht, State.onPort_onPort, State.onPort_led, ← ht,
    ← hpower] at h
  exact h

end AttachPower

/-! What a recorded attach leaves of what its power rests on. -/

section AttachedAt
variable (s) (p pin : Nat) (ra : Bool)

@[simp] theorem attachedAt_cfg : (s.attachedAt p pin ra).cfg = s.cfg := by simp [State.attachedAt, State.pdEntry]
@[simp] theorem attachedAt_prm : (s.attachedAt p pin ra).prm = s.prm := by simp [State.attachedAt, State.pdEntry]
@[simp] theorem attachedAt_nat (x : Param) (i : Nat) : (s.attachedAt p pin ra).nat x i = s.nat x i := by
  simp [State.attachedAt, State.pdEntry]
@[simp] theorem attachedAt_value (x : Param) (i : Nat) : (s.attachedAt p pin ra).value x i = s.value x i := by
  simp [State.attachedAt, State.pdEntry]
@[simp] theorem attachedAt_chan (n : Nat) : (s.attachedAt p pin ra).chan n = s.chan n := by
  simp [State.attachedAt, State.pdEntry]
@[simp] theorem attachedAt_sbOff : (s.attachedAt p pin ra).sbOff = s.sbOff := by
  simp [State.attachedAt, State.pdEntry, State.sbOff]
@[simp] theorem attachedAt_railUp (n : Nat) : (s.attachedAt p pin ra).railUp n = s.railUp n := by
  simp [State.attachedAt, State.pdEntry, State.railUp]
@[simp] theorem attachedAt_ceiling (n : Nat) : (s.attachedAt p pin ra).ceiling n = s.ceiling n := by
  simp [State.attachedAt, State.pdEntry, State.ceiling]

variable {p} (hp : isPort p = true)
include hp

@[simp] theorem attachedAt_remaining : (s.attachedAt p pin ra).remaining = s.remaining := by
  rw [State.attachedAt, remaining_onPort_same hp _ rfl, State.pdEntry]
  simp [State.remaining, State.granted]

@[simp] theorem attachedAt_port : (s.attachedAt p pin ra).port p = (s.port p).fresh pin ra s.led.next := by
  rw [State.attachedAt, onPort_port_self _ _ _ hp, State.pdEntry, append_port]

@[simp] theorem attachedAt_unpowered : (s.attachedAt p pin ra).unpowered p = s.unpowered p := by
  unfold State.unpowered
  rw [attachedAt_port s pin ra hp, attachedAt_value]
  rfl

@[simp] theorem attachedAt_barred : (s.attachedAt p pin ra).barred p = s.barred p := by
  unfold State.barred
  rw [attachedAt_unpowered s pin ra hp, attachedAt_chan]

end AttachedAt

/-- A recorded attach is its entry and the port as the attach leaves it. -/
theorem attachedAt_tells (htag : s.led.tag = 0xFFFF) (p pin : Nat) (ra : Bool) :
    Tells (s.onPort p fun q => q.fresh pin ra s.led.next) (s.attachedAt p pin ra)
      [noteOf 0xFFFF true (combOf p) blkPd .portAttach p (b8 pin ++ b8 ra.toNat ++ b8 (s.rpIdle p))] :=
  (append_tells_tag s 0xFFFF htag _ _ _ _ _ _).onPort p _

/-- An attach on a port that PORT.ENABLE_POLICY leaves enabled ends in what its power leaves. -/
theorem attach_does {X : State} {l : List Note} {pin : Nat} {ra : Bool} (ho : s.Open) (hp : isPort p = true)
    (hpin : pin = 1 ∨ pin = 2) (hh : s.Hears (combOf p) blkPd) (ha : (s.port p).attached = false)
    (he : s.value .portEnablePolicy p ≠ 0) (hx : X.prm = s.prm) (h : Tells X ((s.attachedAt p pin ra).attachPower p) l) :
    s.Does (.portAttach p pin ra) fun u => Tells X u l := by
  have hwf : (Instr.portAttach p pin ra).wf = true := by
    show (isPort p && (pin == 1 || pin == 2)) = true
    simpa [hp] using hpin
  have he' : ((s.attachedAt p pin ra).attachPower p).value .portEnablePolicy p ≠ 0 := by
    rw [h.value, State.value, hx]
    exact he
  refine does_of ho hwf (heard_of rfl hh) rfl ?_
  show Tells X (s.evPortAttach p pin ra) l
  rw [evPortAttach_eq ha, enablePolicy_enabled he']
  exact h

/-- Settles O36: the attach as it is recorded, and then each way its power goes. -/
theorem attachPowersThePort : Obligations.AttachPowersThePort := by
  unfold Obligations.AttachPowersThePort
  intro s p pin ra ho hp hpin hh ha he attach fresh
  have hrp : s.rpIdle p = if s.cfg.state = .defaults then 0 else s.nat .pdRpLevel p := by
    simp [State.rpIdle]
  have hat := attachedAt_tells (s := s) ho.rested.1 p pin ra
  rw [hrp] at hat
  change Tells fresh _ [attach] at hat
  have hfresh : fresh.prm = s.prm := State.onPort_prm ..
  have hdoes {X : State} {l : List Note} (hx : X.prm = s.prm) (h : Tells X ((s.attachedAt p pin ra).attachPower p) l) :=
    attach_does ho hp hpin hh ha he hx h
  refine ⟨fun hoff => ?off, fun hd hsb => ⟨fun hbar => ?barred, fun hl hr hm hpp => ?unpowered⟩,
    fun hd hb hsb => ⟨fun hr => ?railless, fun hr h12 hprov hg hc h45 hfree => ?powers⟩⟩
  case off =>
    refine hdoes hfresh ?_
    rw [attachPower_off (by simpa using hoff)]
    exact hat
  case barred =>
    have hb : s.barred p = true := by rcases hbar with h | h <;> simp [State.barred, h]
    refine hdoes hfresh ?_
    rw [attachPower_barred (by simpa using hd) (by simpa using hsb) (by simpa [hp] using hb),
      noteAwaits_barred (by simpa using hbar)]
    exact hat
  case unpowered =>
    have hu : s.unpowered p = true := by simp [State.unpowered, hm, hpp]
    have hb : s.barred p = true := by simp [State.barred, hu]
    refine hdoes ((State.onBus_prm ..).trans hfresh) ?_
    rw [attachPower_barred (by simpa using hd) (by simpa using hsb) (by simpa [hp] using hb),
      noteAwaits_unpowered (by simpa using hl) (by simpa using hr) (by simpa [hp] using hu)]
    exact hat.onBus p _
  case railless =>
    refine hdoes ((State.onPort_prm ..).trans hfresh) ?_
    rw [attachPower_railless (by simpa using hd) (by simpa using hsb) (by simpa [hp] using hb) (by simpa using hr),
      attachedAt_nat]
    exact hat.onPort p _
  case powers =>
    intro a
    refine hdoes (by simp [hfresh]) ?_
    have hgrant : ((s.attachedAt p pin ra).port p).grant = 0 := by rw [attachedAt_port s pin ra hp]; exact hg
    have hnext : (s.attachedAt p pin ra).led.next + 1 = s.led.next + 2 := by simp [hat.1.1, fresh]
    have htag : (s.attachedAt p pin ra).led.tag = 0xFFFF := by simp [hat.tag, fresh, ho.rested.1]
    have hpower := attachPower_powers (s := s.attachedAt p pin ra) (by simpa using hd) (by simpa using hsb)
      (by simpa [hp] using hb) (by simpa using hr) hp h12 (by simpa using hprov) hgrant (by simpa using h45)
      (by simpa [hp] using hfree)
    dsimp only at hpower
    rw [attachedAt_ceiling, attachedAt_remaining s pin ra hp, hnext, htag,
      poweredPort_of (s := s) (attachedAt_prm s p pin ra)] at hpower
    have hall := ((hat.onPort p _).onChan p _).trans hpower
    rw [onPort_congr fresh p _ _ ?_] at hall
    · exact hall
    · rw [onPort_port_self _ _ _ hp]
      simp [a, State.poweredPort, Port.fresh, Pd.init, hc]

end Sys2Proof.Machine
end

section
/-! PROOF. Entering a sleep state: what the samples of the abort points find, the entry abandoned, and the entry completed. -/

namespace Sys2Proof.Machine

variable {s t u X : State} {m : Mode} {l : List Note}

/-! Entries with the trigger lists off: no list fires (R70). -/

/-- With the lists off an entry calls for no firing. -/
theorem append_fires_off (h : s.value .trigEnable 0 ≠ 1) (e : Bool) (die block : Nat) (k : Kind) (n : Nat) (d : List Byte) :
    (s.append e die block k n d).led.fires = s.led.fires := by
  have hoff (x : Entry) : s.passTime.matching x = false := by
    have hv : (s.passTime.value .trigEnable 0 == 1) = false := beq_false_of_ne h
    unfold State.matching
    rw [hv, Bool.and_false, Bool.false_and]
  have hpush (g : Ledger) (x : Entry) : ((g.push x).tally x).fires = g.fires := by
    rw [tally_told, push_told]
  unfold State.append
  dsimp only
  rw [if_neg (by rw [hoff]; exact Bool.false_ne_true)]
  exact hpush _ _

theorem tagged_self {tag : BitVec 16} (h : s.led.tag = tag) : s.tagged tag = s := by
  subst h
  rfl

/-- With no firing and no list work, the firings of an event change nothing. -/
theorem firesRun_none (htag : s.led.tag = 0xFFFF) (hf : s.led.fires = []) (hw : s.trig.work = []) (hd : s.trig.depth = 0) :
    s.firesRun = s := by
  unfold State.firesRun
  rw [pushFires_nil s hf, runWork_nil _ s hw hd, tagged_self htag]

/-! What the samples find (R143). -/

/-- A hit that the samples find before any other of a list: at AP0, where it lies there, and else at a later one. -/
structure FoundFirst (h : Nat × Nat) (hits : List (Nat × Nat)) : Prop where
  all : firstHit hits = some h
  start : firstHit (hits.filter fun x => x.1 == 0) = if h.1 = 0 then some h else none

theorem foundFirst_one (h : Nat × Nat) : FoundFirst h [h] where
  all := rfl
  start := by
    by_cases h0 : h.1 = 0
    · simp [h0, firstHit]
    · simp [h0, firstHit]

/-- The earlier point comes first, and at one point the lower source. -/
theorem foundFirst_two {h later : Nat × Nat} (hlt : h.1 < later.1 ∨ h.1 = later.1 ∧ h.2 < later.2) :
    FoundFirst h [later, h] where
  all := by simp [firstHit, hlt]
  start := by
    by_cases h0 : h.1 = 0
    · by_cases hl : later.1 = 0
      · simp [h0, hl, firstHit, show h.2 < later.2 by omega]
      · simp [h0, hl, firstHit]
    · have hl : later.1 ≠ 0 := by omega
      simp [h0, hl, firstHit]

/-- What the samples of an entry can find: the alarm that has passed, and what is latched. -/
def State.entryHits (s : State) (m : Mode) (latched : List Latched) : List (Nat × Nat) :=
  let hits := latched.filterMap (s.latchHit m s.votes)
  if s.alarmDue && s.wakeEnabled 7 then (0, 7) :: hits else hits

/-- A source that wakes the device is found at the point that it is latched at. -/
theorem latchHit_source {ap n : Nat} (hap : ap ≤ 4) (h9 : n ≤ 9) (h7 : n ≠ 7) (he : s.wakeEnabled n = true)
    (hi : s.sourceIn m n = true) (before : Nat) : s.latchHit m before (.source ap n) = some (ap, n) := by
  simp [State.latchHit, hap, h9, h7, he, hi]

/-- A vote that becomes set and bars the target is found as source 0. -/
theorem latchHit_vote {ap v : Nat} (hap : ap ≤ 4) (hv : v ≤ 19 ∨ v = 21) (hb : s.votes.testBit v = false)
    (hd : s.voteLimit v < m.depth) : s.latchHit m s.votes (.vote ap v) = some (ap, 0) := by
  simp [State.latchHit, State.voteBars, hap, hv, hb, hd]

/-! The entry of AP0 (R141). -/

/-- Power as the entry of AP0 begins. -/
def Power.entering (m : Mode) (w : Power) : Power := { w with lastEnter := BitVec.ofNat 32 m.code, wakeLatch := 0 }

theorem enterEntry_tells (s : State) (m : Mode) :
    Tells (s.onPw (Power.entering m)) (s.enterEntry m)
      [noteOf s.led.tag true 3 blkPower .pstateEnter 0 (b8 m.code ++ b32 s.votes)] :=
  append_tells (s.onPw (Power.entering m)) _ _ _ _ _ _

/-- The vote word rests on nothing that an entry changes. -/
theorem Tells.votes (h : Tells X u l) : u.votes = X.votes := by
  rw [h.2]
  rfl

/-! The entry abandoned (R143, R145). -/

/-- No link is lost and every lane is in service, and two lanes are enough: training finds nothing to change (R108). -/
def State.LinksWhole (s : State) : Prop :=
  s.nat .spineMinLanes 0 ≤ 2 ∧ ∀ link, link ≤ 2 → (s.link link).lost = false ∧
    ∀ lane, lane < laneCount link → ((s.link link).lane lane).inService = true

theorem trainLink_whole (h : s.LinksWhole) {link : Nat} (hk : link ≤ 2) : s.trainLink link [] = s := by
  obtain ⟨hmin, hlinks⟩ := h
  obtain ⟨hlost, hlanes⟩ := hlinks link hk
  have hback : (List.range (laneCount link)).filter
      (fun n => !([] : List Nat).contains n && !((s.link link).lane n).inService) = [] :=
    List.filter_eq_nil_iff.mpr fun n hn => by simp [hlanes n (List.mem_range.mp hn)]
  have hout : (List.range (laneCount link)).filter (fun n => ([] : List Nat).contains n) = [] := by simp
  have henough : s.nat .spineMinLanes 0 ≤ (List.range (laneCount link)).length - ([] : List Nat).length := by
    have : 2 ≤ laneCount link := by unfold laneCount; split <;> omega
    simp
    omega
  unfold State.trainLink
  dsimp only
  rw [hback, hout]
  simp only [State.each, List.foldl_nil, hlost, Bool.false_eq_true, if_false]
  rw [if_pos (by simpa using henough)]

theorem trainLinks_whole (h : s.LinksWhole) : s.trainLinks 0 = s := by
  unfold State.trainLinks
  simp only [BitVec.ofNat_eq_ofNat, BitVec.getLsbD_zero, List.filter_false]
  rw [trainLink_whole h (by omega), trainLink_whole h (by omega), trainLink_whole h (by omega)]

/-- Power as an entry that is abandoned leaves it. -/
def Power.abandoned (ap source : Nat) (w : Power) : Power :=
  { w with abandons := bankSet w.abandons ap (bankGet w.abandons ap 0 + 1), lastEnter := w.lastEnter ||| 0x100,
           lastWake := BitVec.ofNat 32 (source + ap * 0x100), holdoff := true, wakeLatch := 0 }

theorem Tells.alarmTaken (h : Tells X u l) (source : Nat) : Tells (X.alarmTaken source) (u.alarmTaken source) l := by
  unfold State.alarmTaken
  split
  · have e : u.setValue .pstateAlarm 0 0 = (X.told u).setValue .pstateAlarm 0 0 := by rw [← h.2]
    have k : (X.told u).setValue .pstateAlarm 0 0 =
        (X.setValue .pstateAlarm 0 0).told ((X.told u).setValue .pstateAlarm 0 0) := rfl
    rw [← e] at k
    exact ⟨h.1, k⟩
  · exact h

/-- An abandoned entry is `PSTATE_ABANDON` and the holdoff; from AP2 on the links are trained afresh, which whole links do not
show. -/
theorem abandon_tells (h : Tells X u l) (ap source : Nat) (failed : BitVec 10)
    (hw : 2 ≤ ap → failed = 0 ∧ source ≠ 7 ∧ X.LinksWhole) :
    Tells ((X.onPw (Power.abandoned ap source)).alarmTaken source) (u.abandon ap source failed)
      (l ++ [noteOf X.led.tag true 3 blkPower .pstateAbandon 0 (b8 ap ++ b8 source)]) := by
  have ht := ((h.onPw (Power.abandoned ap source)).append true 3 blkPower .pstateAbandon 0 (b8 ap ++ b8 source)).alarmTaken source
  have hu : u.abandon ap source failed =
      (((u.onPw (Power.abandoned ap source)).powerEntry .pstateAbandon (b8 ap ++ b8 source)).alarmTaken source).when (2 ≤ ap)
        fun s => s.trainLinks failed := rfl
  rw [hu]
  unfold State.when
  split
  · rename_i h2
    obtain ⟨rfl, h7, hmin, hlinks⟩ := hw (by simpa using h2)
    have hX : (X.onPw (Power.abandoned ap source)).alarmTaken source = X.onPw (Power.abandoned ap source) := if_neg h7
    rw [hX] at ht ⊢
    dsimp only [State.powerEntry]
    rw [trainLinks_whole (by unfold State.LinksWhole; simp only [ht.nat, ht.link]; exact ⟨hmin, hlinks⟩)]
    exact ht
  · exact ht

/-! The entry completed (R144, R152, R156). -/

/-- A target is a state that is asleep and charges at most outside DEEP SLEEP. -/
theorem target_asleep (h : s.target = some m) : m.asleep = true ∧ m.charges = decide (m ≠ .deepSleep) := by
  unfold State.target at h
  split at h
  · cases h
  · cases h
    split <;> exact ⟨rfl, rfl⟩
  · cases h
    exact ⟨rfl, rfl⟩

theorem awake_of_listening (h : s.listening = true) : s.mode.asleep = false := by
  unfold State.listening at h
  cases hm : s.mode <;> simp_all [Mode.asleep]

/-- A state asleep, from one that is awake. -/
def State.slept (s : State) (m : Mode) : State :=
  { s with
    mode := m, store := s.store.inMode m, ember := { s.ember with latched := true, resetOutLow := false }
    pw := { s.pw with left := s.mode, entries := s.pw.entries + 1, vcoreSel := if m = .deepSleep then 0 else s.pw.vcoreSel } }

theorem Tells.slept (h : Tells X u l) (m : Mode) : Tells (X.slept m) (u.slept m) l := by
  have e : u.slept m = (X.told u).slept m := by rw [← h.2]
  have k : (X.told u).slept m = (X.slept m).told ((X.told u).slept m) := rfl
  rw [← e] at k
  exact ⟨h.1, k⟩

/-- Falling asleep is the state asleep and `MODE_CHANGE` with reason 1. -/
theorem fallAsleep_tells (h : Tells X u l) (hm : X.mode ≠ m) :
    Tells (X.slept m) (u.fallAsleep m)
      (l ++ [noteOf X.led.tag true 3 blkPower .modeChange 0 (b8 X.mode.code ++ b8 m.code ++ b8 1)]) := by
  have hu : u.fallAsleep m = (u.slept m).append true 3 blkPower .modeChange 0 (b8 u.mode.code ++ b8 m.code ++ b8 1) :=
    if_neg (by rw [← h.mode] at hm; exact hm)
  rw [hu, h.mode]
  exact (h.slept m).append _ _ _ _ _ _

/-! PSTATE_ENTER. -/

/-- No list runs between AP0 and AP1. -/
theorem enterEntry_firesRun (hr : s.Rested) (htrig : s.value .trigEnable 0 ≠ 1) (hwork : s.trig.work = [])
    (hdepth : s.trig.depth = 0) (m : Mode) : (s.enterEntry m).firesRun = s.enterEntry m := by
  have hentry := enterEntry_tells s m
  refine firesRun_none (hentry.tag.trans hr.1) ((append_fires_off ?_ ..).trans hr.2) ?_ ?_
  · exact htrig
  · rw [hentry.trig]; exact hwork
  · rw [hentry.trig]; exact hdepth

/-- No vote becomes set by the entry of AP0. -/
theorem enterEntry_bars (s : State) (m : Mode) :
    (upTo 0 27).any (fun v => s.votes.testBit v && (s.enterEntry m).voteBars m s.votes v) = false := by
  rw [List.any_eq_false]
  intro v _
  cases hv : s.votes.testBit v <;> simp [State.voteBars, hv]

section Entry
variable (htarget : s.target = some m) (ho : s.Open) (hwait : s.io.waiting = [])
include htarget ho hwait

variable (htrig : s.value .trigEnable 0 ≠ 1) (hwork : s.trig.work = []) (hdepth : s.trig.depth = 0)
include htrig hwork hdepth

/-- With no list that runs, the first hit at AP0 abandons the entry, or else the first of all; without one the device falls
asleep. -/
theorem evPstateEnter_eq (latched : List Latched) (failed : BitVec 10) :
    s.evPstateEnter latched failed =
      match firstHit ((s.entryHits m latched).filter fun x => x.1 == 0) with
      | some (ap, source) => (s.enterEntry m).abandon ap source failed
      | none => match firstHit (s.entryHits m latched) with
        | some (ap, source) => (s.enterEntry m).abandon ap source failed
        | none => (s.enterEntry m).fallAsleep m := by
  unfold State.evPstateEnter
  rw [htarget]
  simp only [ho.listening, hwait, enterEntry_firesRun ho.rested htrig hwork hdepth m, (enterEntry_tells s m).votes]
  change (match firstHit ((s.entryHits m latched).filter fun x => x.1 == 0) with
    | some (ap, source) => (s.enterEntry m).abandon ap source failed
    | none => match firstHit (if (upTo 0 27).any (fun v => s.votes.testBit v && (s.enterEntry m).voteBars m s.votes v)
          then (1, 0) :: s.entryHits m latched else s.entryHits m latched) with
      | some (ap, source) => (s.enterEntry m).abandon ap source failed
      | none => (s.enterEntry m).fallAsleep m) = _
  rw [enterEntry_bars s m]
  rfl

/-- What the samples find first abandons the entry. -/
theorem evPstateEnter_found {latched : List Latched} {h : Nat × Nat} (failed : BitVec 10)
    (hf : FoundFirst h (s.entryHits m latched)) :
    s.evPstateEnter latched failed = (s.enterEntry m).abandon h.1 h.2 failed := by
  rw [evPstateEnter_eq htarget ho hwait htrig hwork hdepth, hf.start]
  split
  · rename_i e
    split at e <;> cases e
    rfl
  · rw [hf.all]

/-- The state that an abandoned entry leaves, and its two entries. -/
theorem evPstateEnter_abandons {latched : List Latched} {ap source : Nat} (failed : BitVec 10)
    (hf : FoundFirst (ap, source) (s.entryHits m latched)) (hw : 2 ≤ ap → failed = 0 ∧ source ≠ 7 ∧ s.LinksWhole) :
    Tells (((s.onPw (Power.entering m)).onPw (Power.abandoned ap source)).alarmTaken source) (s.evPstateEnter latched failed)
      [noteOf 0xFFFF true 3 blkPower .pstateEnter 0 (b8 m.code ++ b32 s.votes),
       noteOf 0xFFFF true 3 blkPower .pstateAbandon 0 (b8 ap ++ b8 source)] := by
  rw [evPstateEnter_found htarget ho hwait htrig hwork hdepth failed hf]
  have h := abandon_tells (enterEntry_tells s m) ap source failed hw
  rw [State.onPw_led, ho.rested.1] at h
  exact h

/-- With nothing found the device falls asleep. -/
theorem evPstateEnter_sleeps (halarm : s.alarmDue = false) (failed : BitVec 10) :
    Tells ((s.onPw (Power.entering m)).slept m) (s.evPstateEnter [] failed)
      [noteOf 0xFFFF true 3 blkPower .pstateEnter 0 (b8 m.code ++ b32 s.votes),
       noteOf 0xFFFF true 3 blkPower .modeChange 0 (b8 s.mode.code ++ b8 m.code ++ b8 1)] := by
  have hnone : s.entryHits m [] = [] := by simp [State.entryHits, halarm]
  rw [evPstateEnter_eq htarget ho hwait htrig hwork hdepth, hnone]
  change Tells _ ((s.enterEntry m).fallAsleep m) _
  have hm : s.mode ≠ m := by
    rintro rfl
    exact absurd ((target_asleep htarget).1.symm.trans (awake_of_listening ho.listening)) (by decide)
  have h := fallAsleep_tells (enterEntry_tells s m) hm
  rw [State.onPw_led, ho.rested.1] at h
  exact h

end Entry

/-- Settles O28: what is found first abandons the entry, and where nothing is found the device falls asleep. -/
theorem sleepStatesAreEntered : Obligations.SleepStatesAreEntered := by
  unfold Obligations.SleepStatesAreEntered
  intro s
  refine ⟨fun hnone latched failed => acts_of rfl rfl ?_, ?_⟩
  · unfold State.evPstateEnter
    rw [hnone]
  · intro m htarget ho hwait htrig hwork hdepth whole enter stays wakes
    have habandon {latched : List Latched} {ap source : Nat} (failed : BitVec 10)
        (hf : FoundFirst (ap, source) (s.entryHits m latched)) (hw : 2 ≤ ap → failed = 0 ∧ source ≠ 7 ∧ whole) :
        s.Acts (.pstateEnter ⟨latched, failed⟩) (stays ap source) := by
      have h := evPstateEnter_abandons htarget ho hwait htrig hwork hdepth failed hf hw
      refine acts_of rfl rfl ?_
      unfold State.alarmTaken at h
      show Tells _ _ _
      split
      · rw [if_pos ‹_›] at h; exact h
      · rw [if_neg ‹_›] at h; exact h
    refine ⟨fun hdue he failed => habandon failed ?_ (fun h => absurd h (by omega)), fun hdue => ⟨fun failed => acts_of rfl rfl ?_, ?_⟩⟩
    · simpa [State.entryHits, hdue, he] using foundFirst_one (0, 7)
    · have h := evPstateEnter_sleeps htarget ho hwait htrig hwork hdepth hdue failed
      unfold State.slept Store.inMode at h
      rw [(target_asleep htarget).2] at h
      exact h
    · intro ap source hap hwhole
      have hhits (latched : List Latched) : s.entryHits m latched = latched.filterMap (s.latchHit m s.votes) := by
        simp [State.entryHits, hdue]
      have hlatch {ap source : Nat} (hap : ap ≤ 4) (hw : wakes source) (before : Nat) :
          s.latchHit m before (.source ap source) = some (ap, source) :=
        latchHit_source hap hw.1 hw.2.1 hw.2.2.1 hw.2.2.2 before
      refine ⟨fun hw => ⟨habandon 0 ?_ fun h2 => ⟨rfl, hw.2.1, hwhole h2⟩, fun ap' source' hap' hw' hlt =>
        habandon 0 ?_ fun h2 => ⟨rfl, hw.2.1, hwhole h2⟩⟩, fun v hv hb hd => habandon 0 ?_ fun h2 => ⟨rfl, by omega, hwhole h2⟩⟩
      · simpa [hhits, hlatch hap hw] using foundFirst_one (ap, source)
      · simpa [hhits, hlatch hap hw, hlatch hap' hw'] using foundFirst_two hlt
      · simpa [hhits, latchHit_vote hap hv hb hd] using foundFirst_one (ap, 0)

end Sys2Proof.Machine
end

section
/-! PROOF. Where the statement of the channel commands fails: an operand that is no byte. -/

namespace Sys2Proof.Machine

variable {s u : State}

/-! What follows a command where nothing else waits. -/

theorem reply_waiting (s : State) (cl : Client) (r : Reply) : (s.reply cl r).io.waiting = s.io.waiting := by
  cases cl <;> rfl

/-- Where a command's effect begins nothing else waits to be done, if nothing did before and no trigger list fires. -/
theorem command_still (ho : s.Open) (hwait : s.io.waiting = []) (htrig : s.value .trigEnable 0 ≠ 1) (hwork : s.trig.work = [])
    (hdepth : s.trig.depth = 0) (cl : ExtClient) (c : Command) (st : Status) :
    (((s.taken c).answered cl c st).ordered c).Still := by
  have hround : s.spine.round = none := by
    have h := ho.listening
    simp only [State.listening, Bool.and_eq_true, Option.isNone_iff_eq_none] at h
    exact h.1.1.2
  have htell : ∃ n, Tells (s.taken c) ((s.taken c).applied (extClient cl) 0xFF c st) [n] := ⟨_, append_tells _ _ _ _ _ _ _⟩
  obtain ⟨n, htell⟩ := htell
  have hfires : ((s.taken c).applied (extClient cl) 0xFF c st).led.fires = [] :=
    (append_fires_off (s := s.taken c) htrig _ _ _ _ _ _).trans ho.rested.2
  obtain ⟨links, hl⟩ := ordered_links ((s.taken c).answered cl c st) c
  rw [hl]
  unfold State.answered
  have hwaits : (((s.taken c).applied (extClient cl) 0xFF c st).reply (extClient cl)
      (((s.taken c).applied (extClient cl) 0xFF c st).replyOf c st [])).io.waiting = [] := by
    rw [reply_waiting, htell.io]
    exact hwait
  constructor
  · exact hfires
  · exact (congrArg Trig.work htell.trig).trans hwork
  · exact (congrArg Trig.depth htell.trig).trans hdepth
  · exact (congrArg Spine.round htell.spine).trans hround
  · show State.nextInput _ (State.io _).waiting = none
    dsimp only [State.onSpine_io]
    rw [hwaits]
    rfl

theorem State.Still.onChan (h : s.Still) (ch : Nat) (f : Chan → Chan) : (s.onChan ch f).Still where
  fires := by simpa using h.fires
  work := by simpa using h.work
  depth := by simpa using h.depth
  round := by simpa using h.round
  waits := by
    rw [State.onChan_io, nextInput_io (s := s) _ _ (by simp) (by simp) (by simp)]
    exact h.waits

/-- What follows an input that leaves nothing to do leaves the channels alone. -/
theorem after_chan (s : State) (h : u.Still) (ch : Nat) : (s.after u).chan ch = u.chan ch := by
  rw [after_still s h, State.noted_chan, State.tagged_chan]

namespace State.Commanded

theorem chan {tag : BitVec 16} {v : State} (hv : s.Commanded tag v) (n : Nat) : v.chan n = s.chan n := by rw [hv.rest]; rfl

end State.Commanded

/-! CHAN_CLEAR_TRIP (R226). -/

/-- CHAN_CLEAR_TRIP of a channel that is locked clears the lock. -/
theorem doClearTrip_locked {ch : Nat} (h : (s.chan ch).state = .locked) :
    s.doClearTrip ch = s.onChan ch fun c => { c with state := .off, lock := none, retries := 0, offCheck := .none } := by
  unfold State.doClearTrip
  rw [h]

/-- CHAN_CLEAR_TRIP acts on the channel that its byte names. -/
theorem chanClearTrip_carries (s : State) (h : CmdHeader) {n : Nat} (hn : n < 256) :
    s.Carries (.chanClearTrip h (b8 n)) fun v u => u = v.doClearTrip n :=
  carries_effect rfl rfl fun v _ => congrArg v.doClearTrip (headerCommand_p0 h _ hn)

/-! A device whose AUX1 is locked. -/

/-- A device in RUN with its trigger lists off, whose AUX1, channel 17, is locked. -/
def auxLocked : State :=
  ({ State.reset with mode := .run, phase := .up }.setValue .trigEnable 0 0).onChan 17 fun c =>
    { c with state := .locked, lock := some 0 }

/-- A header of the USB host. -/
def usbHeader : CmdHeader := { client := .c0, tag := 0 }

/-- CHAN_CLEAR_TRIP of AUX1. -/
def clearAux : Command := headerCommand usbHeader .chanClearTrip (b8 17)

theorem auxLocked_open : auxLocked.Open := ⟨by decide, by decide, by decide, by decide⟩

theorem auxLocked_takes : auxLocked.Takes .c0 clearAux := ⟨auxLocked_open, by decide, by decide⟩

theorem auxLocked_admits : (auxLocked.taken clearAux).refusal .c0 clearAux = none := by decide

/-- Where the effect of that command begins. -/
def auxTaken : State := ((auxLocked.taken clearAux).answered .c0 clearAux .done).ordered clearAux

theorem auxTaken_still : auxTaken.Still :=
  command_still auxLocked_open (by decide) (by decide) (by decide) (by decide) _ _ _

theorem auxTaken_locked : (auxTaken.chan 17).state = .locked := by
  have h : auxTaken.chan 17 = auxLocked.chan 17 := (commanded auxLocked usbHeader clearAux .done).chan 17
  rw [h]
  decide

/-- Refutes O51: the clause of CHAN_CLEAR_TRIP on any channel takes every number, and 273, which names no channel and so is not
locked, spells the byte of AUX1. The lock of AUX1 goes, where the statement leaves AUX1 as it is. -/
theorem not_channelCommands : ¬ Obligations.ChannelCommands := by
  unfold Obligations.ChannelCommands
  intro h
  obtain ⟨-, hclear, -⟩ := h auxLocked usbHeader 273
  obtain ⟨u, hu, -, hstated⟩ := hclear usbHeader .chanClearTrip (b8 17) rfl auxLocked_takes auxLocked_admits
  obtain ⟨t, ht, hdone⟩ := chanClearTrip_carries auxLocked usbHeader (n := 17) (by decide) usbHeader .chanClearTrip (b8 17) rfl
    auxLocked_takes auxLocked_admits
  have hu17 : ((auxLocked.after u).chan 17).state = .locked := by
    rw [hstated (by decide)]
    change ((auxLocked.after (auxTaken.onChan 273 _)).chan 17).state = .locked
    rw [after_chan _ (auxTaken_still.onChan _ _), State.onChan_chan, if_neg (by decide)]
    exact auxTaken_locked
  have ht17 : ((auxLocked.after t).chan 17).state = .off := by
    have hclears := hdone.trans (doClearTrip_locked auxTaken_locked)
    rw [hclears]
    change ((auxLocked.after (auxTaken.onChan 17 _)).chan 17).state = .off
    rw [after_chan _ (auxTaken_still.onChan _ _), State.onChan_chan, if_pos (by decide)]
  have hsame : auxLocked.after u = auxLocked.after t := Host.Outcome.next.inj (hu.symm.trans ht)
  rw [hsame, ht17] at hu17
  exact ChanState.noConfusion hu17

end Sys2Proof.Machine
end

section
/-! PROOF. What is turned off and powered again when a die, a block or a mode goes: entries are appended, and the Spine, the cause of the last reset and its detail stand. -/

namespace Sys2Proof.Machine

variable {b s t : State}

/-- From one state to a later one entries are appended; the Spine and the reset's cause and detail are as they were. -/
structure State.Grows (b t : State) : Prop where
  logs : ∃ l, Logs b t l
  spine : t.spine = b.spine
  cause : t.ember.cause = b.ember.cause
  detail : t.ember.detail = b.ember.detail

namespace State.Grows

theorem refl (h : s.led.ring.length ≤ 4096) : s.Grows s := ⟨⟨[], Logs.nil s s rfl rfl h⟩, rfl, rfl, rfl⟩

section Changes
variable (h : b.Grows s)
include h

/-! The state's operations. -/

/-- A change of none of what is watched. -/
theorem of (hnext : t.led.next = s.led.next) (hring : t.led.ring = s.led.ring) (hspine : t.spine = s.spine)
    (hcause : t.ember.cause = s.ember.cause) (hdetail : t.ember.detail = s.ember.detail) : b.Grows t where
  logs := by
    obtain ⟨l, hl⟩ := h.logs
    refine ⟨l, ?_⟩
    unfold Logs at hl ⊢
    rwa [hnext, hring]
  spine := hspine.trans h.spine
  cause := hcause.trans h.cause
  detail := hdetail.trans h.detail

theorem append (e : Bool) (die block : Nat) (k : Kind) (n : Nat) (d : List Byte) : b.Grows (s.append e die block k n d) where
  logs := by
    obtain ⟨l, hl⟩ := h.logs
    exact ⟨_, hl.trans (append_logs s e die block k n d)⟩
  spine := (append_spine ..).trans h.spine
  cause := by rw [append_told]; exact h.cause
  detail := by rw [append_told]; exact h.detail

theorem tagged (tag : BitVec 16) : b.Grows (s.tagged tag) := h.of rfl rfl rfl rfl rfl
theorem withOps (l : List PendingOp) : b.Grows { s with ops := l } := h.of rfl rfl rfl rfl rfl
theorem withMode (m : Mode) (g : Store) : b.Grows { s with mode := m, store := g } := h.of rfl rfl rfl rfl rfl
theorem onPw (f : Power → Power) : b.Grows (s.onPw f) := h.of rfl rfl rfl rfl rfl
theorem onStore (f : Store → Store) : b.Grows (s.onStore f) := h.of rfl rfl rfl rfl rfl
theorem onForager (f : Forager → Forager) : b.Grows (s.onForager f) := h.of rfl rfl rfl rfl rfl
theorem onSeg (n : Nat) (f : Seg → Seg) : b.Grows (s.onSeg n f) := h.of rfl rfl rfl rfl rfl
theorem onPort (n : Nat) (f : Port → Port) : b.Grows (s.onPort n f) := h.of (by simp) (by simp) (by simp) (by simp) (by simp)
theorem onBus (n : Nat) (f : Bus → Bus) : b.Grows (s.onBus n f) := h.onPort n _
theorem onPd (n : Nat) (f : Pd → Pd) : b.Grows (s.onPd n f) := h.onPort n _
theorem onChan (n : Nat) (f : Chan → Chan) : b.Grows (s.onChan n f) := h.of (by simp) (by simp) (by simp) (by simp) (by simp)

theorem ite {c : Prop} [Decidable c] (ht : b.Grows t) : b.Grows (if c then s else t) := by
  split
  · exact h
  · exact ht

theorem foldl {α : Type} (l : List α) {f : State → α → State} (hf : ∀ u a, b.Grows u → b.Grows (f u a)) :
    b.Grows (l.foldl f s) := by
  induction l generalizing s with
  | nil => exact h
  | cons a l ih => exact ih (hf s a h)

theorem each (l : List Nat) {f : Nat → State → State} (hf : ∀ u n, b.Grows u → b.Grows (f n u)) : b.Grows (s.each l f) :=
  h.foldl l hf

theorem when (c : Bool) {f : State → State} (hf : b.Grows s → b.Grows (f s)) : b.Grows (s.when c f) := by
  unfold State.when
  exact ite (hf h) h

theorem completion (o : PendingOp) (st : Status) (e : Bool) : b.Grows (s.completion o st e) :=
  h.ite (((h.tagged _).append ..).tagged _)

theorem endOps (subj : Subject) (st : Status) (e : Bool) : b.Grows (s.endOps subj st e) := by
  unfold State.endOps
  exact (h.withOps _).foldl _ fun _ _ hu => hu.completion _ _ _

theorem endOpsOf (subj : Subject) (codes : List Opcode) (st : Status) (e : Bool) : b.Grows (s.endOpsOf subj codes st e) := by
  unfold State.endOpsOf
  exact (h.withOps _).foldl _ fun _ _ hu => hu.completion _ _ _

/-! Grants and reservations (R230). -/

theorem setGrant (p cause new other : Nat) : b.Grows (s.setGrant p cause new other) := (h.onPort _ _).append ..

theorem releaseGrant (p : Nat) : b.Grows (s.releaseGrant p) := (h.onPort _ _).ite (h.setGrant _ _ _ _)

theorem callCaps (p : Nat) : b.Grows (s.callCaps p) := h.onPort _ _

theorem takeFrom (p : Nat) (d : Nat × Nat) : b.Grows (s.takeFrom p d) := ((h.onPort _ _).setGrant _ _ _ _).callCaps _

theorem reserve {p : Nat} {reclaim : Bool} (ht : s.reserve p reclaim = some t) : b.Grows t := by
  unfold State.reserve at ht
  extract_lets want free plan a at ht
  split at ht
  · cases ht
  · rw [← Option.some.inj ht]
    have hu := h.foldl plan fun _ d hu => hu.takeFrom p d
    exact hu.ite (hu.setGrant _ _ _ _)

/-! Transfers and modes. -/

theorem surplusEntries (n seg addr : Nat) (l : List Byte) : b.Grows (State.surplusEntries n s seg addr l) := by
  induction n generalizing s l with
  | zero => exact h
  | succ n ih =>
    unfold State.surplusEntries
    split
    · exact h
    · exact ih (h.append ..) _

theorem endTransfer (seg : Nat) (x : Transfer) (st : Status) (l : List Byte) (e : Bool) :
    b.Grows (s.endTransfer seg x st l e) :=
  ((((h.tagged _).surplusEntries _ _ _ _).tagged _).onSeg _ _).completion _ _ _

theorem failTransfer (seg reason : Nat) (acked : Option Nat) : b.Grows (s.failTransfer seg reason acked) := by
  unfold State.failTransfer
  split
  · exact h
  · rename_i x _
    cases acked with
    | some n => exact (h.onSeg _ _).endTransfer _ _ _ _ _
    | none =>
      have hacked : b.Grows (s.ackedBytes x).2 := h.of rfl rfl rfl rfl rfl
      exact (hacked.onSeg _ _).endTransfer _ _ _ _ _

theorem untether (seg : Nat) (closed : Bool) : b.Grows (s.untether seg closed) :=
  ((h.onSeg _ _).failTransfer _ _ _).ite (h.onSeg _ _)

theorem exitMode (p : Nat) : b.Grows (s.exitMode p) := by
  have hentry (m : AltMode) : b.Grows (((s.onPd p fun d => { d with mode := none, sbuClosed := false, sbuClosing := false }).pdEntry p
      true .pdMode (b8 0 ++ b16 m.svid ++ b8 m.mode ++ b8 (m.seg.getD 0xFF)))) := (h.onPd _ _).append ..
  unfold State.exitMode
  split
  · exact h
  · dsimp only
    split
    · exact (hentry _).untether _ _
    · exact hentry _

theorem endPower (p : Nat) : b.Grows (s.endPower p) := (h.exitMode _).onPort _ _

theorem stopSegment (n : Nat) (st : Status) (e : Bool) : b.Grows (s.stopSegment n st e) := by
  have hstop := foldl (onSeg (h.of (t := s.cutInside.2) rfl rfl rfl rfl rfl) n fun g =>
    { g with running := none, queue := [], attention := false, stretched := false, recovery := .none,
             pulsesDone := 0, recoverOp := none, midbyte := g.midbyte || (g.running.isSome && s.cutInside.1) })
    (s.seg n).transfers fun u x hu => hu.endTransfer n x st [] e
  unfold State.stopSegment
  dsimp only
  split
  · exact hstop.completion _ _ _
  · exact hstop

theorem resetSegments (ns : List Nat) (e : Bool) : b.Grows (s.resetSegments ns e) :=
  h.each _ fun _ _ hu => hu.stopSegment _ _ _

/-! Ports and channels turned on. -/

theorem closeP1 (p grant : Nat) : b.Grows (s.closeP1 p grant) := ((h.onPd _ _).append ..).ite h

theorem issueP1 (p : Nat) : b.Grows (s.issueP1 p) := by
  have hissued := (h.onPd p fun d => { d with
    p1 := ⟨1, (s.pdoSet p (s.ceiling p)).length, inDeciwatts (highest (s.pdoSet p (s.ceiling p)))⟩
    provCaps := some (s.pdoSet p (s.ceiling p)) }).append false 0 blkPd .provIssued p
      (b8 1 ++ b8 (s.pdoSet p (s.ceiling p)).length ++ b16 (inDeciwatts (highest (s.pdoSet p (s.ceiling p)))) ++ b16 0)
  exact (hissued.closeP1 _ _).ite hissued

theorem negotiate (p : Nat) (p1 : Bool) : b.Grows (s.negotiate p p1) := by
  unfold State.negotiate
  have hvconn : b.Grows (s.vconnUp p) := h.onPort _ _
  exact ((hvconn.onPd _ _).issueP1 _).ite (hvconn.onPd _ _)

theorem chanUp (ch cause : Nat) (e : Bool) : b.Grows (s.chanUp ch cause e) :=
  ((h.onChan _ _).when _ fun hu => hu.onBus _ _).append ..

theorem powerPort (p cause : Nat) (e p1 : Bool) : b.Grows (s.powerPort p cause e p1) :=
  ((h.onPort _ _).chanUp _ _ _).negotiate _ _

theorem reserveAndPower (p cause : Nat) (e reclaim p1 : Bool) : b.Grows (s.reserveAndPower p cause e reclaim p1) := by
  unfold State.reserveAndPower
  split
  · rename_i ht
    exact (h.reserve ht).powerPort _ _ _ _
  · exact h.onPort _ _

theorem noteAwaits (p : Nat) : b.Grows (s.noteAwaits p) := (h.onBus _ _).ite h

theorem serveWaiting (p : Nat) : b.Grows (s.serveWaiting p) := by
  unfold State.serveWaiting
  split
  · split
    · rename_i ht
      exact (h.reserve ht).powerPort _ _ _ _
    · exact h
  · exact h

theorem serveClaim (p : Nat) : b.Grows (s.serveClaim p) := ((h.setGrant _ _ _ _).callCaps _).ite h

theorem redistribute : b.Grows s.redistribute :=
  (h.each _ fun _ _ hu => hu.serveWaiting _).each _ fun _ _ hu => hu.serveClaim _

/-! Ports and channels turned off. -/

theorem chanDown (ch cause : Nat) (e : Bool) : b.Grows (s.chanDown ch cause e) :=
  (((h.onChan _ _).onChan _ _).append ..).ite h

theorem portOff (p cause : Nat) (e : Bool) (st : Status) (byEvent : Bool) : b.Grows (s.portOff p cause e st byEvent) :=
  ((((h.closeP1 _ _).chanDown _ _ _).endPower _).releaseGrant _).endOps _ _ _

theorem sbOffAll (st : Status) (byEvent : Bool) : b.Grows (s.sbOffAll st byEvent) :=
  h.each _ fun _ _ hu => hu.ite ((hu.portOff _ _ _ _ _).ite (hu.chanDown _ _ _))

theorem detach (p cause chanCause : Nat) (e : Bool) (st : Status) (byEvent : Bool) :
    b.Grows (s.detach p cause chanCause e st byEvent) := by
  unfold State.detach State.clearAttach
  exact (((((h.exitMode _).append ..).portOff _ _ _ _ _).onPort _ _).onChan _ _).onPw _

theorem detachAll (die cause : Nat) (byEvent : Bool) : b.Grows (s.detachAll die cause byEvent) :=
  h.each _ fun _ _ hu => (hu.detach _ _ _ _ _ _).ite hu

theorem endPortOps (die : Nat) (byEvent : Bool) : b.Grows (s.endPortOps die byEvent) :=
  h.each _ fun _ _ hu => hu.endOps _ _ _

theorem testReset (die : Nat) (inMask : Nat → Bool) (byEvent : Bool) : b.Grows (s.testReset die inMask byEvent) :=
  ((h.onForager _).endOps _ _ _).ite h

theorem dropBus (p : Nat) (e : Bool) : b.Grows (s.dropBus p e) := (h.onBus _ _).endOpsOf _ _ _ _

/-! The loss of a die, and the reset of a block (R97). -/

theorem dieDown (die cause : Nat) (byEvent : Bool) : b.Grows (s.dieDown die cause byEvent) :=
  ite (((((h.sbOffAll _ _).onStore _).endOps _ _ _).resetSegments _ _).testReset _ _ _)
    (((h.detachAll _ _ _).endPortOps _ _).testReset _ _ _)

theorem blockEffect (die blk : Nat) (byEvent : Bool) : b.Grows (s.blockEffect die blk byEvent) := by
  unfold State.blockEffect
  have hops := (h.endPortOps die byEvent).ite (c := blk = blkUsb2 ∨ blk = blkUsb3 ∨ blk = blkPd) h
  refine ite (hops.each _ fun u p hu => ?_) (ite (hops.each _ fun u p hu => ?_) (ite (hops.detachAll _ _ _)
    (ite (hops.each _ fun u ch hu => ?_) (ite ((hops.onStore _).endOps _ _ _) ((hops.resetSegments _ _).ite hops)))))
  · exact (hu.onBus _ _).ite ((hu.onBus _ _).dropBus _ _)
  · exact ite ((hu.onBus _ _).ite ((hu.onBus _ _).dropBus _ _)) hu
  · exact hu.ite ((hu.portOff _ _ _ _ _).ite (hu.chanDown _ _ _))

/-! The mode (R25). -/

theorem modeTo (m : Mode) (reason : Nat) (e : Bool) : b.Grows (s.modeTo m reason e) := by
  unfold State.modeTo
  exact h.ite ((h.withMode _ _).append ..)

theorem shedPort (p : Nat) : b.Grows (s.shedPort p) := by
  unfold State.shedPort
  exact ((h.portOff _ _ _ _ _).onPort _ _).onPw _

theorem shedClasses (l : List Nat) : b.Grows (s.shedClasses l) :=
  (h.foldl l fun _ _ hu => hu.each _ fun _ _ hv => hv.shedPort _).redistribute

theorem restoreShed : b.Grows s.restoreShed :=
  (h.onPw _).each _ fun _ p hu =>
    have hshed := hu.onPort p fun q => { q with shed := false }
    hshed.ite ((hshed.noteAwaits _).ite ((hshed.onPort _ _).ite (hshed.reserveAndPower _ _ _ _ _)))

theorem stagePad (ch : Nat) (on : Bool) : b.Grows (s.stagePad ch on) := h.of rfl rfl rfl rfl rfl

theorem auxAuto : b.Grows s.auxAuto :=
  h.each _ fun _ _ hu => ite (ite (hu.stagePad _ _) (hu.chanUp _ _ _)) hu

theorem entered (old : Mode) : b.Grows (s.entered old) := by
  unfold State.entered
  refine when (when (when (when h _ fun hu => ?_) _ fun hu => ?_) _ fun hu => ?_) _ fun hu => ?_
  · exact hu.sbOffAll _ _
  · exact (hu.onPw _).shedClasses _
  · exact hu.restoreShed
  · exact hu.auxAuto

theorem reselect (reason : Nat) (e : Bool) : b.Grows (s.reselect reason e) := by
  unfold State.reselect
  split
  iterate 5 exact h
  · exact ((h.modeTo _ _ _).entered _).ite h
  · exact h.ite ((h.modeTo _ _ _).entered _)

end Changes
end State.Grows

end Sys2Proof.Machine
end

section
/-! PROOF. The commands on the device as a whole. -/

namespace Sys2Proof.Machine

variable {s t u v X : State}

namespace State.Commanded
variable {tag : BitVec 16} (hv : s.Commanded tag v)
include hv

theorem mode : v.mode = s.mode := by rw [hv.rest]
theorem pw : v.pw = s.pw := by rw [hv.rest]
theorem hub : v.hub = s.hub := by rw [hv.rest]
theorem latched : v.ember.latched = s.ember.latched := by rw [hv.rest]
theorem staged : v.ember.staged = s.ember.staged := by rw [hv.rest]

end State.Commanded

/-! Operands as bytes. -/

theorem toNat_byte {n : Nat} (h : n < 256) : (BitVec.ofNat 8 n).toNat = n := by
  rw [BitVec.toNat_ofNat, Nat.mod_eq_of_lt h]

/-- An external client is not C2. -/
theorem extClient_external (cl : ExtClient) : (extClient cl != .c2) = true := by cases cl <;> rfl

/-! Votes, levels and pads (R139, R154, R157). -/

theorem setLevel_same {n : Nat} (h : s.pw.level = n) : s.setLevel n = s := if_pos h

/-- PL_SET of another level changes it, and VCORE_SEL with it. -/
theorem setLevel_tells {n : Nat} (h : s.pw.level ≠ n) :
    Tells (s.onPw fun w => { w with level := n, vcoreSel := n, plChanges := w.plChanges + 1 }) (s.setLevel n)
      [noteOf s.led.tag false 0 blkPower .plChange 0 (b8 s.pw.level ++ b8 n)] := by
  unfold State.setLevel
  rw [if_neg h]
  exact append_tells (s.onPw _) _ _ _ _ _ _

theorem releasePads_open (h : s.ember.latched = false) : s.releasePads = s := by
  unfold State.releasePads
  rw [h]
  rfl

/-- The latches open with nothing staged and no retry that waits. -/
theorem releasePads_tells (h : s.ember.latched = true) (hs : s.ember.staged = [])
    (hr : ∀ ch, isAux ch = true → (s.chan ch).retryWaits = false) :
    Tells (s.onEmber fun e => { e with latched := false }) s.releasePads
      [noteOf s.led.tag false 0 blkPower .padRelease 0 (b16 0)] := by
  have hopen : (s.onEmber fun e => { e with latched := false, staged := [] }) = s.onEmber fun e => { e with latched := false } := by
    unfold State.onEmber
    rw [← hs]
  unfold State.releasePads
  rw [h, hs, hopen]
  simp only [Bool.not_true, Bool.false_eq_true, if_false, List.foldl_nil, List.length_nil]
  rw [State.each_id]
  · exact append_tells (s.onEmber _) _ _ _ _ _ _
  · intro ch hch
    rw [mem_upTo] at hch
    have haux : isAux ch = true := by simp [isAux, hch]
    rw [append_chan, State.onEmber_chan, hr ch haux]
    rfl

/-! The SERVICE condition (R25, R284). -/

/-- RUN, STANDALONE and SERVICE: a change from one to another brings nothing else about. -/
def Mode.operates (m : Mode) : Bool := m == .run || m == .standalone || m == .service

theorem entered_operates {old : Mode} (hm : s.mode.operates = true) (ho : old.operates = true)
    (hs : s.mode = .service ∨ old = .service) : s.entered old = s := by
  unfold State.entered State.when
  cases hmode : s.mode <;> cases old <;> simp_all [Mode.operates]

/-- A change of mode between RUN or STANDALONE and SERVICE is `MODE_CHANGE`, and what the Honeystore does in the new mode. -/
theorem reselect_tells {m : Mode} (hold : s.mode.operates = true) (hm : m.operates = true) (hs : m = .service ∨ s.mode = .service)
    (hc : s.chosenMode = m) (hne : m ≠ s.mode) (reason : Nat) :
    Tells { s with mode := m, store := s.store.inMode m } (s.reselect reason false)
      [noteOf s.led.tag false 0 blkPower .modeChange 0 (b8 s.mode.code ++ b8 m.code ++ b8 reason)] := by
  have hto := append_tells { s with mode := m, store := s.store.inMode m } false 0 blkPower .modeChange 0
    (b8 s.mode.code ++ b8 m.code ++ b8 reason)
  have hmode : s.modeTo m reason false = State.append { s with mode := m, store := s.store.inMode m } false 0 blkPower .modeChange 0
      (b8 s.mode.code ++ b8 m.code ++ b8 reason) := by
    unfold State.modeTo
    rw [if_neg hne.symm]
    rfl
  have hsel : s.reselect reason false = (s.modeTo m reason false).entered s.mode := by
    unfold State.reselect
    split
    iterate 6 exact absurd hold (by rw [‹s.mode = _›]; decide)
    rw [hc]
    exact if_neg hne
  rw [hsel, hmode, entered_operates _ hold]
  · exact hto
  · rw [hto.mode]; exact hs
  · rw [hto.mode]; exact hm

/-- The mode of Table 01-7 outside SAFE and CRANK. -/
theorem chosenMode_operates (hsafe : s.safeCondition = false) (hcrank : s.pw.crank = false) :
    s.chosenMode = if s.pw.service = true then .service else if s.hub.upVbus = true then .run else .standalone := by
  unfold State.chosenMode
  rw [hsafe, hcrank]
  rfl

/-- SERVICE entered from RUN or STANDALONE (R284). -/
theorem setService_enters (hsafe : s.safeCondition = false) (hcrank : s.pw.crank = false)
    (hold : s.mode = .run ∨ s.mode = .standalone) :
    Tells { s with mode := .service, pw := { s.pw with service := true }, store := s.store.inMode .service } (s.setService true)
      [noteOf s.led.tag false 0 blkPower .modeChange 0 (b8 s.mode.code ++ b8 Mode.service.code ++ b8 0)] := by
  have hmode : s.mode.operates = true ∧ Mode.service ≠ s.mode := by
    rcases hold with h | h <;> rw [h] <;> decide
  exact reselect_tells (s := s.onPw fun w => { w with service := true }) hmode.1 rfl (.inl rfl)
    (chosenMode_operates hsafe hcrank) hmode.2 0

/-- SERVICE left for the mode that upstream VBUS chooses (R25, R284). -/
theorem setService_leaves (hsafe : s.safeCondition = false) (hcrank : s.pw.crank = false) (hold : s.mode = .service) :
    let m := if s.hub.upVbus = true then Mode.run else .standalone
    Tells { s with mode := m, pw := { s.pw with service := false }, store := s.store.inMode m } (s.setService false)
      [noteOf s.led.tag false 0 blkPower .modeChange 0 (b8 Mode.service.code ++ b8 m.code ++ b8 0)] := by
  intro m
  have hm : m.operates = true ∧ m ≠ .service := by
    by_cases h : s.hub.upVbus = true <;> simp [m, h, Mode.operates]
  have h := reselect_tells (s := s.onPw fun w => { w with service := false }) (by rw [State.onPw_mode, hold]; rfl) hm.1 (.inr hold)
    (chosenMode_operates hsafe hcrank) (by rw [State.onPw_mode, hold]; exact hm.2) 0
  rw [State.onPw_mode, hold] at h
  exact h

/-! Commands that only Hive carries out (R10): they leave the Spine as it is. -/

theorem carries_hive {i : Instr} {R : State → State → Prop} {h : CmdHeader} {op : Opcode} {p : List Byte}
    (hc : commandOf i = some (h, op, p)) (ro : op.readOnly = false) (hn : (headerCommand h op p).orderedTo = none)
    (r : ∀ v, s.Commanded h.tag v → v.spine = s.spine →
      R v (v.effect (extClient h.client) (headerCommand h op p) (v.operation (extClient h.client) (headerCommand h op p)))) :
    s.Carries i R :=
  carries_of hc (exec_command hc) ro fun _ _ => by
    intro w
    have hordered : w.ordered (headerCommand h op p) = w := by
      unfold State.ordered
      rw [hn]
    rw [hordered]
    refine r w (hordered ▸ commanded s h (headerCommand h op p) _) ?_
    exact append_spine (s.taken (headerCommand h op p)) _ _ _ _ _ _

theorem orderedTo_serviceEnter (h : CmdHeader) (p : List Byte) : (headerCommand h .serviceEnter p).orderedTo = none :=
  if_neg (by decide : ¬ (Opcode.serviceEnter.family = 2 ∨ Opcode.serviceEnter.family = 4))

theorem orderedTo_modeRequest (h : CmdHeader) (p : List Byte) : (headerCommand h .modeRequest p).orderedTo = none :=
  if_neg (by decide : ¬ (Opcode.modeRequest.family = 2 ∨ Opcode.modeRequest.family = 4))

theorem safeCondition_of_spine (h : t.spine = s.spine) : t.safeCondition = s.safeCondition := by
  unfold State.safeCondition State.die State.link
  rw [h]

/-! RESET of a die and of blocks (R95, R97, R122). -/

/-- What a first entry and the entries after it say, and what they leave as it was. -/
theorem Tells.then_grows {n : Note} (h : Tells X u [n]) (hled : X.led = s.led) (hg : u.Grows t) :
    (∃ l, Logs s t (n :: l)) ∧ t.spine = X.spine ∧ t.ember.cause = X.ember.cause ∧ t.ember.detail = X.ember.detail := by
  obtain ⟨l, hl⟩ := hg.logs
  have hfirst : Logs s u [n] := by
    have hx := h.1
    unfold Logs at hx ⊢
    rwa [hled] at hx
  refine ⟨⟨l, hfirst.trans hl⟩, hg.spine.trans h.spine, hg.cause.trans ?_, hg.detail.trans ?_⟩
  · rw [h.2]; rfl
  · rw [h.2]; rfl

theorem onDie_die_self (s : State) {d : Nat} (hd : d ≤ 3) (f : Die → Die) : (s.onDie d f).die d = f (s.die d) := by
  rw [State.onDie_die, if_pos ⟨rfl, by omega⟩]

theorem die_of_spine (h : t.spine = s.spine) (d : Nat) : t.die d = s.die d := by
  unfold State.die
  rw [h]

theorem begun_die (s : State) (o : PendingOp) (d : Nat) : (s.begun o).die d = s.die d := rfl

/-- A die whose quarantine a RESET releases, and which takes part again. -/
def Die.released (d : Die) : Die := { d with quarantined := false, absent := false, awaited := 0 }

/-- RESET of scope 1: the L2 reset of the die, with its entry first; a quarantine is released. -/
theorem doResetDie_resets {d : Nat} (hd : d ≤ 3) {tag : BitVec 16} (ht : s.led.tag = tag) (e : Bool) :
    (∃ l, Logs s (s.doResetDie d tag e) (noteOf tag e 3 blkReset .resetBlock d (b8 2 ++ b32 (dieBlocks d) ++ b8 4) :: l)) ∧
      (s.doResetDie d tag e).die d = (s.die d).released.underL2 ∧
      (s.doResetDie d tag e).ember.cause = s.ember.cause ||| 0x10 ∧
      (s.doResetDie d tag e).ember.detail = BitVec.ofNat 32 (4 * 0x1000000 + tag.toNat) := by
  subst ht
  set w := (s.onDie d Die.released).setCause 4 s.led.tag.toNat
  have hentry := (append_tells w e 3 blkReset .resetBlock d (b8 2 ++ b32 (dieBlocks d) ++ b8 4)).onDie d Die.underL2
  have hall : State.Grows _ (s.doResetDie d s.led.tag e) :=
    ((State.Grows.refl hentry.1.bound).dieDown d 0 false).redistribute.reselect 1 false
  obtain ⟨hlogs, hspine, hcause, hdetail⟩ := hentry.then_grows (s := s) rfl hall
  have htag : s.led.tag.toNat % 0x1000000 = s.led.tag.toNat := Nat.mod_eq_of_lt (by omega)
  refine ⟨hlogs, ?_, hcause, hdetail.trans ?_⟩
  · have hdie : w.die d = (s.die d).released := onDie_die_self s hd _
    rw [die_of_spine hspine d, onDie_die_self w hd, hdie]
  · show BitVec.ofNat 32 (4 * 0x1000000 + s.led.tag.toNat % 0x1000000) = _
    rw [htag]

/-- A die of which a RESET awaits blocks, and one with more blocks inside a reset. -/
def Die.awaiting (mask : Nat) (d : Die) : Die := { d with awaited := BitVec.ofNat 18 mask }
def Die.closing (mask : Nat) (d : Die) : Die := { d with blocks := d.blocks ||| BitVec.ofNat 18 mask }

/-- RESET of scope 2: the L3 reset of the blocks, with its entry first. -/
theorem doResetBlocks_resets {d : Nat} (hd : d ≤ 3) (mask : Nat) {tag : BitVec 16} (ht : s.led.tag = tag) (e : Bool) :
    (∃ l, Logs s (s.doResetBlocks d mask tag e) (noteOf tag e 3 blkReset .resetBlock d (b8 3 ++ b32 mask ++ b8 4) :: l)) ∧
      (s.doResetBlocks d mask tag e).die d = ((s.die d).awaiting mask).closing mask ∧
      (s.doResetBlocks d mask tag e).ember.cause = s.ember.cause ||| 0x10 := by
  subst ht
  set w := (s.onDie d (Die.awaiting mask)).setCause 4 s.led.tag.toNat
  have hentry := (append_tells w e 3 blkReset .resetBlock d (b8 3 ++ b32 mask ++ b8 4)).onDie d (Die.closing mask)
  have hall : State.Grows _ (s.doResetBlocks d mask s.led.tag e) :=
    (((State.Grows.refl hentry.1.bound).foldl ((upTo 0 17).filter fun k => mask.testBit k)
    fun _ k hu => hu.blockEffect d k false).testReset d mask.testBit false).redistribute
  obtain ⟨hlogs, hspine, hcause, -⟩ := hentry.then_grows (s := s) rfl hall
  refine ⟨hlogs, ?_, hcause⟩
  have hdie : w.die d = (s.die d).awaiting mask := onDie_die_self s hd _
  rw [die_of_spine hspine d, onDie_die_self w hd, hdie]

/-! The effects, with their operands read. -/

section Effects
variable (v) (cl : Client) (h : CmdHeader) (o : PendingOp)

theorem effect_voteSet {n : Nat} (hn : n < 256) :
    v.effect cl (headerCommand h .voteSet (b8 n)) o = v.setVotes (BitVec.ofNat 4 n) :=
  congrArg (fun k => v.setVotes (BitVec.ofNat 4 k)) (headerCommand_p0 h _ hn)

theorem effect_voteClear {n : Nat} (hn : n < 256) :
    v.effect cl (headerCommand h .voteClear (b8 n)) o = v.clearVotes (BitVec.ofNat 4 n) :=
  congrArg (fun k => v.clearVotes (BitVec.ofNat 4 k)) (headerCommand_p0 h _ hn)

theorem effect_plSet {n : Nat} (hn : n < 256) : v.effect cl (headerCommand h .plSet (b8 n)) o = v.setLevel n :=
  congrArg v.setLevel (headerCommand_p0 h _ hn)

theorem effect_ledgerMark {lsn : Nat} (hl : lsn < 2 ^ 64) :
    v.effect cl (headerCommand h .ledgerMark (leBytes 8 lsn)) o = v.doMark (lsn % 2 ^ 48) := by
  have he : v.effect cl (headerCommand h .ledgerMark (leBytes 8 lsn)) o = v.doMark (leNat (leBytes 8 lsn) % 2 ^ 48) := rfl
  rw [he, leNat_leBytes 8 lsn (by omega)]

theorem effect_resetDie {d : Nat} (hd : d < 256) :
    v.effect cl (headerCommand h .reset (b8 1 ++ b8 d ++ b32 0)) o = (v.begun o).doResetDie d h.tag (cl != .c2) := by
  have he : v.effect cl (headerCommand h .reset (b8 1 ++ b8 d ++ b32 0)) o =
      (v.begun o).doResetDie (BitVec.ofNat 8 d).toNat h.tag (cl != .c2) := rfl
  rw [he, toNat_byte hd]

theorem effect_resetBlocks {d mask : Nat} (hd : d < 256) (hm : mask < 2 ^ 32) :
    v.effect cl (headerCommand h .reset (b8 2 ++ b8 d ++ b32 mask)) o = (v.begun o).doResetBlocks d mask h.tag (cl != .c2) := by
  have he : v.effect cl (headerCommand h .reset (b8 2 ++ b8 d ++ b32 mask)) o =
      (v.begun o).doResetBlocks (BitVec.ofNat 8 d).toNat (leAt (b32 mask) 0 4) h.tag (cl != .c2) := rfl
  rw [he, toNat_byte hd, leAt_b32 hm]

theorem effect_testRun {n : Nat} (hn : n < 256) (arg : Word) :
    v.effect cl (headerCommand h .testRun (b8 n ++ [0, 0, 0] ++ b32 arg.toNat)) o = (v.begun o).doTestRun n arg := by
  have he : v.effect cl (headerCommand h .testRun (b8 n ++ [0, 0, 0] ++ b32 arg.toNat)) o =
      (v.begun o).doTestRun (BitVec.ofNat 8 n).toNat (BitVec.ofNat 32 (leAt (b32 arg.toNat) 0 4)) := rfl
  rw [he, toNat_byte hn, leAt_b32 arg.isLt, BitVec.ofNat_toNat, BitVec.setWidth_eq]

theorem effect_holdTapTest {n : Nat} (hn : n < 256) :
    v.effect cl (headerCommand h .holdTapTest (b8 n)) o = (v.begun o).doTapTest n :=
  congrArg (State.doTapTest _) (headerCommand_p0 h _ hn)

end Effects

/-- A command names one tap (R241). -/
theorem doTapTest_one {n : Nat} (hn : n ≠ 0xFF) : s.doTapTest n = s.onStore fun g =>
    { g with tapFailed := false, tapTesting := g.tapTesting ||| tapBit n, tapCommand := g.tapCommand ||| tapBit n } := by
  unfold State.doTapTest State.startTaps
  simp only [if_neg hn, List.foldl_cons, List.foldl_nil, BitVec.zero_or, if_true]
  rfl

/-- What the RESET of one die does (R95, R97, R122). -/
theorem carries_resetDie (h : CmdHeader) {d : Nat} (hd : d ≤ 3) : s.Carries (.reset h (b8 1 ++ b8 d ++ b32 0)) fun v u =>
    (∃ l, Logs v u (noteOf h.tag true 3 blkReset .resetBlock d (b8 2 ++ b32 (dieBlocks d) ++ b8 4) :: l)) ∧
      (u.die d).resetting = true ∧ (u.die d).quarantined = false ∧ u.ember.cause = v.ember.cause ||| 0x10 ∧
      u.ember.detail = BitVec.ofNat 32 (4 * 0x1000000 + h.tag.toNat) :=
  carries_effect rfl rfl fun v hv => by
    rw [effect_resetDie _ _ _ _ (by omega), extClient_external]
    generalize v.operation _ _ = o
    obtain ⟨hlogs, hdie, hcause, hdetail⟩ := doResetDie_resets (s := v.begun o) hd hv.tag true
    rw [begun_die] at hdie
    exact ⟨hlogs, congrArg Die.resetting hdie, congrArg Die.quarantined hdie, hcause, hdetail⟩

/-- What the RESET of blocks of a die does (R95, R122). -/
theorem carries_resetBlocks (h : CmdHeader) {d mask : Nat} (hd : d ≤ 3) (hm : mask < 2 ^ 18) :
    s.Carries (.reset h (b8 2 ++ b8 d ++ b32 mask)) fun v u =>
      (∃ l, Logs v u (noteOf h.tag true 3 blkReset .resetBlock d (b8 3 ++ b32 mask ++ b8 4) :: l)) ∧
        (u.die d).blocks = (v.die d).blocks ||| BitVec.ofNat 18 mask ∧ u.ember.cause = v.ember.cause ||| 0x10 :=
  carries_effect rfl rfl fun v hv => by
    rw [effect_resetBlocks _ _ _ _ (by omega) (by omega), extClient_external]
    generalize v.operation _ _ = o
    obtain ⟨hlogs, hdie, hcause⟩ := doResetBlocks_resets (s := v.begun o) hd mask hv.tag true
    rw [begun_die] at hdie
    exact ⟨hlogs, congrArg Die.blocks hdie, hcause⟩

/-- Settles O47: each command's effect on the state as it stands. -/
theorem deviceCommands : Obligations.DeviceCommands := by
  unfold Obligations.DeviceCommands
  intro s h op begins
  refine ⟨fun n hn => ⟨carries_effect rfl rfl fun v _ => effect_voteSet _ _ _ _ (by omega),
      carries_effect rfl rfl fun v _ => effect_voteClear _ _ _ _ (by omega)⟩,
    fun n hn => carries_effect rfl rfl fun v hv => ?plSet, carries_effect rfl rfl fun v hv => ?padRelease,
    fun lsn hl => carries_effect rfl rfl fun v hv => ?ledgerMark, carries_effect rfl rfl fun _ _ => rfl,
    fun hsafe hcrank => ⟨fun hm code => carries_hive rfl rfl (orderedTo_serviceEnter _ _) fun v hv hs => ?serviceEnter,
      fun hm => carries_hive rfl rfl (orderedTo_modeRequest _ _) fun v hv hs => ?serviceLeave⟩,
    carries_effect rfl rfl fun _ _ => rfl, fun d _ hd => carries_resetDie h hd,
    fun d mask _ hd hmask => carries_resetBlocks h hd hmask, fun n arg hn => carries_effect rfl rfl fun v _ => ?testRun,
    fun n hn => carries_effect rfl rfl fun v _ => ?holdTapTest⟩
  case plSet =>
    rw [effect_plSet _ _ _ _ (by omega), ← hv.pw, ← hv.tag]
    exact ⟨setLevel_same, setLevel_tells⟩
  case padRelease =>
    rw [← hv.latched, ← hv.staged, ← hv.tag]
    refine ⟨releasePads_open, fun hl hst hr => releasePads_tells hl hst fun ch hch => ?_⟩
    rw [hv.chan]
    exact hr ch hch
  case ledgerMark =>
    rw [effect_ledgerMark _ _ _ _ hl]
    exact ⟨rfl, rfl, rfl, rfl, rfl⟩
  case serviceEnter =>
    rw [← hv.mode] at hm ⊢
    rw [← hv.tag]
    exact setService_enters ((safeCondition_of_spine hs).trans hsafe) (by rw [hv.pw]; exact hcrank) hm
  case serviceLeave =>
    rw [← hv.hub, ← hv.tag]
    exact setService_leaves ((safeCondition_of_spine hs).trans hsafe) (by rw [hv.pw]; exact hcrank) (hv.mode.trans hm)
  case testRun => exact effect_testRun _ _ _ _ (by omega) arg
  case holdTapTest =>
    rw [effect_holdTapTest _ _ _ _ (by omega), doTapTest_one (by omega)]
    rfl

end Sys2Proof.Machine
end

section
/-! PROOF. The control endpoint of the management function. -/

namespace Sys2Proof.Machine

variable {s : State}

/-! Requests (R177, Table 08-4). -/

theorem linkOpen_iff : s.linkOpen = true ↔ s.controlOpen = true ∧ s.dfuUp = false := by
  simp [State.linkOpen]

/-- A request that does not end the OUT packet has its own answer and effect alone (R177, R179). -/
theorem acts_of_standardRequest {R : State → Prop} {r : Setup} (ho : s.linkOpen = true) (hr : Setup.endsOut r = false)
    (h : R (s.standardRequest r)) : s.Acts (.controlStandardRequest r) R := by
  obtain ⟨hc, hd⟩ := linkOpen_iff.mp ho
  have heq : s.evControl r = s.standardRequest r := by
    simp [State.evControl, hc, hd, hr]
  exact acts_of rfl rfl (heq ▸ h)

theorem evClassVendor_open (ho : s.linkOpen = true) (r : Setup) : s.evClassVendor r = s.answering .stall := by
  simp [State.evClassVendor, (linkOpen_iff.mp ho).1]

theorem standardRequest_configure (index : BitVec 16) :
    s.standardRequest ⟨0x00, 9, 1, index, 0⟩ =
      (s.onHub fun h => { h with configuredM := true, haltOut := false, haltIn := false, haltInt := false }).answering .ack := rfl

/-- The function has one configuration: a number above 1 is refused. -/
theorem standardRequest_configure_unknown {value : BitVec 16} (index : BitVec 16) (hv : 2 ≤ value.toNat) :
    s.standardRequest ⟨0x00, 9, value, index, 0⟩ = s.answering .stall := by
  have h0 : value ≠ 0#16 := by rintro rfl; simp at hv
  have h1 : value ≠ 1#16 := by rintro rfl; simp at hv
  simp [State.standardRequest, h0, h1]

/-- A descriptor is given up to the length that the host asks for. -/
theorem standardRequest_descriptor {value : BitVec 16} {l : List Byte} (length : BitVec 16)
    (h : s.descriptor (value.toNat / 256) (value.toNat % 256) = some l) :
    s.standardRequest ⟨0x80, 6, value, 0, length⟩ = s.answering (.data (l.take length.toNat)) := by
  simp [State.standardRequest, h]

/-- SET_FEATURE and CLEAR_FEATURE of an endpoint set and clear its halt. -/
theorem standardRequest_halt (v : Bool) (index : BitVec 16) :
    s.standardRequest ⟨0x02, if v = true then 3 else 1, 0, index, 0⟩ =
      s.setHalt ⟨0x02, if v = true then 3 else 1, 0, index, 0⟩ v := by
  cases v <;> rfl

theorem endsOut_halt (r : Byte) {index : BitVec 16} (h : index ≠ 1) : Setup.endsOut ⟨0x02, r, 0, index, 0⟩ = false := by
  have hindex : (index == 0x0001) = false := beq_false_of_ne h
  unfold Setup.endsOut
  rw [hindex, Bool.and_false]
  rfl

/-- A test mode of those that USB 2.0 numbers (Table 08-4). -/
theorem standardRequest_testMode {mode : BitVec 16} (h1 : 1 ≤ mode.toNat) (h5 : mode.toNat ≤ 5) :
    s.standardRequest ⟨0x00, 3, 2, mode <<< 8, 0⟩ =
      (s.onHub fun h => { h with testMode := mode.toNat }).answering .ack := by
  have hmode : mode.toNat <<< 8 % 65536 / 256 = mode.toNat := by
    rw [Nat.shiftLeft_eq]
    omega
  simp [State.standardRequest, hmode, h1, h5]

section Configured
variable (hc : s.hub.configuredM = true)
include hc

theorem setHalt_in (q r : Byte) (v : Bool) :
    s.setHalt ⟨q, r, 0, 0x0081, 0⟩ v = (s.onHub fun h => { h with haltIn := v }).answering .ack := by
  simp [State.setHalt, hc]

theorem setHalt_int (q r : Byte) (v : Bool) :
    s.setHalt ⟨q, r, 0, 0x0082, 0⟩ v = (s.onHub fun h => { h with haltInt := v }).answering .ack := by
  simp [State.setHalt, hc]

theorem setHalt_out (q r : Byte) (v : Bool) :
    s.setHalt ⟨q, r, 0, 0x0001, 0⟩ v = (s.onHub fun h => { h with haltOut := v }).answering .ack := by
  simp [State.setHalt, hc]

theorem standardRequest_statusInt :
    s.standardRequest ⟨0x82, 0, 0, 0x0082, 2⟩ = s.answering (.data [if s.hub.haltInt = true then 1 else 0, 0]) := by
  simp [State.standardRequest, State.endpointStatus, hc]

end Configured

/-! The partly received OUT packet (R179). -/

/-- Each of the three events drops what there is of the packet first. -/
theorem evFunctionReset_open (ho : s.linkOpen = true) :
    (s.evFunctionReset .busReset = s.discardOut.onHub fun h =>
      { h with configuredM := false, address := 0, haltOut := false, haltIn := false, haltInt := false, testMode := 0 }) ∧
    s.evFunctionReset .setConfiguration0 = (s.discardOut.onHub fun h => { h with configuredM := false }).answering .ack ∧
    s.evFunctionReset .clearHaltOut = (s.discardOut.onHub fun h => { h with haltOut := false }).answering .ack := by
  unfold State.evFunctionReset
  rw [(linkOpen_iff.mp ho).1]
  exact ⟨rfl, rfl, rfl⟩

/-- Without a packet partly received, only the partly sent reply begins anew. -/
theorem discardOut_nil (h : s.io.part0 = []) : s.discardOut = s.onIo fun io => { io with sent0 := 0 } := by
  have hio : ({ s.io with part0 := [], sent0 := 0 } : Transports) = { s.io with sent0 := 0 } := by rw [← h]
  unfold State.discardOut
  simp only [h, List.isEmpty_nil, if_true]
  exact congrArg (fun io => { s with io := io }) hio

/-- A malformed packet is reported with as many bytes as were received (R65). -/
theorem parsePacket_received {l : List Byte} {gap : Bool} {m : Malformed} (h : parsePacket l gap = .inl m) :
    m.received = l.length := by
  unfold parsePacket at h
  dsimp only at h
  iterate 7
    split at h
    · cases h
      rfl
  cases h

/-- A packet cut off is malformed, and its reply goes before those that wait. -/
theorem discardedInput_urgent (c : ExtClient) (l : List Byte) :
    ∃ m : Malformed, m.received = l.length ∧ m.first = true ∧ (discardedInput c l).urgent = .malformed c m := by
  unfold discardedInput
  cases h : parsePacket l false with
  | inl m =>
    have hreceived := parsePacket_received h
    exact ⟨{ m with first := true }, hreceived, rfl, rfl⟩
  | inr p => exact ⟨{ malformedOf l 0x0502 .formatError with first := true }, rfl, rfl, rfl⟩

/-- A packet partly received becomes an input that is malformed. -/
theorem discardOut_part (h : s.io.part0 ≠ []) :
    ∃ m : Malformed, m.received = s.io.part0.length ∧ m.first = true ∧
      s.discardOut = s.onIo fun io => { io with part0 := [], sent0 := 0, waiting := io.waiting ++ [.malformed .c0 m] } := by
  obtain ⟨m, hreceived, hfirst, hm⟩ := discardedInput_urgent .c0 s.io.part0
  refine ⟨m, hreceived, hfirst, ?_⟩
  simp [State.discardOut, h, hm, State.enqueue, State.onIo]

/-- Settles O12: each request's answer on the open link, and what the three resets leave of a packet partly received. -/
theorem controlEndpoint : Obligations.ControlEndpoint := by
  unfold Obligations.ControlEndpoint
  intro s ho
  refine ⟨fun r => acts_of rfl rfl (evClassVendor_open ho r), fun value index => ⟨?configure, fun hv => ?unknown, ?address⟩,
    fun length => ?descriptors, fun hc => ⟨fun v r hr => ?halts, ?haltOut, ?status⟩,
    fun mode h1 h5 => acts_of_standardRequest ho rfl (standardRequest_testMode h1 h5), fun hp => ?resets, fun hp => ?cut⟩
  case configure => exact acts_of_standardRequest ho rfl (standardRequest_configure index)
  case unknown =>
    have hends : Setup.endsOut ⟨0x00, 9, value, index, 0⟩ = false := by
      have h0 : value ≠ 0#16 := by rintro rfl; simp at hv
      simp [Setup.endsOut, h0]
    exact acts_of_standardRequest ho hends (standardRequest_configure_unknown index hv)
  case address => exact acts_of_standardRequest ho rfl rfl
  case descriptors =>
    have hgive (value : BitVec 16) (l : List Byte) (h : s.descriptor (value.toNat / 256) (value.toNat % 256) = some l) :
        s.Acts (.controlStandardRequest ⟨0x80, 6, value, 0, length⟩) fun u => u = s.answering (.data (l.take length.toNat)) :=
      acts_of_standardRequest ho (by simp [Setup.endsOut]) (standardRequest_descriptor length h)
    exact ⟨hgive _ _ rfl, hgive _ _ rfl, hgive _ _ rfl, hgive _ _ rfl, hgive _ _ rfl, hgive _ _ rfl⟩
  case halts =>
    subst hr
    exact ⟨acts_of_standardRequest ho (endsOut_halt _ (by decide)) ((standardRequest_halt v _).trans (setHalt_in hc _ _ v)),
      acts_of_standardRequest ho (endsOut_halt _ (by decide)) ((standardRequest_halt v _).trans (setHalt_int hc _ _ v))⟩
  case haltOut => exact acts_of_standardRequest ho rfl ((standardRequest_halt true _).trans (setHalt_out hc _ _ true))
  case status => exact acts_of_standardRequest ho rfl (standardRequest_statusInt hc)
  case resets =>
    intro fresh
    obtain ⟨hbus, hconfiguration, hhalt⟩ := evFunctionReset_open ho
    rw [discardOut_nil hp] at hbus hconfiguration hhalt
    exact ⟨acts_of rfl rfl hbus, acts_of rfl rfl hconfiguration, acts_of rfl rfl hhalt⟩
  case cut =>
    obtain ⟨m, hreceived, hfirst, hm⟩ := discardOut_part hp
    obtain ⟨-, -, hhalt⟩ := evFunctionReset_open ho
    rw [hm] at hhalt
    exact acts_of rfl rfl ⟨m, hreceived, hfirst, hhalt⟩

end Sys2Proof.Machine
end

section
/-! PROOF. A port turned off, and a detach. -/

namespace Sys2Proof.Machine

variable {s u : State} {p : Nat}

/-! What remains of the power is a matter of the grants alone (R230). -/

theorem Tells.remaining {l : List Note} (h : Tells s u l) : u.remaining = s.remaining := by
  rw [h.2]
  rfl

theorem remaining_onChan (s : State) (n : Nat) (f : Chan → Chan) : (s.onChan n f).remaining = s.remaining := by
  simp [State.remaining, State.granted]

theorem remaining_onPort_congr (hp : isPort p = true) (f g : Port → Port) (h : (f (s.port p)).grant = (g (s.port p)).grant) :
    (s.onPort p f).remaining = (s.onPort p g).remaining := by
  rw [remaining_onPort hp, remaining_onPort hp, h]

/-! A port's channel turned off (R187, R211, R225, R332). -/

/-- A channel that is on or waits for a retry goes off with its entry. -/
theorem chanDown_tells (h : (s.chan p).state.active = true) (cause : Nat) (external : Bool) :
    Tells (s.onChan p fun c => { c.wentOff (isIntegrated p) with retries := if cause ≤ 1 then 0 else c.retries })
      (s.chanDown p cause external) [noteOf s.led.tag external 3 blkChan .chanOff p (b8 cause)] := by
  have ht := append_tells ((s.openLegs p).onChan p fun c => { c with retries := if cause ≤ 1 then 0 else c.retries })
    external 3 blkChan .chanOff p (b8 cause)
  rw [State.openLegs, State.onChan_onChan, State.onChan_led] at ht
  unfold State.chanDown
  rw [if_pos h, State.openLegs, State.onChan_onChan]
  exact ht

/-- A grant is released with its entry (R332). -/
theorem releaseGrant_tells (h : 0 < (s.port p).grant) :
    let freed := s.onPort p fun q => { q with grant := 0, claim := 0 }
    Tells freed (s.releaseGrant p)
      [noteOf s.led.tag false 0 blkAllot .allotChange p
        (b8 2 ++ b16 (s.port p).grant ++ b16 0 ++ b16 freed.remaining ++ b8 0)] := by
  intro freed
  unfold State.releaseGrant
  rw [if_neg h.ne']
  exact append_tells_tag freed s.led.tag (congrArg Ledger.tag (State.onPort_led ..)) ..

/-- A port as the loss of its power leaves it: without contract, VCONN, grant or claim. -/
def Port.released (q : Port) : Port :=
  { q with vconn := false, grant := 0, claim := 0, bus := q.bus.unpowered, pd := q.pd.endContract }

/-- A state with a port's channel off and its power released. -/
def State.portReleased (s : State) (p cause : Nat) : State :=
  (s.onChan p fun c => { c.wentOff (isIntegrated p) with retries := if cause ≤ 1 then 0 else c.retries }).onPort p Port.released

/-- Entries change nothing that a port being plain rests on. -/
theorem State.Plain.of (h : s.Plain p) (hpd : (u.port p).pd = (s.port p).pd) (hops : u.ops = s.ops) : u.Plain p where
  p1 := by rw [hpd]; exact h.p1
  mode := by rw [hpd]; exact h.mode
  op := NoOp_of h.op hops

/-- A plain port goes off with `CHAN_OFF` and the release of its grant. -/
theorem portOff_tells (hp : isPort p = true) (hpl : s.Plain p) (ha : (s.chan p).state.active = true)
    (hg : 0 < (s.port p).grant) (cause : Nat) (external : Bool) (st : Status) (byEvent : Bool) :
    Tells (s.portReleased p cause) (s.portOff p cause external st byEvent)
      [noteOf s.led.tag external 3 blkChan .chanOff p (b8 cause),
       noteOf s.led.tag false 0 blkAllot .allotChange p
        (b8 2 ++ b16 (s.port p).grant ++ b16 0 ++ b16 (s.portReleased p cause).remaining ++ b8 0)] := by
  have hoff := (chanDown_tells ha cause external).onPort p fun q =>
    { q with vconn := false, bus := q.bus.unpowered, pd := q.pd.endContract }
  set v := (s.chanDown p cause external).onPort p fun q =>
    { q with vconn := false, bus := q.bus.unpowered, pd := q.pd.endContract } with hv
  have hgrant : (v.port p).grant = (s.port p).grant := by
    rw [hoff.port, onPort_port_self _ _ _ hp, State.onChan_port]
  have hfree := releaseGrant_tells (s := v) (p := p) (by rw [hgrant]; exact hg)
  have hall := hoff.onPort p fun q => { q with grant := 0, claim := 0 }
  rw [State.onPort_onPort] at hall
  change Tells (s.portReleased p cause) _ _ at hall
  have hdone := hall.trans hfree
  rw [hall.remaining, hgrant, hoff.tag, State.onPort_led, State.onChan_led] at hdone
  have hmode : ((s.chanDown p cause external).port p).pd.mode = none := by
    rw [(chanDown_tells ha cause external).port, State.onChan_port]
    exact hpl.mode
  have hops : (v.releaseGrant p).ops = s.ops := by
    rw [hdone.ops, State.portReleased, State.onPort_ops, State.onChan_ops]
  unfold State.portOff
  dsimp only
  rw [closeP1_none _ _ hpl.p1, endPower_plain _ hmode, ← hv, endOps_none _ _ _ (NoOp_of hpl.op hops)]
  exact hdone

/-- A channel turned off for policy, with no retries used, and the power of its port ended. -/
theorem policyDown_tells (hm : (s.port p).pd.mode = none) (ha : (s.chan p).state.active = true) (external : Bool) :
    Tells ((s.onChan p fun c => { c.wentOff (isIntegrated p) with retries := 0 }).onPort p fun q =>
        { q with vconn := false, bus := q.bus.unpowered, pd := q.pd.endContract })
      (((s.chanDown p 1 external).clearRetries p).endPower p) [noteOf s.led.tag external 3 blkChan .chanOff p (b8 1)] := by
  have hdown := (chanDown_tells ha 1 external).onChan p fun c => { c with retries := 0 }
  rw [State.onChan_onChan] at hdown
  change Tells _ ((s.chanDown p 1 external).clearRetries p) _ at hdown
  rw [endPower_plain p (by rw [hdown.port, State.onChan_port]; exact hm)]
  exact hdown.onPort p _

/-- A port turned off for policy keeps no retries used (R221). -/
theorem policyOff_tells (hp : isPort p = true) (hpl : s.Plain p) (ha : (s.chan p).state.active = true)
    (hg : 0 < (s.port p).grant) (external : Bool) (st : Status) (byEvent : Bool) :
    let off := (s.onChan p fun c => { c.wentOff (isIntegrated p) with retries := 0 }).onPort p Port.released
    Tells off (s.policyOff p external st byEvent)
      [noteOf s.led.tag external 3 blkChan .chanOff p (b8 1),
       noteOf s.led.tag false 0 blkAllot .allotChange p
        (b8 2 ++ b16 (s.port p).grant ++ b16 0 ++ b16 off.remaining ++ b8 0)] := by
  intro off
  have h := (portOff_tells hp hpl ha hg 1 external st byEvent).onChan p fun c => { c with retries := 0 }
  rw [← remaining_onChan (s.portReleased p 1) p fun c => { c with retries := 0 }] at h
  rw [State.portReleased, onChan_onPort, State.onChan_onChan] at h
  exact h

/-- A port that goes off leaves no port waiting that did not wait. -/
theorem noneWaits_portReleased (hw : s.NoneWaits) (hp : isPort p = true) (cause : Nat) : (s.portReleased p cause).NoneWaits :=
  noneWaits_onPort (noneWaits_onChan hw _ _) _ _ (by rw [State.onChan_port]; exact (hw p hp).1) rfl

/-! A detach (R188). -/

theorem Tells.clearAttach {l : List Note} (h : Tells s u l) (p : Nat) : Tells (s.clearAttach p) (u.clearAttach p) l :=
  ((h.onPort p _).onChan p _).onPw _

/-- A state with a port detached, its channel off and its power released. -/
def State.detached (s : State) (p cause : Nat) : State := (s.portReleased p cause).clearAttach p

/-- A plain port leaves with `PORT_DETACH`, and goes off. -/
theorem detach_tells (hp : isPort p = true) (hpl : s.Plain p) (ha : (s.chan p).state.active = true)
    (hg : 0 < (s.port p).grant) (cause chanCause : Nat) (external : Bool) (st : Status) (byEvent : Bool) :
    Tells (s.detached p chanCause) (s.detach p cause chanCause external st byEvent)
      [noteOf s.led.tag external (combOf p) blkPd .portDetach p (b8 cause),
       noteOf s.led.tag false 3 blkChan .chanOff p (b8 chanCause),
       noteOf s.led.tag false 0 blkAllot .allotChange p
        (b8 2 ++ b16 (s.port p).grant ++ b16 0 ++ b16 (s.portReleased p chanCause).remaining ++ b8 0)] := by
  have hentry : Tells s (s.pdEntry p external .portDetach (b8 cause)) _ := append_tells ..
  set v := s.pdEntry p external .portDetach (b8 cause)
  have hdown : Tells (s.portReleased p chanCause) (v.portReleased p chanCause) _ := (hentry.onChan p _).onPort p _
  have hoff := portOff_tells (s := v) hp (hpl.of (congrArg Port.pd (hentry.port p)) hentry.ops) (by rw [hentry.chan]; exact ha)
    (by rw [hentry.port]; exact hg) chanCause false st byEvent
  rw [hentry.tag, hentry.port, hdown.remaining] at hoff
  unfold State.detach
  rw [exitMode_none p hpl.mode]
  exact (hdown.trans hoff).clearAttach p

section Detached
variable (s) (p) (cause : Nat)

theorem detached_port_ne {q : Nat} (hne : q ≠ p) : (s.detached p cause).port q = s.port q := by
  simp [State.detached, State.clearAttach, State.portReleased, State.onPort_port, hne]

theorem detached_chan_ne {q : Nat} (hne : q ≠ p) : (s.detached p cause).chan q = s.chan q := by
  simp [State.detached, State.clearAttach, State.portReleased, State.onChan_chan, hne]

/-- The channel of a detached port has no retries used and no refusal, and no partner whose Rp could be removed. -/
theorem detached_chan (hp : isPort p = true) :
    (s.detached p cause).chan p = { (s.chan p).wentOff (isIntegrated p) with retries := 0, refused := false } := by
  have hcheck (b : Bool) : (if (if b = true then OffCheck.discharging else .none) == .rpOff then OffCheck.none
      else if b = true then .discharging else .none) = if b = true then .discharging else .none := by
    cases b <;> rfl
  simp only [State.detached, State.clearAttach, State.portReleased, State.onPw_chan, onChan_chan_self _ _ _ (isChan_of_isPort p hp),
    State.onPort_chan, Chan.wentOff, hcheck]

/-- What a detach leaves of the port: nothing of what the attach began, and the hold of a command. -/
theorem detached_port (hp : isPort p = true) :
    let q := (s.detached p cause).port p
    q.attached = false ∧ q.grant = 0 ∧ q.vconn = false ∧ q.pd = Pd.init ∧ q.bus.fsPresent = false ∧ q.bus.enabled = false ∧
      q.bus.held = (s.port p).bus.held.pardoned := by
  simp [State.detached, State.clearAttach, State.portReleased, onPort_port_self _ _ _ hp, Port.released, Bus.unpowered]

theorem remaining_detached (hp : isPort p = true) : (s.detached p cause).remaining = (s.portReleased p cause).remaining :=
  (remaining_onChan ..).trans (remaining_onPort_same hp _ rfl)

end Detached

theorem noneWaits_detached (hw : s.NoneWaits) (hp : isPort p = true) (cause : Nat) : (s.detached p cause).NoneWaits := by
  have hdown := noneWaits_portReleased hw hp cause
  exact noneWaits_onChan (noneWaits_onPort hdown p _ rfl (hdown p hp).2) p _

/-- Of a hold, that of a command stays (R170). -/
theorem pardoned_eq (h : Hold) : h.pardoned = if h = .command ∨ h = .both then .command else .none := by
  cases h <;> rfl

/-- Settles O37: the detach, and what it leaves of the port. -/
theorem detachReleasesThePort : Obligations.DetachReleasesThePort := by
  unfold Obligations.DetachReleasesThePort
  intro s p ho hp hh hw hpl hat hrp ha hg
  have htells := detach_tells hp hpl ha hg 0 4 true .fault true
  rw [ho.rested.1, ← remaining_detached s p 4 hp] at htells
  obtain ⟨hattached, hgrant, hvconn, hpd, hpresent, henabled, hheld⟩ := detached_port s p 4 hp
  refine does_of ho hp (heard_of rfl hh) rfl ⟨s.detached p 4, ?_, hattached, hgrant, hvconn, hpd, hpresent, henabled,
    hheld.trans (pardoned_eq _), detached_chan s p 4 hp, ?_, ?_, fun q _ hne =>
      ⟨detached_port_ne s p 4 hne, detached_chan_ne s p 4 hne⟩⟩
  · show Tells _ (s.evPortDetach p) _
    unfold State.evPortDetach
    rw [if_pos (by simp [hat, hrp]), redistribute_tells htells (noneWaits_detached hw hp 4)]
    exact htells
  · simp [State.detached, State.clearAttach, State.portReleased]
  · simp [State.detached, State.clearAttach, State.portReleased]

end Sys2Proof.Machine
end

section
/-! PROOF. The downstream ports on USB: what the host asks of them, and how it ends. -/

namespace Sys2Proof.Machine

variable {s u : State} {p : Nat}

theorem onBus_congr (s : State) (n : Nat) (f g : Bus → Bus) (h : f (s.port n).bus = g (s.port n).bus) :
    s.onBus n f = s.onBus n g :=
  onPort_congr s n _ _ (by rw [h])

/-! The bus of a port (R181 to R184). -/

theorem dropBus_none (h : s.NoOp (.port p)) (external : Bool) : s.dropBus p external = s.onBus p Bus.dropped :=
  endOpsOf_none _ _ _ _ (NoOp_of h (State.onBus_ops ..))

theorem opTag_none {subj : Subject} (h : s.NoOp subj) (codes : List Opcode) : s.opTag subj codes = 0xFFFF := by
  have hnone : s.ops.find? (fun o => o.subject == subj && codes.contains o.op) = none := by
    rw [List.find?_eq_none]
    intro o ho
    simp [List.filter_eq_nil_iff.mp h o ho]
  unfold State.opTag
  rw [hnone]

/-- A port's bus changed, and then an entry. -/
theorem onBus_append_tells (s : State) (p : Nat) (f : Bus → Bus) (e : Bool) (die block : Nat) (k : Kind) (n : Nat) (d : List Byte) :
    Tells (s.onBus p f) ((s.onBus p f).append e die block k n d) [noteOf s.led.tag e die block k n d] :=
  append_tells_tag _ _ (congrArg Ledger.tag (State.onBus_led ..)) ..

section BusChanged
variable {f : Bus → Bus} {l : List Note} (h : Tells (s.onBus p f) u l) (hp : isPort p = true)
include h hp

theorem Tells.grant : (u.port p).grant = (s.port p).grant := by
  rw [h.port, State.onBus_eq, onPort_port_self _ _ _ hp]

theorem Tells.plain (hpl : s.Plain p) : u.Plain p :=
  hpl.of (by rw [h.port, State.onBus_eq, onPort_port_self _ _ _ hp]) (h.ops.trans (State.onBus_ops ..))

theorem Tells.noneWaits (hw : s.NoneWaits) : u.NoneWaits := by
  intro q hq
  rw [h.port]
  exact noneWaits_onPort hw p _ (hw p hp).1 (hw p hp).2 q hq

end BusChanged

theorem suspendPort_tells (s : State) (p initiator : Nat) (external : Bool) :
    Tells (s.onBus p fun b => { b with
        suspended := true, busSuspended := initiator == 3, l1 := false, currentRecorded := false, wakeRecorded := false })
      (s.suspendPort p initiator external) [noteOf s.led.tag external 0 blkUsb2 .portSuspend p (b8 initiator)] :=
  onBus_append_tells ..

theorem resumePort_tells (s : State) (p initiator : Nat) (external : Bool) :
    Tells (s.onBus p fun b => { b with suspended := false, busSuspended := false, resuming := true, limited := false })
      (s.resumePort p initiator external) [noteOf s.led.tag external 0 blkUsb2 .portResume p (b8 initiator)] :=
  onBus_append_tells ..

/-- A violation counted on a port's bus (Table 15-12). -/
def Bus.counted (code : Nat) (b : Bus) : Bus := { b with lastViolation := code, violations := b.violations + 1 }

theorem portViolation_tells (s : State) (die block code p : Nat) (detail : List Byte) :
    Tells (s.onBus p (Bus.counted code)) (s.portViolation die block code p detail)
      [noteOf s.led.tag true die block .violation p (b16 code ++ detail)] :=
  (append_tells s ..).onBus p _

/-- A violation counted, and what else it changes of the bus. -/
theorem portViolation_onBus_tells (s : State) (die block code p : Nat) (detail : List Byte) (f : Bus → Bus) :
    Tells (s.onBus p fun b => f (b.counted code)) ((s.portViolation die block code p detail).onBus p f)
      [noteOf s.led.tag true die block .violation p (b16 code ++ detail)] := by
  have h := (portViolation_tells s die block code p detail).onBus p f
  rw [onBus_onBus] at h
  exact h

/-! PORT_POWER (R168). -/

theorem evHostPortPower_on (hm : s.value .hubPortPowerMode 0 ≠ 1) (h : (s.port p).bus.portPower = false) :
    Tells (s.onBus p fun b => { b with portPower := true }) (s.evHostPortPower p true)
      [noteOf s.led.tag true 0 blkUsb2 .portEnabled p (b8 1 ++ b16 0)] := by
  unfold State.evHostPortPower State.when
  simp only [h, beq_false_of_ne hm, if_true, beq_iff_eq, Bool.false_eq]
  exact onBus_append_tells ..

/-- The host clears PORT_POWER: the entry, the connection gone, and in the FOLLOW mode the power away. -/
theorem evHostPortPower_off (h : (s.port p).bus.portPower = true) :
    s.evHostPortPower p false =
      ((((s.onBus p fun b => { b with portPower := false }).holdEntry p .portDisabled 1 0 true).dropBus p true).when
        (s.value .hubPortPowerMode 0 == 1) fun s => s.powerAway p) := by
  unfold State.evHostPortPower
  simp [h]

theorem powerCleared_tells (hn : s.NoOp (.port p)) :
    Tells (s.onBus p fun b => { b.dropped with portPower := false })
      (((s.onBus p fun b => { b with portPower := false }).holdEntry p .portDisabled 1 0 true).dropBus p true)
      [noteOf s.led.tag true 0 blkUsb2 .portDisabled p (b8 1 ++ b16 0)] := by
  have hentry : Tells _ ((s.onBus p fun b => { b with portPower := false }).holdEntry p .portDisabled 1 0 true) _ :=
    onBus_append_tells ..
  have hdrop := hentry.onBus p Bus.dropped
  rw [onBus_onBus] at hdrop
  rw [dropBus_none (NoOp_of hn (hentry.ops.trans (State.onBus_ops ..)))]
  exact hdrop

/-- A clear PORT_POWER that is only reported takes the connection away, and no power. -/
theorem evHostPortPower_off_tells (hm : s.value .hubPortPowerMode 0 ≠ 1) (h : (s.port p).bus.portPower = true)
    (hn : s.NoOp (.port p)) :
    Tells (s.onBus p fun b => { b.dropped with portPower := false }) (s.evHostPortPower p false)
      [noteOf s.led.tag true 0 blkUsb2 .portDisabled p (b8 1 ++ b16 0)] := by
  rw [evHostPortPower_off h, beq_false_of_ne hm]
  exact powerCleared_tells hn

/-- In the FOLLOW mode a port that is on loses its power until the host sets PORT_POWER again. -/
theorem powerAway_tells (hp : isPort p = true) (hpl : s.Plain p) (hw : s.NoneWaits) (ha : (s.chan p).state.active = true)
    (hg : 0 < (s.port p).grant) :
    let off := (s.onChan p fun c => { c.wentOff (isIntegrated p) with retries := 0 }).onPort p fun q =>
      { q.released with waiting := false, bus := { q.bus.unpowered with awaitsPower := true } }
    Tells off (s.powerAway p)
      [noteOf s.led.tag false 3 blkChan .chanOff p (b8 1),
       noteOf s.led.tag false 0 blkAllot .allotChange p
        (b8 2 ++ b16 (s.port p).grant ++ b16 0 ++ b16 off.remaining ++ b8 0)] := by
  intro off
  have hoff := policyOff_tells hp hpl ha hg false .fault true
  have hnone : ((s.onChan p fun c => { c.wentOff (isIntegrated p) with retries := 0 }).onPort p Port.released).NoneWaits :=
    noneWaits_onPort (noneWaits_onChan hw _ _) _ _ (by rw [State.onChan_port]; exact (hw p hp).1) rfl
  have hall := hoff.onPort p fun q => { q with waiting := false, bus := { q.bus with awaitsPower := true } }
  rw [State.onPort_onPort] at hall
  have hremaining : off.remaining = _ := remaining_onPort_congr hp _ Port.released rfl
  unfold State.powerAway State.when
  simp only [ha, Bool.true_or, Bool.or_true, if_true]
  rw [redistribute_tells hoff hnone, hremaining]
  exact hall

/-- In the FOLLOW mode the connection goes first, and then the power of a port that is on. -/
theorem evHostPortPower_follow_tells (hm : s.value .hubPortPowerMode 0 = 1) (h : (s.port p).bus.portPower = true)
    (hp : isPort p = true) (hpl : s.Plain p) (hw : s.NoneWaits) (ha : (s.chan p).state.active = true)
    (hg : 0 < (s.port p).grant) :
    let off := (s.onChan p fun c => { c.wentOff (isIntegrated p) with retries := 0 }).onPort p fun q =>
      { q with vconn := false, grant := 0, claim := 0, waiting := false, pd := q.pd.endContract
               bus := { q.bus.dropped.unpowered with portPower := false, awaitsPower := true } }
    Tells off (s.evHostPortPower p false)
      [noteOf s.led.tag true 0 blkUsb2 .portDisabled p (b8 1 ++ b16 0), noteOf s.led.tag false 3 blkChan .chanOff p (b8 1),
       noteOf s.led.tag false 0 blkAllot .allotChange p
        (b8 2 ++ b16 (s.port p).grant ++ b16 0 ++ b16 off.remaining ++ b8 0)] := by
  intro off
  have hclear := powerCleared_tells hpl.op
  rw [evHostPortPower_off h, hm]
  set v := ((s.onBus p fun b => { b with portPower := false }).holdEntry p .portDisabled 1 0 true).dropBus p true
  have haway := powerAway_tells (s := v) hp (hclear.plain hp hpl) (hclear.noneWaits hp hw)
    (by rw [hclear.chan, State.onBus_chan]; exact ha) (by rw [hclear.grant hp]; exact hg)
  have hoff := (hclear.onChan p fun c => { c.wentOff (isIntegrated p) with retries := 0 }).onPort p fun q =>
    { q.released with waiting := false, bus := { q.bus.unpowered with awaitsPower := true } }
  have hall := hoff.trans haway
  rw [hoff.remaining, hclear.grant hp, hclear.tag, State.onBus_led, State.onBus_eq, onChan_onPort, State.onPort_onPort] at hall
  exact hall

/-! Resets, suspends and connections (R171 to R173, R181, R182). -/

theorem evHostPortReset_idle (hc : s.connectedPort p = true) (hr : (s.port p).bus.reset = .none) :
    s.evHostPortReset p = s.onBus p fun b => { b with reset := .host } := by
  unfold State.evHostPortReset
  rw [hc, if_neg (by decide)]
  exact onBus_congr s p _ _ (by rw [hr])

theorem evHostSuspend_tells (he : (s.port p).bus.enabled = true) (hs : (s.port p).bus.suspended = false)
    (hsh : s.shown p = true) :
    Tells (s.onBus p fun b => { b with
        suspended := true, busSuspended := false, l1 := false, currentRecorded := false, wakeRecorded := false })
      (s.evHostSuspend p) [noteOf s.led.tag true 0 blkUsb2 .portSuspend p (b8 0)] := by
  unfold State.evHostSuspend
  rw [if_pos (by simp [he, hs, hsh])]
  exact suspendPort_tells s p 0 true

/-- Remote wake is enabled on the hub that the port's device is connected to (R182). -/
def State.wakeArmed (s : State) (p : Nat) : Bool :=
  match (s.port p).bus.speed with
  | some v => if 3 ≤ v then s.hub.wake3 else s.hub.wake2
  | none => s.hub.wake2

section Suspended
variable (hs : (s.port p).bus.suspended = true)
include hs

theorem evHostResume_tells :
    Tells (s.onBus p fun b => { b with suspended := false, busSuspended := false, resuming := true, limited := false })
      (s.evHostResume p) [noteOf s.led.tag true 0 blkUsb2 .portResume p (b8 0)] := by
  unfold State.evHostResume
  rw [if_pos hs]
  exact resumePort_tells s p 0 true

theorem evRemoteWake_suspended :
    s.evRemoteWake p =
      if s.wakeArmed p = true then s.resumePort p 1 true
      else if (s.port p).bus.wakeRecorded = true then s
      else (s.portViolation 0 blkUsb2 0x0105 p []).onBus p fun b => { b with wakeRecorded := true } := by
  unfold State.evRemoteWake State.wakeArmed
  dsimp only
  rw [hs]
  cases (s.port p).bus.speed with
  | none => rfl
  | some v => simp

theorem evRemoteWake_armed (ha : s.wakeArmed p = true) :
    Tells (s.onBus p fun b => { b with suspended := false, busSuspended := false, resuming := true, limited := false })
      (s.evRemoteWake p) [noteOf s.led.tag true 0 blkUsb2 .portResume p (b8 1)] := by
  rw [evRemoteWake_suspended hs, if_pos ha]
  exact resumePort_tells s p 1 true

/-- Resume signalling where remote wake is not enabled is recorded once in a suspend. -/
theorem evRemoteWake_violates (ha : s.wakeArmed p = false) (hr : (s.port p).bus.wakeRecorded = false) :
    Tells (s.onBus p fun b => { b.counted 0x0105 with wakeRecorded := true }) (s.evRemoteWake p)
      [noteOf s.led.tag true 0 blkUsb2 .violation p (b16 0x0105)] := by
  rw [evRemoteWake_suspended hs, if_neg (by simp [ha]), if_neg (by simp [hr])]
  exact portViolation_onBus_tells s 0 blkUsb2 0x0105 p [] _

theorem evRemoteWake_recorded (ha : s.wakeArmed p = false) (hr : (s.port p).bus.wakeRecorded = true) :
    s.evRemoteWake p = s := by
  rw [evRemoteWake_suspended hs, if_neg (by simp [ha]), if_pos hr]

end Suspended

/-- The end of a reset that the host asked for is reported to it. -/
theorem onBus_resetReported (s : State) (p : Nat) :
    (s.onBus p fun b => { b with
      reset := .none, cReset := b.cReset || (BusReset.host == .host || BusReset.host == .command true) }) =
    s.onBus p fun b => { b with reset := .none, cReset := true } :=
  onBus_congr s p _ _ (by simp)

/-- A reset that the host asked for ends with a device at a speed (R173). -/
theorem evPortResetComplete_speed (hn : s.NoOp (.port p)) (hr : (s.port p).bus.reset = .host) (v : Nat) :
    Tells (s.onBus p fun b => { b with
        reset := .none, cReset := true, enabled := true, suspended := false, busSuspended := false
        speed := some v, resets := b.resets + 1 })
      (s.evPortResetComplete p (some v)) [noteOf 0xFFFF true 0 blkUsb2 .portSpeed p (b8 v)] := by
  set w := s.onBus p fun b => { b with
    reset := .none, cReset := true, enabled := true, suspended := false, busSuspended := false
    speed := some v, resets := b.resets + 1 } with hwdef
  have hw : Tells w _ _ := Tells.tagged 0xFFFF (append_tells (w.tagged 0xFFFF) true 0 blkUsb2 .portSpeed p (b8 v))
  unfold State.evPortResetComplete
  rw [hr, if_neg (by decide)]
  dsimp only
  rw [onBus_resetReported, opTag_none (NoOp_of hn (State.onBus_ops ..)), onBus_onBus, ← hwdef,
    endOpsOf_none _ _ _ _ (NoOp_of hn (hw.ops.trans (State.onBus_ops ..)))]
  exact hw

/-- Where no device answers, the host's reset ends without an entry. -/
theorem evPortResetComplete_none (hn : s.NoOp (.port p)) (hr : (s.port p).bus.reset = .host) :
    s.evPortResetComplete p none = s.onBus p fun b => { b with reset := .none, cReset := true } := by
  unfold State.evPortResetComplete
  rw [hr, if_neg (by decide)]
  dsimp only
  rw [onBus_resetReported, endOpsOf_none _ _ _ _ (NoOp_of hn (State.onBus_ops ..))]

theorem evResumeComplete_resuming (hn : s.NoOp (.port p)) (hr : (s.port p).bus.resuming = true) :
    s.evResumeComplete p = s.onBus p fun b => { b with resuming := false, cSuspend := true } :=
  (if_pos hr).trans (endOpsOf_none _ _ _ _ (NoOp_of hn (State.onBus_ops ..)))

theorem evSuspendComplete_suspending (hn : s.NoOp (.port p)) (hr : (s.port p).bus.suspending = true) :
    s.evSuspendComplete p = s.onBus p fun b => { b with suspending := false } :=
  (if_pos hr).trans (endOpsOf_none _ _ _ _ (NoOp_of hn (State.onBus_ops ..)))

theorem evConnectChange_arrives (ha : (s.port p).attached = true) :
    s.evConnectChange p true false = s.onBus p fun b => { b with fsPresent := true } := by
  simp [State.evConnectChange, ha]

/-- The device on D+/D- leaves a port without one on SuperSpeed: the connection is gone (R184). -/
theorem evConnectChange_leaves (hp : isPort p = true) (hn : s.NoOp (.port p)) (hs : (s.port p).bus.ssPresent = false) :
    s.evConnectChange p false false = s.onBus p fun b => { b.dropped with fsPresent := false } := by
  have hgone : (s.onBus p fun b => { b with fsPresent := false }).connectedPort p = false := by
    simp [State.connectedPort, State.onBus_eq, onPort_port_self _ _ _ hp, hs]
  unfold State.evConnectChange
  simp only [Bool.false_eq_true, if_false, hgone]
  rw [dropBus_none (NoOp_of hn (State.onBus_ops ..)), onBus_onBus]
  rfl

section SuperSpeed
variable (hss : s.ssPort p = true) (ha : (s.port p).attached = true) (hd : (s.port p).bus.ssDisabled = false)
include hss ha hd

theorem evSsLinkU0_tells {v : Nat} (hv : v = 3 ∨ v = 4) :
    Tells (s.onBus p fun b => { b with ssPresent := true, enabled := true, speed := some v }) (s.evSsLinkU0 p v)
      [noteOf s.led.tag true (combOf p) blkUsb3 .portSpeed p (b8 v)] := by
  unfold State.evSsLinkU0
  rw [if_pos (by simpa [hss, ha, hd] using hv)]
  exact onBus_append_tells ..

theorem evSsTrainingFail_tells :
    Tells (s.onBus p fun b => { b.counted 0x0103 with ssDisabled := true, ssPresent := false }) (s.evSsTrainingFail p)
      [noteOf s.led.tag true (combOf p) blkUsb3 .violation p (b16 0x0103)] := by
  unfold State.evSsTrainingFail
  rw [if_neg (by simp [hss, ha, hd])]
  exact portViolation_onBus_tells ..

end SuperSpeed

/-- Settles O32: each request's own effect on the port, where no operation of it is pending. -/
theorem hostPortRequests : Obligations.HostPortRequests := by
  unfold Obligations.HostPortRequests
  intro s p ho hp hn
  have htag := ho.rested.1
  refine ⟨fun hm => ⟨fun h => ?on, fun h => ?off⟩, fun hm h hpl hw hc hg => ?follow, fun hc hr => ?reset,
    fun he hs hsh => ?suspend, fun hs => ⟨?resume, fun hh => ⟨fun ha => ?wake, fun ha hr => ?violation, fun ha hr => ?again⟩⟩⟩
  case on => exact does_of ho hp (heard_none rfl) rfl (htag ▸ evHostPortPower_on hm h)
  case off => exact does_of ho hp (heard_none rfl) rfl (htag ▸ evHostPortPower_off_tells hm h hn)
  case follow =>
    have hactive : (s.chan p).state.active = true := by simp [ChanState.active, hc]
    exact does_of ho hp (heard_none rfl) rfl (htag ▸ evHostPortPower_follow_tells hm h hp hpl hw hactive hg)
  case reset => exact does_of ho hp (heard_none rfl) rfl (evHostPortReset_idle hc hr)
  case suspend => exact does_of ho hp (heard_none rfl) rfl (htag ▸ evHostSuspend_tells he hs hsh)
  case resume => exact does_of ho hp (heard_none rfl) rfl (htag ▸ evHostResume_tells hs)
  case wake => exact does_of ho hp (heard_of rfl hh) rfl (htag ▸ evRemoteWake_armed hs ha)
  case violation => exact does_of ho hp (heard_of rfl hh) rfl (htag ▸ evRemoteWake_violates hs ha hr)
  case again => exact does_of ho hp (heard_of rfl hh) rfl (evRemoteWake_recorded hs ha hr)

/-- Settles O33: each end on the port as it stands. -/
theorem portConnectionEvents : Obligations.PortConnectionEvents := by
  unfold Obligations.PortConnectionEvents
  intro s p ho hp hh2 hh3 hn
  have htag := ho.rested.1
  refine ⟨fun hr => ⟨fun v => ?speed, ?silent⟩, fun hr => ?resumed, fun hr => ?suspended, fun ha => ?arrives, fun hs => ?leaves,
    fun hss ha hd => ⟨fun v hv => ?trained, ?failed⟩⟩
  case speed => exact does_of ho hp (heard_of rfl hh2) rfl (evPortResetComplete_speed hn hr v)
  case silent => exact does_of ho hp (heard_of rfl hh2) rfl (evPortResetComplete_none hn hr)
  case resumed => exact does_of ho hp (heard_of rfl hh2) rfl (evResumeComplete_resuming hn hr)
  case suspended => exact does_of ho hp (heard_of rfl hh2) rfl (evSuspendComplete_suspending hn hr)
  case arrives => exact does_of ho hp (heard_of rfl hh2) rfl (evConnectChange_arrives ha)
  case leaves => exact does_of ho hp (heard_of rfl hh2) rfl (evConnectChange_leaves hp hn hs)
  case trained => exact does_of ho hp (heard_of rfl hh3) rfl (htag ▸ evSsLinkU0_tells hss ha hd hv)
  case failed => exact does_of ho hp (heard_of rfl hh3) rfl (htag ▸ evSsTrainingFail_tells hss ha hd)

end Sys2Proof.Machine
end

section
/-! PROOF. Misbehaviour of a downstream port on USB, and the suspend-current check. -/

namespace Sys2Proof.Machine

variable {s u : State} {p : Nat}

/-! Misbehaviour (R170, R183, R184). -/

/-- A violation holds the port beside the hold of a command (R170). -/
theorem violated_eq (h : Hold) : h.violated = if h = .command ∨ h = .both then .both else .violation := by
  cases h <;> rfl

theorem evBabble_tells (h : (s.port p).bus.enabled = true) (speed : Nat) :
    Tells (s.onBus p fun b => { (b.counted 0x0101).dropped with cEnable := true, held := b.held.violated }) (s.evBabble p speed)
      [noteOf s.led.tag true 0 blkUsb2 .violation p (b16 0x0101 ++ b8 speed),
       noteOf s.led.tag false 0 blkUsb2 .portDisabled p (b8 2 ++ b16 0x0101)] := by
  unfold State.evBabble
  rw [h, if_neg (by decide)]
  have hheld := (portViolation_onBus_tells s 0 blkUsb2 0x0101 p (b8 speed) fun b =>
    { b.dropped with cEnable := true, held := b.held.violated }).append false 0 blkUsb2 .portDisabled p (b8 2 ++ b16 0x0101)
  rw [State.onBus_led] at hheld
  exact hheld

theorem evChatter_tells (h : (s.port p).bus.chatter = false) {changes : Nat} (hc : s.nat .hubChatterLimit 0 < changes) :
    Tells (s.onBus p fun b => { b.counted 0x0102 with chatter := true }) (s.evChatter p changes)
      [noteOf s.led.tag true (combOf p) blkUsb2 .violation p (b16 0x0102 ++ b8 (min 0xFF changes))] := by
  unfold State.evChatter
  rw [if_neg (by simp [h, hc])]
  exact portViolation_onBus_tells ..

theorem evSsInactive_tells (h : (s.port p).bus.ssPresent = true) :
    Tells (s.onBus p fun b => { b.counted 0x0106 with cLinkState := true }) (s.evSsInactive p)
      [noteOf s.led.tag true (combOf p) blkUsb3 .violation p (b16 0x0106)] := by
  unfold State.evSsInactive
  rw [if_pos h]
  exact portViolation_onBus_tells ..

/-! The suspend-current check (R183). -/

/-- Where inputs are taken, the check runs in RUN alone. -/
theorem unchecked_of_listening (hl : s.listening = true) (hm : s.mode ≠ .run) (average : BitVec 16) :
    s.unchecked (.suspendCurrentCheck p average) = true := by
  have hawake := awake_of_listening hl
  show (!s.mode.checksSuspend) = true
  cases hmode : s.mode <;> simp_all [Mode.checksSuspend, Mode.asleep]

/-- A check that the mode does not make changes nothing. -/
theorem suspendCurrentCheck_unchecked (hl : s.listening = true) (hp : isPort p = true) (average : BitVec 16)
    (h : s.unchecked (.suspendCurrentCheck p average) = true) : s.event (.suspendCurrentCheck p average) = s := by
  have hwf : (Instr.suspendCurrentCheck p average).wf = true := hp
  have hup : s.phase = .up := by
    simp [State.listening] at hl
    exact hl.1.1.1
  have hbanked : s.mode ≠ .banked := by
    rintro hm
    simp [State.listening, hm] at hl
  have hheard : s.unheard (.suspendCurrentCheck p average) = false := rfl
  unfold State.event
  simp [hwf, hup, hbanked, hheard, h]

/-- A CYCLE holds the port and turns its channel off; the grant is kept (R183). -/
theorem cycleStart_tells (hp : isPort p = true) (hpl : s.Plain p) (ha : (s.chan p).state.active = true) :
    Tells ((s.onChan p fun c => { c.wentOff (isIntegrated p) with retries := 0 }).onPort p fun q =>
        { q with vconn := false, pd := q.pd.endContract
                 bus := { q.bus.dropped.unpowered with
                   held := q.bus.held.violated, cycling := true, cyclePower := true, cycleUsed := true } })
      (s.cycleStart p)
      [noteOf s.led.tag false 0 blkUsb2 .portDisabled p (b8 2 ++ b16 0x0104),
       noteOf s.led.tag false 3 blkChan .chanOff p (b8 1)] := by
  set f : Bus → Bus := fun b =>
    { b.dropped with held := b.held.violated, cycling := true, cyclePower := true, cycleUsed := true } with hf
  have hheld : Tells _ ((s.onBus p f).holdEntry p .portDisabled 2 0x0104 false) _ := onBus_append_tells ..
  set v := (s.onBus p f).holdEntry p .portDisabled 2 0x0104 false with hv
  have hdown := policyDown_tells (s := v) (hheld.plain hp hpl).mode
    (by rw [hheld.chan, State.onBus_chan]; exact ha) false
  have hoff := ((hheld.onChan p _).onPort p _).trans hdown
  rw [State.onBus_eq, onChan_onPort, State.onPort_onPort, hheld.tag, State.onBus_led] at hoff
  unfold State.cycleStart
  rw [closeP1_none _ _ hpl.p1]
  dsimp only
  rw [← hf, ← hv, endOps_none _ _ _ (NoOp_of hpl.op (hoff.ops.trans (by simp)))]
  exact hoff

/-- A check finds the average above the limit, once in a suspend. -/
theorem evSuspendCurrent_over {average : BitVec 16} {action : Nat} (h : s.overSuspend p average = true)
    (ha : s.suspendAction p = action) :
    ∃ v, Tells (s.onBus p fun b => { b.counted 0x0104 with currentRecorded := true }) v
        [noteOf s.led.tag true 0 blkUsb2 .violation p (b16 0x0104 ++ (b16 average.toNat ++ b8 action))] ∧
      s.evSuspendCurrent p average =
        if action = 1 then v.onBus p fun b => { b with limited := true } else if action = 2 then v.cycleStart p else v := by
  refine ⟨(s.portViolation 0 blkUsb2 0x0104 p (b16 average.toNat ++ b8 action)).onBus p fun b => { b with currentRecorded := true },
    portViolation_onBus_tells .., ?_⟩
  unfold State.evSuspendCurrent
  rw [if_pos h, ha]

/-- LIMIT is in force from then on (R183). -/
theorem evSuspendCurrent_limits {average : BitVec 16} (h : s.overSuspend p average = true) (ha : s.nat .portSuspAction p = 1) :
    Tells (s.onBus p fun b => { b.counted 0x0104 with currentRecorded := true, limited := true }) (s.evSuspendCurrent p average)
      [noteOf s.led.tag true 0 blkUsb2 .violation p (b16 0x0104 ++ (b16 average.toNat ++ b8 1))] := by
  obtain ⟨v, hv, heq⟩ := evSuspendCurrent_over h (action := 1) (by simp [State.suspendAction, ha])
  have hlimit := hv.onBus p fun b => { b with limited := true }
  rw [onBus_onBus] at hlimit
  rw [heq, if_pos rfl]
  exact hlimit

/-- The first CYCLE of an attach follows the violation (R183). -/
theorem evSuspendCurrent_cycles {average : BitVec 16} (h : s.overSuspend p average = true) (ha : s.nat .portSuspAction p = 2)
    (hused : (s.port p).bus.cycleUsed = false) (hp : isPort p = true) (hpl : s.Plain p)
    (hactive : (s.chan p).state.active = true) :
    Tells ((s.onChan p fun c => { c.wentOff (isIntegrated p) with retries := 0 }).onPort p fun q =>
        { q with vconn := false, pd := q.pd.endContract
                 bus := { (q.bus.counted 0x0104).dropped.unpowered with
                   currentRecorded := true, cycling := true, cyclePower := true, cycleUsed := true
                   held := q.bus.held.violated } })
      (s.evSuspendCurrent p average)
      [noteOf s.led.tag true 0 blkUsb2 .violation p (b16 0x0104 ++ (b16 average.toNat ++ b8 2)),
       noteOf s.led.tag false 0 blkUsb2 .portDisabled p (b8 2 ++ b16 0x0104),
       noteOf s.led.tag false 3 blkChan .chanOff p (b8 1)] := by
  obtain ⟨v, hv, heq⟩ := evSuspendCurrent_over h (action := 2) (by simp [State.suspendAction, ha, hused])
  have hcycle := cycleStart_tells (s := v) hp (hv.plain hp hpl) (by rw [hv.chan, State.onBus_chan]; exact hactive)
  have hboth := ((hv.onChan p _).onPort p _).trans hcycle
  rw [State.onBus_eq, onChan_onPort, State.onPort_onPort, hv.tag, State.onBus_led] at hboth
  rw [heq, if_neg (by decide), if_pos rfl]
  exact hboth

/-- The end of a CYCLE that does not turn the channel on frees a port that only the violation holds (R183). -/
theorem evCycleOff_held (hc : (s.port p).bus.cycling = true) (hpw : (s.port p).bus.cyclePower = false)
    (hh : (s.port p).bus.held = .violation) :
    Tells (s.onBus p fun b => { b with cycling := false, cyclePower := false, held := .none }) (s.evCycleOff p)
      [noteOf s.led.tag true 0 blkUsb2 .portEnabled p (b8 1 ++ b16 0)] := by
  have hpowers : s.cyclePowers p = false := by simp [State.cyclePowers, hpw]
  have h := onBus_append_tells s p (fun b => { b with cycling := false, cyclePower := false, held := .none }) true 0 blkUsb2
    .portEnabled p (b8 1 ++ b16 0)
  unfold State.evCycleOff
  simp only [hc, hpowers, hh, Bool.false_and, Bool.or_false, Bool.not_true, Bool.false_eq_true, if_false, onBus_onBus]
  exact h

/-- Settles O34: each violation as it is recorded, and what the check's action does. -/
theorem usbMisbehaviour : Obligations.UsbMisbehaviour := by
  unfold Obligations.UsbMisbehaviour
  intro s p ho hp hh2 hh3 hhc seen
  have htag := ho.rested.1
  refine ⟨fun speed he => ?babble, fun changes hc hl => ?chatter, fun hs => ?inactive, fun hm average => ?unchecked,
    fun average hm hs hr he hrp hc hl => ?exceeds, fun hc hpw hh => ?cycleEnd⟩
  case babble =>
    have hbabble := evBabble_tells he speed
    simp only [violated_eq, htag] at hbabble
    exact does_of ho hp (heard_of rfl hh2) rfl hbabble
  case chatter => exact does_of ho hp (heard_of rfl hh2) rfl (htag ▸ evChatter_tells hc hl)
  case inactive => exact does_of ho hp (heard_of rfl hh3) rfl (htag ▸ evSsInactive_tells hs)
  case unchecked =>
    exact congrArg _ (suspendCurrentCheck_unchecked ho.listening hp average (unchecked_of_listening ho.listening hm average))
  case exceeds =>
    have hover : s.overSuspend p average = true := by simp [State.overSuspend, hs, hr, he, hrp, hc, hl]
    have hchecked := (heard_run (.suspendCurrentCheck p average) hm).2
    refine ⟨fun ha => ?limit, fun ha hused hpl => ?cycle⟩
    case limit =>
      exact does_of ho hp (heard_of rfl hhc) rfl (htag ▸ evSuspendCurrent_limits hover ha) hchecked
    case cycle =>
      have hcycle := evSuspendCurrent_cycles hover ha hused hp hpl (by simp [ChanState.active, hc])
      simp only [violated_eq, htag] at hcycle
      exact does_of ho hp (heard_of rfl hhc) rfl hcycle hchecked
  case cycleEnd => exact does_of ho hp (heard_none rfl) rfl (htag ▸ evCycleOff_held hc hpw hh)

end Sys2Proof.Machine
end

section
/-! PROOF. Where the statement of the Power Delivery commands fails: grants that pass the total. -/

namespace Sys2Proof.Machine

/-- A device in RUN whose grants pass `ALLOT.TOTAL_W` of 240 W: PORT1 is ready and holds its ceiling of 60 W, and PORT2 holds
200 W. -/
def overGranted : State :=
  ({ State.reset with mode := .run, phase := .up, cfg := { Cfg.init with state := .applied } }.onPort 1 fun q =>
    { q with grant := 600, pd := { q.pd with phase := .ready } }).onPort 2 fun q => { q with grant := 2000 }

/-- PD_RENEGOTIATE of PORT1. -/
def renegotiateOne : Command := headerCommand usbHeader .pdRenegotiate (b8 1)

theorem overGranted_takes : overGranted.Takes .c0 renegotiateOne :=
  ⟨⟨by decide, by decide, by decide, by decide⟩, by decide, by decide⟩

theorem overGranted_admits : (overGranted.taken renegotiateOne).refusal .c0 renegotiateOne = none := by decide

/-- The reservation of PORT1 falls to the 40 W that the other grants leave. -/
theorem overGranted_renegotiates :
    ((overGranted.submit usbHeader .pdRenegotiate (b8 1)).port 1).grant = 400 := by decide +kernel

/-- Refutes O52: where the grants pass the total nothing remains (R230), so that PORT1's ceiling is its own grant and no more than
what remains and that grant; yet PD_RENEGOTIATE reserves only what the other grants leave of the total, and the grant falls, where
the statement leaves it as it is. -/
theorem not_pdCommands : ¬ Obligations.PdCommands := by
  unfold Obligations.PdCommands
  intro h
  obtain ⟨hrenegotiate, -⟩ := h overGranted usbHeader 1 (by decide)
  obtain ⟨u, hu, hstated⟩ := hrenegotiate rfl rfl rfl (by decide) (by decide) (by decide) usbHeader .pdRenegotiate (b8 1) rfl
    overGranted_takes overGranted_admits
  have hrun : overGranted.submit usbHeader .pdRenegotiate (b8 1) = overGranted.after u := Host.Outcome.next.inj hu
  have hgrant := overGranted_renegotiates
  rw [hrun, hstated] at hgrant
  exact absurd hgrant (by decide +kernel)

end Sys2Proof.Machine
end

section
/-! PROOF. The Power Delivery engine of a port: its entries and violations, VCONN and the cable, and the SBU switches. -/

namespace Sys2Proof.Machine

variable {s t u : State} {p : Nat} {l : List Note}

theorem onPd_congr (s : State) (n : Nat) (f g : Pd → Pd) (h : f (s.port n).pd = g (s.port n).pd) : s.onPd n f = s.onPd n g :=
  onPort_congr s n _ _ (by rw [h])

theorem onPd_onPd (s : State) (n : Nat) (f g : Pd → Pd) : (s.onPd n f).onPd n g = s.onPd n fun d => g (f d) :=
  s.onPort_onPort n _ _

/-- Changes of one engine, before and after one of a channel, are one change. -/
theorem onPd_onChan_onPd (s : State) (n m : Nat) (f h : Pd → Pd) (g : Chan → Chan) :
    ((s.onPd n f).onChan m g).onPd n h = (s.onPd n fun d => h (f d)).onChan m g := by
  rw [State.onPd_eq, State.onPd_eq, onChan_onPort, State.onPort_onPort, State.onPd_eq, onChan_onPort]

theorem onPd_pd_self (hp : isPort p = true) (f : Pd → Pd) : ((s.onPd p f).port p).pd = f (s.port p).pd := by
  rw [State.onPd_eq, onPort_port_self _ _ _ hp]

theorem answering_onPort (s : State) (n : Nat) (f : Port → Port) (a : Answer) :
    (s.onPort n f).answering a = (s.answering a).onPort n f := by
  unfold State.onPort State.setPort
  split <;> rfl

theorem onSeg_onPort (s : State) (n g : Nat) (f : Port → Port) (x : Seg → Seg) :
    (s.onPort n f).onSeg g x = (s.onSeg g x).onPort n f := by
  unfold State.onPort State.setPort
  split <;> rfl

/-- A PD entry is one note of the port's Comb die. -/
theorem pdEntry_tells (s : State) (p : Nat) (external : Bool) (k : Kind) (data : List Byte) :
    Tells s (s.pdEntry p external k data) [noteOf s.led.tag external (combOf p) blkPd k p data] :=
  append_tells _ _ _ _ _ _ _

/-! Violations (R205, R212). -/

theorem inWindow_onPort (hp : isPort p = true) (f : Port → Port) (hf : (f (s.port p)).pd.counted = (s.port p).pd.counted)
    (now : Nat) : (s.onPort p f).inWindow p now = s.inWindow p now := by
  unfold State.inWindow
  rw [onPort_port_self _ _ _ hp, hf, State.onPort_nat]

/-- A PD violation recorded on its port. -/
def Port.recorded (code count : Nat) (q : Port) : Port :=
  { q with bus := q.bus.counted code, pd := { q.pd with violCount := count } }

theorem pdDetail_tells (s : State) (p code msg objs count fall : Nat) (m : BitVec 16) :
    Tells (s.onPort p (Port.recorded code count)) (s.pdDetail p code msg objs count fall m)
      [noteOf s.led.tag true (combOf p) blkPd .violation p
        (b16 code ++ (b8 msg ++ b8 objs ++ b8 count ++ b8 fall ++ b16 m.toNat))] := by
  have h := (portViolation_tells s (combOf p) blkPd code p (b8 msg ++ b8 objs ++ b8 count ++ b8 fall ++ b16 m.toNat)).onPd p
    fun d => { d with violCount := count }
  rw [State.onBus_eq, State.onPd_eq, State.onPort_onPort] at h
  exact h

/-- A violation that is not counted, after a change of its port. -/
theorem pdUncounted_tells (hp : isPort p = true) (f : Port → Port) (hf : (f (s.port p)).pd.counted = (s.port p).pd.counted)
    (code msg objs : Nat) (m : BitVec 16) :
    let n := (s.inWindow p s.ember.ms).length
    Tells (s.onPort p fun q => (f q).recorded code n) ((s.onPort p f).pdUncounted p code msg objs m)
      [noteOf s.led.tag true (combOf p) blkPd .violation p
        (b16 code ++ (b8 msg ++ b8 objs ++ b8 n ++ b8 0 ++ b16 m.toNat))] := by
  intro n
  have h := pdDetail_tells (s.onPort p f) p code msg objs n 0 m
  rw [State.onPort_onPort, State.onPort_led] at h
  unfold State.pdUncounted
  rw [inWindow_onPort hp f hf, State.onPort_ember]
  exact h

/-! VCONN and the cable (R187). -/

/-- An overload of VCONN outside the cable step is recorded, and nothing else follows. -/
theorem evVconnOverload_tells (hp : isPort p = true) (hv : (s.port p).vconn = true) (hc : (s.port p).pd.cable = false)
    (ma : BitVec 16) :
    let n := (s.inWindow p s.ember.ms).length
    Tells (s.onPort p fun q => Port.recorded 0x0205 n { q with vconn := false, vconnFault := true, cable5A := false })
      (s.evVconnOverload p ma)
      [noteOf s.led.tag true (combOf p) blkPd .violation p
        (b16 0x0205 ++ (b8 0xFF ++ b8 0 ++ b8 n ++ b8 0 ++ b16 ma.toNat))] := by
  unfold State.evVconnOverload
  simp only [hv, hc, Bool.not_true, Bool.false_eq_true, if_false]
  exact pdUncounted_tells hp (fun q => { q with vconn := false, vconnFault := true, cable5A := false }) rfl 0x0205 0xFF 0 ma

theorem evCableDiscovery_asks (hv : (s.port p).vconn = true) (hw : (s.port p).pd.phase = .cableWait) :
    s.evCableDiscovery p = (s.onPd p fun d => { d with phase := .cableAsked }).answering (.pd p 10) := by
  unfold State.evCableDiscovery
  rw [if_pos (by simp [hv, hw])]
  rfl

/-! The SBU switches of a mode whose segment is idle (R210, R211, R270). -/

/-- The end of a tether of an idle segment ends no transfer. -/
theorem untether_idle {g : Nat} (h : (s.seg g).running = none) (closed : Bool) :
    s.untether g closed = s.onSeg g fun x => { x with tether := 0 } := by
  have hidle : ((s.onSeg g fun x => { x with tether := 0 }).seg g).running = none := by
    rw [State.onSeg_seg]
    split <;> exact h
  unfold State.untether State.failTransfer
  dsimp only
  rw [hidle]
  split <;> rfl

/-- A state whose switches an overvoltage has opened, with its violation recorded and a change of the engine that follows. -/
def State.sbuOpened (s : State) (p g : Nat) (f : Pd → Pd) : State :=
  (s.onPort p fun q =>
    { q with bus := q.bus.counted 0x0206
             pd := f { q.pd with sbuClosed := false, sbuFault := true, violCount := (s.inWindow p s.ember.ms).length } }).onSeg g
    fun x => { x with tether := 0 }

theorem sbuOpened_onPd (s : State) (p g : Nat) (f : Pd → Pd) : (s.sbuOpened p g id).onPd p f = s.sbuOpened p g f := by
  rw [State.sbuOpened, State.onPd_eq, onSeg_onPort, State.onPort_onPort, ← onSeg_onPort]
  rfl

section Tethered
variable {g : Nat} (hm : (s.port p).modeSeg = some g) (hidle : (s.seg g).running = none)
include hm hidle

theorem evSbuClose_closes (hc : (s.port p).pd.sbuClosing = true) (hf : (s.port p).pd.sbuFault = false) :
    s.evSbuClose p = s.onPd p fun d => { d with sbuClosing := false, sbuClosed := true } := by
  unfold State.evSbuClose
  simp [hm, hidle, hc, hf]

theorem evSbuOpen_opens (hw : (s.port p).pd.wait = .exitOpen) :
    s.evSbuOpen p = ((s.onSeg g fun x => { x with tether := 0 }).onPd p fun d =>
      { d with sbuClosed := false, sbuClosing := false, wait := .exit }).answering (.pd p 10) := by
  unfold State.evSbuOpen
  simp [hm, hidle, hw, State.sends, pdVdm]

/-- An overvoltage of closed switches opens them with its violation; Exit Mode follows an exchange that runs. -/
theorem evSbuOvervoltage_opens (hp : isPort p = true) (hc : (s.port p).pd.sbuClosed = true) (mv : BitVec 16) :
    ∃ t, Tells (s.sbuOpened p g id) t
        [noteOf s.led.tag true (combOf p) blkPd .violation p
          (b16 0x0206 ++ (b8 0xFF ++ b8 0 ++ b8 (s.inWindow p s.ember.ms).length ++ b8 0 ++ b16 mv.toNat))] ∧
      s.evSbuOvervoltage p mv = match (s.port p).pd.wait with
        | .none | .exitOpen => (t.onPd p fun d => { d with wait := .exit }).answering (.pd p 10)
        | .exit => t
        | _ => t.onPd p fun d => { d with exitDue := true } := by
  have h := pdUncounted_tells (s := s) hp (fun q => { q with pd := { q.pd with sbuClosed := false, sbuFault := true } }) rfl
    0x0206 0xFF 0 mv
  have hrun : (((s.onPd p fun d => { d with sbuClosed := false, sbuFault := true }).pdUncounted p 0x0206 0xFF 0 mv).seg g).running
      = none := (congrArg Seg.running ((h.seg g).trans (State.onPort_seg ..))).trans hidle
  refine ⟨_, h.onSeg g fun x => { x with tether := 0 }, ?_⟩
  unfold State.evSbuOvervoltage
  simp only [hm, hc, if_true]
  rw [untether_idle hrun]
  rfl

end Tethered

/-- A fault keeps the switches open until detach (Table 09-8). -/
theorem evSbuClose_fault (hf : (s.port p).pd.sbuFault = true) : s.evSbuClose p = s := by
  unfold State.evSbuClose
  dsimp only
  split <;> simp [hf]

/-- Settles O38: each event of VCONN and of the switches on the port as it stands. -/
theorem vconnCableAndSbu : Obligations.VconnCableAndSbu := by
  unfold Obligations.VconnCableAndSbu
  refine ⟨fun s p ho hp hh => ⟨fun ma hv hc => ?overload, fun hv hw => ?cable⟩, fun s p g m ho hp _ hh hmode hseg hidle =>
    ?_⟩
  case overload => exact does_of ho hp (heard_of rfl hh) rfl (ho.rested.1 ▸ evVconnOverload_tells hp hv hc ma)
  case cable => exact does_of ho hp (heard_of rfl hh) rfl (evCableDiscovery_asks hv hw)
  have hm : (s.port p).modeSeg = some g := by simp [Port.modeSeg, hmode, hseg]
  refine ⟨fun hc hf => ?closes, fun hf => ?staysOpen, fun hw => ?opens, fun mv hc =>
    ⟨fun hw => ?exits, fun sop cmd svid hw => ?due⟩⟩
  case closes => exact does_of ho hp (heard_of rfl hh) rfl (evSbuClose_closes hm hidle hc hf)
  case staysOpen => exact does_of ho hp (heard_of rfl hh) rfl (evSbuClose_fault hf)
  case opens => exact does_of ho hp (heard_of rfl hh) rfl (evSbuOpen_opens hm hidle hw)
  all_goals
    obtain ⟨t, ht, heq⟩ := evSbuOvervoltage_opens hm hidle hp hc mv
    rw [ho.rested.1] at ht
    refine does_of ho hp (heard_of rfl hh) rfl ?_
    show Tells _ (s.evSbuOvervoltage p mv) _
    rw [heq]
  case exits =>
    rw [hw]
    exact (sbuOpened_onPd s p g _ ▸ ht.onPd p fun d => { d with wait := .exit }).answering (.pd p 10)
  case due =>
    have h := ht.onPd p fun d => { d with exitDue := true }
    rw [sbuOpened_onPd] at h
    rcases hw with hw | hw <;> rw [hw] <;> exact h

end Sys2Proof.Machine
end

section
/-! PROOF. How capabilities go out, and the contracts that end a negotiation. -/

namespace Sys2Proof.Machine

variable {s u X : State} {p : Nat} {l : List Note}

/-! Capabilities (R189 to R192). -/

/-- The set that a port is offered rests on nothing of the engine but the rail of its contract. -/
theorem pdoSet_onPd (s : State) (p : Nat) (f : Pd → Pd) (hf : ∀ d, (f d).contract = d.contract) (n a : Nat) :
    (s.onPd p f).pdoSet n a = s.pdoSet n a := by
  have hport (q : Nat) : ((s.onPd p f).port q).contractRail = (s.port q).contractRail ∧
      ((s.onPd p f).port q).grant = (s.port q).grant ∧ ((s.onPd p f).port q).cable5A = (s.port q).cable5A := by
    rw [State.onPd_eq, State.onPort_port]
    split
    · exact ⟨congrArg (Option.map Contract.rail) (hf _), rfl, rfl⟩
    · exact ⟨rfl, rfl, rfl⟩
  have hload (rail : Nat) : (s.onPd p f).railLoad rail n = s.railLoad rail n := by
    simp only [State.railLoad, hport]
  have hcurrent (rail : Nat) : (s.onPd p f).pdoCurrent n a rail = s.pdoCurrent n a rail := by
    unfold State.pdoCurrent State.railRoom State.imax State.railCap State.railUp
    simp only [hload, hport, State.onPd_cfg, State.onPd_nat, State.onPd_rails, State.onPd_value]
  simp only [State.pdoSet, hcurrent]

/-- The set of the reservation as it goes out. -/
def State.offering (s : State) (p : Nat) (d : Pd) : Pd :=
  { d with phase := .offered, caps := s.pdoSet p (s.port p).pd.reserved, flags := s.pdoFlags, capsProvisional := false
           provCaps := none, sends := 1, readvertise := false, owesCaps := false }

theorem sendCaps_eq (s : State) (p : Nat) : s.sendCaps p = (s.onPd p (s.offering p)).answering (.pd p 1) := rfl

/-- A set that is due goes out where its reservation has arrived. -/
theorem sendDue_arrived (hc : (s.port p).pd.provCaps = none) (ha : (s.port p).pd.arrived = true) : s.sendDue p = s.sendCaps p := by
  unfold State.sendDue
  simp only [hc, ha, if_true]

theorem sendDue_waits (hc : (s.port p).pd.provCaps = none) (ha : (s.port p).pd.arrived = false) :
    s.sendDue p = s.onPd p fun d => { d with phase := .waitGrant } := by
  unfold State.sendDue
  simp only [hc, ha, Bool.false_eq_true, if_false]

/-- Outside the cable step and without a provisional set, what is sent again is the set of the reservation. -/
theorem resend_arrived (hcable : (s.port p).pd.cable = false) (hprov : (s.port p).pd.capsProvisional = false)
    (hc : (s.port p).pd.provCaps = none) (ha : (s.port p).pd.arrived = true) : s.resend p = s.sendCaps p := by
  unfold State.resend
  simp only [hcable, hprov, Bool.false_and, Bool.false_eq_true, if_false]
  exact sendDue_arrived hc ha

/-- The arrival of the reservation sends the set that waits for it. -/
theorem evReservationArrival_sends (hp : isPort p = true) (ha : (s.port p).attached = true) (hn : (s.port p).pd.arrived = false)
    (hw : (s.port p).pd.phase = .waitGrant) :
    s.evReservationArrival p =
      (s.onPd p fun d => s.offering p { d with arrived := true }).answering (.pd p 1) := by
  have hpd : ((s.onPd p fun d => { d with arrived := true }).port p).pd = { (s.port p).pd with arrived := true } :=
    onPd_pd_self hp _
  have hset := pdoSet_onPd s p (fun d => { d with arrived := true }) (fun _ => rfl) p
  unfold State.evReservationArrival
  simp only [ha, hn, hpd, hw, Bool.not_true, Bool.or_self, Bool.false_eq_true, if_false]
  rw [sendCaps_eq, onPd_onPd]
  unfold State.offering State.pdoFlags
  simp only [hpd, hset, State.onPd_mode]

theorem evSrcCapsRepeat_again (hw : (s.port p).pd.phase = .offered) (hn : (s.port p).pd.sends < 50) :
    s.evSrcCapsRepeat p = (s.onPd p fun d => { d with sends := d.sends + 1 }).answering (.pd p 1) := by
  unfold State.evSrcCapsRepeat
  simp only [hw, hn, beq_self_eq_true, if_true]
  rfl

theorem evGoodcrc_offered (hw : (s.port p).pd.phase = .offered) :
    s.evGoodcrc p = s.onPd p fun d => { d with phase := .awaitRequest } := by
  unfold State.evGoodcrc
  rw [hw]

theorem evGoodcrc_accepted (hw : (s.port p).pd.phase = .accepted) :
    s.evGoodcrc p = s.onPd p fun d => { d with phase := .transDelay } := by
  unfold State.evGoodcrc
  rw [hw]

/-! Contracts (R194, R195). -/

/-- A grant that has not fallen is followed by no redistribution. -/
theorem redistributeSince_kept {grant : Nat} (h : grant ≤ (s.port p).grant) : s.redistributeSince grant p = s := by
  unfold State.redistributeSince
  rw [if_neg h.not_gt]

/-- The note of a contract. -/
def State.contractNote (s : State) (p : Nat) (c : Contract) : Note :=
  noteOf s.led.tag true (combOf p) blkPd .pdContract p
    (b8 c.rail ++ b8 c.pos ++ b16 c.op ++ b16 c.max ++ b16 c.power ++ b8 (s.classOf p) ++ b8 (s.port p).cable5A.toNat)

/-- A contract of the power granted is one entry, and the leg in use. -/
theorem contract_tells (hp : isPort p = true) (hpl : s.Plain p) (c : Contract) (hg : (s.port p).grant = c.power) :
    Tells ((s.onPd p fun d => d.contracted c s.led.next).onChan p fun x => { x with leg := some c.rail }) (s.contract p c)
      [s.contractNote p c] := by
  have hentry : Tells s (s.pdEntry p true .pdContract
    (b8 c.rail ++ b8 c.pos ++ b16 c.op ++ b16 c.max ++ b16 c.power ++ b8 (s.classOf p) ++ b8 (s.port p).cable5A.toNat))
      [s.contractNote p c] := pdEntry_tells ..
  set e := s.pdEntry p true .pdContract
    (b8 c.rail ++ b8 c.pos ++ b16 c.op ++ b16 c.max ++ b16 c.power ++ b8 (s.classOf p) ++ b8 (s.port p).cable5A.toNat) with he
  have hall := (hentry.onPd p fun d => d.contracted c s.led.next).onChan p fun x => { x with leg := some c.rail }
  set v := (e.onPd p fun d => d.contracted c s.led.next).onChan p fun x => { x with leg := some c.rail } with hv
  have hport : v.port p = { s.port p with pd := (s.port p).pd.contracted c s.led.next } := by
    rw [hall.port, State.onChan_port, State.onPd_eq, onPort_port_self _ _ _ hp]
  have hp1 : (v.port p).pd.p1.state ≠ 1 := by rw [hport]; exact hpl.p1
  have hgrant : (v.port p).grant = c.power := by rw [hport]; exact hg
  have hop : v.NoOp (.port p) := NoOp_of hpl.op (hall.ops.trans (by simp))
  unfold State.contract
  dsimp only
  rw [← he, ← hv, if_neg hp1, if_pos hgrant, endOpsOf_none _ _ _ _ hop, redistributeSince_kept (by rw [hgrant, hg])]
  exact hall

/-- The Type-C contract of the power granted ends the negotiation. -/
theorem implicitContract_tells (hp : isPort p = true) (hpl : s.Plain p) (hg : (s.port p).grant = rpPower (s.port p).rp) :
    let rp := (s.port p).rp
    let c : Contract := ⟨0, 0, rpCurrent rp, rpCurrent rp, rpPower rp⟩
    Tells ((s.onPd p fun d => { d.contracted c s.led.next with
        phase := .typeC, caps := [], capsProvisional := false, provCaps := none, cable := false, readvertise := false
        owesCaps := false }).onChan p fun x => { x with leg := some 0 }) (s.implicitContract p) [s.contractNote p c] := by
  intro rp c
  have h := contract_tells hp hpl c hg
  have hmode : ((s.contract p c).port p).pd.mode = none := by
    rw [h.port, State.onChan_port, onPd_pd_self hp]
    exact hpl.mode
  have hall := h.onPd p fun d => { d with
    phase := .typeC, caps := [], capsProvisional := false, provCaps := none, cable := false, readvertise := false
    owesCaps := false }
  rw [onPd_onChan_onPd] at hall
  show Tells _ (((s.contract p c).exitMode p).onPd p _) _
  rw [exitMode_none p hmode]
  exact hall

/-- The fiftieth send that nobody acknowledges leaves the port on Type-C current. -/
theorem evSrcCapsRepeat_last (hw : (s.port p).pd.phase = .offered) (hn : 50 ≤ (s.port p).pd.sends) :
    s.evSrcCapsRepeat p = s.implicitContract p := by
  unfold State.evSrcCapsRepeat
  simp only [hw, hn.not_gt, beq_self_eq_true, if_true, if_false]

/-- Settles O39: each way that capabilities go out, and the contract of a partner that never acknowledges them. -/
theorem capabilitiesAreSent : Obligations.CapabilitiesAreSent := by
  unfold Obligations.CapabilitiesAreSent
  intro s p ho hp hh d offers
  refine ⟨fun hw hn ha => ?arrives, fun hw hn => ?again, fun hw hn hpl hg => ?last, fun hw => ?offered, fun hw => ?accepted,
    fun hw hcable hprov hc ha => ?softReset⟩
  case arrives => exact does_of ho hp (heard_of rfl hh) rfl (evReservationArrival_sends hp ha hn hw)
  case again => exact does_of ho hp (heard_of rfl hh) rfl (evSrcCapsRepeat_again hw hn)
  case last =>
    have h := implicitContract_tells hp hpl hg
    unfold State.contractNote at h
    rw [← evSrcCapsRepeat_last hw hn, ho.rested.1] at h
    exact does_of ho hp (heard_of rfl hh) rfl h
  case offered => exact does_of ho hp (heard_of rfl hh) rfl (evGoodcrc_offered hw)
  case accepted => exact does_of ho hp (heard_of rfl hh) rfl (evGoodcrc_accepted hw)
  case softReset =>
    have hsent : s.evSoftResetAccepted p = s.sendCaps p := by
      unfold State.evSoftResetAccepted
      rw [if_pos (beq_iff_eq.mpr hw), resend_arrived hcable hprov hc ha]
    have harrived : s.sendCaps p = offers s := by
      rw [sendCaps_eq]
      exact congrArg (State.answering · _) (onPd_congr s p _ _ (congrArg (fun b => { s.offering p d with arrived := b }) ha))
    exact does_of ho hp (heard_of rfl hh) rfl (hsent.trans harrived)

end Sys2Proof.Machine
end

section
/-! PROOF. Requests, how they are judged, and the contract that an accepted one brings. -/

namespace Sys2Proof.Machine

variable {s u X : State} {p : Nat} {l : List Note}

/-- With nothing due, an engine that has no negotiation running is ready and sends nothing (R196, R203). -/
theorem pdIdle_quiet (hp : isPort p = true) (hr : (s.port p).pd.readvertise = false) (ho : (s.port p).pd.owesCaps = false)
    (hprov : (s.port p).pd.capsProvisional = false) (hc : (s.port p).pd.provCaps = none) :
    s.pdIdle p = s.onPd p fun d => { d with phase := .ready } := by
  unfold State.pdIdle
  simp only [onPd_pd_self hp, hr, ho, hprov, hc, Option.isSome_none, Bool.or_self, Bool.false_and, Bool.and_false,
    Bool.false_eq_true, if_false]

/-! Counted violations below the limit (R205, R212). -/

/-- A PD violation counted on its port. -/
def State.countedPort (s : State) (p code : Nat) (q : Port) : Port :=
  let recent := s.ember.ms :: s.inWindow p s.ember.ms
  { q with bus := q.bus.counted code, pd := { q.pd with counted := recent, violCount := recent.length } }

/-- A counted violation that does not reach the limit is recorded and then answered. -/
theorem pdViolation_below (h : (s.inWindow p s.ember.ms).length + 1 < s.nat .pdViolLimit p) (code msg objs answer : Nat) :
    ∃ t, Tells (s.onPort p (s.countedPort p code)) t
        [noteOf s.led.tag true (combOf p) blkPd .violation p
          (b16 code ++ (b8 msg ++ b8 objs ++ b8 ((s.inWindow p s.ember.ms).length + 1) ++ b8 0 ++ b16 0))] ∧
      s.pdViolation p code msg objs answer = t.pdAnswer p code answer := by
  have hfall : decide (s.nat .pdViolLimit p ≤ (s.ember.ms :: s.inWindow p s.ember.ms).length) = false :=
    decide_eq_false (by simpa using h)
  have ht := pdDetail_tells (s.onPd p fun d => { d with counted := s.ember.ms :: s.inWindow p s.ember.ms }) p code msg objs
    (s.ember.ms :: s.inWindow p s.ember.ms).length 0 0
  rw [State.onPd_eq, State.onPort_onPort, State.onPort_led] at ht
  refine ⟨_, ht, ?_⟩
  unfold State.pdViolation
  simp only [hfall, Bool.or_false, Bool.false_eq_true, if_false]
  rfl

/-! Requests (R193). -/

/-- Object positions count from 1. -/
theorem pdoAt_pos {pos : Nat} (h : 1 ≤ pos) (d : Pd) : d.pdoAt pos = d.caps[pos - 1]? := if_neg (by omega)

/-- The engine takes a Request: capabilities of its own set have been acknowledged, or a contract stands. -/
structure State.TakesRequest (s : State) (p : Nat) : Prop where
  listens : s.listens p = true
  phase : (s.port p).pd.phase = .awaitRequest ∨ (s.port p).pd.phase = .ready
  own : (s.port p).pd.capsProvisional = false
  revision : (s.port p).pd.revision ≠ 0

/-- A Request changes nothing of a revision that is known. -/
theorem onPd_revision (h : (s.port p).pd.revision ≠ 0) (r : Nat) :
    (s.onPd p fun d => { d with revision := if d.revision = 0 then r else d.revision }) = s := by
  rw [State.onPd_eq]
  apply onPort_self
  rw [if_neg h]

section Request
variable (ht : s.TakesRequest p) (op max : Nat) (rev2 : Bool)
include ht

/-- A Request for an object of the set within its current is accepted. -/
theorem evRequest_accepts {pos : Nat} {x : Pdo} (hx : (s.port p).pd.caps[pos - 1]? = some x) (hpos : 1 ≤ pos)
    (hop : op ≤ x.current) (hmax : max ≤ x.current) :
    s.evRequest p pos op max rev2 = (s.onPd p fun d =>
      { d with phase := if (s.chan p).gate = some x.rail then .sameRail else .accepted, reqPos := pos, reqOp := op
               reqMax := max }).answering (.pd p 2) := by
  have hat : (s.port p).pd.pdoAt pos = some x := (pdoAt_pos hpos _).trans hx
  have hopen : ((s.port p).pd.phase == .offered || (s.port p).pd.phase == .awaitRequest || (s.port p).pd.phase == .ready)
      = true := by rcases ht.phase with h | h <;> rw [h] <;> rfl
  unfold State.evRequest
  dsimp only
  rw [onPd_revision ht.revision]
  simp only [ht.listens, hopen, ht.own, hat, hop, hmax, Bool.not_true, Bool.and_false, Bool.false_and, Bool.false_eq_true,
    decide_true, Bool.and_self, if_true, if_false, beq_iff_eq]
  rfl

/-- A Request for an object that the set does not hold is a violation, answered Reject. -/
theorem evRequest_outside {pos : Nat} (hcaps : (s.port p).pd.caps ≠ []) (hpos : pos = 0 ∨ (s.port p).pd.caps.length < pos) :
    s.evRequest p pos op max rev2 = s.pdViolation p 0x0201 0x02 1 pdReject := by
  have hat : (s.port p).pd.pdoAt pos = none := by
    unfold Pd.pdoAt
    split
    · rfl
    · exact List.getElem?_eq_none (by omega)
  unfold State.evRequest
  dsimp only
  rw [onPd_revision ht.revision]
  simp only [ht.listens, ht.own, hat, hcaps, Bool.not_true, Bool.and_false, Bool.false_and, Bool.false_eq_true, if_false]

end Request

/-- The port after a violation that was answered Reject. -/
theorem pdAnswer_rejects (hp : isPort p = true) (hphase : (s.port p).pd.phase = .awaitRequest ∨ (s.port p).pd.phase = .ready)
    (hr : (s.port p).pd.readvertise = false) (ho : (s.port p).pd.owesCaps = false)
    (hprov : (s.port p).pd.capsProvisional = false) (hc : (s.port p).pd.provCaps = none) (code : Nat) :
    s.pdAnswer p code pdReject = (s.onPd p fun d => { d with phase := .ready }).answering (.pd p 3) := by
  have htrans : (s.port p).pd.inTransition = false := by
    rcases hphase with h | h <;> simp [Pd.inTransition, h]
  unfold State.pdAnswer
  rw [htrans, if_neg (by decide), if_neg (by decide), State.onPd_eq, answering_onPort]
  exact pdIdle_quiet (s := s.sends p pdReject) hp hr ho hprov hc

theorem evSameRail_ready (hw : (s.port p).pd.phase = .sameRail) :
    s.evSameRail p = (s.onPd p fun d => { d with phase := .psRdy }).answering (.pd p 5) := by
  unfold State.evSameRail
  rw [if_pos (by simp [hw])]
  rfl

/-- The GoodCRC of PS_RDY brings the contract of the accepted Request, and with nothing due the port is ready. -/
theorem evPdContract_tells (hp : isPort p = true) (hpl : s.Plain p) {x : Pdo} {power : Nat} (hw : (s.port p).pd.phase = .psRdy)
    (hx : (s.port p).pd.pdoAt (s.port p).pd.reqPos = some x)
    (hpower : inDeciwatts (centiwatts x.rail (s.port p).pd.reqMax) = power) (hg : (s.port p).grant = power)
    (hr : (s.port p).pd.readvertise = false) (howes : (s.port p).pd.owesCaps = false)
    (hprov : (s.port p).pd.capsProvisional = false) (hc : (s.port p).pd.provCaps = none) :
    let c : Contract := ⟨x.rail, (s.port p).pd.reqPos, (s.port p).pd.reqOp, (s.port p).pd.reqMax, power⟩
    Tells ((s.onPd p fun d => { d with
        phase := .ready, contract := some c, contractCount := s.led.next, reserved := power, gotIdentity := false
        svids := none, modes := [] }).onChan p fun y => { y with leg := some x.rail }) (s.evPdContract p)
      [s.contractNote p c] := by
  intro c
  have h := contract_tells hp hpl c hg
  have hpd : ((s.contract p c).port p).pd = (s.port p).pd.contracted c s.led.next := by
    rw [h.port, State.onChan_port, onPd_pd_self hp]
  have hidle := h.onPd p fun d => { d with phase := .ready }
  rw [onPd_onChan_onPd] at hidle
  have heq : s.evPdContract p = (s.contract p c).onPd p fun d => { d with phase := .ready } := by
    rw [← pdIdle_quiet hp (by rw [hpd]; exact hr) (by rw [hpd]; exact howes) (by rw [hpd]; exact hprov) (by rw [hpd]; exact hc)]
    unfold State.evPdContract
    simp only [hw, hx, hpower]
    rfl
  rw [heq, onPd_congr s p _ (fun d => { d.contracted c s.led.next with phase := .ready })
    (by simp only [Pd.contracted, hr, Bool.false_eq_true, if_false]; rfl)]
  exact hidle

/-- Settles O40: the Request as it is judged, and the contract that follows. -/
theorem requestsAndContracts : Obligations.RequestsAndContracts := by
  unfold Obligations.RequestsAndContracts
  intro s p ho hp hh d
  have htag := ho.rested.1
  refine ⟨fun hlisten hphase hprov hrev pos op max rev2 hpos => ?_, fun hw => ?sameRail,
    fun x hw hpos hx hpl hr howes hprov hc hround => ?contract⟩
  case sameRail => exact does_of ho hp (heard_of rfl hh) rfl (evSameRail_ready hw)
  case contract =>
    intro power hg
    have h := evPdContract_tells hp hpl hw ((pdoAt_pos hpos d).trans hx) (if_pos hround) hg hr howes hprov hc
    unfold State.contractNote at h
    rw [htag] at h
    exact does_of ho hp (heard_of rfl hh) rfl h
  have htakes : s.TakesRequest p := ⟨hlisten, hphase, hprov, hrev⟩
  have hwf : (Instr.request p pos op max rev2).wf = true := by
    show (isPort p && decide (pos ≤ 15)) = true
    simp [hp, hpos]
  refine ⟨fun x hx hpos hop hmax => ?accepts, fun hcaps hpos hr howes hc hlimit => ?rejects⟩
  case accepts => exact does_of ho hwf (heard_of rfl hh) rfl (evRequest_accepts htakes op max rev2 hx hpos hop hmax)
  case rejects =>
    obtain ⟨t, ht, heq⟩ := pdViolation_below hlimit 0x0201 0x02 1 pdReject
    have hpd : (t.port p).pd = (s.countedPort p 0x0201 (s.port p)).pd := by rw [ht.port, onPort_port_self _ _ _ hp]
    have hanswer := pdAnswer_rejects (s := t) hp (by rw [hpd]; exact hphase) (by rw [hpd]; exact hr) (by rw [hpd]; exact howes)
      (by rw [hpd]; exact hprov) (by rw [hpd]; exact hc) 0x0201
    have hall := (ht.onPd p fun d => { d with phase := .ready }).answering (.pd p 3)
    rw [← hanswer, ← heq, ← evRequest_outside htakes op max rev2 hcaps hpos, State.onPd_eq, State.onPort_onPort, htag] at hall
    exact does_of ho hwf (heard_of rfl hh) rfl hall

end Sys2Proof.Machine
end

section
/-! PROOF. Hard Resets and rail transitions of a port, and the messages that it answers. -/

namespace Sys2Proof.Machine

variable {s u X : State} {p : Nat} {l : List Note}

/-! The reservation that a Hard Reset sets anew (R192, R204). -/

theorem Tells.nextGrant (h : Tells X u l) (p : Nat) : u.nextGrant p = X.nextGrant p := by
  rw [h.2]
  rfl

theorem nextGrant_onChan (s : State) (n : Nat) (f : Chan → Chan) (p : Nat) : (s.onChan n f).nextGrant p = s.nextGrant p := by
  unfold State.nextGrant
  rw [remaining_onChan, State.onChan_port]
  simp [State.ceiling]

theorem nextGrant_onPort (hp : isPort p = true) (f : Port → Port) (hf : (f (s.port p)).grant = (s.port p).grant) :
    (s.onPort p f).nextGrant p = s.nextGrant p := by
  unfold State.nextGrant
  rw [remaining_onPort_same hp f hf, onPort_port_self _ _ _ hp, hf]
  simp [State.ceiling]

/-- A reservation set anew that leaves the grant as it is waits to arrive, and nothing is redistributed. -/
theorem reserveAgain_kept (hg : (s.port p).grant = s.nextGrant p) :
    (s.reserveAgain p).redistributeSince (s.port p).grant p =
      s.onPort p fun q => { q with pd := { q.pd with reserved := q.grant, arrived := false } } := by
  have heq : s.reserveAgain p = s.onPort p fun q => { q with pd := { q.pd with reserved := q.grant, arrived := false } } := by
    unfold State.reserveAgain
    dsimp only
    rw [if_pos hg, ← hg]
    exact onPort_congr s p _ _ rfl
  rw [heq]
  refine redistributeSince_kept ?_
  rw [State.onPort_port]
  split <;> exact le_refl _

/-! Hard Reset (R204). -/

/-- A port as a Hard Reset leaves it. -/
def Port.hardReset (q : Port) : Port :=
  { q with vconn := false, pd := { q.pd.startHardReset with reserved := q.grant, arrived := false } }

/-- A state whose port a Hard Reset has taken back, with every leg open. -/
def State.wasReset (s : State) (p : Nat) : State :=
  (s.onPort p Port.hardReset).legsOpen p

theorem Tells.legsOpen (h : Tells X u l) (p : Nat) : Tells (X.legsOpen p) (u.legsOpen p) l := h.onChan p _

/-- A plain port's Hard Reset is one entry; one that the device begins is sent, too. -/
theorem hardReset_tells (hp : isPort p = true) (hpl : s.Plain p) (hg : (s.port p).grant = s.nextGrant p)
    (initiator code : Nat) (external : Bool) :
    Tells (if initiator = 1 then s.wasReset p else (s.wasReset p).answering (.pd p 7)) (s.hardReset p initiator code external)
      [noteOf s.led.tag external (combOf p) blkPd .pdHardreset p (b8 initiator ++ b16 code)] := by
  have he := pdEntry_tells s p external .pdHardreset (b8 initiator ++ b16 code)
  set e := s.pdEntry p external .pdHardreset (b8 initiator ++ b16 code) with hedef
  have hpe : e.Plain p := hpl.of (by rw [he.port]) he.ops
  have hreset := (he.onPort p fun q => { q with vconn := false, pd := q.pd.startHardReset }).legsOpen p
  set v := (e.onPort p fun q => { q with vconn := false, pd := q.pd.startHardReset }).legsOpen p with hv
  have hgrant : (v.port p).grant = (s.port p).grant := by
    rw [hreset.port, State.legsOpen, State.onChan_port, onPort_port_self _ _ _ hp]
  have hnext : (v.port p).grant = v.nextGrant p := by
    rw [hgrant, hreset.nextGrant, State.legsOpen, nextGrant_onChan, nextGrant_onPort hp _ rfl, hg]
  have heq : s.hardReset p initiator code external =
      ((if initiator = 1 then v else v.answering (.pd p 7)).reserveAgain p).redistributeSince (s.port p).grant p := by
    unfold State.hardReset
    dsimp only
    rw [closeP1_none p _ hpl.p1, ← hedef, closeP1_none p _ hpe.p1, ite_self, exitMode_none p hpe.mode,
      endOpsOf_none _ _ _ _ hpe.op, ← hv]
    rfl
  rw [heq, ← hgrant]
  have hall := hreset.onPort p fun q => { q with pd := { q.pd with reserved := q.grant, arrived := false } }
  rw [State.legsOpen, onChan_onPort, State.onPort_onPort, ← onChan_onPort] at hall
  split
  · rw [reserveAgain_kept hnext]
    exact hall
  · have hkept := reserveAgain_kept (s := v.answering (.pd p 7)) (p := p) hnext
    rw [← answering_onPort] at hkept
    exact hkept ▸ hall.answering (.pd p 7)

theorem Tells.wasReset (h : Tells X u l) (p : Nat) : Tells (X.wasReset p) (u.wasReset p) l := (h.onPort p _).legsOpen p

/-- A Hard Reset that follows entries which leave the port plain and its grant as the reservation has it. -/
theorem Tells.hardReset (h : Tells X u l) (hp : isPort p = true) (hpl : X.Plain p) (hg : (X.port p).grant = X.nextGrant p)
    (code : Nat) (external : Bool) :
    Tells ((X.wasReset p).answering (.pd p 7)) (u.hardReset p 0 code external)
      (l ++ [noteOf X.led.tag external (combOf p) blkPd .pdHardreset p (b8 0 ++ b16 code)]) := by
  have hreset := hardReset_tells (s := u) hp (hpl.of (by rw [h.port]) h.ops) (by rw [h.port, h.nextGrant]; exact hg) 0 code external
  rw [if_neg (by decide), h.tag] at hreset
  exact ((h.wasReset p).answering (.pd p 7)).trans hreset

/-! Rail transitions (R200 to R202). -/

theorem evTransitionStart_slews (hw : (s.port p).pd.phase = .transDelay) (hr : s.railUp (s.nextRail p) = true) :
    s.evTransitionStart p true = (s.onPd p fun d => { d with phase := .slewing }).onChan p fun c =>
      { c with gate := slewGate (c.gate.getD 0) (s.nextRail p) } := by
  unfold State.evTransitionStart
  simp only [hw, hr, beq_self_eq_true, Bool.and_self, if_true]

theorem evTransitionStart_fails (hw : (s.port p).pd.phase = .transDelay) :
    s.evTransitionStart p false = s.transitionMissed p 2 0 := by
  unfold State.evTransitionStart
  simp only [hw, beq_self_eq_true, Bool.false_and, Bool.false_eq_true, if_true, if_false]

theorem evVbusInBand_settles (hw : (s.port p).pd.phase = .slewing) :
    s.evVbusInBand p = (s.onPd p fun d => { d with phase := .settling }).onChan p fun c =>
      { c with gate := some (s.nextRail p), gateCheck := isExternal p } :=
  if_pos (beq_iff_eq.mpr hw)

theorem evTransMax_missed (h : (s.port p).pd.inTransition = true) (elapsed : BitVec 16) :
    s.evTransMax p elapsed = s.transitionMissed p 1 elapsed := if_pos h

theorem evSettleMax_missed (hw : (s.port p).pd.phase = .slewing) (elapsed : BitVec 16) :
    s.evSettleMax p elapsed = s.transitionMissed p 2 elapsed := if_pos (beq_iff_eq.mpr hw)

/-- The note of a rail transition. -/
def State.transitionNote (s : State) (p result : Nat) (elapsed : BitVec 16) : Note :=
  noteOf s.led.tag true (combOf p) blkPd .railTransition p
    (b8 ((s.chan p).leg.getD 0) ++ b8 (s.nextRail p) ++ b8 result ++ b16 elapsed.toNat)

theorem transitionEntry_tells (s : State) (p result : Nat) (elapsed : BitVec 16) :
    Tells s (s.transitionEntry p result elapsed) [s.transitionNote p result elapsed] := pdEntry_tells ..

theorem Tells.nextRail (h : Tells X u l) (p : Nat) : u.nextRail p = X.nextRail p := by
  rw [h.2]
  rfl

/-- A transition that has settled, its gate checked, is done: the new leg is in use, and PS_RDY goes out. -/
theorem evRailTransition_tells (hw : (s.port p).pd.phase = .settling) (hc : (s.chan p).gateCheck = false) (elapsed : BitVec 16) :
    Tells (((s.onPd p fun d => { d with phase := .psRdy }).onChan p fun c => { c with leg := some (s.nextRail p) }).answering
      (.pd p 5)) (s.evRailTransition p elapsed) [s.transitionNote p 0 elapsed] := by
  have he := transitionEntry_tells s p 0 elapsed
  have hall := ((he.onChan p fun c => { c with leg := some (s.nextRail p) }).onPd p fun d => { d with phase := .psRdy }).answering
    (.pd p 5)
  unfold State.evRailTransition
  simp only [hw, hc, beq_self_eq_true, Bool.not_false, Bool.and_self, if_true, he.nextRail]
  rw [State.onPd_eq, onChan_onPort]
  exact hall

/-- A missed timer is the transition's entry and a Hard Reset (R202). -/
theorem transitionMissed_tells (hp : isPort p = true) (hpl : s.Plain p) (hg : (s.port p).grant = s.nextGrant p) (result : Nat)
    (elapsed : BitVec 16) :
    Tells ((s.wasReset p).answering (.pd p 7)) (s.transitionMissed p result elapsed)
      [s.transitionNote p result elapsed,
       noteOf s.led.tag true (combOf p) blkPd .pdHardreset p (b8 0 ++ b16 (if result = 1 then 0x0410 else 0x0411))] :=
  (transitionEntry_tells s p result elapsed).hardReset hp hpl hg _ true

/-- Settles O41: each step of a transition, and the Hard Reset that a missed timer brings. -/
theorem railTransitions : Obligations.RailTransitions := by
  unfold Obligations.RailTransitions
  intro s p ho hp hh d entry
  have hentry (result : Nat) (elapsed : BitVec 16) : s.transitionNote p result elapsed = entry result elapsed := by
    unfold State.transitionNote
    rw [ho.rested.1]
  refine ⟨fun hw hr => ?starts, fun hw => ?inBand, fun elapsed hw hc => ?done, fun hpl hg => ?_⟩
  case starts => exact does_of ho hp (heard_of rfl hh) rfl (evTransitionStart_slews hw hr)
  case inBand => exact does_of ho hp (heard_of rfl hh) rfl (evVbusInBand_settles hw)
  case done => exact does_of ho hp (heard_of rfl hh) rfl (hentry 0 elapsed ▸ evRailTransition_tells hw hc elapsed)
  intro reset hard
  have hmissed {v : State} {result : Nat} {elapsed : BitVec 16} (h : v = s.transitionMissed p result elapsed) :
      Tells reset v [entry result elapsed, hard (if result = 1 then 0x0410 else 0x0411)] := by
    have ht := transitionMissed_tells hp hpl hg result elapsed
    rw [hentry, ho.rested.1, ← h] at ht
    exact ht
  refine ⟨fun hw => ?noRail, fun elapsed ht => ?tooLong, fun elapsed hw => ?noBand⟩
  case noRail => exact does_of ho hp (heard_of rfl hh) rfl (hmissed (evTransitionStart_fails hw))
  case tooLong => exact does_of ho hp (heard_of rfl hh) rfl (hmissed (evTransMax_missed ht elapsed))
  case noBand => exact does_of ho hp (heard_of rfl hh) rfl (hmissed (evSettleMax_missed hw elapsed))

/-! Hard Resets of the partner, and the restore (R204, R212). -/

/-- A Hard Reset of the partner ends what stood, and nothing is sent. -/
theorem evHardResetReceived_tells (hp : isPort p = true) (hpl : s.Plain p) (hg : (s.port p).grant = s.nextGrant p)
    (ha : (s.port p).attached = true) (hc : (s.chan p).state.conducts = true) (hq : (s.port p).pd.phase ≠ .quiet)
    (hr : (s.port p).pd.phase ≠ .hardReset) (he : s.value .pdEnable p = 1) :
    Tells (s.wasReset p) (s.evHardResetReceived p)
      [noteOf s.led.tag true (combOf p) blkPd .pdHardreset p (b8 1 ++ b16 0)] := by
  unfold State.evHardResetReceived
  rw [if_pos (by simp [ha, hc, hq, hr, he])]
  exact hardReset_tells hp hpl hg 1 0 true

/-- A partner that never sends its Request has a counted violation, and a Hard Reset. -/
theorem evRequestTimeout_tells (hp : isPort p = true) (hpl : s.Plain p) (hg : (s.port p).grant = s.nextGrant p)
    (hw : (s.port p).pd.phase = .awaitRequest) (hlimit : (s.inWindow p s.ember.ms).length + 1 < s.nat .pdViolLimit p) :
    Tells (((s.onPort p (s.countedPort p 0x0203)).wasReset p).answering (.pd p 7)) (s.evRequestTimeout p)
      [noteOf s.led.tag true (combOf p) blkPd .violation p
        (b16 0x0203 ++ (b8 0xFF ++ b8 0 ++ b8 ((s.inWindow p s.ember.ms).length + 1) ++ b8 0 ++ b16 0)),
       noteOf s.led.tag true (combOf p) blkPd .pdHardreset p (b8 0 ++ b16 0x0203)] := by
  obtain ⟨t, ht, heq⟩ := pdViolation_below hlimit 0x0203 0xFF 0 pdHardReset
  have hport := onPort_port_self s p (s.countedPort p 0x0203) hp
  have hcounted : (s.onPort p (s.countedPort p 0x0203)).Plain p :=
    ⟨by rw [hport]; exact hpl.p1, by rw [hport]; exact hpl.mode, NoOp_of hpl.op (State.onPort_ops ..)⟩
  have hreset := ht.hardReset hp hcounted (by rw [nextGrant_onPort hp _ rfl, hport]; exact hg) 0x0203 true
  have hsent : s.evRequestTimeout p = t.hardReset p 0 0x0203 true := by
    unfold State.evRequestTimeout
    rw [if_pos (by simp [hw]), heq]
    rfl
  rw [hsent]
  rw [State.onPort_led] at hreset
  exact hreset

/-- A state whose port has VBUS back on the 5 V leg, with VCONN, and waits for its reservation. -/
def State.restored (s : State) (p : Nat) : State :=
  (s.onPort p fun q =>
    { q with vconn := q.ra && !q.vconnFault && (s.value .typecVconnEn 0).getLsbD (p - 1)
             pd := { q.pd with phase := .waitGrant } }).onChan p fun c =>
    { c with gate := if c.state.conducts = true then some 0 else none }

/-- A port whose reservation has not arrived waits for it after a Hard Reset. -/
theorem evHardResetRestore_waits (hp : isPort p = true) (hn : s.NoOp (.port p)) (hw : (s.port p).pd.phase = .hardReset)
    (hf : (s.port p).pd.fallback = false) (hc : (s.port p).pd.provCaps = none) (ha : (s.port p).pd.arrived = false) :
    s.evHardResetRestore p = s.restored p := by
  have hpd : ((s.restored p).port p).pd = { (s.port p).pd with phase := .waitGrant } := by
    rw [State.restored, State.onChan_port, onPort_port_self _ _ _ hp]
  have hback : (((s.onPd p fun d => { d with phase := .waitGrant }).vconnUp p).onChan p fun c =>
      { c with gate := if c.state.conducts = true then some 0 else none }) = s.restored p := by
    unfold State.vconnUp
    rw [State.onPd_eq, State.onPort_onPort, State.onPort_value]
    rfl
  have hfallback : ((s.restored p).port p).pd.fallback = false := by rw [hpd]; exact hf
  unfold State.evHardResetRestore
  rw [if_pos (beq_iff_eq.mpr hw)]
  dsimp only
  rw [hback, endOpsOf_none _ _ _ _ (NoOp_of hn (by simp [State.restored])), hfallback, if_neg (by decide),
    sendDue_waits (by rw [hpd]; exact hc) (by rw [hpd]; exact ha)]
  rw [State.restored, State.onPd_eq, onChan_onPort, State.onPort_onPort]

/-- Settles O42: both Hard Resets, and the restore. -/
theorem hardResets : Obligations.HardResets := by
  unfold Obligations.HardResets
  intro s p ho hp hh hpl d
  have htag := ho.rested.1
  refine ⟨fun hg => ⟨fun ha hc hq hr he => ?received, fun hw hlimit => ?timeout⟩, fun hw hf hc ha => ?restore⟩
  case received =>
    exact does_of ho hp (heard_of rfl hh) rfl (htag ▸ evHardResetReceived_tells hp hpl hg ha hc hq hr he)
  case timeout => exact does_of ho hp (heard_of rfl hh) rfl (htag ▸ evRequestTimeout_tells hp hpl hg hw hlimit)
  case restore => exact does_of ho hp (heard_of rfl hh) rfl (evHardResetRestore_waits hp hpl.op hw hf hc ha)

/-! Messages outside a rail transition (R203, Table 09-2). -/

section Messages
variable (hl : s.listens p = true) (ht : (s.port p).pd.inTransition = false)
include hl ht

theorem evGetRevision_answers : s.evGetRevision p = s.answering (.pd p 9) := by
  unfold State.evGetRevision
  simp only [hl, ht, Bool.not_true, Bool.false_eq_true, if_false]
  rfl

theorem evSwap_rejects (k : Swap) : s.evSwap p k = s.answering (.pd p 3) := by
  unfold State.evSwap
  simp only [hl, ht, Bool.not_true, Bool.false_eq_true, if_false]
  rfl

/-- An unsupported message is answered Reject in Revision 2.0, and else Not_Supported. -/
theorem evOther_unsupported (t : Byte) (n : Nat) :
    s.evOther p (.unsupported t n) = s.answering (.pd p (if (s.port p).pd.revision = 2 then 3 else 8)) := by
  unfold State.evOther
  simp only [hl, ht, Bool.not_true, Bool.false_eq_true, if_false]
  rfl

theorem evOther_alert : s.evOther p .alert = s := by
  unfold State.evOther
  simp only [hl, ht, Bool.not_true, Bool.false_eq_true, if_false]

theorem evSoftReset_waiting (hw : (s.port p).pd.phase = .waitGrant) : s.evSoftReset p = s.answering (.pd p 2) := by
  unfold State.evSoftReset
  simp only [hl, ht, hw, Bool.not_true, Bool.false_eq_true, if_false, beq_self_eq_true, Bool.or_true, if_true]
  rfl

/-- Get_Source_Cap inside another sequence is answered after it (log 93). -/
theorem evGetSourceCap_owed (ho : (s.port p).pd.phase ≠ .offered) (ha : (s.port p).pd.phase ≠ .awaitRequest)
    (hr : (s.port p).pd.phase ≠ .ready) (hc : (s.port p).pd.phase ≠ .typeC) :
    s.evGetSourceCap p = s.onPd p fun d => { d with owesCaps := true } := by
  unfold State.evGetSourceCap
  simp only [hl, ht, Bool.not_true, Bool.false_eq_true, if_false]

section Ready
variable (hw : (s.port p).pd.phase = .ready) (hcable : (s.port p).pd.cable = false)
  (hprov : (s.port p).pd.capsProvisional = false) (hc : (s.port p).pd.provCaps = none) (ha : (s.port p).pd.arrived = true)
include hw hcable hprov hc ha

theorem evGetSourceCap_sends : s.evGetSourceCap p = s.sendCaps p := by
  unfold State.evGetSourceCap
  simp only [hl, ht, hw, Bool.not_true, Bool.false_eq_true, if_false]
  exact resend_arrived hcable hprov hc ha

/-- Soft_Reset of a port that is ready is accepted, and capabilities follow. -/
theorem evSoftReset_sends : s.evSoftReset p = s.sendCaps p := by
  have hresend : (s.sends p pdAccept).resend p = (s.sends p pdAccept).sendCaps p := resend_arrived hcable hprov hc ha
  unfold State.evSoftReset
  simp only [hl, ht, hw, Bool.not_true, Bool.false_eq_true, if_false, hresend]
  show (State.onPd _ p _).answering _ = (State.onPd s p _).answering _
  rw [State.onPd_eq, State.onPd_eq, answering_onPort, answering_onPort]
  rfl

end Ready

end Messages

/-- BIST outside a rail transition is served on the wire only. -/
theorem evBist_wire (ht : (s.port p).pd.inTransition = false) (carrier : Bool) : s.evBist p carrier = s := by
  unfold State.evBist
  rw [ht, Bool.and_false, if_neg (by decide)]

/-- Settles O43: each message's answer at vSafe5V outside a rail transition. -/
theorem pdMessages : Obligations.PdMessages := by
  unfold Obligations.PdMessages
  intro s p ho hp hh hl d sent ht
  refine ⟨?revision, fun k => ?swap, fun t n => ?unsupported, ?alert, fun carrier => ?bist, fun hw => ?waiting,
    fun hw hcable hprov hc ha => ⟨?asked, ?softReset⟩, fun hoffered hawait hready htype => ?owed⟩
  case revision => exact does_of ho hp (heard_of rfl hh) rfl (evGetRevision_answers hl ht)
  case swap => exact does_of ho hp (heard_of rfl hh) rfl (evSwap_rejects hl ht k)
  case unsupported => exact does_of ho hp (heard_of rfl hh) rfl (evOther_unsupported hl ht t n)
  case alert => exact does_of ho hp (heard_of rfl hh) rfl (evOther_alert hl ht)
  case bist => exact does_of ho hp (heard_of rfl hh) rfl (evBist_wire ht carrier)
  case waiting => exact does_of ho hp (heard_of rfl hh) rfl (evSoftReset_waiting hl ht hw)
  case asked => exact does_of ho hp (heard_of rfl hh) rfl (evGetSourceCap_sends hl ht hw hcable hprov hc ha)
  case softReset => exact does_of ho hp (heard_of rfl hh) rfl (evSoftReset_sends hl ht hw hcable hprov hc ha)
  case owed => exact does_of ho hp (heard_of rfl hh) rfl (evGetSourceCap_owed hl ht hoffered hawait hready htype)

end Sys2Proof.Machine
end

section
/-! PROOF. Trips, retries and locks of a channel, and its gate and off checks. -/

namespace Sys2Proof.Machine

variable {s u X : State} {ch : Nat} {l : List Note}

theorem Tells.unlinked (h : Tells X u l) (hx : X.Unlinked ch) : u.Unlinked ch := unlinked_of hx h.prm h.segs

/-! A trip as it is recorded (R169, R221). -/

/-- A channel with one more trip counted. -/
def Chan.tripCounted (c : Chan) : Chan := { c with trips := saturate 0xFFFFFFFF (c.trips + 1) }

/-- A bus on which both hubs show an over-current. -/
def Bus.overloaded (b : Bus) : Bus := { b with overCurrent := true, cOverCurrent := true, overCurrents := b.overCurrents + 1 }

/-- The note of a trip. -/
def State.tripNote (s : State) (ch cause : Nat) (ma mv : BitVec 16) : Note :=
  noteOf s.led.tag true 3 blkChan .chanTrip ch (b8 cause ++ b8 (s.chan ch).retries ++ b16 ma.toNat ++ b16 mv.toNat)

section TripEntry
variable (s) (ch) (cause : Nat) (ma mv : BitVec 16)

theorem tripEntry_aux_tells (hp : isPort ch = false) :
    Tells (s.onChan ch Chan.tripCounted) (s.tripEntry ch cause (s.chan ch).retries ma mv) [s.tripNote ch cause ma mv] := by
  unfold State.tripEntry State.when
  simp only [hp, Bool.false_eq_true, if_false]
  exact (append_tells ..).onChan ch _

theorem tripEntry_port_tells (hp : isPort ch = true) :
    Tells ((s.onChan ch Chan.tripCounted).onBus ch Bus.overloaded) (s.tripEntry ch cause (s.chan ch).retries ma mv)
      [s.tripNote ch cause ma mv] := by
  unfold State.tripEntry State.when
  simp only [hp, if_true]
  exact ((append_tells ..).onChan ch _).onBus ch _

theorem tripEntry_nat (used : Nat) (x : Param) (j : Nat) : (s.tripEntry ch cause used ma mv).nat x j = s.nat x j := by
  unfold State.tripEntry State.when
  dsimp only
  split <;> simp

end TripEntry

/-! RETRY_WAIT (R221, R223). -/

/-- A channel in RETRY_WAIT. -/
def Chan.waitsRetry (c : Chan) : Chan :=
  { c with state := .retryWait, leg := none, gate := none, gateCheck := false, retryWaits := false, tripped := false }

theorem waitRetry_aux (hp : isPort ch = false) : s.waitRetry ch = s.onChan ch Chan.waitsRetry := by
  unfold State.waitRetry State.when
  simp only [hp, Bool.false_eq_true, if_false]
  rfl

theorem waitRetry_port (hp : isPort ch = true) (hpl : s.Plain ch) :
    s.waitRetry ch = (s.onChan ch Chan.waitsRetry).onPort ch fun q =>
      { q with vconn := false, bus := q.bus.unpowered, pd := q.pd.endContract } := by
  unfold State.waitRetry State.when
  simp only [hp, if_true]
  rw [closeP1_none _ _ hpl.p1, endPower_plain ch (by rw [State.onChan_port]; exact hpl.mode),
    endOps_none _ _ _ (NoOp_of hpl.op (by rw [State.onPort_ops, State.onChan_ops]))]
  rfl

/-- A port as a trip of its channel leaves it; the grant is kept. -/
def Port.tripped (q : Port) : Port := { q with vconn := false, pd := q.pd.endContract, bus := q.bus.overloaded.unpowered }

/-- A state whose channel has tripped and waits for its retry. -/
def State.tripWaits (s : State) (ch : Nat) : State :=
  let waits := s.onChan ch fun c => c.tripCounted.waitsRetry
  if isPort ch then waits.onPort ch Port.tripped else waits

theorem tripEntry_waitRetry_tells (hpl : isPort ch = true → s.Plain ch) (cause : Nat) (ma mv : BitVec 16) :
    Tells (s.tripWaits ch) ((s.tripEntry ch cause (s.chan ch).retries ma mv).waitRetry ch) [s.tripNote ch cause ma mv] := by
  unfold State.tripWaits
  cases hp : isPort ch with
  | false =>
    have h := (tripEntry_aux_tells s ch cause ma mv hp).onChan ch Chan.waitsRetry
    rw [State.onChan_onChan] at h
    rw [waitRetry_aux hp]
    exact h
  | true =>
    have he := tripEntry_port_tells s ch cause ma mv hp
    have h := (he.onChan ch Chan.waitsRetry).onPort ch fun q =>
      { q with vconn := false, bus := q.bus.unpowered, pd := q.pd.endContract }
    rw [State.onBus_eq, onChan_onPort, State.onChan_onChan, State.onPort_onPort] at h
    have hplain : (s.tripEntry ch cause (s.chan ch).retries ma mv).Plain ch :=
      (hpl hp).of (by rw [he.port, State.onBus_eq, onPort_port_self _ _ _ hp, State.onChan_port])
        (by rw [he.ops, State.onBus_ops, State.onChan_ops])
    rw [waitRetry_port hp hplain]
    exact h

theorem tripWaits_unlinked (h : s.Unlinked ch) : (s.tripWaits ch).Unlinked ch := by
  unfold State.tripWaits
  dsimp only
  split <;> exact unlinked_of h (by simp) (by simp)

/-- A trip with retries left. -/
theorem trip_waits_tells (hun : s.Unlinked ch) (hpl : isPort ch = true → s.Plain ch)
    (hr : (s.chan ch).retries < s.nat .chanRetryMax ch) (hc : (s.chan ch).state.conducts = true) (cause : Nat)
    (ma mv : BitVec 16) :
    Tells (s.tripWaits ch) (s.trip ch cause ma mv) [s.tripNote ch cause ma mv] := by
  have h := tripEntry_waitRetry_tells hpl cause ma mv
  unfold State.trip
  dsimp only
  rw [if_pos hc, tripEntry_nat, if_pos hr, linkTripped_none _ (h.unlinked (tripWaits_unlinked hun))]
  exact h

/-- Settles O1: each cause's event is its trip, which has retries left. -/
theorem tripEntersRetryWait : Obligations.TripEntersRetryWait := by
  unfold Obligations.TripEntersRetryWait
  intro s ch ma mv ho hh hch hun hpl hr waits ends trips
  have htrips (hc : (s.chan ch).state.conducts = true) {cause : Nat} {u : State} (hu : u = s.trip ch cause ma mv) :
      trips cause u := by
    have h := trip_waits_tells hun hpl hr hc cause ma mv
    unfold State.tripNote at h
    rw [ho.rested.1, ← hu] at h
    exact h
  refine ⟨fun hc => ⟨fun hover => ?short, fun hunder => ?below⟩, fun hon => ?overload, fun hramp => ?ramp,
    fun hint hc => ?hot⟩
  case short => exact does_of ho hch (heard_of rfl hh) rfl (htrips hc (if_neg (by simp [hover])))
  case below => exact does_of ho hch (heard_of rfl hh) rfl (if_pos (by simp [hc, hunder]))
  case overload =>
    have hconducts : (s.chan ch).state.conducts = true := by rcases hon with h | h <;> rw [h] <;> rfl
    have hnot : ((s.chan ch).state == .ramping) = false := by rcases hon with h | h <;> rw [h] <;> rfl
    exact does_of ho hch (heard_of rfl hh) rfl (htrips hconducts (if_neg (by rw [hnot]; exact Bool.false_ne_true)))
  case ramp =>
    have hfault : s.evRampFault ch ma mv = s.trip ch 2 ma mv := by
      unfold State.evRampFault
      rw [hramp]
    exact does_of ho hch (heard_of rfl hh) rfl (htrips (by rw [hramp]; rfl) hfault)
  case hot => exact does_of ho hch (heard_of rfl hh) rfl (htrips hc (if_pos hint))

/-! A channel that locks (R220, R221, R332). -/

/-- The note of a released grant, where there is one; what remains is that of the state `X` that the release leaves. -/
def State.releaseNotes (s X : State) (p : Nat) : List Note :=
  if 0 < (s.port p).grant then
    [noteOf s.led.tag false 0 blkAllot .allotChange p (b8 2 ++ b16 (s.port p).grant ++ b16 0 ++ b16 X.remaining ++ b8 0)]
  else []

/-- A grant, if any, is released after entries. -/
theorem Tells.releaseGrant (h : Tells X u l) (ch : Nat) :
    let freed := X.onPort ch fun q => { q with grant := 0, claim := 0 }
    Tells freed (u.releaseGrant ch) (l ++ X.releaseNotes freed ch) := by
  intro freed
  have hfreed : Tells freed (u.onPort ch fun q => { q with grant := 0, claim := 0 }) l := h.onPort ch _
  unfold State.releaseNotes
  split
  next hg =>
    have hrel := releaseGrant_tells (s := u) (p := ch) (by rw [h.port]; exact hg)
    dsimp only at hrel
    rw [hfreed.remaining, h.tag, h.port] at hrel
    exact hfreed.trans hrel
  next hg =>
    have hzero : (u.port ch).grant = 0 := by rw [h.port]; omega
    rw [List.append_nil, releaseGrant_zero u ch hzero,
      onPort_congr u ch _ (fun q => { q with grant := 0, claim := 0 }) (by rw [← hzero])]
    exact hfreed

theorem lockChan_aux_tells (hp : isPort ch = false) (reason : Nat) :
    Tells (s.onChan ch (Chan.wentLocked reason)) (s.lockChan ch reason)
      [noteOf s.led.tag false 3 blkChan .chanLocked ch (b8 reason)] := by
  rw [lockChan_aux s ch reason hp]
  exact append_tells_tag _ _ (congrArg Ledger.tag (State.onChan_led ..)) ..

/-- A state whose port's channel is locked, with the port's power released. -/
def State.portLocked (s : State) (p reason : Nat) : State :=
  (s.onChan p (Chan.wentLocked reason)).onPort p fun q => { q.released with waiting := false }

theorem Tells.portLocked (h : Tells X u l) (p reason : Nat) : Tells (X.portLocked p reason) (u.portLocked p reason) l :=
  (h.onChan p _).onPort p _

theorem lockChan_port_tells (hp : isPort ch = true) (hpl : s.Plain ch) (reason : Nat) :
    Tells (s.portLocked ch reason) (s.lockChan ch reason)
      (noteOf s.led.tag false 3 blkChan .chanLocked ch (b8 reason) :: s.releaseNotes (s.portLocked ch reason) ch) := by
  obtain ⟨t, ht, heq⟩ := lockChan_port s ch reason hp hpl
  have h := ht.releaseGrant ch
  rw [State.onPort_onPort] at h
  unfold State.releaseNotes at h ⊢
  rw [onPort_port_self _ _ _ hp, State.onPort_led, State.onChan_led, State.onChan_port] at h
  rw [heq]
  exact h

/-- A lock that follows entries which leave the port plain. -/
theorem Tells.lockChan_port (h : Tells X u l) (hp : isPort ch = true) (hpl : X.Plain ch) (reason : Nat) :
    Tells (X.portLocked ch reason) (u.lockChan ch reason)
      (l ++ noteOf X.led.tag false 3 blkChan .chanLocked ch (b8 reason) :: X.releaseNotes (X.portLocked ch reason) ch) := by
  have hlock := lockChan_port_tells (s := u) hp (hpl.of (by rw [h.port]) h.ops) reason
  unfold State.releaseNotes at hlock ⊢
  rw [(h.portLocked ch reason).remaining, h.tag, h.port] at hlock
  exact (h.portLocked ch reason).trans hlock

/-! A trip with every retry used. -/

/-- A state whose channel has tripped and is locked. -/
def State.tripLocks (s : State) (ch : Nat) : State :=
  let locks := s.onChan ch fun c => c.tripCounted.wentLocked 0
  if isPort ch then locks.onPort ch fun q => { q.tripped.released with waiting := false } else locks

theorem tripEntry_lockChan_tells (hpl : isPort ch = true → s.Plain ch) (cause : Nat) (ma mv : BitVec 16) :
    Tells (s.tripLocks ch) ((s.tripEntry ch cause (s.chan ch).retries ma mv).lockChan ch 0)
      ([s.tripNote ch cause ma mv, noteOf s.led.tag false 3 blkChan .chanLocked ch (b8 0)] ++
        if isPort ch = true then s.releaseNotes (s.tripLocks ch) ch else []) := by
  cases hp : isPort ch with
  | false =>
    have he := tripEntry_aux_tells s ch cause ma mv hp
    have h := (he.onChan ch (Chan.wentLocked 0)).trans (lockChan_aux_tells hp 0)
    rw [State.onChan_onChan, he.tag, State.onChan_led] at h
    unfold State.tripLocks
    rw [hp]
    exact h
  | true =>
    have he := tripEntry_port_tells s ch cause ma mv hp
    have h := he.lockChan_port hp ((hpl hp).of (by rw [State.onBus_eq, onPort_port_self _ _ _ hp, State.onChan_port])
      (by rw [State.onBus_ops, State.onChan_ops])) 0
    have heq : ((s.onChan ch Chan.tripCounted).onBus ch Bus.overloaded).portLocked ch 0 = s.tripLocks ch := by
      unfold State.portLocked State.tripLocks
      rw [State.onBus_eq, onChan_onPort, State.onChan_onChan, State.onPort_onPort, hp]
      rfl
    unfold State.releaseNotes at h ⊢
    rw [heq, State.onBus_eq, onPort_port_self _ _ _ hp, State.onPort_led, State.onChan_led, State.onChan_port] at h
    exact h

theorem tripLocks_noneWaits (hw : s.NoneWaits) : (s.tripLocks ch).NoneWaits := by
  unfold State.tripLocks
  dsimp only
  split
  · exact noneWaits_onPort (noneWaits_onChan hw _ _) _ _ rfl rfl
  · exact noneWaits_onChan hw _ _

theorem tripLocks_unlinked (h : s.Unlinked ch) : (s.tripLocks ch).Unlinked ch := by
  unfold State.tripLocks
  dsimp only
  split <;> exact unlinked_of h (by simp) (by simp)

theorem trip_locks_tells (hun : s.Unlinked ch) (hpl : isPort ch = true → s.Plain ch) (hw : s.NoneWaits)
    (hr : s.nat .chanRetryMax ch ≤ (s.chan ch).retries) (hc : (s.chan ch).state.conducts = true) (cause : Nat)
    (ma mv : BitVec 16) :
    Tells (s.tripLocks ch) (s.trip ch cause ma mv)
      ([s.tripNote ch cause ma mv, noteOf s.led.tag false 3 blkChan .chanLocked ch (b8 0)] ++
        if isPort ch = true then s.releaseNotes (s.tripLocks ch) ch else []) := by
  have h := tripEntry_lockChan_tells hpl cause ma mv
  unfold State.trip
  dsimp only
  rw [if_pos hc, tripEntry_nat, if_neg hr.not_gt, redistribute_tells h (tripLocks_noneWaits hw),
    linkTripped_none _ (h.unlinked (tripLocks_unlinked hun))]
  exact h

/-- Settles O2: the lock that follows the trip, and the grant that it releases. -/
theorem tripWithoutRetriesLocks : Obligations.TripWithoutRetriesLocks := by
  unfold Obligations.TripWithoutRetriesLocks
  intro s ch ma mv ho hh hch hun hpl hw hr hc hover locks ends released
  have htrip : s.evHardShort ch ma mv = s.trip ch 0 ma mv := if_neg (by simp [hover])
  have h := trip_locks_tells hun hpl hw hr hc 0 ma mv
  unfold State.tripNote State.releaseNotes at h
  rw [← ite_and, ho.rested.1, ← htrip] at h
  exact does_of ho hch (heard_of rfl hh) rfl h

/-! A channel turned on and its retry (R192, R220, R221). -/

/-- An AUX channel turned on after entries. -/
theorem Tells.chanUp_aux (h : Tells X u l) (hp : isPort ch = false) (cause : Nat) (external : Bool) :
    Tells (X.onChan ch fun c => c.wentOn false (X.led.next + l.length)) (u.chanUp ch cause external)
      (l ++ [noteOf X.led.tag external 3 blkChan .chanOn ch (b8 cause ++ b8 0xFF)]) := by
  have hon := (h.onChan ch fun c => c.wentOn false (X.led.next + l.length)).append external 3 blkChan .chanOn ch
    (b8 cause ++ b8 0xFF)
  rw [State.onChan_led] at hon
  unfold State.chanUp State.when
  simp only [hp, Bool.false_eq_true, if_false, h.1.1]
  exact hon

/-- A retry of an AUX channel: `CHAN_RETRY` and `CHAN_ON`, and the channel ramps from the second entry on. -/
theorem retry_aux_tells (hp : isPort ch = false) (external : Bool) :
    Tells (s.onChan ch fun c => { c.wentOn false (s.led.next + 1) with retries := c.retries + 1 }) (s.retry ch external)
      [noteOf s.led.tag external 3 blkChan .chanRetry ch
        (b8 ((s.chan ch).retries + 1) ++ b16 (s.nat .chanRetryDelay ch * 2 ^ (s.chan ch).retries)),
       noteOf s.led.tag false 3 blkChan .chanOn ch (b8 2 ++ b8 0xFF)] := by
  have hcount := append_tells (s.onChan ch fun c => { c with retries := (s.chan ch).retries + 1 }) external 3 blkChan
    .chanRetry ch (b8 ((s.chan ch).retries + 1) ++ b16 (s.nat .chanRetryDelay ch * 2 ^ (s.chan ch).retries))
  have h := hcount.chanUp_aux hp 2 false
  rw [State.onChan_onChan, State.onChan_led,
    onChan_congr s ch _ (fun c => { c.wentOn false (s.led.next + 1) with retries := c.retries + 1 }) rfl] at h
  unfold State.retry
  simp only [hp, Bool.false_eq_true, if_false, Nat.add_sub_cancel, State.onChan_nat]
  exact h

/-- An integrated port at vSafe5V that may negotiate waits for its reservation. -/
theorem evRampComplete_negotiates (hi : isIntegrated ch = true) (hs : (s.chan ch).state = .ramping)
    (hq : (s.port ch).pd.phase = .quiet) (hon : s.pdOn ch = true) (hcable : (s.port ch).pd.cable = false)
    (hc : (s.port ch).pd.provCaps = none) (ha : (s.port ch).pd.arrived = false) :
    s.evRampComplete ch = (s.onChan ch fun c => { c with state := .on }).onPd ch fun d => { d with phase := .waitGrant } := by
  have hon' : (s.onChan ch fun c => { c with state := .on }).pdOn ch = true := by
    unfold State.pdOn
    rw [State.onChan_value, State.onChan_port]
    exact hon
  unfold State.evRampComplete State.vsafeReached
  simp only [hs, beq_self_eq_true, if_true, int_notext hi, Bool.false_eq_true, if_false, State.onChan_port, hq, bne_self_eq_false,
    hon', Bool.not_true, hcable]
  exact sendDue_waits (by rw [State.onChan_port]; exact hc) (by rw [State.onChan_port]; exact ha)

/-- A gate check passed ends the ramp of an AUX channel (R224). -/
theorem evGatePass_aux (hx : isAux ch = true) (hs : (s.chan ch).state = .ramping) (hg : (s.chan ch).gateCheck = true) :
    s.evGatePass ch = s.onChan ch fun c => { c with state := .on, gateCheck := false } := by
  unfold State.evGatePass
  simp only [hg, hs, beq_self_eq_true, if_true, aux_notport hx, Bool.false_eq_true, if_false]
  exact State.onChan_onChan ..

theorem isChan_of_isAux (h : isAux ch = true) : isChan ch = true := by
  simp [isAux, isChan] at *
  omega

theorem padLatched_aux (hx : isAux ch = true) : s.padLatched ch = s.ember.latched := by
  rw [State.padLatched, hx, Bool.and_true]

/-- Settles O3: each event in the state of the channel that it moves. -/
theorem channelStateEvents : Obligations.ChannelStateEvents := by
  unfold Obligations.ChannelStateEvents
  intro s ch ho hh hch
  refine ⟨fun hs => ?limit, fun hs => ?regulated, fun hx hs => ?external, fun hi hs hq hon hcable hc ha => ?integrated,
    fun hx hs hg => ?gatePass, fun hi hd => ?discharged, fun hx hs hl => ?latched, fun hx hs hl => ?retries⟩
  case limit => exact does_of ho hch (heard_of rfl hh) rfl (if_pos (beq_iff_eq.mpr hs))
  case regulated => exact does_of ho hch (heard_of rfl hh) rfl (if_pos (beq_iff_eq.mpr hs))
  case external => exact does_of ho hch (heard_of rfl hh) rfl ((if_pos (beq_iff_eq.mpr hs)).trans (if_pos hx))
  case integrated =>
    exact does_of ho hch (heard_of rfl hh) rfl (evRampComplete_negotiates hi hs hq hon hcable hc ha)
  case gatePass => exact does_of ho hch (heard_of rfl hh) rfl (evGatePass_aux hx hs hg)
  case discharged => exact does_of ho hch (heard_of rfl hh) rfl (if_pos (beq_iff_eq.mpr hd))
  case latched =>
    exact does_of ho hch (heard_of rfl hh) rfl
      ((if_pos (beq_iff_eq.mpr hs)).trans (if_pos ((padLatched_aux hx).trans hl)))
  case retries =>
    have heq : s.evRetryDelay ch = s.retry ch true :=
      (if_pos (beq_iff_eq.mpr hs)).trans (if_neg (by rw [padLatched_aux hx, hl]; exact Bool.false_ne_true))
    have h := retry_aux_tells (s := s) (aux_notport hx) true
    rw [ho.rested.1, ← heq] at h
    exact does_of ho hch (heard_of rfl hh) rfl h

/-! The gate check and the off check (R224, R225). -/

theorem evGateTimeout_tells (hp : isPort ch = false) (hun : s.Unlinked ch) (hw : s.NoneWaits)
    (hc : (s.chan ch).state.conducts = true) (hg : (s.chan ch).gateCheck = true) (mv : BitVec 16) :
    Tells (s.onChan ch (Chan.wentLocked 1)) (s.evGateTimeout ch mv)
      [noteOf s.led.tag true 3 blkChan .gateFail ch (b16 mv.toNat), noteOf s.led.tag false 3 blkChan .chanLocked ch (b8 1)] := by
  have hfail := append_tells s true 3 blkChan .gateFail ch (b16 mv.toNat)
  have h := (hfail.onChan ch (Chan.wentLocked 1)).trans (lockChan_aux_tells hp 1)
  rw [hfail.tag] at h
  have hchecked : (s.chan ch).gateChecked = true := (if_pos hc).trans hg
  unfold State.evGateTimeout
  rw [if_pos hchecked]
  dsimp only
  rw [redistribute_tells h (noneWaits_onChan hw _ _), linkTripped_none ch (h.unlinked (unlinked_of hun (by simp) (by simp)))]
  exact h

theorem evBackdrive_tells (ho : (s.chan ch).offCheck = .rpOff) (ms : BitVec 16) :
    Tells ((s.onChan ch fun c => { c with offCheck := .none, refused := true }).onPort ch fun q =>
        { q with rpRemoved := false, waiting := false, bus := q.bus.counted 0x0403 })
      (s.evBackdrive ch ms)
      [noteOf s.led.tag true 3 blkChan .violation ch (b16 0x0403 ++ (b16 (s.chan ch).offMv.toNat ++ b16 ms.toNat))] := by
  have h := ((portViolation_tells s 3 blkChan 0x0403 ch (b16 (s.chan ch).offMv.toNat ++ b16 ms.toNat)).onChan ch fun c =>
    { c with offCheck := .none, refused := true }).onPort ch fun q => { q with rpRemoved := false, waiting := false }
  rw [State.onBus_eq, onChan_onPort, State.onPort_onPort] at h
  unfold State.evBackdrive
  dsimp only
  rw [if_pos (beq_iff_eq.mpr ho)]
  exact h

/-- A state whose port has leaked: its channel locked, and no Rp, contract or claim left. -/
def State.leaked (s : State) (p : Nat) : State :=
  (s.onChan p (Chan.wentLocked 2)).onPort p fun q =>
    { q with rpRemoved := false, waiting := false, vconn := false, claim := 0, bus := q.bus.unpowered, pd := q.pd.endContract }

theorem leak_tells (hp : isPort ch = true) (hpl : s.Plain ch) (hw : s.NoneWaits) (hg : (s.port ch).grant = 0) (suspect : Nat)
    (mv : BitVec 16) :
    Tells (s.leaked ch) (s.leak ch suspect mv)
      [noteOf s.led.tag true 3 blkChan .legLeak ch (b8 suspect ++ b16 mv.toNat),
       noteOf s.led.tag false 3 blkChan .chanLocked ch (b8 2)] := by
  have hleak := (append_tells s true 3 blkChan .legLeak ch (b8 suspect ++ b16 mv.toNat)).onPort ch fun q =>
    { q with rpRemoved := false }
  have h := hleak.lockChan_port hp (hpl.of (by rw [onPort_port_self _ _ _ hp]) (by rw [State.onPort_ops])) 2
  have hlocked : (s.onPort ch fun q => { q with rpRemoved := false }).portLocked ch 2 = s.leaked ch := by
    unfold State.portLocked State.leaked
    rw [onChan_onPort, State.onPort_onPort]
    exact onPort_congr _ ch _ _ (by rw [State.onChan_port]; simp [Port.released, hg])
  have hnone : (s.leaked ch).NoneWaits := noneWaits_onPort (noneWaits_onChan hw _ _) _ _ rfl rfl
  unfold State.releaseNotes at h
  rw [hlocked, onPort_port_self _ _ _ hp, State.onPort_led, if_neg hg.not_gt] at h
  unfold State.leak
  dsimp only
  rw [redistribute_tells h hnone]
  exact h

theorem suspectRail_range (s : State) : s.suspectRail.1 ≤ 3 ∨ s.suspectRail.1 = 0xFF := by
  unfold State.suspectRail
  dsimp only
  split
  · omega
  · exact .inr rfl

theorem evOffCheck_leaks (ho : (s.chan ch).offCheck = .window) (hs : (s.chan ch).state = .off)
    (ha : (s.port ch).attached = false) (mv : BitVec 16) :
    s.evOffCheck ch mv = State.leak { s with free := s.free + 1 } ch s.suspectRail.1 mv := by
  unfold State.evOffCheck
  simp only [ho, hs, ha, beq_self_eq_true, Bool.and_self, if_true, Bool.false_eq_true, if_false]
  rfl

theorem leaked_free (s : State) (p n : Nat) : State.leaked { s with free := n } p = { s.leaked p with free := n } := by
  cases p <;> rfl

theorem evOffCheck_removesRp (ho : (s.chan ch).offCheck = .window) (hs : (s.chan ch).state = .off)
    (ha : (s.port ch).attached = true) (mv : BitVec 16) :
    s.evOffCheck ch mv = (s.onChan ch fun c => { c with offCheck := .rpOff, offMv := mv }).onPort ch fun q =>
      { q with rpRemoved := true } := by
  unfold State.evOffCheck
  simp only [ho, hs, ha, beq_self_eq_true, Bool.and_self, if_true]

/-- Settles O4: the gate check, and each end of the off check. -/
theorem gateAndOffChecks : Obligations.GateAndOffChecks := by
  unfold Obligations.GateAndOffChecks
  intro s ch mv ms suspect ho hh hw
  have htag := ho.rested.1
  refine ⟨fun hx hun hc hg => ?gate, fun hi hd hs ha => ?attached, fun hi hd => ?backdrive,
    fun hi hpl hg => ⟨fun hd => ?leak, fun hd hs ha => ?detached⟩⟩
  case gate =>
    exact does_of ho (isChan_of_isAux hx) (heard_of rfl hh) rfl (htag ▸ evGateTimeout_tells (aux_notport hx) hun hw hc hg mv)
  case attached =>
    exact does_of ho (isChan_of_isPort _ (int_port hi)) (heard_of rfl hh) rfl (evOffCheck_removesRp hd hs ha mv)
  case backdrive =>
    have h := evBackdrive_tells hd ms
    rw [htag] at h
    exact does_of ho (isChan_of_isPort _ (int_port hi)) (heard_of rfl hh) rfl h
  case leak =>
    have heq : s.evLegLeak ch suspect mv = s.leak ch suspect.toNat mv := if_pos (beq_iff_eq.mpr hd)
    have h := leak_tells (int_port hi) hpl hw hg suspect.toNat mv
    rw [htag, ← heq] at h
    exact does_of ho (isChan_of_isPort _ (int_port hi)) (heard_of rfl hh) rfl h
  case detached =>
    have h := Tells_free (leak_tells (s := { s with free := s.free + 1 }) (int_port hi) ⟨hpl.p1, hpl.mode, hpl.op⟩ hw hg
      s.suspectRail.1 mv) (leaked_free s ch _)
    rw [← evOffCheck_leaks hd hs ha mv] at h
    exact does_of ho (isChan_of_isPort _ (int_port hi)) (heard_of rfl hh) rfl
      ⟨s.suspectRail.1, suspectRail_range s, htag ▸ h⟩

end Sys2Proof.Machine
end

section
/-! PROOF. Rails out of their band, and back in it. -/

namespace Sys2Proof.Machine

variable {s u : State} {rail : Nat}

theorem Tells.setRails {l : List Note} (h : Tells s u l) (r : BitVec 4) :
    Tells { s with rails := r } { u with rails := r } l := by
  refine ⟨h.1, ?_⟩
  rw [h.2]
  rfl

/-- The note of `FAULT` 0x0420 (R227). -/
def railNote (tag : BitVec 16) (rail how : Nat) : Note :=
  noteOf tag true 3 blkChan .fault 0 (b16 0x0420 ++ b8 0 ++ b8 rail ++ b8 how)

theorem railChange_tells (s : State) (rail how : Nat) (up : Bool) :
    Tells { s with rails := if up then s.rails ||| 1#4 <<< rail else s.rails &&& ~~~(1#4 <<< rail) }
      (s.railChange rail how up true) [railNote s.led.tag rail how] := by
  have h := append_tells s true 3 blkChan .fault 0 (b16 0x0420 ++ b8 0 ++ (b8 rail ++ b8 how))
  unfold State.railChange State.fault
  dsimp only
  rw [append_rails]
  exact h.setRails _

/-- A state in which a rail is no longer present. -/
def State.railDown (s : State) (rail : Nat) : State := { s with rails := s.rails &&& ~~~(1#4 <<< rail) }

/-- What a lost rail ends: for RAIL_5V every port channel's power, else the contracts that use it (R227, R332). -/
def State.railEnds (s : State) (rail : Nat) : State :=
  if rail = 0 then
    s.each allPorts fun p t =>
      if (t.chan p).state.active then (t.policyOff p false .fault true).onPort p fun q => { q with waiting := q.attached } else t
  else
    s.each allPorts fun p t =>
      if (t.port p).explicit && (t.port p).contractRail == some rail then t.hardReset p 0 0x0420 false else t

/-- A rail that is present and leaves its band goes with its entry, and then what used it. -/
theorem railLost_present (h : s.railUp rail = true) (how : Nat) :
    ∃ t, Tells (s.railDown rail) t [railNote s.led.tag rail how] ∧ s.railLost rail how = t.railEnds rail :=
  ⟨s.railChange rail how false true, railChange_tells s rail how false, if_pos h⟩

theorem railLost_absent (h : s.railUp rail = false) (how : Nat) : s.railLost rail how = s :=
  if_neg (by rw [h]; exact Bool.false_ne_true)

/-! The legs that Forge opens at once touch neither the rails nor the ledger. -/

theorem legsOff_keeps_rest (s : State) (rail : Nat) :
    (s.legsOff rail).rails = s.rails ∧ (s.legsOff rail).led = s.led ∧ (s.legsOff rail).prm = s.prm :=
  each_keeps (P := fun t => t.rails = s.rails ∧ t.led = s.led ∧ t.prm = s.prm)
    (fun t n h => by simpa using h) ⟨rfl, rfl, rfl⟩

theorem legsOff_railUp (s : State) (rail : Nat) : (s.legsOff rail).railUp rail = s.railUp rail := by
  obtain ⟨hrails, _, hprm⟩ := legsOff_keeps_rest s rail
  unfold State.railUp State.value
  rw [hrails, hprm]

theorem legsOff_eq (s : State) (rail : Nat) :
    s.legsOff rail =
      s.each allPorts fun p t => t.onChan p fun c => { c with gate := if c.gate = some rail then none else c.gate } := by
  simp only [State.legsOff, beq_iff_eq]

/-- Settles O5: the loss and the return of a rail. -/
theorem railsFollowTheirFaults : Obligations.RailsFollowTheirFaults := by
  unfold Obligations.RailsFollowTheirFaults
  intro s rail ho hh hr entry down opened up
  have htag := ho.rested.1
  have hwf : decide (rail ≤ 3) = true := decide_eq_true hr
  refine ⟨fun hup i how v hi => ?lost, fun hdown => ⟨?low, ?high⟩, fun hclear hmask => ?back⟩
  case lost =>
    rcases hi with ⟨rfl, rfl, rfl⟩ | ⟨rfl, rfl, rfl⟩
    · have h := railLost_present hup 0
      rw [htag] at h
      exact does_of ho hwf (heard_of rfl hh) rfl h
    · have h := railLost_present ((legsOff_railUp s rail).trans hup) 1
      rw [(legsOff_keeps_rest s rail).2.1, htag, legsOff_eq] at h
      have heq : s.evRailHigh rail = opened.railLost rail 1 := (if_pos hup).trans (by rw [legsOff_eq])
      rw [← heq] at h
      exact does_of ho hwf (heard_of rfl hh) rfl h
  case low => exact does_of ho hwf (heard_of rfl hh) rfl (railLost_absent hdown 0)
  case high =>
    have heq : s.evRailHigh rail = s := if_neg (by rw [hdown]; exact Bool.false_ne_true)
    exact does_of ho hwf (heard_of rfl hh) rfl heq
  case back =>
    have h := railChange_tells s rail 2 true
    rw [htag] at h
    have heq : s.evRailBack rail =
        if rail = 0 then (s.railChange rail 2 true true).redistribute else s.railChange rail 2 true true :=
      if_neg (by simp [hclear, hmask])
    exact does_of ho hwf (heard_of rfl hh) rfl ⟨_, h, heq⟩

end Sys2Proof.Machine
end

section
/-! PROOF. The charger and the balancer, and the groups of cells that limit the charge. -/

namespace Sys2Proof.Machine

variable {s : State} {cell k : Nat}

/-! Charger, bleeding and the refill comparator (R236 to R238). -/

theorem mayCharge_iff :
    s.mayCharge = true ↔
      s.monitorUp = true ∧ s.mode.charges = true ∧ s.faultOpen 0x0432 0 = false ∧ s.store.latchedCells = 0 := by
  simp [State.mayCharge, and_assoc]

theorem evChargerStart_eq (s : State) :
    s.evChargerStart =
      if s.monitorUp = true ∧ s.mode.charges = true ∧ s.faultOpen 0x0432 0 = false ∧ s.store.latchedCells = 0 then
        s.onStore fun g => { g with charging := true }
      else s := by
  unfold State.evChargerStart
  simp only [mayCharge_iff]

theorem evCellBleed_stops (h1 : 1 ≤ cell) (h : cell ≤ s.cells) :
    s.evCellBleed cell false = s.onStore fun g => { g with bleeding := g.bleeding &&& ~~~(cellBit cell) } :=
  if_neg (by omega)

theorem evCellBleed_starts (h1 : 1 ≤ cell) (h : cell ≤ s.cells) :
    s.evCellBleed cell true =
      if s.monitorUp = true ∧ s.mode ≠ .deepSleep ∧ s.store.besideOpen cell = false then
        s.onStore fun g => { g with bleeding := g.bleeding ||| cellBit cell }
      else s := by
  unfold State.evCellBleed
  rw [if_neg (by omega)]
  simp [and_assoc]

theorem evRefill_eq (s : State) :
    s.evRefill =
      if s.mode = .deepSleep ∧ s.wakeEnabled 9 = true then
        s.onPw fun w => { w with wakeLatch := w.wakeLatch ||| (1#10 <<< 9) }
      else s := by
  simp only [State.evRefill, State.latchWake, beq_iff_eq, ite_and]

/-! Groups (R240). -/

/-- The next cell joins the newest group where the tap between them is recorded open, and begins one of its own elsewhere. -/
theorem groups_step (g : Store) (n : Nat) :
    ∃ l rest, g.groups (n + 1) = ((n + 1) :: l) :: rest ∧
      g.groups (n + 2) = if g.tapOpen (n + 1) then ((n + 2) :: (n + 1) :: l) :: rest else [n + 2] :: ((n + 1) :: l) :: rest := by
  have hhead : ∃ l rest, g.groups (n + 1) = ((n + 1) :: l) :: rest := by
    rw [Store.groups]
    split
    · split <;> exact ⟨_, _, rfl⟩
    · exact ⟨_, _, rfl⟩
  obtain ⟨l, rest, hl⟩ := hhead
  exact ⟨l, rest, hl, by rw [Store.groups, hl]⟩

/-- A group holds cells of the stack alone. -/
theorem groups_le (g : Store) (n : Nat) : ∀ x ∈ g.groups n, ∀ k ∈ x, k ≤ n := by
  induction n with
  | zero => simp [Store.groups]
  | succ n ih =>
    cases n with
    | zero => simp [Store.groups]
    | succ n =>
      obtain ⟨l, rest, hl, hstep⟩ := groups_step g n
      rw [hl] at ih
      rw [hstep]
      split <;> grind

/-- Every cell of the stack is in a group. -/
theorem groups_cover (g : Store) (n : Nat) (h1 : 1 ≤ k) (h : k ≤ n) : ∃ x ∈ g.groups n, k ∈ x := by
  induction n with
  | zero => omega
  | succ n ih =>
    cases n with
    | zero => exact ⟨[1], by simp [Store.groups], by simp; omega⟩
    | succ n =>
      obtain ⟨l, rest, hl, hstep⟩ := groups_step g n
      rw [hl, List.exists_mem_cons_iff] at ih
      rw [hstep]
      rcases Nat.lt_or_eq_of_le h with hold | rfl
      · split <;> simp only [List.exists_mem_cons_iff] <;> grind
      · split <;> exact ⟨_, List.mem_cons_self, List.mem_cons_self⟩

/-- Two neighbours are in one group exactly where the tap between them is recorded open. -/
theorem groups_join_iff (g : Store) (n : Nat) (h1 : 1 ≤ k) (h : k < n) :
    (∃ x ∈ g.groups n, k ∈ x ∧ k + 1 ∈ x) ↔ g.tapOpen k = true := by
  induction n with
  | zero => omega
  | succ n ih =>
    cases n with
    | zero => omega
    | succ n =>
      obtain ⟨l, rest, hl, hstep⟩ := groups_step g n
      have hle := groups_le g (n + 1)
      rw [hl] at ih hle
      rw [hstep]
      rcases Nat.lt_or_eq_of_le (Nat.le_of_lt_succ h) with hold | rfl
      · rw [← ih hold]
        split <;> simp only [List.exists_mem_cons_iff] <;> grind
      · -- The newest cell is in the first group alone, and its neighbour is there where the tap is open.
        split <;> simp only [List.exists_mem_cons_iff] <;> grind

/-- Settles O6: the charger, the balancer and the refill comparator by their conditions, and the charge limits by the groups. -/
theorem chargerAndBalancer : Obligations.ChargerAndBalancer := by
  unfold Obligations.ChargerAndBalancer
  intro s
  refine ⟨acts_of rfl rfl (evChargerStart_eq s), acts_of rfl rfl rfl, fun cell h1 h h6 => ?bleed,
    acts_of rfl rfl (evRefill_eq s), fun x hx => ?limit, fun k h1 h => ?cover, fun k h1 h => ?join⟩
  case bleed =>
    have hwf : cellNo cell = true := by simp [cellNo, h1, h6]
    exact ⟨acts_of hwf rfl (evCellBleed_stops h1 h), acts_of hwf rfl (evCellBleed_starts h1 h)⟩
  case limit =>
    obtain ⟨l, _, rfl⟩ := List.mem_map.mp hx
    rfl
  case cover =>
    obtain ⟨l, hl, hk⟩ := groups_cover s.store s.cells h1 h
    exact ⟨_, List.mem_map_of_mem hl, hk⟩
  case join =>
    have hjoin := groups_join_iff s.store s.cells h1 h
    simpa [State.chargeLimits, Store.tapOpen] using hjoin

end Sys2Proof.Machine
end

section
/-! PROOF. What the monitor of the Honeystore finds. -/

namespace Sys2Proof.Machine

variable {s t : State} {tap cell sig : Nat}

/-! Latched faults (R240, Table 11-6). -/

theorem evChargerFault_tells {ov : Bool} (hm : s.monitorUp = true) (hov : ov = true ∨ s.store.charging = true)
    (hf : s.faultOpen 0x0432 0 = false) :
    Tells (s.evChargerStop.faulted 0x0432 0 (byteOf (b8 ov.toNat) 0)) (s.evChargerFault ov)
      [noteOf s.led.tag true 3 blkStore .fault 0 (b16 0x0432 ++ b8 1 ++ b8 ov.toNat)] := by
  have h := latch_tells s.evChargerStop true 3 blkStore 0x0432 0 (b8 ov.toNat) hf
  unfold State.evChargerFault
  rw [if_pos (by simpa [hm] using hov)]
  exact h

/-- Taps that the monitor puts under test. -/
theorem startTaps_monitor (s : State) (taps : List Nat) :
    s.startTaps taps false =
      s.onStore fun g => { g with tapTesting := g.tapTesting ||| taps.foldl (fun b t => b ||| tapBit t) 0#7 } := rfl

theorem evSumMismatch_tells (hm : s.monitorUp = true) (hf : s.faultOpen 0x0431 0 = false) (top : Bool) (mv : BitVec 16) :
    Tells ((s.onStore fun g =>
        { g with topOpen := g.topOpen || top, tapTesting := g.tapTesting ||| (tapBit 0 ||| tapBit s.cells) }).faulted 0x0431 0
          (byteOf (b8 top.toNat) 0))
      (s.evSumMismatch top mv)
      [noteOf s.led.tag true 3 blkStore .fault 0 (b16 0x0431 ++ b8 1 ++ (b8 top.toNat ++ b16 mv.toNat))] := by
  let d := b8 top.toNat ++ b16 mv.toNat
  have h := latch_tells s true 3 blkStore 0x0431 0 d hf
  have hcells : (s.latch true 3 blkStore 0x0431 0 d).cells = s.cells := h.nat .holdCells 0
  have heq : s.evSumMismatch top mv = (s.latch true 3 blkStore 0x0431 0 d).onStore fun g =>
      { g with topOpen := g.topOpen || top, tapTesting := g.tapTesting ||| (tapBit 0 ||| tapBit s.cells) } := by
    rw [← hcells]
    simp only [State.evSumMismatch, hm, if_true, startTaps_monitor, List.foldl, BitVec.zero_or]
    rfl
  rw [heq]
  exact h.onStore _

/-! Taps (R240, R241). -/

theorem evCellDeviation_tests (hm : s.monitorUp = true) (h1 : 1 ≤ tap) (h : tap < s.cells) :
    s.evCellDeviation tap = s.onStore fun g => { g with tapTesting := g.tapTesting ||| tapBit tap } := by
  unfold State.evCellDeviation
  rw [if_pos (by simp [hm, h1, h]), startTaps_monitor]
  simp only [List.foldl, BitVec.zero_or]

/-- A judged tap, its tag put back, ends no command where none is pending. -/
theorem tapsDone_noOp (h : s.NoOp .honeystore) (e : t.ops = s.ops) (a : BitVec 16) : (t.tagged a).tapsDone = t.tagged a := by
  have hop : (t.tagged a).hasOp .honeystore = false := by
    have hall := List.filter_eq_nil_iff.mp (NoOp_of h e)
    simpa [State.hasOp, State.opOf] using hall
  unfold State.tapsDone
  exact if_neg (by simp [hop])

/-- A tap open for the first time this boot is recorded, and the cells beside it are no longer bled. -/
theorem tapFound_tells (h : s.store.tapRecorded.getLsbD tap = false) (mv : Nat) :
    Tells (s.onStore fun g =>
        { g with tapsOpen := g.tapsOpen ||| tapBit tap, tapRecorded := g.tapRecorded ||| tapBit tap
                 bleeding := g.bleeding &&& ~~~(cellBit (tap + 1)) &&& ~~~(if tap = 0 then 0 else cellBit tap) })
      (s.tapFound tap mv false) [noteOf s.led.tag true 3 blkStore .holdTapOpen tap (b16 mv)] := by
  unfold State.tapFound
  dsimp only
  rw [if_neg (show ¬(s.store.tapRecorded.getLsbD tap && !false) = true by simp [h])]
  exact append_tells _ _ _ _ _ _ _

/-- A tap between cells that passes leaves the fault of the sum as it is. -/
theorem tapPassed_interior (h0 : tap ≠ 0) (hn : tap ≠ s.cells) :
    s.tapPassed tap = s.onStore fun g => { g with tapsOpen := g.tapsOpen &&& ~~~(tapBit tap) } := by
  have hends : [0, s.cells].contains tap = false := by simp [h0, hn]
  exact if_neg fun hc => Bool.false_ne_true (hends.symm.trans (Bool.and_eq_true_iff.mp hc).1)

/-- A tap whose test has ended. -/
def State.tapEnded (s : State) (tap : Nat) : State :=
  s.onStore fun g => { g with tapTesting := g.tapTesting &&& ~~~(tapBit tap) }

/-- The monitor's test of a tap, with no command's test under way, is a judgement under no command's tag. -/
theorem evTapTest_monitor (h6 : tap ≤ 6) (ht : s.store.tapTesting.getLsbD tap = true) (hc : s.store.tapCommand = 0)
    (mv : BitVec 16) :
    s.evTapTest tap mv =
      (((if 2 ≤ mv.toNat then ((s.tapEnded tap).tagged 0xFFFF).tapFound tap mv.toNat false
        else ((s.tapEnded tap).tagged 0xFFFF).tapPassed tap).tagged s.led.tag).tapsDone) := by
  have hended : (s.onStore fun g =>
      { g with tapTesting := g.tapTesting &&& ~~~(tapBit tap), tapCommand := g.tapCommand &&& ~~~(tapBit tap)
               tapFailed := g.tapFailed || (false && decide (2 ≤ mv.toNat)) }) = s.tapEnded tap := by
    simp [State.onStore, State.tapEnded, hc]
  have hbit : s.store.tapCommand.getLsbD tap = false := by simp [hc]
  unfold State.evTapTest
  rw [if_neg (by simp [ht, h6])]
  simp only [hbit]
  rw [hended]
  simp only [decide_eq_true_eq, Bool.false_eq_true, if_false]
  rfl

theorem evTapTest_opens (h6 : tap ≤ 6) (ht : s.store.tapTesting.getLsbD tap = true) (hc : s.store.tapCommand = 0)
    (hop : s.NoOp .honeystore) {mv : BitVec 16} (hmv : 2 ≤ mv.toNat) (hr : s.store.tapRecorded.getLsbD tap = false) :
    Tells (s.onStore fun g =>
        { g with tapTesting := g.tapTesting &&& ~~~(tapBit tap), tapsOpen := g.tapsOpen ||| tapBit tap
                 tapRecorded := g.tapRecorded ||| tapBit tap
                 bleeding := g.bleeding &&& ~~~(cellBit (tap + 1)) &&& ~~~(if tap = 0 then 0 else cellBit tap) })
      (s.evTapTest tap mv) [noteOf 0xFFFF true 3 blkStore .holdTapOpen tap (b16 mv.toNat)] := by
  have h := tapFound_tells (s := (s.tapEnded tap).tagged 0xFFFF) hr mv.toNat
  rw [evTapTest_monitor h6 ht hc, if_pos hmv, tapsDone_noOp hop h.ops]
  exact Tells.tagged 0xFFFF h

theorem evTapTest_passes (h6 : tap ≤ 6) (ht : s.store.tapTesting.getLsbD tap = true) (hc : s.store.tapCommand = 0)
    (hop : s.NoOp .honeystore) {mv : BitVec 16} (hmv : mv.toNat < 2) (h0 : tap ≠ 0) (hn : tap ≠ s.cells) :
    s.evTapTest tap mv = s.onStore fun g =>
      { g with tapTesting := g.tapTesting &&& ~~~(tapBit tap), tapsOpen := g.tapsOpen &&& ~~~(tapBit tap) } := by
  rw [evTapTest_monitor h6 ht hc, if_neg (Nat.not_le_of_lt hmv),
    tapPassed_interior (s := (s.tapEnded tap).tagged 0xFFFF) h0 hn, tapsDone_noOp hop (by rfl)]
  rfl

/-! Signatures, capacitance and energy (R242 to R244). -/

theorem evHoldCell_tells (hs : s.showsSignature cell sig = true) (hr : s.store.recorded.contains (cell, sig) = false) :
    Tells (s.onStore fun g =>
        { g with recorded := g.recorded ++ [(cell, sig)], charging := g.charging && decide (sig < 4)
                 latchedCells := if sig = 4 then g.latchedCells ||| cellBit cell else g.latchedCells
                 bleeding := if sig = 5 ∧ s.mode ≠ .deepSleep then g.bleeding ||| cellBit cell else g.bleeding })
      (s.evHoldCell cell sig) [noteOf s.led.tag true 3 blkStore .holdCell cell (b8 sig ++ b16 (s.cellCap cell))] := by
  have hacts : ((s.signatureActs cell sig).onStore fun g => { g with recorded := g.recorded ++ [(cell, sig)] }) =
      s.onStore fun g =>
        { g with recorded := g.recorded ++ [(cell, sig)], charging := g.charging && decide (sig < 4)
                 latchedCells := if sig = 4 then g.latchedCells ||| cellBit cell else g.latchedCells
                 bleeding := if sig = 5 ∧ s.mode ≠ .deepSleep then g.bleeding ||| cellBit cell else g.bleeding } := by
    simp [State.signatureActs, State.onStore]
  have hnew : ¬(s.signatureActs cell sig).store.recorded.contains (cell, sig) = true := Bool.eq_false_iff.mp hr
  unfold State.evHoldCell State.recordCell
  rw [if_pos hs, if_neg hnew, hacts]
  exact append_tells _ _ _ _ _ _ _

/-- An estimate from a drop gives the cell its capacitance, and E anew from a sample of VSTORE. -/
theorem evCapEstimate_estimates {drop : Nat} (hm : s.monitorUp = true) (h1 : 1 ≤ cell) (h : cell ≤ s.cells) (hd : 0 < drop)
    (hc : s.store.charging = false) (ht : s.store.tapsOpen = 0) (hmode : s.mode ≠ .crank) :
    let t := s.onStore fun g => { g with caps := bankSet g.caps (cell - 1) (some (6000, drop)) }
    s.evCapEstimate cell drop =
      { t with free := t.free + 7, store := { t.store with energy := t.energyAt (t.storeSample t.free) } } := by
  unfold State.evCapEstimate State.capFromDrop
  rw [if_pos (by simp [hm, h1, h, hc, ht, hmode]), if_neg (by omega)]
  rfl

theorem storeSample_lt (s : State) (free : Nat) : s.storeSample free < 0x10000 := by
  unfold State.storeSample
  split <;> exact Nat.mod_lt _ (by decide)

theorem evEnergy_tells {below : Bool} {energy : BitVec 16} (hm : s.monitorUp = true)
    (hb : below = true ↔ energy.toNat < s.nat .holdEMin 0) (hcross : s.store.below ≠ below)
    (hidle : below = true → s.store.charging = false) :
    Tells (s.onStore fun g => { g with energy := energy.toNat, below := below }) (s.evEnergy below energy)
      [noteOf s.led.tag true 3 blkStore .fault 0 (b16 0x0430 ++ b8 0 ++ (b8 below.toNat ++ b16 energy.toNat))] := by
  have hunder : below = decide (energy.toNat < s.nat .holdEMin 0) := by
    rw [Bool.eq_iff_iff, hb, decide_eq_true_iff]
  have hfalls : (!below || !s.store.charging) = true := by
    cases below with
    | false => rfl
    | true => simp [hidle rfl]
  unfold State.evEnergy
  dsimp only
  rw [if_pos (by simp [hm, ← hunder, hcross, hfalls])]
  exact append_tells _ _ _ _ _ _ _

/-- Settles O7: each finding with its entry and what it changes. -/
theorem monitorFindings : Obligations.MonitorFindings := by
  unfold Obligations.MonitorFindings
  intro s ho hh hm
  have htag := ho.rested.1
  have hcell {cell : Nat} (h1 : 1 ≤ cell) (h6 : cell ≤ 6) : cellNo cell = true := by simp [cellNo, h1, h6]
  refine ⟨fun ov hov hf => ?charger, fun top mv hf => ?sum, fun tap h1 h h6 => ?deviation,
    fun tap mv h6 ht hc hop => ⟨fun hmv hr => ?opens, fun hmv h0 hn => ?passes⟩,
    fun cell sig h1 h h6 hs1 hs5 hbeside hdev hr => ?signature, fun cell drop h1 h h6 hd hc ht hmode => ?capacitance,
    fun below energy hb hcross hidle => ?energy⟩
  case charger => exact does_of ho rfl (heard_of rfl hh) rfl (htag ▸ evChargerFault_tells hm hov hf)
  case sum => exact does_of ho rfl (heard_of rfl hh) rfl (htag ▸ evSumMismatch_tells hm hf top mv)
  case deviation => exact does_of ho (decide_eq_true h6) (heard_of rfl hh) rfl (evCellDeviation_tests hm h1 h)
  case opens => exact does_of ho (decide_eq_true h6) (heard_of rfl hh) rfl (evTapTest_opens h6 ht hc hop hmv hr)
  case passes => exact does_of ho (decide_eq_true h6) (heard_of rfl hh) rfl (evTapTest_passes h6 ht hc hop hmv h0 hn)
  case signature =>
    have hshows : s.showsSignature cell sig = true := by
      have hone : (sig != 1 || s.deviates cell) = true := by
        by_cases hsig : sig = 1
        · simp [hdev hsig]
        · simp [hsig]
      simp [State.showsSignature, hm, h1, h, hs1, hs5, hbeside, hone]
    have hwf : (cellNo cell && (decide (1 ≤ sig) && decide (sig ≤ 5))) = true := by simp [hcell h1 h6, hs1, hs5]
    exact does_of ho hwf (heard_of rfl hh) rfl (htag ▸ evHoldCell_tells hshows hr)
  case capacitance =>
    exact does_of ho (hcell h1 h6) (heard_of rfl hh) rfl
      ⟨_, _, storeSample_lt _ _, evCapEstimate_estimates hm h1 h hd hc ht hmode⟩
  case energy => exact does_of ho rfl (heard_of rfl hh) rfl (htag ▸ evEnergy_tells hm hb hcross hidle)

end Sys2Proof.Machine
end

section
/-! PROOF. The transfers of the two-wire segments: how they start, how they complete, and what ends them with a fault. -/

namespace Sys2Proof.Machine

variable {s : State} {n : Nat} {t : Transfer}

/-! Segments and their events. -/

theorem onSeg_congr (s : State) (n : Nat) {f g : Seg → Seg} (h : f (s.seg n) = g (s.seg n)) : s.onSeg n f = s.onSeg n g := by
  unfold State.onSeg
  rw [h]

theorem onSeg_seg_self (s : State) {n : Nat} (hn : n < 5) (f : Seg → Seg) : (s.onSeg n f).seg n = f (s.seg n) := by
  rw [State.onSeg_seg, if_pos ⟨rfl, hn⟩]

/-- An event of TW0 to TW3 does its own effect at once where the arbiter is open; the detectors of TW1 to TW3 are on Forge. -/
theorem does_segment {i : Instr} {R : State → Prop} (ho : s.Open) (hn : n ≤ 3) (hh : n ≠ 0 → s.Hears 3 blkTwi)
    (w : i.wf = true) (r : R (s.runEvent i))
    (es : eventSource i = if n = 0 ∨ 3 < n then none else some (3, blkTwi) := by rfl)
    (e : exec i s = .next (s.event i) := by rfl) (k : s.unchecked i = false := by rfl) : s.Does i R := by
  refine does_of ho w ?_ e r k
  by_cases h0 : n = 0
  · exact heard_none (es.trans (if_pos (.inl h0)))
  · exact heard_of (es.trans (if_neg (by omega))) (hh h0)

/-! The start (R254, R260, R269). -/

/-- TRANSFER_START of a transfer that does not go on reading where another ended: what read-ahead holds for its address is
surplus. -/
theorem evTransferStart_starts (hn : n ≤ 3) {rest : List Transfer} (hq : (s.seg n).queue = t :: rest)
    (hidle : (s.seg n).idle = true) (hmid : (s.seg n).midbyte = false) (hen : s.segEnabled n = true) (hup : s.segDown n = false)
    (hfirst : ¬ (t.write = [] ∧ 0 < t.read)) :
    s.evTransferStart n false = s.onSeg n fun g =>
      { g.setHeld t.addr [] with
        queue := rest, midbyte := false, stretched := false
        running := some { t with surplus := t.surplus ++ g.heldFor t.addr
                                 fetch := if t.read = 0 then 0 else s.aheadDepth n t.addr
                                 rate := s.segRate n } } := by
  have hn5 : n < 5 := by omega
  have hfresh : (t.write.isEmpty && decide (0 < t.read)) = false := by
    rw [Bool.eq_false_iff, ne_eq, Bool.and_eq_true, List.isEmpty_iff, decide_eq_true_eq]
    exact hfirst
  have hready : ¬ ((decide (3 < n) || !s.segEnabled n || s.segDown n || !(s.seg n).idle) = true) := by
    simp [hn, hen, hup, hidle]
  have hrate : (s.onSeg n fun g => { g with midbyte := false, stretched := false }).segRate n = s.segRate n := by
    unfold State.segRate
    rw [onSeg_seg_self s hn5]
    rfl
  unfold State.evTransferStart
  dsimp only
  rw [if_neg hready, hmid, if_neg (by decide), hq]
  dsimp only
  rw [hfresh, hrate, if_neg (by decide), State.onSeg_onSeg _ _ _ _ hn5]
  rfl

/-! The end (R255, R256). -/

/-- A state whose segment's running transfer has ended, with its result. -/
def State.transferEnded (s : State) (n : Nat) (t : Transfer) (st : Status) (bytes : List Byte) : State :=
  s.onSeg n fun g => ({ g with running := none, stretched := false } : Seg).addResult ⟨t.op.tag, st, bytes⟩

/-- The `CMD_COMPLETE` of an operation that an event ends (R66). -/
def PendingOp.endNote (o : PendingOp) (st : Status) : Note :=
  noteOf o.tag true 0 blkCmd .cmdComplete o.number (b16 o.op.code ++ b8 o.client.code ++ b8 st.code ++ leBytes 6 o.count)

section Ends
variable (hs : t.surplus = []) (hq : t.op.quiet = false)
include hs hq

/-- The running transfer of a segment ends: its result and its `CMD_COMPLETE`. -/
theorem endTransfer_tells (hn : n < 5) (st : Status) (bytes : List Byte) :
    Tells (s.transferEnded n t st bytes)
      ((s.onSeg n fun g => { g with running := none, stretched := false }).endTransfer n t st bytes true) [t.op.endNote st] := by
  have hnone (v : State) : ((v.tagged t.op.tag).surplusOf n t.addr []).tagged v.led.tag = v := rfl
  unfold State.endTransfer
  dsimp only
  rw [hs, hnone, State.onSeg_onSeg _ _ _ _ hn]
  exact completion_tells _ _ _ _ hq

variable (hn : n < 5) (hr : (s.seg n).running = some t)
include hn hr

/-- A transfer ends with a fault reason and the count of ACKed bytes. -/
theorem failTransfer_tells (reason acked : Nat) :
    Tells (s.transferEnded n t .fault (b8 reason ++ b8 acked)) (s.failTransfer n reason (some acked)) [t.op.endNote .fault] := by
  have hbytes : faultBytes reason acked t = b8 reason ++ b8 acked := by
    unfold faultBytes
    rw [hs, List.append_nil]
  unfold State.failTransfer
  rw [hr]
  dsimp only
  rw [hbytes]
  exact endTransfer_tells hs hq hn _ _

/-- Where the cause does not tell how many bytes were ACKed a free value does. -/
theorem failTransfer_cut (reason : Nat) :
    ∃ k, k ≤ t.write.length ∧
      Tells (s.transferEnded n t .fault (b8 reason ++ b8 k)) (s.failTransfer n reason none) [t.op.endNote .fault] := by
  refine ⟨(s.ackedBytes t).1, Nat.le_of_lt_succ (Nat.mod_lt _ (Nat.succ_pos _)), ?_⟩
  have hcut : s.failTransfer n reason none = (s.ackedBytes t).2.failTransfer n reason (some (s.ackedBytes t).1) := by
    unfold State.failTransfer
    rw [show (s.ackedBytes t).2.seg n = s.seg n from rfl, hr]
  rw [hcut]
  exact Tells_free (failTransfer_tells (s := (s.ackedBytes t).2) hs hq hn hr reason _) rfl

/-- TRANSFER_COMPLETE with a STOP, where nothing is held for the segment and no byte is read ahead. -/
theorem evTransferComplete_stop (hst : (s.seg n).stretched = false) (hahead : (s.seg n).ahead = []) (hfetch : t.fetch = 0)
    {bytes : List Byte} (hlen : bytes.length = t.read) :
    Tells (s.transferEnded n t .done bytes) (s.evTransferComplete n (.stop bytes)) [t.op.endNote .done] := by
  have hheld : (s.seg n).heldFor t.addr = [] := by
    unfold Seg.heldFor
    rw [hahead]
    rfl
  have hneed : t.busBytes [] = (t.read, t.read) := by
    unfold Transfer.busBytes
    simp only [List.length_nil, Nat.min_zero, ite_self, Nat.sub_zero, hfetch, Nat.add_zero, Prod.mk.injEq, true_and]
    split
    · exact (‹t.read = 0›).symm
    · rfl
  have hcase : s.evTransferComplete n (.stop bytes) =
      (s.onSeg n fun g => { g.setHeld t.addr [] with running := none }).endTransfer n t .done bytes true := by
    unfold State.evTransferComplete
    rw [hr]
    dsimp only
    rw [hheld, hneed]
    simp [hlen, hs, List.take_of_length_le, List.drop_of_length_le]
  have hseg : (s.onSeg n fun g => { g.setHeld t.addr [] with running := none }) =
      s.onSeg n fun g => { g with running := none, stretched := false } :=
    onSeg_congr s n (by simp [Seg.setHeld, hahead, hst])
  rw [hcase, hseg]
  exact endTransfer_tells hs hq hn _ _

/-- TRANSFER_COMPLETE with an address that is not ACKed: the first one, or that of the read phase. -/
theorem evTransferComplete_addressNack :
    ∃ k, (k = 0 ∨ t.read ≠ 0 ∧ k = t.write.length) ∧
      Tells (s.transferEnded n t .fault (b8 1 ++ b8 k)) (s.evTransferComplete n .addressNack) [t.op.endNote .fault] := by
  have hcase : s.evTransferComplete n .addressNack = s.addressNacked n t := by
    unfold State.evTransferComplete
    rw [hr]
  rw [hcase]
  unfold State.addressNacked
  dsimp only
  split
  · next hall =>
    have hread : t.read ≠ 0 := by
      rw [Bool.and_eq_true] at hall
      simpa using hall.1
    exact ⟨_, .inr ⟨hread, rfl⟩, Tells_free (failTransfer_tells (s := { s with free := s.free + 1 }) hs hq hn hr 1 _) rfl⟩
  · exact ⟨_, .inl rfl, Tells_free (failTransfer_tells (s := { s with free := s.free + 1 }) hs hq hn hr 1 _) rfl⟩

/-- TRANSFER_COMPLETE with a byte of the write phase that is not ACKed. -/
theorem evTransferComplete_byteNack {acked : Nat} (ha : acked < t.write.length) :
    Tells (s.transferEnded n t .fault (b8 2 ++ b8 acked)) (s.evTransferComplete n (.byteNack acked)) [t.op.endNote .fault] := by
  have hcase : s.evTransferComplete n (.byteNack acked) = s.failTransfer n 2 (some acked) := by
    unfold State.evTransferComplete
    rw [hr]
    exact if_pos ha
  rw [hcase]
  exact failTransfer_tells hs hq hn hr 2 acked

/-- The third arbitration loss ends a transfer (R257). -/
theorem evArbitrationLost_third (hl : 2 ≤ t.losses) :
    ∃ k, k ≤ t.write.length ∧
      Tells (s.transferEnded n t .fault (b8 4 ++ b8 k)) (s.evArbitrationLost n) [t.op.endNote .fault] := by
  have hcase : s.evArbitrationLost n = s.failTransfer n 4 none := by
    unfold State.evArbitrationLost
    rw [hr]
    exact if_pos hl
  rw [hcase]
  exact failTransfer_cut hs hq hn hr 4

/-- A stretch violation of a transfer, in STRICT mode: its entry carries the transfer's tag, which ends with reason 3. -/
theorem stretchViolation_transfer (hm : s.value .twiStretchMode n = 0) (code us : Nat) :
    ∃ k, k ≤ t.write.length ∧
      Tells (((s.transferEnded n t .fault (b8 3 ++ b8 k)).onSeg n fun g => { g with stretched := true }).tagged t.op.tag)
        (s.stretchViolation n code us)
        [noteOf t.op.tag true 3 blkTwi .violation n (b16 code ++ (b8 t.addr ++ b32 us)), t.op.endNote .fault] := by
  have hentry := append_tells (s.tagged t.op.tag) true 3 blkTwi .violation n (b16 code ++ (b8 t.addr ++ b32 us))
  set v := (s.tagged t.op.tag).append true 3 blkTwi .violation n (b16 code ++ (b8 t.addr ++ b32 us))
  have hcase : s.stretchViolation n code us = (v.failTransfer n 3 none).onSeg n fun g => { g with stretched := true } := by
    unfold State.stretchViolation
    dsimp only
    rw [hm, if_neg (by decide), hr]
    rfl
  have hrun : (v.seg n).running = some t := (congrArg Seg.running (hentry.seg n)).trans hr
  obtain ⟨k, hk, hend⟩ := failTransfer_cut (s := v) hs hq hn hrun 3
  rw [hcase]
  exact ⟨k, hk, ((hentry.onSeg n _).trans hend).onSeg n _⟩

end Ends

/-- The first two arbitration losses put the transfer back at the front of its queue (R257). -/
theorem evArbitrationLost_again (hr : (s.seg n).running = some t) (hl : t.losses < 2) :
    s.evArbitrationLost n = s.onSeg n fun g =>
      { g with running := none, queue := { t with losses := t.losses + 1 } :: g.queue } := by
  unfold State.evArbitrationLost
  rw [hr]
  exact if_neg (by omega)

/-! Stretching beside a transfer (R258, R263). -/

/-- A stretch violation of an attention poll is its entry, and the segment waits to be let go. -/
theorem stretchViolation_poll (hr : (s.seg n).running = none) (ha : (s.seg n).attention = true) (hp : s.nat .twiAttnAddr n ≠ 0)
    (hm : s.value .twiStretchMode n = 0) (code us : Nat) :
    Tells (s.onSeg n fun g => { g with stretched := true }) (s.stretchViolation n code us)
      [noteOf s.led.tag true 3 blkTwi .violation n (b16 code ++ (b8 (s.nat .twiAttnAddr n) ++ b32 us))] := by
  have hcase : s.stretchViolation n code us =
      (s.violation 3 blkTwi code n (b8 (s.nat .twiAttnAddr n) ++ b32 us)).onSeg n fun g => { g with stretched := true } := by
    unfold State.stretchViolation
    dsimp only
    rw [hm, if_neg (by decide), hr]
    exact if_pos (by simp [ha, hp])
  rw [hcase]
  exact (append_tells s true 3 blkTwi .violation n (b16 code ++ (b8 (s.nat .twiAttnAddr n) ++ b32 us))).onSeg n _

/-- Outside STRICT mode stretching is no violation. -/
theorem stretchViolation_lenient (hm : s.value .twiStretchMode n ≠ 0) (code us : Nat) : s.stretchViolation n code us = s := by
  unfold State.stretchViolation
  exact if_pos (by simpa using hm)

/-- Settles O8: each row is the event's own effect on the segment, with the entries that the lemmas above tell. -/
theorem transfersRunAndEnd : Obligations.TransfersRunAndEnd := by
  unfold Obligations.TransfersRunAndEnd
  intro s n t ho hn hh
  have hn4 : decide (n ≤ 4) = true := decide_eq_true (by omega)
  have hn5 : n < 5 := by omega
  refine ⟨fun rest hq hidle hmid hen hup hfirst => ?start, fun hr hs hq => ?ends, fun hr ha hp hm us => ?poll,
    fun hm us => ⟨?lenientTimeout, ?lenientByte⟩⟩
  case start => exact does_segment ho hn hh hn4 (evTransferStart_starts hn hq hidle hmid hen hup hfirst)
  case ends =>
    refine ⟨fun bytes hst _ hahead hfetch hlen => ?stop, ?addressNack, fun acked ha => ?byteNack, fun hl => ?again,
      fun hl => ?third, fun hm us => ⟨?timeout, ?insideByte⟩⟩
    case stop => exact does_segment ho hn hh hn4 (evTransferComplete_stop hs hq hn5 hr hst hahead hfetch hlen)
    case addressNack => exact does_segment ho hn hh hn4 (evTransferComplete_addressNack hs hq hn5 hr)
    case byteNack => exact does_segment ho hn hh hn4 (evTransferComplete_byteNack hs hq hn5 hr ha)
    case again => exact does_segment ho hn hh hn4 (evArbitrationLost_again hr hl)
    case third => exact does_segment ho hn hh hn4 (evArbitrationLost_third hs hq hn5 hr hl)
    case timeout => exact does_segment ho hn hh hn4 (stretchViolation_transfer hs hq hn5 hr hm 0x0301 us.toNat)
    case insideByte => exact does_segment ho hn hh hn4 (stretchViolation_transfer hs hq hn5 hr hm 0x0302 0)
  case poll => exact does_segment ho hn hh hn4 (ho.rested.1 ▸ stretchViolation_poll hr ha hp hm 0x0301 us.toNat)
  case lenientTimeout => exact does_segment ho hn hh hn4 (stretchViolation_lenient hm _ _)
  case lenientByte => exact does_segment ho hn hh hn4 (stretchViolation_lenient hm _ _)

end Sys2Proof.Machine
end

section
/-! PROOF. Attention and the mailboxes of the two-wire segments. -/

namespace Sys2Proof.Machine

variable {s : State} {n : Nat}

/-! Attention (R262, R263). -/

/-- An in-band request that an idle segment serves: it is attended to, or, where SDA is not let go, it is a violation and the bus
is recovered, one pulse of which the request has had. -/
theorem evInBand_serves (hn : n ≤ 3) (hen : s.segEnabled n = true) (hup : s.segDown n = false) (hidle : (s.seg n).idle = true)
    (hmid : (s.seg n).midbyte = false) (released : Bool) :
    s.evInBand n released =
      if released then s.onSeg n fun g => { g with attention := true }
      else (s.violation 3 blkTwi 0x0304 n (b8 0xFF)).onSeg n fun g => { g with recovery := .pulses false, pulsesDone := 1 } := by
  unfold State.evInBand
  exact if_neg (by simp [hn, hen, hup, hidle, hmid])

theorem evInBand_held (hn : n ≤ 3) (hen : s.segEnabled n = true) (hup : s.segDown n = false) (hidle : (s.seg n).idle = true)
    (hmid : (s.seg n).midbyte = false) :
    Tells (s.onSeg n fun g => { g with recovery := .pulses false, pulsesDone := 1 }) (s.evInBand n false)
      [noteOf s.led.tag true 3 blkTwi .violation n (b16 0x0304 ++ b8 0xFF)] := by
  rw [evInBand_serves hn hen hup hidle hmid, if_neg (by decide)]
  exact (append_tells _ _ _ _ _ _ _).onSeg n _

/-- With no address to poll an attention ends with its entry alone. -/
theorem evAttn_noAddress (ha : (s.seg n).attention = true) (hp : s.nat .twiAttnAddr n = 0) (status : Nat) (bytes : List Byte) :
    Tells (s.onSeg n fun g => { g with attention := false }) (s.evAttn n status bytes)
      [noteOf s.led.tag true 3 blkTwi .twAttn n (b8 0xFF ++ b8 0)] := by
  unfold State.evAttn
  dsimp only
  rw [ha, if_neg (by decide), if_pos hp]
  exact append_tells _ _ _ _ _ _ _

/-- The poll of an attention is kept with its status, and with what it read where it was carried out. -/
theorem evAttn_polled (hn : n < 5) (ha : (s.seg n).attention = true) (hp : s.nat .twiAttnAddr n ≠ 0) (status : Nat)
    (bytes : List Byte) :
    Tells (s.onSeg n fun g =>
        { g with attention := false
                 attn := some (status, if status = 0 then bytes.take (s.nat .twiAttnLen n) else []) }) (s.evAttn n status bytes)
      [noteOf s.led.tag true 3 blkTwi .twAttn n (b8 (s.nat .twiAttnAddr n) ++ b8 status)] := by
  unfold State.evAttn
  dsimp only [State.onSeg_nat]
  generalize (if status = 0 then bytes.take (s.nat .twiAttnLen n) else []) = got
  rw [ha, if_neg (by decide), if_neg hp, State.onSeg_onSeg _ _ _ _ hn]
  exact append_tells _ _ _ _ _ _ _

/-! Mailboxes (R264, R271). -/

/-- A segment listens at its mailbox address. -/
theorem mailboxOn_segment (hn : n ≤ 3) (hen : s.segEnabled n = true) (hup : s.segDown n = false)
    (hb : s.value .twiMboxAddr n ≠ 0) : s.mailboxOn n = true := by
  unfold State.mailboxOn
  rw [decide_eq_true (show n ≤ 4 by omega), hen, hup, bne_iff_ne.mpr hb, Bool.not_false, Bool.or_true]
  rfl

/-- SVC listens at its mailbox address whatever becomes of the segments. -/
theorem mailboxOn_svc (hb : s.value .twiMboxAddr 4 ≠ 0) : s.mailboxOn 4 = true := bne_iff_ne.mpr hb

section Listening
variable (h : s.mailboxOn n = true)
include h

theorem evMailbox_write {bytes : List Byte} (hne : bytes ≠ []) (hl : bytes.length ≤ 32) :
    Tells ((s.onSeg n fun g => { g with mailbox := some bytes }).answering .ack) (s.evMailbox n bytes)
      [noteOf s.led.tag true 3 blkTwi .twMbox n (b8 bytes.length ++ bytes.take 8)] := by
  unfold State.evMailbox
  rw [h, if_neg (by decide), if_neg (by simpa using hne)]
  dsimp only
  rw [List.take_of_length_le hl]
  exact (append_tells _ _ _ _ _ _ _).answering _

theorem evMailbox_empty : s.evMailbox n [] = s.answering .ack := by
  unfold State.evMailbox
  rw [h]
  rfl

theorem evMailboxOverflow_tells :
    Tells (s.answering .nak) (s.evMailboxOverflow n)
      [noteOf s.led.tag true 3 blkTwi .violation n (b16 0x0303 ++ b8 (s.nat .twiMboxAddr n))] := by
  unfold State.evMailboxOverflow
  rw [if_pos h]
  exact (append_tells _ _ _ _ _ _ _).answering _

end Listening

/-- Settles O9: each row is the event's own effect on a segment that is enabled and in service, or on SVC. -/
theorem attentionAndMailboxes : Obligations.AttentionAndMailboxes := by
  unfold Obligations.AttentionAndMailboxes
  intro s n ho hn hh hen hup
  have htag := ho.rested.1
  have hn4 : decide (n ≤ 4) = true := decide_eq_true (by omega)
  refine ⟨fun hidle hmid => ⟨?released, ?held⟩, fun ha bytes => ⟨fun hp => ?noAddress, fun status hst hp => ?polled⟩,
    fun hb => ⟨fun bytes hne hl => ?write, ?empty, ?overflow⟩, fun hb bytes hne hl => ?svc⟩
  case released => exact does_segment ho hn hh hn4 (evInBand_serves hn hen hup hidle hmid true)
  case held => exact does_segment ho hn hh hn4 (htag ▸ evInBand_held hn hen hup hidle hmid)
  case noAddress =>
    have hwf : (decide (n ≤ 4) && decide (0 ≤ 2)) = true := by simp [hn4]
    exact does_segment ho hn hh hwf (htag ▸ evAttn_noAddress ha hp 0 bytes)
  case polled =>
    have hwf : (decide (n ≤ 4) && decide (status ≤ 2)) = true := by simp [hn4, hst]
    exact does_segment ho hn hh hwf (htag ▸ evAttn_polled (by omega) ha hp status bytes)
  case write => exact does_segment ho hn hh hn4 (htag ▸ evMailbox_write (mailboxOn_segment hn hen hup hb) hne hl)
  case empty => exact does_segment ho hn hh hn4 (evMailbox_empty (mailboxOn_segment hn hen hup hb))
  case overflow => exact does_segment ho hn hh hn4 (htag ▸ evMailboxOverflow_tells (mailboxOn_segment hn hen hup hb))
  case svc => exact does_of ho rfl (heard_none rfl) rfl (htag ▸ evMailbox_write (mailboxOn_svc hb) hne hl)

end Sys2Proof.Machine
end

section
/-! PROOF. TWI_XFER and TWI_RECOVER. -/

namespace Sys2Proof.Machine

variable {s v : State} {n : Nat}

theorem State.Commanded.seg {tag : BitVec 16} (hv : s.Commanded tag v) (n : Nat) : v.seg n = s.seg n := by rw [hv.rest]; rfl

/-- The transfer that a TWI_XFER's packet spells (Table 03-6). -/
theorem transfer_fields (h : CmdHeader) (o : PendingOp) {addr again count : Nat} (n : Nat) (l : List Byte) (ha : addr ≤ 127)
    (hg : again ≤ 1) (hc : count ≤ 256) :
    (headerCommand h .twiXfer (b8 n ++ b8 addr ++ b8 again ++ b8 l.length ++ b16 count ++ l)).transfer o =
      ⟨o, addr, again == 1, l, count, 0, [], 0, 0⟩ := by
  have hbytes : (headerCommand h .twiXfer (b8 n ++ b8 addr ++ b8 again ++ b8 l.length ++ b16 count ++ l)).transfer o =
      ⟨o, (BitVec.ofNat 8 addr).toNat, (BitVec.ofNat 8 again).toNat == 1, l, leNat (leBytes 2 count), 0, [], 0, 0⟩ := rfl
  rw [hbytes, toNat_byte (by omega), toNat_byte (by omega), leNat_leBytes 2 count (by omega)]

/-- A TWI_XFER joins the queue of its segment (R254). -/
theorem effect_twiXfer (v : State) (cl : Client) (h : CmdHeader) (o : PendingOp) {addr again count : Nat} {l : List Byte}
    (hn : n ≤ 3) (ha : addr ≤ 127) (hg : again ≤ 1) (hc : count ≤ 256) :
    v.effect cl (headerCommand h .twiXfer (b8 n ++ b8 addr ++ b8 again ++ b8 l.length ++ b16 count ++ l)) o =
      v.onSeg n fun g => { g with queue := g.queue ++ [⟨o, addr, again == 1, l, count, 0, [], 0, 0⟩] } := by
  have he : v.effect cl (headerCommand h .twiXfer (b8 n ++ b8 addr ++ b8 again ++ b8 l.length ++ b16 count ++ l)) o =
      v.onSeg (BitVec.ofNat 8 n).toNat fun g => { g with queue := g.queue ++
        [(headerCommand h .twiXfer (b8 n ++ b8 addr ++ b8 again ++ b8 l.length ++ b16 count ++ l)).transfer o] } := rfl
  rw [he, toNat_byte (by omega), transfer_fields h o n l ha hg hc]

/-- TWI_RECOVER of a segment that neither runs nor queues anything waits for the bus to be free (R268). -/
theorem doRecover_idle (hr : (s.seg n).running = none) (hq : (s.seg n).queue = []) (ho : (s.seg n).recoverOp = none)
    (o : PendingOp) :
    s.doRecover n o = s.onSeg n fun g =>
      { g with attention := false, stretched := false, recovery := .waitFree, pulsesDone := 0, recoverOp := some o } := by
  have hts : (s.seg n).transfers = [] := by simp [Seg.transfers, hr, hq]
  unfold State.doRecover
  dsimp only
  rw [hts, ho]
  exact onSeg_congr s n (by simp [hr, hq])

/-- Settles O53: both commands act on the segment as it stands, since what comes before leaves the segments alone. -/
theorem segmentCommands : Obligations.SegmentCommands := by
  unfold Obligations.SegmentCommands
  intro s h n hn
  refine ⟨fun addr again count l ha hg hc _ => carries_effect rfl rfl fun v _ => effect_twiXfer v _ h _ hn ha hg hc,
    fun hr hq ho => carries_effect rfl rfl fun v hv => ?_⟩
  have he (o : PendingOp) : v.effect (extClient h.client) (headerCommand h .twiRecover (b8 n)) o = v.doRecover n o :=
    congrArg (v.doRecover · o) (headerCommand_p0 h _ (by omega))
  rw [he]
  rw [← hv.seg] at hr hq ho
  exact doRecover_idle hr hq ho _

end Sys2Proof.Machine
end

section
/-! PROOF. Forager's cycle and slices, the end of a TEST_RUN, and the GPIO pads without their supply. -/

namespace Sys2Proof.Machine

variable {s u : State} {r : SliceResult} {n : Nat}

/-! The start of a cycle (R277, R279). -/

/-- The first number of a range of which something holds. -/
theorem find?_upTo {p : Nat → Bool} {lo hi : Nat} (h1 : lo ≤ n) (h2 : n ≤ hi) (hp : p n = true)
    (hfirst : ∀ k, lo ≤ k → k < n → p k = false) : (upTo lo hi).find? p = some n := by
  have hrange : (List.range (hi + 1 - lo)).find? (p ∘ (lo + ·)) = some (n - lo) := by
    refine List.find?_range_eq_some.mpr ⟨?_, List.mem_range.mpr (by omega), fun k hk => ?_⟩
    · simpa [Nat.add_sub_cancel' h1] using hp
    · simpa using hfirst (lo + k) (by omega) (by omega)
  unfold upTo
  rw [List.find?_map, hrange, Option.map_some, Nat.add_sub_cancel' h1]

/-- Only the two tests of the Honeystore need its cells. -/
theorem testFitted_iff : s.testFitted n = true ↔ (n = 9 ∨ n = 10 → 0 < s.cells) := by
  simp only [State.testFitted, Bool.not_eq_true', Bool.and_eq_false_iff, Bool.or_eq_false_iff, beq_eq_false_iff_ne]
  omega

/-- The first test of a cycle. -/
theorem nextTest_first (h1 : 1 ≤ n) (h12 : n ≤ 12) (hmask : (s.value .foragerTestMask 0).getLsbD n = true)
    (hmode : s.mode.tests n = true) (hfit : n = 9 ∨ n = 10 → 0 < s.cells)
    (hfirst : ∀ k, 1 ≤ k → k < n → (s.value .foragerTestMask 0).getLsbD k = false ∨ s.mode.tests k = false ∨
      ((k = 9 ∨ k = 10) ∧ s.cells = 0)) : s.nextTest 0 = some n := by
  refine find?_upTo h1 h12 ?_ fun k hk hkn => ?_
  · rw [hmask, hmode, testFitted_iff.mpr hfit]
    rfl
  · rcases hfirst k hk hkn with h | h | ⟨hk9, hcells⟩
    · rw [h]
      rfl
    · rw [h, Bool.and_false, Bool.false_and]
    · have hunfit : s.testFitted k = false := by
        rw [← Bool.not_eq_true, testFitted_iff]
        intro h
        exact absurd (h hk9) (by omega)
      rw [hunfit, Bool.and_false]

/-- FORAGER_CYCLE_START while no cycle runs goes to the first test. -/
theorem evCycleNow_starts (hl : s.listening = true) (hon : s.foragerOn = true) (h0 : s.forager.test = 0)
    (hnext : s.nextTest 0 = some n) :
    s.evCycleNow = s.onForager fun f =>
      { f with cycleStart := s.ember.ms, failing := 0, test := n, item := true, firstFail := none, slices := 0 } := by
  have hbegun : (s.onForager fun f => { f with cycleStart := s.ember.ms, failing := 0 }).nextTest 0 = some n := hnext
  unfold State.evCycleNow State.evCycleStart
  dsimp only
  rw [if_pos hl, if_pos (by simp [hon, h0]), hbegun]
  rfl

/-! Slices (R278 to R282). -/

/-- Forager takes the slice, which is not the last of its test. -/
structure State.TakesSlice (s : State) (r : SliceResult) : Prop where
  listening : s.listening = true
  on : s.foragerOn = true
  item : s.forager.item = true
  test : s.forager.test = r.test
  mode : s.mode.tests r.test = true
  waits : s.io.waiting = []
  more : r.last = false

/-- A slice counted. -/
def State.sliced (s : State) : State := s.onForager fun f => { f with slices := f.slices + 1 }

/-- A slice is counted, and is a finding, a pass or neither. -/
theorem evSliceNow_takes (h : s.TakesSlice r) :
    s.evSliceNow r =
      if s.sliceResult r = 1 then (s.sliced.finding r).findingActs r
      else if s.sliceResult r = 0 then s.sliced.passed r else s.sliced := by
  have hguard : (s.foragerOn && s.forager.item && s.forager.test == r.test && s.mode.tests r.test && s.io.waiting.isEmpty) =
      true := by
    simp [h.on, h.item, h.test, h.mode, h.waits]
  have hcounted : (s.onForager fun f => { f with slices := f.slices + 1 }).sliceResult r = s.sliceResult r := rfl
  unfold State.evSliceNow State.evSlice
  dsimp only
  rw [if_pos h.listening, if_pos hguard, h.more]
  simp only [hcounted, Bool.false_eq_true, if_false, beq_iff_eq]
  split
  · rfl
  · rfl

/-- A slice that finds nothing, and passes nothing but what has no tap to close, is counted. -/
theorem evSliceNow_counts (h : s.TakesSlice r) (h1 : s.sliceResult r ≠ 1) (h0 : s.sliceResult r = 0 → r.test ≠ 9) :
    s.evSliceNow r = s.sliced := by
  rw [evSliceNow_takes h, if_neg h1]
  split
  · next hpass => exact if_neg fun htap => h0 hpass htap.1
  · rfl

theorem sliceResult_ne_one (h : r.result ≠ 1) : s.sliceResult r ≠ 1 := by
  unfold State.sliceResult
  split
  · exact h
  · rw [if_pos (show r.result = 0 by omega)]
    split <;> decide

/-- What is skipped neither passes nor fails. -/
theorem sliceResult_skipped (h : s.testSkipped r.test r.item.toNat = true) : 2 ≤ s.sliceResult r := by
  unfold State.sliceResult
  rw [if_pos h]
  split
  · assumption
  · exact Nat.le_refl 2

/-- The Honeystore and Forge's channels are skipped while Forge is gone. -/
theorem testSkipped_forge (h5 : 5 ≤ n) (h10 : n ≤ 10) (hgone : s.dieGone 3 = true) (item : Nat) :
    s.testSkipped n item = true := by
  have hcases : n = 5 ∨ n = 6 ∨ n = 7 ∨ n = 8 ∨ n = 9 ∨ n = 10 := by omega
  rcases hcases with rfl | rfl | rfl | rfl | rfl | rfl <;> simp [State.testSkipped, hgone]

/-- Tests 3 and 12 are skipped nowhere, and what they find stands. -/
theorem sliceResult_found (h1 : r.result = 1) (ht : r.test = 3 ∨ r.test = 12) : s.sliceResult r = 1 := by
  unfold State.sliceResult
  rcases ht with ht | ht <;> simp [h1, ht, State.testSkipped, State.subjectIdle, State.testFailed]

/-- A tap that passes is tested on a Honeystore that Forge can reach. -/
theorem sliceResult_tapPassed (h0 : r.result = 0) (ht : r.test = 9) (hgone : s.dieGone 3 = false)
    (hdown : s.blockDown 3 blkStore = false) : s.sliceResult r = 0 := by
  unfold State.sliceResult
  simp [h0, ht, State.testSkipped, hgone, hdown]

/-- A tap that passes is open no more, and no entry says so (R241). -/
theorem tapPassed_closes (s : State) (tap : Nat) :
    (s.tapPassed tap).led.ring = s.led.ring ∧
      (s.tapPassed tap).store = { s.store with tapsOpen := s.store.tapsOpen &&& ~~~(tapBit tap) } := by
  unfold State.tapPassed
  dsimp only
  split
  · exact ⟨rfl, rfl⟩
  · exact ⟨rfl, rfl⟩

theorem evSliceNow_closesTap (h : s.TakesSlice r) (h0 : r.result = 0) (ht : r.test = 9) (htap : r.item.toNat ≤ s.cells)
    (hgone : s.dieGone 3 = false) (hdown : s.blockDown 3 blkStore = false) :
    (s.evSliceNow r).led.ring = s.led.ring ∧
      (s.evSliceNow r).store = { s.store with tapsOpen := s.store.tapsOpen &&& ~~~(tapBit r.item.toNat) } := by
  have hres := sliceResult_tapPassed h0 ht hgone hdown
  have hpassed : s.sliced.passed r = s.sliced.tapPassed r.item.toNat := if_pos ⟨ht, htap⟩
  rw [evSliceNow_takes h, if_neg (by omega), if_pos hres, hpassed]
  exact tapPassed_closes s.sliced r.item.toNat

/-! Findings (R280, R281). -/

/-- A finding marked in the cycle, and recorded for the boot. -/
def Forager.marked (r : SliceResult) (f : Forager) : Forager :=
  { f with failing := f.failing ||| (1#13 <<< r.test)
           firstFail := if f.firstFail.isNone then some (r.item, testFault r.test) else f.firstFail }
def Forager.recording (r : SliceResult) (f : Forager) : Forager :=
  { f.marked r with recorded := f.recorded ++ [(r.test, r.item.toNat)] }

/-- A finding that is recorded already is marked alone. -/
theorem finding_known (h : s.forager.recorded.contains (r.test, r.item.toNat) = true) :
    s.finding r = s.onForager (Forager.marked r) := if_pos h

/-- A finding that is new is recorded, with `FORAGER_FAIL` and the entries of its test. -/
theorem finding_new (h : s.forager.recorded.contains (r.test, r.item.toNat) = false) :
    s.finding r = ((s.onForager (Forager.recording r)).foragerFail r.test r.item (testFault r.test)).findingEntries r :=
  if_neg fun hknown => Bool.false_ne_true (h.symm.trans hknown)

/-- Test 3 has no entries of its own beside `FORAGER_FAIL`. -/
theorem findingEntries_parity (ht : r.test = 3) : s.findingEntries r = s := by
  simp only [State.findingEntries, ht]

/-- The finding of test 3 leaves what the L1 reset rests on. -/
theorem finding_parity (ht : r.test = 3) :
    (s.finding r).mode = s.mode ∧ (s.finding r).phase = s.phase ∧ (s.finding r).ember.cause = s.ember.cause := by
  cases h : s.forager.recorded.contains (r.test, r.item.toNat) with
  | true =>
    rw [finding_known h]
    exact ⟨rfl, rfl, rfl⟩
  | false =>
    rw [finding_new h, findingEntries_parity ht]
    unfold State.foragerFail
    exact ⟨append_mode .., append_phase .., append_ember_cause ..⟩

/-- The parity of Hive's own parameters is the L1 reset, in every mode in which inputs are taken (R31, R84). -/
theorem evParityHive_resets (hp : s.phase = .up) (ha : s.mode.asleep = false) (hb : s.mode ≠ .banked) (param : BitVec 16) :
    (s.evParityHive param).mode = .boot ∧ (s.evParityHive param).led.ring = [] ∧
      (s.evParityHive param).ember.cause = s.ember.cause ||| 0x40 ∧
      (s.evParityHive param).ember.detail = BitVec.ofNat 32 (6 * 0x1000000 + param.toNat) := by
  have hcore : s.coreOn = true := by
    unfold State.coreOn
    rw [hp]
    cases hm : s.mode <;> simp_all [Mode.asleep, Phase.live]
  have hparam : param.toNat % 0x1000000 = param.toNat := Nat.mod_eq_of_lt (by omega)
  unfold State.evParityHive
  rw [if_pos hcore, beginL1_live 6 _ (by rw [hp]; rfl) hb]
  refine ⟨rfl, rfl, rfl, ?_⟩
  show BitVec.ofNat 32 (6 * 0x1000000 + param.toNat % 0x1000000) = _
  rw [hparam]

theorem evSliceNow_resetsHive (h : s.TakesSlice r) (h1 : r.result = 1) (ht : r.test = 3) (hd : r.detail.toNat % 4 = 0) :
    (s.evSliceNow r).mode = .boot ∧ (s.evSliceNow r).led.ring = [] ∧
      (s.evSliceNow r).ember.cause = s.ember.cause ||| 0x40 ∧
      (s.evSliceNow r).ember.detail = BitVec.ofNat 32 (6 * 0x1000000 + r.item.toNat % 0x10000) := by
  obtain ⟨hmode, hphase, hcause⟩ := finding_parity (s := s.sliced) ht
  obtain ⟨hup, hbanked⟩ : s.phase = .up ∧ s.mode ≠ .banked := by
    have hl := h.listening
    simp only [State.listening, Bool.and_eq_true, beq_iff_eq] at hl
    obtain ⟨⟨⟨hphase, _⟩, _⟩, hm⟩ := hl
    exact ⟨hphase, fun hb => by simp [hb] at hm⟩
  have hacts : (s.sliced.finding r).findingActs r = (s.sliced.finding r).evParityHive (r.item.setWidth 16) := by
    unfold State.findingActs
    rw [ht]
    exact if_pos hd
  have hitem : (r.item.setWidth 16).toNat = r.item.toNat % 0x10000 := BitVec.toNat_setWidth ..
  have hreset := evParityHive_resets (s := s.sliced.finding r) (hphase.trans hup)
    (by rw [hmode]; exact awake_of_listening h.listening) (by rw [hmode]; exact hbanked) (r.item.setWidth 16)
  rw [evSliceNow_takes h, if_pos (sliceResult_found h1 (.inl ht)), hacts, ← hitem]
  rw [hcause] at hreset
  exact hreset

/-- The L2 reset of a die appends entries. -/
theorem resetDie_logs (hr : s.led.ring.length ≤ 4096) (die bit detail : Nat) (external byEvent : Bool) :
    ∃ l, Logs s (s.resetDie die bit detail external byEvent) l := by
  have hbegun := beginL2_tells (Tells.refl s hr) die bit detail external
  have hdown : State.Grows _ (s.resetDie die bit detail external byEvent) :=
    ((State.Grows.refl hbegun.1.bound).dieDown die 0 byEvent).redistribute.reselect 1 false
  obtain ⟨⟨l, hl⟩, -⟩ := hbegun.then_grows (s := s) rfl hdown
  exact ⟨_, hl⟩

/-- A latched fault appends an entry, or none where it is outstanding. -/
theorem latch_logs (hr : s.led.ring.length ≤ 4096) (e : Bool) (die block code subject : Nat) (d : List Byte) :
    ∃ l, Logs s (s.latch e die block code subject d) l := by
  cases h : s.faultOpen code subject with
  | true => exact ⟨[], by rw [latch_open s e die block code subject d h]; exact Logs.nil s s rfl rfl hr⟩
  | false => exact ⟨_, (latch_tells s e die block code subject d h).1⟩

/-- A finding that is new is `FORAGER_FAIL` first, and then what its test appends. -/
theorem evSliceNow_fails (h : s.TakesSlice r) (hres : s.sliceResult r = 1) (htag : s.led.tag = 0xFFFF)
    (hnew : s.forager.recorded.contains (r.test, r.item.toNat) = false)
    (hacts : ∀ v : State, v.led.ring.length ≤ 4096 → ∃ l, Logs v ((v.findingEntries r).findingActs r) l) :
    ∃ l, Logs s (s.evSliceNow r)
      (noteOf 0xFFFF true 0 blkForager .foragerFail r.test (b32 r.item.toNat ++ b16 (testFault r.test)) :: l) := by
  have hfinding := finding_new (s := s.sliced) hnew
  have hfail : Logs s ((s.sliced.onForager (Forager.recording r)).foragerFail r.test r.item (testFault r.test))
      [noteOf s.led.tag true 0 blkForager .foragerFail r.test (b32 r.item.toNat ++ b16 (testFault r.test))] :=
    append_logs (s.sliced.onForager (Forager.recording r)) _ _ _ _ _ _
  obtain ⟨l, hl⟩ := hacts _ hfail.bound
  rw [evSliceNow_takes h, if_pos hres, hfinding, ← htag]
  exact ⟨l, hfail.trans hl⟩

/-- What test 3 finds on another die than Hive is that die's L2 reset, or nothing where it is gone (R31). -/
theorem parityDie_logs (hr : s.led.ring.length ≤ 4096) (ht : r.test = 3) (hd : r.detail.toNat % 4 ≠ 0) :
    ∃ l, Logs s ((s.findingEntries r).findingActs r) l := by
  rw [findingEntries_parity ht]
  have hacts : s.findingActs r = s.evParityDie (r.detail.toNat % 4) (r.item.setWidth 16) := by
    unfold State.findingActs
    rw [ht]
    exact if_neg hd
  rw [hacts]
  unfold State.evParityDie
  split
  · exact ⟨[], Logs.nil s s rfl rfl hr⟩
  · exact resetDie_logs hr _ _ _ _ _

/-- What test 12 finds is a latched fault (Table 13-2). -/
theorem romFault_logs (hr : s.led.ring.length ≤ 4096) (ht : r.test = 12) :
    ∃ l, Logs s ((s.findingEntries r).findingActs r) l := by
  have hlatch : (s.findingEntries r).findingActs r = s.latch true 3 blkForager 0x070C 0 (b16 r.item.toNat) := by
    simp only [State.findingActs, State.findingEntries, ht]
  rw [hlatch]
  exact latch_logs hr _ _ _ _ _ _

/-! The end of a TEST_RUN (R285). -/

theorem opOf_one {subj : Subject} {o : PendingOp} (h : s.ops.filter (fun o => o.subject == subj) = [o]) :
    s.opOf subj = some o := by
  unfold State.opOf
  rw [← List.head?_filter, h]
  rfl

/-- The pending operations changed. -/
def State.withOps (s : State) (l : List PendingOp) : State := { s with ops := l }

theorem Tells.withOps {l : List Note} (h : Tells s u l) (x : List PendingOp) : Tells (s.withOps x) (u.withOps x) l := by
  have e : u.withOps x = (s.told u).withOps x := by rw [← h.2]
  have k : (s.told u).withOps x = (s.withOps x).told ((s.told u).withOps x) := rfl
  rw [← e] at k
  exact ⟨h.1, k⟩

/-- After entries, the one operation of a subject ends with its `CMD_COMPLETE`. -/
theorem Tells.endOps_one {X : State} {l : List Note} (h : Tells X u l) {subj : Subject} {o : PendingOp}
    (ho : X.ops.filter (fun o => o.subject == subj) = [o]) (hq : o.quiet = false) (st : Status) :
    Tells (X.withOps (X.ops.filter fun o => !(o.subject == subj))) (u.endOps subj st true) (l ++ [o.endNote st]) := by
  rw [Machine.endOps_one subj o st true (by rw [h.ops]; exact ho), h.ops]
  exact (h.withOps _).trans (completion_tells (u.withOps _) o st true hq)

section TestRun
variable {o : PendingOp} (ho : s.ops.filter (fun o => o.subject == .test) = [o]) (hq : o.quiet = false)
  (hn : s.forager.runTest ≠ 0x20)
include ho hq hn

/-- TEST_COMPLETE of a test that passed. -/
theorem evTestComplete_passed (item : Word) :
    Tells ((s.onForager fun f => { f with runState := 2, runItem := 0 }).withOps (s.ops.filter fun o => !(o.subject == .test)))
      (s.evTestComplete true item)
      [o.endNote .done] := by
  set v := s.onForager fun f => { f with runState := 2, runItem := 0 }
  have hend : s.evTestComplete true item = v.endOps .test .done true := by
    unfold State.evTestComplete
    rw [opOf_one ho]
    exact if_neg hn
  rw [hend, Machine.endOps_one (s := v) _ o _ _ ho]
  exact completion_tells _ _ _ _ hq

/-- TEST_COMPLETE of a test that failed: its `FORAGER_FAIL` carries the command's tag. -/
theorem evTestComplete_failed (item : Word) :
    Tells ((s.onForager fun f => { f with runState := 3, runItem := item }).withOps (s.ops.filter fun o => !(o.subject == .test)))
      (s.evTestComplete false item)
      [noteOf o.tag true 0 blkForager .foragerFail s.forager.runTest (b32 item.toNat ++ b16 0),
        o.endNote .fault] := by
  set v := s.onForager fun f => { f with runState := 3, runItem := item }
  have hfail : Tells v (((v.tagged o.tag).foragerFail s.forager.runTest item 0).tagged v.led.tag)
      [noteOf o.tag true 0 blkForager .foragerFail s.forager.runTest (b32 item.toNat ++ b16 0)] :=
    Tells.tagged _ (append_tells (v.tagged o.tag) _ _ _ _ _ _)
  have hend : s.evTestComplete false item =
      (((v.tagged o.tag).foragerFail s.forager.runTest item 0).tagged v.led.tag).endOps .test .fault true := by
    unfold State.evTestComplete
    rw [opOf_one ho]
    exact if_neg hn
  rw [hend]
  exact hfail.endOps_one ho hq _

end TestRun

/-! The GPIO pads (R305). -/

/-- A GPIO pad follows its supply, and with it its fuse state. -/
theorem pad_gpio {i : Nat} (hi : i < 24) :
    s.pad i = if s.padsDark = true ∨ s.ember.vio33Low = true then .hiZ else padOfCode (s.padCode i) := by
  have hgate : ¬ ((decide (40 ≤ i) && decide (i < 64)) = true) := by simp; omega
  unfold State.pad
  dsimp only
  rw [if_neg hgate]
  cases s.padsDark
  · simp [hi]
  · rfl

/-- Settles O54: each row's own effect; the first selected test, what a slice comes to, the entries of a finding, the end of the
pending TEST_RUN, and what a GPIO pad rests on. -/
theorem foragerAndPadSupply : Obligations.ForagerAndPadSupply := by
  unfold Obligations.ForagerAndPadSupply
  intro s hrest
  have htag := hrest.1
  refine ⟨fun n hl hon h0 h1 h12 hmask hmode hfit hfirst => acts_of rfl rfl ?start,
    fun r hwf hl hon hitem htest hmode hwait hmore => ?slice, fun o item hopen ho hq hn => ⟨?passed, ?failed⟩,
    acts_of rfl rfl ⟨rfl, fun i hi => ?low⟩, acts_of rfl rfl ⟨rfl, fun i hi => ?restored⟩⟩
  case start => exact evCycleNow_starts hl hon h0 (nextTest_first h1 h12 hmask hmode hfit hfirst)
  case slice =>
    have h : s.TakesSlice r := ⟨hl, hon, hitem, htest, hmode, hwait, hmore⟩
    refine ⟨fun hres ht => acts_of hwf rfl ?quiet, fun h5 h10 hgone => acts_of hwf rfl ?skipped,
      fun h0 ht htap hgone hdown => acts_of hwf rfl (evSliceNow_closesTap h h0 ht htap hgone hdown),
      fun h1 ht hd => acts_of hwf rfl (evSliceNow_resetsHive h h1 ht hd),
      fun h1 ht hd hnew => acts_of hwf rfl ?parity, fun h1 ht hnew _ => acts_of hwf rfl ?rom⟩
    case quiet => exact evSliceNow_counts h (sliceResult_ne_one hres) fun _ => ht
    case skipped =>
      have hskip := sliceResult_skipped (testSkipped_forge h5 h10 hgone r.item.toNat)
      exact evSliceNow_counts h (by omega) (by omega)
    case parity =>
      have hfail := evSliceNow_fails h (sliceResult_found h1 (.inl ht)) htag (by rw [ht]; exact hnew)
        fun v hv => parityDie_logs hv ht hd
      rw [ht] at hfail
      exact hfail
    case rom =>
      have hfail := evSliceNow_fails h (sliceResult_found h1 (.inr ht)) htag (by rw [ht]; exact hnew)
        fun v hv => romFault_logs hv ht
      rw [ht] at hfail
      exact hfail
  case passed => exact does_of hopen rfl (heard_none rfl) rfl (evTestComplete_passed ho hq hn item)
  case failed => exact does_of hopen rfl (heard_none rfl) rfl (evTestComplete_failed ho hq hn item)
  case low => exact (pad_gpio hi).trans (if_pos (.inr rfl))
  case restored =>
    rw [pad_gpio hi]
    exact if_congr (or_iff_left Bool.false_ne_true) rfl rfl

end Sys2Proof.Machine
end

section
/-! PROOF. The invariant is closed under what a step does. -/

namespace Sys2Proof.Machine

/-! The ring's counts (R32, R44). -/

theorem countsDown_take {n : Nat} {l : List Entry} (h : countsDown n l) (k : Nat) : countsDown n (l.take k) := by
  induction l generalizing n k with
  | nil => simp [countsDown]
  | cons e l ih =>
    cases k with
    | zero => trivial
    | succ k => exact ⟨h.1, ih h.2 k⟩

theorem recordLoss_q61_length (l : Ledger) (e : Entry) (h : l.q61.length ≤ 64) : (l.recordLoss e).q61.length ≤ 64 := by
  unfold Ledger.recordLoss
  dsimp only
  split
  · split
    · exact h
    · rename_i r older hr
      have hlen : (r :: older).length = l.q61.length := by rw [← hr, List.length_reverse]
      simpa using hlen.trans_le h
  · rename_i hc
    simp only [Bool.or_eq_true, decide_eq_true_eq, not_or] at hc
    simp only [List.length_append, List.length_singleton]
    omega

theorem push_q61_length (l : Ledger) (e : Entry) (h : l.q61.length ≤ 64) : (l.push e).q61.length ≤ 64 := by
  unfold Ledger.push
  dsimp only
  split
  · split
    · exact recordLoss_q61_length _ _ h
    · exact h
  · exact h

/-- What an append leaves of the ring, and that Q61 keeps its bound (R20, R45). -/
theorem append_ring (s : State) (ext : Bool) (die block : Nat) (k : Kind) (n : Nat) (d : List Byte) :
    ∃ e : Entry, e.count = s.led.next ∧ (s.append ext die block k n d).led.next = s.led.next + 1 ∧
      (s.append ext die block k n d).led.ring = e :: s.led.ring.take 4095 ∧
      (s.led.q61.length ≤ 64 → (s.append ext die block k n d).led.q61.length ≤ 64) := by
  have key : ∀ e : Entry, e.count = s.led.next → ∀ u : Ledger, u.next = ((s.led.push e).tally e).next →
      u.ring = ((s.led.push e).tally e).ring → u.q61 = ((s.led.push e).tally e).q61 →
      ∃ e : Entry, e.count = s.led.next ∧ u.next = s.led.next + 1 ∧ u.ring = e :: s.led.ring.take 4095 ∧
        (s.led.q61.length ≤ 64 → u.q61.length ≤ 64) := by
    intro e hc u hn hr hq
    refine ⟨e, hc, ?_, ?_, fun h => ?_⟩
    · rw [hn, (tally_next _ _).1, (push_next _ _).1]
    · rw [hr, (tally_next _ _).2, (push_next _ _).2]
    · rw [hq, tally_told]
      exact push_q61_length _ _ h
  unfold State.append
  dsimp only
  split
  · exact key _ rfl _ rfl rfl rfl
  · exact key _ rfl _ rfl rfl rfl

/-! Canonical values (R295). -/

theorem setAll_wf (l values : List (Nat × Word)) (w : sparseWf paramDefault 0 values = true) :
    sparseWf paramDefault 0 (setAll values l) = true := by
  induction l generalizing values with
  | nil => exact w
  | cons x l ih => exact ih _ (sparseSet_wf _ _ _ _ _ (Nat.zero_le _) w)

/-! The invariant, by its guarded part and the two modes. -/

/-- What the invariant says of the guarded part of a state. -/
structure Guard.Inv (g : Guard) : Prop where
  ring : g.ring.length ≤ 4096
  counts : countsDown g.next g.ring
  q61 : g.q61.length ≤ 64
  q62 : g.q62.length ≤ 32
  flash : Memory.wf flashDefault g.flash
  retained : Memory.wf retainedDefault g.retained
  values : sparseWf paramDefault 0 g.values = true

theorem State.inv_iff (s : State) : s.Inv ↔ s.guard.Inv ∧ s.mode ≠ .idle ∧ s.pw.left ≠ .idle :=
  ⟨fun h => ⟨⟨h.ring, h.counts, h.q61, h.q62, h.flash, h.retained, h.values⟩, h.mode, h.left⟩,
   fun ⟨g, m, l⟩ => ⟨g.ring, g.counts, g.q61, g.q62, g.flash, g.retained, g.values, m, l⟩⟩

theorem State.Inv.guarded {s : State} (h : s.Inv) : s.guard.Inv := (s.inv_iff.mp h).1

/-- A state that keeps both modes has the invariant where its guarded part does. -/
theorem State.Inv.of {s t : State} (h : s.Inv) (g : t.guard.Inv) (m : t.mode = s.mode) (l : t.pw.left = s.pw.left) : t.Inv :=
  t.inv_iff.mpr ⟨g, m ▸ h.mode, l ▸ h.left⟩

/-- The invariant is closed under what a step does to the guarded part of the state. -/
theorem inv_closed : Closed State.Inv where
  same _ _ g m l h := h.of (g ▸ h.guarded) m l
  mode _ t g m l h := t.inv_iff.mpr ⟨g ▸ h.guarded,
    m.elim (· ▸ h.mode) (·.elim (· ▸ h.left) id), l.elim (· ▸ h.mode) (·.elim (· ▸ h.left) id)⟩
  append s ext die block k n d h := by
    obtain ⟨e, hc, hn, hr, hq⟩ := append_ring s ext die block k n d
    refine h.of ⟨?_, ?_, hq h.q61, ?_, ?_, ?_, ?_⟩ ?_ ?_
    · change (s.append ext die block k n d).led.ring.length ≤ 4096
      rw [hr, List.length_cons, List.length_take]; omega
    · change countsDown (s.append ext die block k n d).led.next (s.append ext die block k n d).led.ring
      rw [hn, hr]; exact ⟨by rw [hc], countsDown_take (hc ▸ h.counts) _⟩
    · rw [append_told]; exact h.q62
    · rw [append_told]; exact h.flash
    · rw [append_told]; exact h.retained
    · rw [append_told]; exact h.values
    · rw [append_mode]
    · rw [append_told]; rfl
  led s l hn hr h61 h62 h :=
    h.of { h.guarded with
      ring := (congrArg List.length hr).trans_le h.ring, counts := (congrArg₂ countsDown hn hr).mpr h.counts, q61 := h61.trans (max_le le_rfl h.q61)
      q62 := h62.trans (max_le le_rfl h.q62) } rfl rfl
  newLed s l hn hr h61 h62 h :=
    h.of { h.guarded with ring := by simp [hr], counts := by simp [hr, countsDown], q61 := by simp [h61], q62 := by simp [h62] }
      rfl rfl
  erase s a n h := h.of { h.guarded with flash := eraseRange_wf _ _ _ _ h.flash } rfl rfl
  program s a l h := h.of { h.guarded with flash := writeBytes_wf _ _ _ _ h.flash } rfl rfl
  retain s a l h := h.of { h.guarded with retained := writeBytes_wf _ _ _ _ h.retained } rfl rfl
  set s p i v h := h.of { h.guarded with values := sparseSet_wf _ _ _ _ _ (Nat.zero_le _) h.values } rfl rfl
  setAll s t l g m lf h := h.of (g ▸ { h.guarded with values := setAll_wf _ _ h.values }) m lf
  fresh s t l g m lf h := h.of (g ▸ { h.guarded with values := setAll_wf _ _ rfl }) m lf
  burn s l _ h := h.of { h.guarded with } rfl rfl
  spend s _ h := h.of { h.guarded with } rfl rfl
  reset s t g r m l h := t.inv_iff.mpr ⟨g ▸
    { h.guarded with
      ring := by simp, counts := trivial, q61 := by simp, q62 := by simp, values := rfl
      retained := r.elim (· ▸ h.retained) (· ▸ rfl) }, m, l⟩

/-- Settles O57: the invariant does not look at the queue, and is closed under what a step does. -/
theorem invariantIsKept : Obligations.InvariantIsKept := by
  unfold Obligations.InvariantIsKept
  intro s t h hs
  exact step_keeps inv_closed (fun _ h => h.of { h.guarded with } rfl rfl) h hs

end Sys2Proof.Machine
end

section
/-! PROOF. The state right after reset. -/

namespace Sys2Proof.Machine

/-- A parameter is found by its ID (Table 15-1). -/
theorem Param.ofId_id (p : Param) : Param.ofId p.id = some p := by cases p <;> rfl

/-- An unlisted value is the parameter's after-reset value (R295). -/
theorem paramDefault_key (p : Param) {n : Nat} (h : n ≤ 255) : paramDefault (paramKey p n) = p.info.reset := by
  unfold paramDefault paramKey
  rw [show (p.id * 256 + n) / 256 = p.id by omega, Param.ofId_id]

theorem reset_port (p : Nat) : State.reset.port p = Port.init := by
  unfold State.port bankGet
  split
  · rfl
  · change ((Vector.replicate 16 Port.init)[p - 1]?).getD Port.init = _
    rw [Vector.getElem?_replicate]
    split <;> rfl

theorem reset_chan (ch : Nat) : State.reset.chan ch = Chan.init := by
  unfold State.chan bankGet
  split
  · rfl
  · change ((Vector.replicate 24 Chan.init)[ch - 1]?).getD Chan.init = _
    rw [Vector.getElem?_replicate]
    split <;> rfl

theorem reset_inv : State.reset.Inv where
  ring := Nat.zero_le _
  counts := trivial
  q61 := Nat.zero_le _
  q62 := Nat.zero_le _
  flash := rfl
  retained := rfl
  values := rfl
  mode := by decide
  left := by decide

/-- Settles O56: every field is read off the state, each unlisted value by its parameter's ID. -/
theorem resetState : Obligations.ResetState := by
  unfold Obligations.ResetState
  refine ⟨reset_inv, rfl, rfl, rfl, rfl, rfl, ?_, rfl, rfl, rfl, rfl, fun p n hn => paramDefault_key p hn, fun p _ => ?_, fun ch _ => ?_⟩
  · decide
  · rw [reset_port]; exact ⟨rfl, rfl, rfl⟩
  · rw [reset_chan]; exact ⟨rfl, rfl, rfl⟩

end Sys2Proof.Machine
end

section
/-! PROOF. The sixteen commands that only read. -/

namespace Sys2Proof.Machine

variable {s : State}

/-- A read-only command row that is not refused replies with its payload, and uses free values up. -/
theorem replies_of {i : Instr} {R : List Byte → Prop} {h : CmdHeader} {op : Opcode} {p : List Byte}
    (hc : commandOf i = some (h, op, p)) (ro : op.readOnly = true)
    (r : (s.taken (headerCommand h op p)).refusal (extClient h.client) (headerCommand h op p) = none →
      ∃ n l, (s.taken (headerCommand h op p)).payload (headerCommand h op p)
        = (l, { s.taken (headerCommand h op p) with free := n }) ∧ R l) : s.Replies i R := by
  intro h' op' p' hc'
  rw [hc] at hc'
  cases hc'
  intro c t hr
  obtain ⟨n, l, hl, hR⟩ := r hr
  refine ⟨n, l, ?_, hR⟩
  have hrun := runCommand_taken h.client c hr
  rw [if_pos (show c.op.readOnly = true from ro), hl] at hrun
  rw [exec_command hc, submit_open h op p t, hrun]

/-- A payload that no free value enters. -/
theorem replies_still {i : Instr} {R : List Byte → Prop} {h : CmdHeader} {op : Opcode} {p : List Byte}
    (hc : commandOf i = some (h, op, p)) (ro : op.readOnly = true) (l : List Byte)
    (hl : (s.taken (headerCommand h op p)).payload (headerCommand h op p) = (l, s.taken (headerCommand h op p)))
    (r : (s.taken (headerCommand h op p)).refusal (extClient h.client) (headerCommand h op p) = none → R l) : s.Replies i R :=
  replies_of hc ro fun hr => by
    refine ⟨(s.taken (headerCommand h op p)).free, l, ?_, r hr⟩
    rw [hl]

theorem check_passed {b : Bool} {st : Status} {rest : Option Status} (h : (if b = true then some st else rest) = none) :
    b = false ∧ rest = none := by
  cases b
  · exact ⟨rfl, h⟩
  · cases h

/-- What the checks of an admitted command say of its fields (Table 03-4). -/
theorem admitted_fields {cl : Client} {c : Command} (hr : s.refusal cl c = none) :
    s.badIndex c = false ∧ s.badParameter cl c = false := by
  unfold State.refusal at hr
  obtain ⟨_, h1⟩ := check_passed hr
  obtain ⟨_, h2⟩ := check_passed h1
  obtain ⟨_, h3⟩ := check_passed h2
  obtain ⟨hindex, h4⟩ := check_passed h3
  exact ⟨hindex, (check_passed h4).1⟩

/-! Operands as bytes. -/

theorem leAt_b16 {n : Nat} (h : n < 2 ^ 16) : leAt (b16 n) 0 2 = n := leNat_leBytes 2 n h

theorem Param.id_lt (q : Param) : q.id < 2 ^ 16 := by cases q <;> decide

/-- The parameter that a command's ID names (R293). -/
theorem param_named (h : CmdHeader) (op : Opcode) (q : Param) (l : List Byte) :
    (headerCommand h op (b16 q.id ++ l)).param = some q := by
  have he : (headerCommand h op (b16 q.id ++ l)).param = Param.ofId (leAt (b16 q.id) 0 2) := rfl
  rw [he, leAt_b16 q.id_lt, Param.ofId_id]

/-! What the commands report of the state as it stands, which a command counted and its tag leave as it is. -/

theorem readOnly_taken (c : Command) : (s.taken c).readOnly = s.readOnly := rfl
theorem readOnly_reported_taken (c : Command) : (s.taken c).reported.readOnly = s.reported.readOnly := rfl

theorem paramRead_taken (c : Command) : (s.taken c).paramRead = s.paramRead := by
  funext q n
  have h : ∀ m : Bool, (if m = true then s.taken c else (s.taken c).reported).readOnly q n
      = (if m = true then s else s.reported).readOnly q n := fun m => by
    cases m
    · exact congrFun (congrFun (readOnly_reported_taken c) q) n
    · exact congrFun (congrFun (readOnly_taken c) q) n
  unfold State.paramRead
  rw [h]
  rfl

/-- A staged parameter but `CHAN.ILIM` reads as its value in force (R297). -/
theorem paramRead_staged {q : Param} (ha : q.info.access = .rwStaged) (hq : q ≠ .chanIlim) (n : Nat) :
    s.paramRead q n = s.value q n := by
  unfold State.paramRead
  split
  case h_11 => exact absurd rfl hq
  case h_12 => rw [ha]
  all_goals exact absurd ha (by decide)

/-- A field of a block's reply for each parameter asked for. -/
theorem block_length {block first count : Nat} {cl : Client} {h : CmdHeader} {n : Nat} (hb : block ≤ 255) (hf : first ≤ 255)
    (hc : count ≤ 32)
    (hr : s.refusal cl (headerCommand h .paramGetBlock (b8 block ++ b8 n ++ b8 first ++ b8 count)) = none) :
    (((Param.block block).drop first).take count).length = count := by
  have hi := (admitted_fields hr).1
  have hi' : ((Param.block (BitVec.ofNat 8 block).toNat).isEmpty || (true && !blockIndexOk (BitVec.ofNat 8 block).toNat _)
    || (true && decide ((Param.block (BitVec.ofNat 8 block).toNat).length
      < (BitVec.ofNat 8 first).toNat + (BitVec.ofNat 8 count).toNat))) = false := hi
  rw [toNat_byte (by omega : block < 256), toNat_byte (by omega : first < 256), toNat_byte (by omega : count < 256)] at hi'
  simp only [Bool.true_and, Bool.or_eq_false_iff, decide_eq_false_iff_not, not_lt] at hi'
  rw [List.length_take, List.length_drop]
  omega

/-- An admitted HEALTH_READ names a record that is held (R283). -/
theorem healthReply_held {first n : Nat} {cl : Client} {h : CmdHeader} (hf : first < 2 ^ 16) (hn : n ≤ 31)
    (hr : s.refusal cl (headerCommand h .healthRead (b16 first ++ b8 n)) = none) :
    (s.healthReply first n).getD []
      = recordReply (((s.forager.log.dropWhile fun r => r.number != first).take n).map Health.bytes) := by
  have hp := (admitted_fields hr).2
  have hp' : (!true || ((BitVec.ofNat 8 n).toNat == 0 || decide (31 < (BitVec.ofNat 8 n).toNat)
    || (s.healthReply (leAt (b16 first) 0 2) (BitVec.ofNat 8 n).toNat).isNone)) = false := hp
  rw [toNat_byte (by omega), leAt_b16 hf] at hp'
  simp only [Bool.or_eq_false_iff] at hp'
  obtain ⟨_, _, hp'⟩ := hp'
  unfold State.healthReply at hp' ⊢
  dsimp only at hp' ⊢
  split at hp'
  · cases hp'
  · rename_i hne
    rw [if_neg hne]
    rfl

/-- An admitted TWI_ATTN_READ of item 2 names a result that is held (R256). -/
theorem resultOf_held {n tag : Nat} {cl : Client} {h : CmdHeader} (hn : n ≤ 3) (ht : tag < 2 ^ 16)
    (hr : s.refusal cl (headerCommand h .twiAttnRead (b8 n ++ b8 2 ++ b16 tag)) = none) :
    ∃ r, (s.seg n).resultOf tag = some r := by
  have hi := (admitted_fields hr).1
  have hi' : (true && (decide (4 < (BitVec.ofNat 8 n).toNat) || (true && (BitVec.ofNat 8 n).toNat == 4 && true)
    || (true && decide ((BitVec.ofNat 8 n).toNat < 4) && true
      && ((s.seg (BitVec.ofNat 8 n).toNat).resultOf (leAt (b16 tag) 0 2)).isNone))) = false := hi
  rw [toNat_byte (by omega), leAt_b16 ht] at hi'
  have h4 : decide (n < 4) = true := by simpa using (by omega : n < 4)
  simp only [Bool.true_and, Bool.and_true, h4, Bool.or_eq_false_iff] at hi'
  exact Option.isSome_iff_exists.mp (by simpa using hi'.2)

/-- Settles O46: each command's payload on the state as the command finds it. -/
theorem readCommandsReply : Obligations.ReadCommandsReply := by
  unfold Obligations.ReadCommandsReply
  intro s h
  refine ⟨fun p => ?echo, ?identify, ?queueStatus, ?ledgerHead, fun src n lsn hs hn hl => ?ledgerRead, ?pstate,
    fun n hn => ?testStatus, fun first n hf hn => ?healthRead, ?holdStatus, fun slot off n hs ho hn => ?cfgRead,
    fun q n hn => ?paramGet, fun block n first count hb hn hf hc => ?paramGetBlock, fun p hp => ?portStatus,
    fun p hp => ?pdStatus, fun ch hch => ?chanMeasure, fun n hn => ?mailbox, fun n hn => ?attn, fun n tag hn ht => ?result⟩
  case echo => exact replies_still rfl rfl p rfl fun _ => rfl
  case identify => exact replies_still rfl rfl s.identity rfl fun _ => rfl
  case queueStatus =>
    refine replies_still rfl rfl s.queueReply rfl fun _ => ?_
    unfold State.queueReply bitsOf
    rw [List.map_eq_flatMap]
    congr 2
    simp only [bitsOf, Bool.toNat_false]
    omega
  case ledgerHead =>
    refine replies_still rfl rfl s.headReply rfl fun _ => ?_
    unfold State.headReply
    cases s.led.ring.getLast? <;> rfl
  case ledgerRead =>
    refine replies_still rfl rfl (s.ledgerReply src n lsn) ?_ fun _ => ?_
    · have he : ∀ t : State, t.payload (headerCommand h .ledgerRead (b8 src ++ b8 n ++ leBytes 8 lsn))
          = (t.ledgerReply (BitVec.ofNat 8 src).toNat (BitVec.ofNat 8 n).toNat (leNat (leBytes 8 lsn)), t) := fun _ => rfl
      rw [he, toNat_byte (by omega), toNat_byte (by omega), leNat_leBytes 8 lsn (by omega)]
      rfl
    · unfold State.ledgerReply
      split <;> rfl
  case pstate => exact replies_still rfl rfl s.pstateReply rfl fun _ => rfl
  case testStatus =>
    refine replies_still rfl rfl (s.testReply n) ?_ fun _ => rfl
    exact congrArg (fun k => (s.testReply k, _)) (headerCommand_p0 h .testStatus (by omega))
  case healthRead =>
    refine replies_still rfl rfl ((s.healthReply first n).getD []) ?_ fun hr => healthReply_held hf hn hr
    have he : ∀ t : State, t.payload (headerCommand h .healthRead (b16 first ++ b8 n))
        = ((t.healthReply (leAt (b16 first) 0 2) (BitVec.ofNat 8 n).toNat).getD [], t) := fun _ => rfl
    rw [he, toNat_byte (by omega), leAt_b16 hf]
    rfl
  case holdStatus =>
    refine replies_of rfl rfl fun _ => ⟨s.free + 7, s.holdReply.1, rfl, s.storeSample s.free,
      (upTo 1 6).map fun k => if k ≤ s.cells then cellSample s.free k else 0, rfl, fun k hc h6 => ?_, ?_⟩
    · rw [List.getElem?_map, show (upTo 1 6)[k]? = some (1 + k) from ?_, Option.map_some, if_neg (by omega)]
      interval_cases k <;> rfl
    · rw [List.flatMap_map]
      rfl
  case cfgRead =>
    refine replies_still rfl rfl (s.flashBytes (slotBase slot + off) n) ?_ fun _ => rfl
    have he : ∀ t : State, t.payload (headerCommand h .cfgRead (b8 slot ++ b8 0 ++ b32 off ++ b16 n))
        = (t.flashBytes (slotBase (BitVec.ofNat 8 slot).toNat + leAt (b32 off) 0 4) (leAt (b16 n) 0 2), t) := fun _ => rfl
    rw [he, toNat_byte (by omega), leAt_b32 (by omega), leAt_b16 (by omega)]
    rfl
  case paramGet =>
    refine replies_of rfl rfl fun _ => ⟨s.free + 0x1000000, (s.paramReply q n).1, ?_, fun ha hq => paramRead_staged ha hq n, rfl⟩
    have he : ∀ t : State, t.payload (headerCommand h .paramGet (b16 q.id ++ b8 n)) = match
        (headerCommand h .paramGet (b16 q.id ++ b8 n)).param with
      | some q => t.paramReply q (BitVec.ofNat 8 n).toNat
      | none => ([], t) := fun _ => rfl
    rw [he, param_named, toNat_byte (by omega)]
    dsimp only
    unfold State.paramReply
    rw [paramRead_taken]
    rfl
  case paramGetBlock =>
    refine replies_of rfl rfl fun hr => ⟨s.free + 0x1000000, (s.blockReply block n first count).1, ?_, ?_, rfl⟩
    · have he : ∀ t : State, t.payload (headerCommand h .paramGetBlock (b8 block ++ b8 n ++ b8 first ++ b8 count))
        = t.blockReply (BitVec.ofNat 8 block).toNat (BitVec.ofNat 8 n).toNat (BitVec.ofNat 8 first).toNat
            (BitVec.ofNat 8 count).toNat := fun _ => rfl
      rw [he, toNat_byte (by omega), toNat_byte (by omega), toNat_byte (by omega), toNat_byte (by omega)]
      unfold State.blockReply
      rw [paramRead_taken]
      rfl
    · unfold State.blockReply
      rw [List.length_flatMap]
      simp only [leBytes_length, List.map_const', List.sum_replicate, block_length hb hf hc hr]
      exact Nat.mul_comm _ _
  case portStatus =>
    refine replies_still rfl rfl (s.reported.portReply p) ?_ fun _ => rfl
    exact congrArg (fun k => (s.reported.portReply k, s.taken _)) (headerCommand_p0 h .portStatus (by omega))
  case pdStatus =>
    refine replies_still rfl rfl (s.reported.pdReply p) ?_ fun _ => ?_
    · exact congrArg (fun k => (s.reported.pdReply k, s.taken _)) (headerCommand_p0 h .pdStatus (by omega))
    · unfold State.pdReply
      dsimp only
      cases (s.reported.port p).pd.contract <;> cases (s.reported.port p).pd.mode <;> rfl
  case chanMeasure =>
    refine replies_of rfl rfl fun _ => ⟨s.free + 3, (s.measureReply ch).1, ?_, _, _, _, rfl⟩
    exact congrArg (State.measureReply _) (headerCommand_p0 h .chanMeasure (by omega))
  case mailbox =>
    refine replies_still rfl rfl (s.attnReply n 0 0) ?_ fun _ => rfl
    exact congrArg (fun k => (s.attnReply k 0 0, s.taken _)) (toNat_byte (by omega))
  case attn =>
    refine replies_still rfl rfl (s.attnReply n 1 0) ?_ fun _ => ⟨fun ha => ?_, fun st bytes ha => ?_⟩
    · exact congrArg (fun k => (s.attnReply k 1 0, s.taken _)) (toNat_byte (by omega))
    · unfold State.attnReply
      simp [ha]
    · unfold State.attnReply
      simp [ha, apply_ite]
  case result =>
    refine replies_still rfl rfl (s.attnReply n 2 tag) ?_ fun hr => ?_
    · have he : ∀ t : State, t.payload (headerCommand h .twiAttnRead (b8 n ++ b8 2 ++ b16 tag))
          = (t.attnReply (BitVec.ofNat 8 n).toNat 2 (leAt (b16 tag) 0 2), t) := fun _ => rfl
      rw [he, toNat_byte (by omega), leAt_b16 ht]
      rfl
    · obtain ⟨r, hres⟩ := resultOf_held hn ht hr
      have hres' : (s.seg n).resultOf tag = some r := hres
      refine ⟨r, hres', ?_⟩
      unfold State.attnReply
      simp [hres']

end Sys2Proof.Machine
end

section
/-! PROOF. Where the statement of the commands on parameters fails: a bit that is kept at 1 and stands at 0. -/

namespace Sys2Proof.Machine

/-- What PSTATE.WAKE_EN holds with bit 6, which is kept at 1 (Table 15-5), clear. -/
def wakeBits : Word := 0x3BE

/-- A device in RUN whose `PSTATE.WAKE_EN` has bit 6 clear. -/
def wakeCleared : State := { State.reset with mode := .run, phase := .up }.setValue .pstateWakeEn 0 wakeBits

/-- The bytes of a PARAM_SET of the value that stands. -/
def wakeSet : List Byte := b16 Param.pstateWakeEn.id ++ b8 0 ++ b8 0 ++ b32 wakeBits.toNat

theorem wakeCleared_inv : wakeCleared.Inv :=
  inv_closed.set _ _ _ _ ((State.inv_iff _).mpr ⟨reset_inv.guarded, by decide, by decide⟩)

theorem wakeCleared_takes : wakeCleared.Takes .c0 (headerCommand usbHeader .paramSet wakeSet) :=
  ⟨⟨by decide, by decide, by decide, by decide⟩, by decide, by decide⟩

theorem wakeCleared_admits : (wakeCleared.taken (headerCommand usbHeader .paramSet wakeSet)).refusal .c0
    (headerCommand usbHeader .paramSet wakeSet) = none := by decide

theorem State.Commanded.prm {s v : State} {tag : BitVec 16} (hv : s.Commanded tag v) : v.prm = s.prm := by rw [hv.rest]

theorem value_of_prm {s t : State} (h : t.prm = s.prm) (p : Param) (i : Nat) : t.value p i = s.value p i := by
  unfold State.value
  rw [h]

/-- `PSTATE.WAKE_EN` reads as its value in force. -/
theorem paramRead_wakeEn (s : State) : s.paramRead .pstateWakeEn 0 = s.value .pstateWakeEn 0 := rfl

/-- Refutes O48: where `PSTATE.WAKE_EN` stands with bit 6 clear, which no clause excludes, a PARAM_SET of the value in force
changes nothing (R295), so that it reads back without bit 6, and not as the value that is kept (Table 15-5). -/
theorem not_parameterCommands : ¬ Obligations.ParameterCommands := by
  unfold Obligations.ParameterCommands
  intro h
  obtain ⟨hset, -⟩ := h wakeCleared usbHeader wakeCleared_inv
  obtain ⟨u, -, hreads, -, -, -, hsame, -⟩ := hset .pstateWakeEn 0 wakeBits rfl (by decide) (by decide) usbHeader .paramSet
    wakeSet rfl wakeCleared_takes wakeCleared_admits
  have hv := commanded wakeCleared usbHeader (headerCommand usbHeader .paramSet wakeSet)
    ((wakeCleared.taken (headerCommand usbHeader .paramSet wakeSet)).success (headerCommand usbHeader .paramSet wakeSet))
  have hstands := (value_of_prm hv.prm .pstateWakeEn 0).trans (show _ = wakeBits by decide)
  obtain ⟨hprm, -⟩ := hsame ((paramRead_wakeEn _).trans hstands)
  rw [paramRead_wakeEn, value_of_prm hprm, hstands] at hreads
  exact absurd hreads (by decide)

end Sys2Proof.Machine
end

section
/-! PROOF. CRANK: how it begins and ends where no port has power to shed, and the deep shed of one port. -/

namespace Sys2Proof.Machine

variable {s u X : State} {l : List Note}

/-! Changes of mode (R25). -/

/-- The modes that hand over to the chosen one: those in which inputs are taken, without SAFE. -/
def Mode.handsOver (m : Mode) : Bool := m == .run || m == .standalone || m == .service || m == .crank

theorem reselect_handsOver (hm : s.mode.handsOver = true) (hne : s.chosenMode ≠ s.mode) (reason : Nat) (external : Bool) :
    s.reselect reason external = (s.modeTo s.chosenMode reason external).entered s.mode := by
  unfold State.reselect
  split
  iterate 6 exact absurd hm (by rw [‹s.mode = _›]; decide)
  exact if_neg hne

/-- A change of mode is `MODE_CHANGE`, and what the Honeystore does in the new mode (R23, R236). -/
theorem modeTo_tells {m : Mode} (h : s.mode ≠ m) (reason : Nat) :
    Tells { s with mode := m, store := s.store.inMode m } (s.modeTo m reason true)
      [noteOf s.led.tag true 3 blkPower .modeChange 0 (b8 s.mode.code ++ b8 m.code ++ b8 reason)] := by
  unfold State.modeTo
  rw [if_neg h]
  exact append_tells { s with mode := m, store := s.store.inMode m } ..

/-! What CRANK sheds (R160). -/

/-- No port of a class has power, or will have it at the end of a CYCLE. -/
theorem shedCandidates_none {c : Nat} (h : ∀ p, isPort p = true → s.classOf p = c →
    (s.chan p).state.active = false ∧ (s.port p).bus.cyclePower = false) : s.shedCandidates c = [] := by
  unfold State.shedCandidates
  dsimp only
  rw [List.filter_eq_nil_iff.mpr]
  · rfl
  · intro p hp hc
    simp only [Bool.and_eq_true, beq_iff_eq, Bool.or_eq_true] at hc
    obtain ⟨hclass, hpower⟩ := hc
    obtain ⟨ha, hcycle⟩ := h p ((mem_allPorts p).mp hp) hclass
    rw [ha, hcycle] at hpower
    simp at hpower

theorem shedClasses_none (hw : s.NoneWaits) (cs : List Nat) (h : ∀ p, isPort p = true →
    (s.chan p).state.active = false ∧ (s.port p).bus.cyclePower = false) : s.shedClasses cs = s := by
  have hfold : cs.foldl (fun s c => s.each (s.shedCandidates c) fun p s => s.shedPort p) s = s := by
    induction cs with
    | nil => rfl
    | cons c cs ih =>
      rw [List.foldl_cons, shedCandidates_none fun p hp _ => h p hp]
      exact ih
  unfold State.shedClasses
  rw [hfold, redistribute_none hw]

/-- CRANK entered where no port has power to shed counts, and nothing else follows. -/
theorem entered_crank {old : Mode} (hm : s.mode = .crank) (ho : old = .run ∨ old = .standalone) (hw : s.NoneWaits)
    (h : ∀ p, isPort p = true → (s.chan p).state.active = false ∧ (s.port p).bus.cyclePower = false) :
    s.entered old = s.onPw fun w => { w with cranks := w.cranks + 1 } := by
  have hnone := shedClasses_none (s := s.onPw fun w => { w with cranks := w.cranks + 1 }) (fun p hp => hw p hp) [3, 2] fun p hp => h p hp
  have hsafe : (s.mode == .safe) = false := by rw [hm]; rfl
  have hcrank : (s.mode == .crank && old != .crank) = true := by
    rcases ho with rfl | rfl <;> rw [hm] <;> rfl
  have hrestores : (old == .crank) = false := by rcases ho with rfl | rfl <;> rfl
  have hboots : (old == .boot || old == .safe) = false := by rcases ho with rfl | rfl <;> rfl
  unfold State.entered
  simp only [State.when, hsafe, hcrank, hnone, hrestores, hboots, Bool.false_and, Bool.false_eq_true, if_false, if_true, State.onPw_mode]

/-- CRANK left for RUN or STANDALONE with no port on the list restores none. -/
theorem entered_of_crank (hm : s.mode = .run ∨ s.mode = .standalone) (ho : s.pw.shedOrder = []) : s.entered .crank = s := by
  have hrestore : s.restoreShed = s := by
    have hpw : s.onPw (fun w => { w with shedOrder := [] }) = s := by
      rw [← ho]
      rfl
    unfold State.restoreShed
    rw [ho, hpw]
    rfl
  unfold State.entered State.when
  rcases hm with hm | hm <;> simp [hm, hrestore]

theorem evCrankEnter_tells (hm : s.mode = .run ∨ s.mode = .standalone) (hc : s.pw.crank = false) (hsafe : s.safeCondition = false)
    (hw : s.NoneWaits) (h : ∀ p, isPort p = true → (s.chan p).state.active = false ∧ (s.port p).bus.cyclePower = false) :
    Tells { s with
        mode := .crank, store := { s.store with charging := false }
        pw := { s.pw with crank := true, cranks := s.pw.cranks + 1 } } s.evCrankEnter
      [noteOf s.led.tag true 3 blkPower .modeChange 0 (b8 s.mode.code ++ b8 Mode.crank.code ++ b8 1)] := by
  have hmode : s.mode.handsOver = true ∧ s.mode ≠ .crank ∧ s.mode ≠ .deepSleep ∧ s.mode.asleep = false := by
    rcases hm with h | h <;> rw [h] <;> decide
  obtain ⟨hover, hne, hdeep, hawake⟩ := hmode
  set v := s.onPw fun w => { w with crank := true } with hv
  have hchosen : v.chosenMode = .crank := by
    unfold State.chosenMode
    rw [show v.safeCondition = false from hsafe]
    rfl
  have hto := modeTo_tells (s := v) hne 1
  have hen : s.evCrankEnter = (v.modeTo .crank 1 true).entered s.mode := by
    unfold State.evCrankEnter
    rw [if_neg (by simp [hc, hdeep]), ← hv]
    dsimp only
    rw [if_neg (by rw [hv, State.onPw_mode, hawake]; exact Bool.false_ne_true),
      reselect_handsOver (s := v) hover (by rw [hchosen]; exact hne.symm), hchosen]
    rfl
  rw [hen, entered_crank hto.mode hm (fun p hp => by rw [hto.port]; exact hw p hp)
    (fun p hp => by rw [hto.chan, hto.port]; exact h p hp)]
  have hstore : s.store.inMode .crank = { s.store with charging := false } := by simp [Store.inMode, Mode.charges]
  rw [← hstore]
  exact hto.onPw _

theorem evCrankExit_tells (hm : s.mode = .crank) (hc : s.pw.crank = true) (ho : s.pw.shedOrder = []) (hs : s.pw.service = false)
    (hsafe : s.safeCondition = false) :
    let m : Mode := if s.hub.upVbus = true then .run else .standalone
    Tells { s with mode := m, pw := { s.pw with crank := false } } s.evCrankExit
      [noteOf s.led.tag true 3 blkPower .modeChange 0 (b8 Mode.crank.code ++ b8 m.code ++ b8 1)] := by
  intro m
  set v := s.onPw fun w => { w with crank := false } with hv
  have hchosen : v.chosenMode = m := by
    rw [chosenMode_operates (s := v) hsafe rfl, if_neg (by rw [hv, State.onPw_pw, hs]; exact Bool.false_ne_true)]
    rfl
  have hm' : m = .run ∨ m = .standalone := by
    unfold m
    split
    · exact .inl rfl
    · exact .inr rfl
  have hne : v.mode ≠ m := by
    rw [show v.mode = .crank from hm]
    rcases hm' with h | h <;> rw [h] <;> decide
  have hto := modeTo_tells hne 1
  have hex : s.evCrankExit = (v.modeTo m 1 true).entered .crank := by
    unfold State.evCrankExit
    rw [if_neg (by rw [hc]; decide), ← hv]
    dsimp only
    rw [if_pos (by rw [hv, State.onPw_mode, hm]; rfl),
      reselect_handsOver (by rw [hv, State.onPw_mode, hm]; rfl) (by rw [hchosen]; exact hne.symm), hchosen, show v.mode = .crank from hm]
  have hstore : s.store.inMode m = s.store := by
    rcases hm' with h | h <;> rw [h] <;> simp [Store.inMode, Mode.charges]
  rw [hex, entered_of_crank (by rw [hto.mode]; exact hm') (by rw [hto.pw]; exact ho)]
  rw [show v.store = s.store from rfl, hstore, show v.mode = .crank from hm] at hto
  exact hto

/-! The deep shed (R160). -/

/-- A port shed in CRANK: its channel off, its power released, and its place on the list. -/
def State.shed (s : State) (p : Nat) : State :=
  ((s.portReleased p 3).onPort p fun q => { q with shed := true, waiting := false, bus := { q.bus with cyclePower := false } }).onPw
    fun w => { w with shedOrder := p :: w.shedOrder }

theorem shed_eq (s : State) (p : Nat) :
    ((s.onPw fun w => { w with shedOrder := p :: w.shedOrder }).onChan p (Chan.wentOff (isIntegrated p))).onPort p (fun q =>
      { q with vconn := false, grant := 0, claim := 0, shed := true, waiting := false
               bus := { q.bus.unpowered with cyclePower := false }, pd := q.pd.endContract }) = s.shed p := by
  unfold State.shed State.portReleased
  rw [State.onPort_onPort]
  cases p <;> rfl

theorem shedPort_tells {p : Nat} (hp : isPort p = true) (hpl : s.Plain p) (ha : (s.chan p).state.active = true)
    (hg : 0 < (s.port p).grant) :
    Tells (s.shed p) (s.shedPort p)
      [noteOf s.led.tag false 3 blkChan .chanOff p (b8 3),
       noteOf s.led.tag false 0 blkAllot .allotChange p
        (b8 2 ++ b16 (s.port p).grant ++ b16 0 ++ b16 (s.portReleased p 3).remaining ++ b8 0)] :=
  ((portOff_tells hp hpl ha hg 3 false .fault true).onPort p _).onPw _

theorem remaining_shed {p : Nat} (hp : isPort p = true) : (s.shed p).remaining = (s.portReleased p 3).remaining :=
  remaining_onPort_same hp _ rfl

/-- The one port of a class that has power is its only candidate. -/
theorem shedCandidates_one {p c : Nat} (hp : isPort p = true) (hclass : s.classOf p = c) (ha : (s.chan p).state.active = true)
    (h : ∀ q, isPort q = true → q ≠ p → s.classOf q = c → (s.chan q).state.active = false ∧ (s.port q).bus.cyclePower = false) :
    s.shedCandidates c = [p] := by
  have hfilter : allPorts.filter (fun q => s.classOf q == c && ((s.chan q).state.active || (s.port q).bus.cyclePower))
      = allPorts.filter (fun q => q == p) := by
    refine List.filter_congr fun q hq => ?_
    by_cases hqp : q = p
    · simp [hqp, hclass, ha]
    · have hqport := (mem_allPorts q).mp hq
      by_cases hqc : s.classOf q = c
      · obtain ⟨h1, h2⟩ := h q hqport hqp hqc
        simp [h1, h2, hqp]
      · rw [beq_false_of_ne hqc, beq_false_of_ne hqp, Bool.false_and]
  have hone : allPorts.filter (fun q => q == p) = [p] := by
    have hbound : 1 ≤ p ∧ p ≤ 16 := by simpa [isPort] using hp
    obtain ⟨h1, h16⟩ := hbound
    clear hfilter hclass ha h
    interval_cases p <;> decide
  unfold State.shedCandidates
  dsimp only
  rw [hfilter, hone]
  rfl

theorem evDeepShed_tells {p : Nat} (hp : isPort p = true) (hpl : s.Plain p) (hm : s.mode = .crank) (hclass : s.classOf p = 1)
    (ha : (s.chan p).state.active = true) (hg : 0 < (s.port p).grant) (hw : s.NoneWaits)
    (h : ∀ q, isPort q = true → q ≠ p → s.classOf q = 1 → (s.chan q).state.active = false ∧ (s.port q).bus.cyclePower = false) :
    Tells (s.shed p) s.evDeepShed
      [noteOf s.led.tag false 3 blkChan .chanOff p (b8 3),
       noteOf s.led.tag false 0 blkAllot .allotChange p
        (b8 2 ++ b16 (s.port p).grant ++ b16 0 ++ b16 (s.portReleased p 3).remaining ++ b8 0)] := by
  have hshed := shedPort_tells hp hpl ha hg
  have hnone : (s.shed p).NoneWaits :=
    noneWaits_onPort (noneWaits_portReleased hw hp 3) p _ rfl (by
      rw [State.portReleased, onPort_port_self _ _ _ hp]
      rfl)
  have he : s.evDeepShed = (s.shedPort p).redistribute := by
    unfold State.evDeepShed State.shedClasses
    rw [if_pos (by rw [hm]; rfl), List.foldl_cons, shedCandidates_one hp hclass ha h]
    rfl
  rw [he, redistribute_tells hshed hnone]
  exact hshed

/-- Settles O30: each event's own effect in the mode that it finds. -/
theorem crankShedsAndRestores : Obligations.CrankShedsAndRestores := by
  unfold Obligations.CrankShedsAndRestores
  intro s ho hw hsafe
  have htag : s.led.tag = 0xFFFF := ho.rested.1
  refine ⟨fun hch hcy => ⟨fun hm hc => ?_, fun hm hc hs hsv => ?_⟩, fun p hp hpl hm hclass ha hg hq => ?_⟩
  · refine does_of ho rfl (heard_none rfl) rfl ?_
    rw [← htag]
    exact evCrankEnter_tells hm hc hsafe hw fun p hp => ⟨hch p, hcy p hp⟩
  · refine does_of ho rfl (heard_none rfl) rfl ?_
    rw [← htag]
    exact evCrankExit_tells hm hc hs hsv hsafe
  · refine does_of ho rfl (heard_none rfl) rfl ?_
    rw [shed_eq, remaining_shed hp, ← htag]
    exact evDeepShed_tells hp hpl hm hclass ha hg hw hq

end Sys2Proof.Machine
end

section
/-! PROOF. Errors of the memories and of parity (R31, R85, R88, R97). -/

namespace Sys2Proof.Machine

variable {s u : State}

/-- A parity error in Hive's copy is an L1 reset where the core is on, and the way to OFF in BANKED (R88). -/
theorem evParityHive_live (hp : s.phase = .up) (ha : s.mode.asleep = false) (param : BitVec 16) :
    s.evParityHive param = s.beginL1 6 param.toNat := by
  have hcore : s.coreOn = true := by
    unfold State.coreOn
    rw [hp]
    cases hm : s.mode <;> simp_all [Mode.asleep, Phase.live]
  exact if_pos hcore

theorem beginL1_banked (hp : s.phase = .up) (hm : s.mode = .banked) (bit detail : Nat) : s.beginL1 bit detail = s.enterOff := by
  unfold State.beginL1
  rw [hp, if_neg (by decide), if_pos hm]

theorem event_banked (i : Instr) (w : i.wf = true) (hp : s.phase = .up) (hm : s.mode = .banked) : s.event i = s.eventBanked i := by
  unfold State.event
  rw [if_neg (by rw [w]; decide), if_neg (by simp [hp]), if_pos hm]

/-- The L2 reset of a Comb die none of whose ports is attached turns nothing off: its cause, what it leaves of the die, and
`RESET_BLOCK`. -/
theorem resetDie_rest {die bit detail : Nat} {external byEvent : Bool} (hd : die ≠ 3) (hr : s.PortsRest) (hw : s.NoneWaits)
    (hm : s.chosenMode = s.mode) :
    Tells ((s.setCause bit detail).onDie die Die.underL2) (s.resetDie die bit detail external byEvent)
      [noteOf s.led.tag external 3 blkReset .resetBlock die (b8 2 ++ b32 (dieBlocks die) ++ b8 bit)] := by
  have hbegun : Tells ((s.setCause bit detail).onDie die Die.underL2) (s.beginL2 die bit detail external) _ :=
    (append_tells (s.setCause bit detail) external 3 blkReset .resetBlock die (b8 2 ++ b32 (dieBlocks die) ++ b8 bit)).onDie die
      Die.underL2
  have hport : ∀ p, (s.beginL2 die bit detail external).port p = s.port p := hbegun.port
  have hmode : (s.beginL2 die bit detail external).chosenMode = (s.beginL2 die bit detail external).mode := by
    have hforge : (s.beginL2 die bit detail external).die 3 = s.die 3 := by
      rw [hbegun.die 3, State.onDie_die, if_neg fun h => hd h.1.symm]
      rfl
    rw [hbegun.mode, chosenMode_of (s := s) hforge (hbegun.link 2) ((congrArg Spine.forgeOff hbegun.spine).trans rfl) hbegun.pw
      hbegun.hub, hm]
    rfl
  unfold State.resetDie
  rw [dieDown_rest 0 byEvent hd (hr.of hport hbegun.ops), redistribute_none (fun p hp => by rw [hport]; exact hw p hp),
    reselect_chosen _ _ hmode]
  exact hbegun

theorem evParityDie_rest {die : Nat} (hd : die ≠ 3) (hg : s.dieGone die = false) (hr : (s.die die).resetting = false)
    (hp : s.PortsRest) (hw : s.NoneWaits) (hm : s.chosenMode = s.mode) (param : BitVec 16) :
    Tells ((s.setCause 6 (die * 0x10000 + param.toNat)).onDie die Die.underL2) (s.evParityDie die param)
      [noteOf s.led.tag true 3 blkReset .resetBlock die (b8 2 ++ b32 (dieBlocks die) ++ b8 6)] := by
  unfold State.evParityDie
  rw [if_neg (by simp [hg, hr])]
  exact resetDie_rest hd hp hw hm

/-- Settles O25: the reset of each copy where its error is found. -/
theorem memoryErrors : Obligations.MemoryErrors := by
  unfold Obligations.MemoryErrors
  refine ⟨fun s param hp hm _ => ?_, fun s ho => ?_⟩
  · have hoff : s.event (.parityReset 0 param) = s.enterOff := by
      rw [event_banked _ rfl hp hm]
      exact (evParityHive_live hp (by rw [hm]; rfl) param).trans (beginL1_banked hp hm _ _)
    exact ⟨s.enterOff, congrArg _ hoff, rfl, rfl, rfl, rfl, rfl⟩
  · have htag : s.led.tag = 0xFFFF := ho.rested.1
    refine ⟨fun addr => does_of ho rfl (heard_none rfl) rfl ?_, fun param => does_of ho rfl (heard_none rfl) rfl ?_,
      fun die param hd hg hres hw hm hports htest => does_of ho ?_ (heard_none rfl) rfl ?_⟩
    · rw [← htag]
      exact append_tells s ..
    · obtain ⟨hup, hawake, hbanked⟩ : s.phase = .up ∧ s.mode.asleep = false ∧ s.mode ≠ .banked := by
        have hl := ho.listening
        unfold State.listening at hl
        cases hmode : s.mode <;> simp_all [Mode.asleep]
      obtain ⟨hmode, -, hcause, hdetail⟩ := evParityHive_resets hup hawake hbanked param
      have hreset : s.runEvent (.parityReset 0 param) = _ :=
        (evParityHive_live hup hawake param).trans (beginL1_live 6 _ (by rw [hup]; rfl) hbanked)
      refine ⟨hmode, ?_, hcause, hdetail, ?_, ?_, ?_⟩ <;> rw [hreset] <;> rfl
    · rcases hd with rfl | rfl <;> rfl
    · have hbound : param.toNat < 2 ^ 16 := param.isLt
      have hdetail : (die * 0x10000 + param.toNat) % 0x1000000 = die * 0x10000 + param.toNat := Nat.mod_eq_of_lt (by omega)
      have hne : die ≠ 3 := by omega
      have hrun : s.runEvent (.parityReset die param) = s.evParityDie die param := if_neg (by omega)
      have h := evParityDie_rest hne hg hres ⟨fun p hp => (hports p hp).1, fun p hp => (hports p hp).2, htest⟩ hw hm param
      rw [State.setCause, hdetail, htag] at h
      rw [hrun]
      exact h

end Sys2Proof.Machine
end

section
/-! PROOF. WAKE: an enabled source ends a sleep state that was entered in RUN or STANDALONE, with every link whole. -/

namespace Sys2Proof.Machine

variable {s : State}

/-- The lowest source of an empty latch is the one that wakes. -/
theorem lowestSource_only {source : Nat} (h : source ≤ 9) : lowestSource (0 ||| (1#10 <<< source)) source = source := by
  interval_cases source <;> decide

/-- RUN and STANDALONE entered from a sleep state bring nothing. -/
theorem entered_awake {old : Mode} (hm : s.mode = .run ∨ s.mode = .standalone) (ho : old.asleep = true) : s.entered old = s := by
  have hold : (old == .crank) = false ∧ (old == .boot || old == .safe) = false := by
    cases old <;> simp_all [Mode.asleep]
  have hmode : (s.mode == .safe) = false ∧ (s.mode == .crank) = false := by
    rcases hm with h | h <;> rw [h] <;> exact ⟨rfl, rfl⟩
  unfold State.entered
  simp only [State.when, hold, hmode, Bool.false_and, Bool.false_eq_true, if_false]

theorem reportLost_none (h : ∀ d, 1 ≤ d → d ≤ 3 → (s.die d).lostEvents = 0) : s.reportLost = s := by
  refine State.each_id _ _ _ fun d hd => if_pos ?_
  rw [h d (by fin_cases hd <;> decide) (by fin_cases hd <;> decide)]
  rfl

/-- A copy of uptime as it is loaded (R117). -/
def Die.loaded (copy : Int) (d : Die) : Die := { d with skewCount := 0, copy := copy }

theorem loadCopies_eq (s : State) :
    s.loadCopies = (s.onDie 1 (Die.loaded (s.uptime * 1000))).onDie 2 (Die.loaded (s.uptime * 1000)) := rfl

theorem loadCopies_die (s : State) (d : Nat) :
    s.loadCopies.die d = if d = 1 ∨ d = 2 then (s.die d).loaded (s.uptime * 1000) else s.die d := by
  rw [loadCopies_eq, State.onDie_die, State.onDie_die]
  by_cases h1 : d = 1
  · simp [h1]
  · simp [h1]

/-- A wake before its entries: the domains up, the copies loaded, and the events that wait counted. -/
def State.rising (s : State) (source : Nat) : State :=
  (s.domainsUp source).loadCopies.onPw fun w => { w with heldEvents := heldInputs s.io.waiting }

theorem rising_die (source d : Nat) :
    (s.rising source).die d = if d = 1 ∨ d = 2 then (s.die d).loaded (s.uptime * 1000) else s.die d :=
  loadCopies_die (s.domainsUp source) d

theorem lostEvents_rising (source d : Nat) : ((s.rising source).die d).lostEvents = (s.die d).lostEvents := by
  rw [rising_die]
  split
  · rfl
  · rfl

theorem rising_spine (source : Nat) :
    (s.rising source).spine = ((s.onDie 1 (Die.loaded (s.uptime * 1000))).onDie 2 (Die.loaded (s.uptime * 1000))).spine := rfl

/-- What a wake changes before its entries. -/
theorem rising_eq (s : State) (source : Nat) (m : Mode) :
    ({ s.rising source with mode := m } : State) = { s with
      mode := m, ember := (s.rising source).ember, pw := (s.rising source).pw
      spine := ((s.onDie 1 (Die.loaded (s.uptime * 1000))).onDie 2 (Die.loaded (s.uptime * 1000))).spine } := by
  rw [← rising_spine source]
  rfl

theorem safeCondition_rising (source : Nat) : (s.rising source).safeCondition = s.safeCondition := by
  unfold State.safeCondition
  rw [rising_die, if_neg (by omega)]
  rfl

/-- A wake to the mode that was left, `m`, is `MODE_CHANGE` and `WAKE`. -/
theorem evWake_tells {source : Nat} {m : Mode} (ha : s.mode.asleep = true) (hl : s.pw.left = m) (hm : m = .run ∨ m = .standalone)
    (hlatch : s.pw.wakeLatch = 0) (hsafe : s.safeCondition = false) (hc : s.pw.crank = false) (h9 : source ≤ 9) (h7 : source ≠ 7)
    (he : s.wakeEnabled source = true) (hw : s.wakesFrom source = true)
    (hlost : ∀ d, 1 ≤ d → d ≤ 3 → (s.die d).lostEvents = 0) (hlinks : s.LinksWhole) :
    Tells { s.rising source with mode := m } (s.evWake source 0)
      [noteOf s.led.tag true 3 blkPower .modeChange 0 (b8 s.mode.code ++ b8 m.code ++ b8 2),
       noteOf s.led.tag true 3 blkPower .wake 0 (b8 source ++ b8 s.mode.code)] := by
  have hne : (s.rising source).mode ≠ m := by
    intro h
    rw [show (s.rising source).mode = s.mode from rfl] at h
    rw [h] at ha
    rcases hm with rfl | rfl <;> exact absurd ha (by decide)
  have hwake : (s.rising source).wakeMode = m := by
    unfold State.wakeMode
    rw [safeCondition_rising, hsafe, show (s.rising source).pw.crank = false from hc,
      show (s.rising source).pw.left = m from hl]
    rfl
  have hstore : s.store.inMode m = s.store := by rcases hm with rfl | rfl <;> simp [Store.inMode, Mode.charges]
  have htells := (modeTo_tells hne 2).append true 3 blkPower .wake 0 (b8 source ++ b8 s.mode.code)
  rw [show (s.rising source).store = s.store from rfl, hstore] at htells
  have hrun : s.evWake source 0 =
      (((((s.rising source).modeTo m 2 true).powerEntry .wake (b8 source ++ b8 s.mode.code)).entered s.mode).trainLinks
        0).reportLost := by
    unfold State.evWake
    rw [if_neg (by simp [ha, he, hw])]
    dsimp only
    rw [hlatch, lowestSource_only h9, ← hwake]
    exact congrArg (fun u : State => ((u.entered s.mode).trainLinks 0).reportLost) (if_neg h7)
  have hwhole : (((s.rising source).modeTo m 2 true).powerEntry .wake (b8 source ++ b8 s.mode.code)).LinksWhole := by
    unfold State.LinksWhole State.powerEntry
    simp only [htells.nat, htells.link]
    exact hlinks
  rw [hrun, entered_awake (by rw [State.powerEntry, htells.mode]; exact hm) ha, trainLinks_whole hwhole,
    reportLost_none fun d h1 h3 => by
      rw [State.powerEntry, htells.die]
      exact (lostEvents_rising source d).trans (hlost d h1 h3)]
  exact htells

/-- Settles O29: what each event leaves, WAKE by its two entries. -/
theorem wakeFromSleep : Obligations.WakeFromSleep := by
  unfold Obligations.WakeFromSleep
  refine fun s => ⟨acts_of rfl rfl rfl, fun ha hd => acts_of rfl rfl ?_,
    fun ha hl hlatch hsafe hc source h1 h9 h7 he hw hlost hmin hlinks => acts_of ?_ rfl ?_⟩
  · unfold State.evAlarm
    rw [if_pos (by simp [ha, hd])]
    rfl
  · exact (by simp [Instr.wf, h1, h9])
  · have h := evWake_tells ha rfl hl hlatch hsafe hc h9 h7 he hw hlost ⟨hmin, hlinks⟩
    rw [rising_eq] at h
    exact h

end Sys2Proof.Machine
end

section
/-! PROOF. HOLD_ENTER, the gate hold's check, and the end of the retained write. -/

namespace Sys2Proof.Machine

variable {s u v X : State} {l : List Note}

/-! What BANKED drops (R62, R248). -/

/-- A device in mode up as HOLD_ENTER leaves it before its entries: pending work dropped and the upstream link gone. -/
def State.letGo (s : State) : State :=
  ({ s with trig := { s.trig with work := [], depth := 0 }, led := { s.led with fires := [] } } : State).bankedDrops.linkDrop

theorem letGo_eq (s : State) : ∃ ports, s.letGo =
    { ({ s with trig := { s.trig with work := [], depth := 0 }, led := { s.led with fires := [] } } : State).bankedDrops with
      hub := s.hub.disconnect, ports := ports } :=
  linkDrop_hub _

/-- The gate hold on, with the energy found and the plan chosen, in BANKED. -/
def State.gateHeld (s : State) (plan energy : Nat) : State :=
  { s with mode := .banked
           store := { s.store with gateHold := true, plan := plan, writing := 1, energy := energy, charging := false } }

/-- What HOLD_ENTER leaves of the device, entries and sheds apart. -/
def State.Holds (s : State) (plan energy : Nat) (u : State) : Prop :=
  u.mode = .banked ∧ u.store.plan = plan ∧ u.store.energy = energy ∧ u.store.writing = 1 ∧ u.store.gateHold = true ∧
    u.store.charging = false ∧ u.store.bleeding = s.store.bleeding ∧ u.ops = [] ∧ u.io.waiting = [] ∧ u.cfg.session = none ∧
    u.trig.work = [] ∧ u.spine.round = none ∧ u.flash = s.flash ∧ u.rails = s.rails

theorem holds_letGo (s : State) (plan energy : Nat) : s.Holds plan energy (s.letGo.gateHeld plan energy) := by
  obtain ⟨ports, h⟩ := letGo_eq s
  rw [h]
  simp [State.Holds, State.gateHeld, State.bankedDrops, Store.banked]

theorem State.Holds.of {plan energy : Nat} (h : s.Holds plan energy X) (hmode : u.mode = X.mode) (hstore : u.store = X.store)
    (hops : u.ops = X.ops) (hio : u.io = X.io) (hcfg : u.cfg = X.cfg) (htrig : u.trig = X.trig) (hspine : u.spine = X.spine)
    (hflash : u.flash = X.flash) (hrails : u.rails = X.rails) : s.Holds plan energy u := by
  unfold State.Holds at h ⊢
  rw [hmode, hstore, hops, hio, hcfg, htrig, hspine, hflash, hrails]
  exact h

/-- Entries change nothing of it. -/
theorem State.Holds.tells {plan energy : Nat} (h : s.Holds plan energy X) (ht : Tells X u l) : s.Holds plan energy u :=
  h.of ht.mode ht.store ht.ops ht.io ht.cfg ht.trig ht.spine ht.flash ht.rails

/-- Nor does the exit from a sleep state. -/
theorem State.Holds.domainsUp {plan energy : Nat} (h : s.Holds plan energy (v.gateHeld plan energy)) (first : Nat) :
    s.Holds plan energy ((v.domainsUp first).gateHeld plan energy) :=
  h.of rfl rfl rfl rfl rfl rfl rfl rfl rfl

@[simp] theorem gateHeld_led (plan energy : Nat) : (s.gateHeld plan energy).led = s.led := rfl
@[simp] theorem gateHeld_chans (plan energy : Nat) : (s.gateHeld plan energy).chans = s.chans := rfl
@[simp] theorem gateHeld_prm (plan energy : Nat) : (s.gateHeld plan energy).prm = s.prm := rfl
@[simp] theorem gateHeld_pw (plan energy : Nat) : (s.gateHeld plan energy).pw = s.pw := rfl
@[simp] theorem domainsUp_led (first : Nat) : (s.domainsUp first).led = s.led := rfl
@[simp] theorem domainsUp_chans (first : Nat) : (s.domainsUp first).chans = s.chans := rfl
@[simp] theorem domainsUp_vcoreSel (first : Nat) : (s.domainsUp first).pw.vcoreSel = s.pw.level := rfl

/-! The plan (R246). -/

theorem holdPlan_eq (s : State) (vstore : BitVec 16) :
    let e := if s.monitorUp = true then s.energyAt vstore.toNat else s.store.energy
    ∃ full, s.holdPlan vstore = (e, full) ∧ (if full = true then 0 else 1) = if 0 < s.cells ∧ s.nat .holdEMin 0 ≤ e then 0 else 1 := by
  intro e
  refine ⟨_, rfl, if_congr ?_ rfl rfl⟩
  show (decide (0 < s.cells) && decide (s.nat .holdEMin 0 ≤ e)) = true ↔ _
  simp

/-! The entries of HOLD_ENTER (R246, R247). -/

/-- The entries of HOLD_ENTER that finds the device awake, before the sheds: `v` has let go. -/
def State.entersHold (v : State) (plan energy : Nat) (vveh vstore : BitVec 16) : State :=
  ((v.onStore fun g => { g with gateHold := true, plan := plan, writing := 1, energy := energy }).modeTo .banked 1 true).storeEntry
    .holdEnter 0 (b8 plan ++ b16 vveh.toNat ++ b16 vstore.toNat)

/-- The same from a sleep state, which `WAKE` names. -/
def State.wakesToHold (v : State) (left : Mode) (plan energy first : Nat) (vveh vstore : BitVec 16) : State :=
  ((((v.domainsUp first).onStore fun g => { g with gateHold := true, plan := plan, writing := 1, energy := energy }).modeTo .banked
    2 true).append true 3 blkPower .wake 0 (b8 first ++ b8 left.code)).storeEntry
    .holdEnter 0 (b8 plan ++ b16 vveh.toNat ++ b16 vstore.toNat)

/-- The change to BANKED, of a state whose gate hold turns on. -/
theorem banked_tells (hm : v.mode ≠ .banked) (plan energy reason : Nat) :
    Tells (v.gateHeld plan energy)
      ((v.onStore fun g => { g with gateHold := true, plan := plan, writing := 1, energy := energy }).modeTo .banked reason true)
      [noteOf v.led.tag true 3 blkPower .modeChange 0 (b8 v.mode.code ++ b8 Mode.banked.code ++ b8 reason)] := by
  have hstore : ∀ g : Store, g.inMode .banked = { g with charging := false } := fun g => by simp [Store.inMode, Mode.charges]
  have h := modeTo_tells (s := v.onStore fun g => { g with gateHold := true, plan := plan, writing := 1, energy := energy }) hm reason
  rw [hstore] at h
  exact h

theorem letGo_mode (s : State) : s.letGo.mode = s.mode := by
  obtain ⟨ports, h⟩ := letGo_eq s
  rw [h]
  rfl

@[simp] theorem letGo_led (s : State) : s.letGo.led = { s.led with fires := [] } := by
  obtain ⟨ports, h⟩ := letGo_eq s
  rw [h]
  rfl

theorem letGo_tag (s : State) : s.letGo.led.tag = s.led.tag := by rw [letGo_led]

@[simp] theorem letGo_chans (s : State) : s.letGo.chans = s.chans := by
  obtain ⟨ports, h⟩ := letGo_eq s
  rw [h]
  rfl

@[simp] theorem letGo_prm (s : State) : s.letGo.prm = s.prm := by
  obtain ⟨ports, h⟩ := letGo_eq s
  rw [h]
  rfl

@[simp] theorem letGo_pw (s : State) : s.letGo.pw = { s.pw with crank := false, shedOrder := [], resetTag := none } := by
  obtain ⟨ports, h⟩ := letGo_eq s
  rw [h]
  rfl

theorem entersHold_tells (hm : v.mode ≠ .banked) (plan energy : Nat) (vveh vstore : BitVec 16) :
    Tells (v.gateHeld plan energy) (v.entersHold plan energy vveh vstore)
      [noteOf v.led.tag true 3 blkPower .modeChange 0 (b8 v.mode.code ++ b8 Mode.banked.code ++ b8 1),
       noteOf v.led.tag true 3 blkStore .holdEnter 0 (b8 plan ++ b16 vveh.toNat ++ b16 vstore.toNat)] :=
  (banked_tells hm plan energy 1).append true 3 blkStore .holdEnter 0 (b8 plan ++ b16 vveh.toNat ++ b16 vstore.toNat)

theorem wakesToHold_tells (hm : v.mode ≠ .banked) (left : Mode) (plan energy first : Nat) (vveh vstore : BitVec 16) :
    Tells ((v.domainsUp first).gateHeld plan energy) (v.wakesToHold left plan energy first vveh vstore)
      [noteOf v.led.tag true 3 blkPower .modeChange 0 (b8 v.mode.code ++ b8 Mode.banked.code ++ b8 2),
       noteOf v.led.tag true 3 blkPower .wake 0 (b8 first ++ b8 left.code),
       noteOf v.led.tag true 3 blkStore .holdEnter 0 (b8 plan ++ b16 vveh.toNat ++ b16 vstore.toNat)] :=
  ((banked_tells (v := v.domainsUp first) hm plan energy 2).append true 3 blkPower .wake 0 (b8 first ++ b8 left.code)).append true 3
    blkStore .holdEnter 0 (b8 plan ++ b16 vveh.toNat ++ b16 vstore.toNat)

/-- The channels shed in their order. -/
def State.shedsAll (s : State) : State := s.shedAll 1 s.shedOrder

theorem evHoldEnter_awake (hoff : s.mode ≠ .off) (hm : s.mode ≠ .banked) (ha : s.mode.asleep = false) {energy : Nat} {full : Bool}
    {vstore : BitVec 16} (hp : s.holdPlan vstore = (energy, full)) (vveh : BitVec 16) :
    s.evHoldEnter vveh vstore =
      (s.bankedDrops.linkDrop.entersHold (if full = true then 0 else 1) energy vveh vstore).shedsAll := by
  unfold State.evHoldEnter State.shedsAll State.entersHold
  rw [hp, if_neg (by simp [hoff, hm])]
  simp only [ha, Bool.false_eq_true, if_false]

theorem evHoldEnter_asleep (hoff : s.mode ≠ .off) (hm : s.mode ≠ .banked) (ha : s.mode.asleep = true) {energy : Nat} {full : Bool}
    {vstore : BitVec 16} (hp : s.holdPlan vstore = (energy, full)) (vveh : BitVec 16) :
    s.evHoldEnter vveh vstore =
      (s.bankedDrops.linkDrop.wakesToHold s.mode (if full = true then 0 else 1) energy
        (lowestSource (s.pw.wakeLatch ||| (1#10 <<< 6)) 6) vveh vstore).shedsAll := by
  unfold State.evHoldEnter State.shedsAll State.wakesToHold
  rw [hp, if_neg (by simp [hoff, hm])]
  simp only [ha, if_true]

/-- A device whose lists and firings are dropped. -/
def State.listless (s : State) : State := { s with trig := { s.trig with work := [], depth := 0 }, led := { s.led with fires := [] } }

theorem evLossOfVin_up (hp : s.phase = .up) (vveh vstore : BitVec 16) :
    s.evLossOfVin vveh vstore = s.listless.evHoldEnter vveh vstore :=
  if_pos hp

theorem listless_holdPlan (s : State) (vstore : BitVec 16) : s.listless.holdPlan vstore = s.holdPlan vstore := rfl

theorem listless_letGo (s : State) : s.listless.bankedDrops.linkDrop = s.letGo := rfl

/-! The shed order (R247). -/

theorem mem_insertBy {α : Type} {le : α → α → Bool} {x y : α} {l : List α} : y ∈ insertBy le x l ↔ y = x ∨ y ∈ l := by
  induction l with
  | nil => simp [insertBy]
  | cons a l ih =>
    unfold insertBy
    split
    · simp
    · simp [ih, or_left_comm]

theorem mem_sortBy {α : Type} {le : α → α → Bool} {y : α} {l : List α} : y ∈ sortBy le l ↔ y ∈ l := by
  induction l with
  | nil => exact Iff.rfl
  | cons a l ih => rw [sortBy, mem_insertBy, ih, List.mem_cons]

theorem isPort_of_mem_bankedPorts {c p : Nat} (h : p ∈ s.bankedPorts c) : isPort p = true :=
  (mem_allPorts p).mp (List.mem_of_mem_filter (mem_sortBy.mp h))

theorem shedOrder_none (h : ∀ ch, (s.chan ch).state.conducts = false) : s.shedOrder = [] :=
  List.filter_eq_nil_iff.mpr fun ch _ => by simp [h ch]

/-- An AUX channel that alone is on, and has one place in the order, is all there is to shed. -/
theorem shedOrder_aux {aux : Nat} (ha : isAux aux = true) (hc : s.auxOrder.count aux = 1) (ht : (s.chan aux).tripped = false)
    (h : ∀ ch, (s.chan ch).state.conducts = true ↔ ch = aux) : s.shedOrder = [aux] := by
  have hsheds : ∀ ch, ((s.chan ch).state.conducts && !(s.chan ch).tripped) = (ch == aux) := fun ch => by
    by_cases hch : ch = aux
    · rw [hch, (h aux).mpr rfl, ht, beq_self_eq_true]
      rfl
    · rw [Bool.eq_false_iff.mpr fun hon => hch ((h ch).mp hon), beq_false_of_ne hch]
      rfl
  have hports : ([3, 2, 1, 0].flatMap s.bankedPorts).filter (fun ch => ch == aux) = [] :=
    List.filter_eq_nil_iff.mpr fun ch hch heq => by
      obtain ⟨c, -, hmem⟩ := List.mem_flatMap.mp hch
      have hport := isPort_of_mem_bankedPorts hmem
      rw [eq_of_beq heq] at hport
      simp only [isPort, isAux, Bool.and_eq_true, decide_eq_true_eq] at hport ha
      omega
  unfold State.shedOrder
  rw [List.filter_congr fun ch _ => hsheds ch, List.filter_append, hports, List.filter_beq, hc]
  rfl

/-- One AUX channel shed as the first. -/
theorem shedOne_aux {aux : Nat} (ha : isAux aux = true) (hon : (s.chan aux).state.conducts = true) :
    Tells (s.onChan aux (Chan.wentOff false)) (s.shedOne 1 aux)
      [noteOf s.led.tag false 3 blkStore .holdShed aux (b8 1), noteOf s.led.tag false 3 blkChan .chanOff aux (b8 3)] := by
  have hport : isPort aux = false ∧ isIntegrated aux = false := by
    simp only [isAux, Bool.and_eq_true, decide_eq_true_eq] at ha
    simp only [isPort, isIntegrated, Bool.and_eq_false_iff, decide_eq_false_iff_not]
    omega
  obtain ⟨hport, hint⟩ := hport
  have hshed := append_tells s false 3 blkStore .holdShed aux (b8 1)
  set v := s.append false 3 blkStore .holdShed aux (b8 1) with hv
  have hdown := chanDown_tells (s := v) (p := aux) (by rw [hshed.chan]; simp [ChanState.active, hon]) 3 false
  rw [hint, hshed.tag] at hdown
  unfold State.shedOne State.when
  rw [hport, if_neg Bool.false_ne_true]
  dsimp only
  rw [if_neg Bool.false_ne_true, ← hv]
  exact (hshed.onChan aux _).trans hdown

/-! HOLD_ENTER with nothing to shed, and with one AUX channel. -/

section Entered
variable {plan energy : Nat} (ht : Tells X v l) (hx : s.Holds plan energy X) (hled : X.led = { s.led with fires := [] })
  (hchans : X.chans = s.chans)
include ht hx hled hchans

theorem shedsAll_none (hon : ∀ ch, (s.chan ch).state.conducts = false) :
    s.Holds plan energy v.shedsAll ∧ v.shedsAll.chans = s.chans ∧ v.shedsAll.pw = X.pw ∧ Logs s v.shedsAll l := by
  have hchan : ∀ ch, v.chan ch = s.chan ch := fun ch => by rw [ht.chan, State.chan, hchans]; rfl
  have hnone : v.shedsAll = v := by
    unfold State.shedsAll
    rw [shedOrder_none fun ch => by rw [hchan]; exact hon ch]
    rfl
  have hlogs := ht.1
  unfold Logs at hlogs ⊢
  rw [hled] at hlogs
  rw [hnone]
  exact ⟨hx.tells ht, ht.chans.trans hchans, ht.pw, hlogs⟩

theorem shedsAll_aux {aux : Nat} (hprm : X.prm = s.prm) (ha : isAux aux = true) (hc : s.auxOrder.count aux = 1)
    (htrip : (s.chan aux).tripped = false) (hon : ∀ ch, (s.chan ch).state.conducts = true ↔ ch = aux) :
    s.Holds plan energy v.shedsAll ∧ v.shedsAll.chan aux = (s.chan aux).wentOff false ∧
      Logs s v.shedsAll (l ++ [noteOf s.led.tag false 3 blkStore .holdShed aux (b8 1),
        noteOf s.led.tag false 3 blkChan .chanOff aux (b8 3)]) := by
  have hchan : ∀ ch, v.chan ch = s.chan ch := fun ch => by rw [ht.chan, State.chan, hchans]; rfl
  have horder : v.auxOrder = s.auxOrder := by
    unfold State.auxOrder State.nat State.value
    rw [ht.prm, hprm]
  have hone : v.shedsAll = v.shedOne 1 aux := by
    unfold State.shedsAll
    rw [shedOrder_aux ha (by rw [horder]; exact hc) (by rw [hchan]; exact htrip) fun ch => by rw [hchan]; exact hon ch]
    rfl
  have htag : v.led.tag = s.led.tag := by rw [ht.tag, hled]
  have hshed := shedOne_aux (s := v) ha (by rw [hchan]; exact (hon aux).mpr rfl)
  rw [htag] at hshed
  have hlogs := ((ht.onChan aux (Chan.wentOff false)).trans hshed).1
  have hholds := hx.of (u := X.onChan aux (Chan.wentOff false)) (by simp) (by simp) (by simp) (by simp) (by simp) (by simp) (by simp)
    (by simp) (by simp)
  have hself : (v.onChan aux (Chan.wentOff false)).chan aux = (s.chan aux).wentOff false := by
    rw [onChan_chan_self _ _ _ (isChan_of_isAux ha), hchan]
  unfold Logs at hlogs ⊢
  rw [State.onChan_led, hled] at hlogs
  rw [hone]
  exact ⟨hholds.tells ((ht.onChan aux (Chan.wentOff false)).trans hshed), (hshed.chan aux).trans hself, hlogs⟩

end Entered

/-- HOLD_ENTER before `BOOT` (log 35). -/
theorem evLossOfVin_early (hp : s.phase = .verifying ∨ s.phase = .training) (vveh vstore : BitVec 16) :
    let u := s.evLossOfVin vveh vstore
    u.phase = .heldUp ∧ u.mode = .banked ∧ u.store.gateHold = true ∧ u.store.writing = 1 ∧ u.led = s.led := by
  have hearly : s.evLossOfVin vveh vstore = s.bankedEarly vstore := by
    unfold State.evLossOfVin
    rcases hp with hp | hp <;> rw [hp] <;> rfl
  intro u
  obtain ⟨ports, hdrop⟩ := linkDrop_hub s.bankedDrops
  unfold u
  rw [hearly]
  unfold State.bankedEarly
  rw [hdrop]
  exact ⟨rfl, rfl, rfl, rfl, rfl⟩

theorem evGateHold_moved (hp : s.phase = .up) (hm : s.mode = .banked) (hg : s.store.gateHold = true) (hc : 0 < s.cells)
    (hf : s.faultOpen 0x0433 0 = false) {node vstore : BitVec 16}
    (h : node.toNat + 500 < vstore.toNat ∨ vstore.toNat + 500 < node.toNat) :
    Tells (s.faulted 0x0433 0 (byteOf (b16 node.toNat) 0)) (s.evGateHold node vstore)
      [noteOf s.led.tag true 3 blkStore .fault 0 (b16 0x0433 ++ b8 1 ++ (b16 node.toNat ++ b16 vstore.toNat))] := by
  unfold State.evGateHold
  dsimp only
  rw [if_pos (by simp [hp, hm, hg, hc, h])]
  exact latch_tells s true 3 blkStore 0x0433 0 (b16 node.toNat ++ b16 vstore.toNat) hf

theorem evGateHold_still {node vstore : BitVec 16} (h1 : node.toNat ≤ vstore.toNat + 500) (h2 : vstore.toNat ≤ node.toNat + 500) :
    s.evGateHold node vstore = s := by
  unfold State.evGateHold
  dsimp only
  rw [if_neg (by simp [h1, h2])]

theorem enterOff_ember_retained (s : State) : s.enterOff.ember.retained = s.ember.retained := rfl

theorem enterOff_flash (s : State) : s.enterOff.flash = s.flash := rfl

/-- The retained write ends the restricted plan; the tail page follows else (R46, R248). -/
theorem evRetainedDone_ends (hw : s.store.writing = 1) (hm : s.mode = .banked) (hp : s.store.plan = 1) :
    s.evRetainedDone = (s.writeRetained 2).enterOff := by
  unfold State.evRetainedDone State.shutdownReason
  rw [if_pos hw, if_pos hm, hp]
  exact if_pos ⟨hm, hp⟩

theorem evRetainedDone_goes (hw : s.store.writing = 1) (h : ¬(s.mode = .banked ∧ s.store.plan = 1)) :
    s.evRetainedDone = (s.writeRetained s.shutdownReason).onStore fun g => { g with writing := 2 } := by
  unfold State.evRetainedDone
  rw [if_pos hw]
  exact if_neg h

/-- Settles O20: the entries and drops of HOLD_ENTER in each case, the check of the gate hold, and the end of the write. -/
theorem holdUp : Obligations.HoldUp := by
  unfold Obligations.HoldUp
  refine fun s => ⟨fun vveh vstore hp hoff hm => ?enters, fun vveh vstore hp => acts_of rfl rfl (evLossOfVin_early hp vveh vstore),
    fun hp hm hg hc hf node vstore => ⟨fun h => acts_of rfl rfl (evGateHold_moved hp hm hg hc hf h),
      fun h1 h2 => acts_of rfl rfl (evGateHold_still h1 h2)⟩, fun hw => ⟨fun hm => ?shutdown, fun hm hp => ?full, fun hm hp => ?restricted⟩⟩
  case enters =>
    obtain ⟨full, hholds, hplan⟩ := holdPlan_eq s vstore
    intro e plan note held entered mode
    have hdrops : s.listless.holdPlan vstore = (e, full) := (listless_holdPlan s vstore).trans hholds
    have hx := holds_letGo s plan e
    have hletmode : s.letGo.mode ≠ .banked := by rw [letGo_mode]; exact hm
    refine ⟨fun hon => ⟨fun ha => acts_of rfl rfl ?_, fun ha => acts_of rfl rfl ?_⟩,
      fun aux haux hcount ha htrip hon => acts_of rfl rfl ?_⟩
    · have ht := entersHold_tells hletmode plan e vveh vstore
      obtain ⟨hheld, hchans, -, hlogs⟩ := shedsAll_none ht hx (by simp) (by simp) hon
      rw [letGo_mode, letGo_tag] at hlogs
      rw [evLossOfVin_up hp, evHoldEnter_awake (s := s.listless) hoff hm ha hdrops, listless_letGo, hplan]
      exact ⟨hheld, hchans, hlogs⟩
    · have ht := wakesToHold_tells hletmode s.mode plan e (lowestSource (s.pw.wakeLatch ||| (1#10 <<< 6)) 6) vveh vstore
      obtain ⟨hheld, hchans, hpw, hlogs⟩ := shedsAll_none ht (hx.domainsUp _) (by simp) (by simp) hon
      rw [letGo_mode, letGo_tag] at hlogs
      rw [evLossOfVin_up hp, evHoldEnter_asleep (s := s.listless) hoff hm ha hdrops, listless_letGo, hplan]
      exact ⟨hheld, hchans, (congrArg Power.vcoreSel hpw).trans (by simp), hlogs⟩
    · have ht := entersHold_tells hletmode plan e vveh vstore
      obtain ⟨hheld, hchan, hlogs⟩ := shedsAll_aux ht hx (by simp) (by simp) (by simp) haux hcount htrip hon
      rw [letGo_mode, letGo_tag] at hlogs
      rw [evLossOfVin_up hp, evHoldEnter_awake (s := s.listless) hoff hm ha hdrops, listless_letGo, hplan]
      exact ⟨hheld, hchan, hlogs⟩
  case shutdown =>
    refine acts_of rfl rfl ?_
    rw [evRetainedDone_goes hw fun h => hm h.1, State.shutdownReason, if_neg hm]
  case full =>
    refine acts_of rfl rfl ?_
    rw [evRetainedDone_goes hw fun h => by omega, State.shutdownReason, if_pos hm, if_pos hp]
  case restricted =>
    refine acts_of rfl rfl ?_
    rw [evRetainedDone_ends hw hm hp]
    exact ⟨rfl, rfl, enterOff_ember_retained _, enterOff_flash _, rfl⟩

end Sys2Proof.Machine
end

section
/-! PROOF. The upstream port and its link (R164 to R167), the hub's suspend (R181), and the requests to the hubs (R162, R163). -/

namespace Sys2Proof.Machine

variable {s u v X : State} {l : List Note}

/-! VBUS upstream (R164). -/

/-- RUN and STANDALONE bring each other nothing. -/
theorem entered_usb {old : Mode} (hm : s.mode = .run ∨ s.mode = .standalone) (ho : old = .run ∨ old = .standalone) :
    s.entered old = s := by
  have hold : (old == .crank) = false ∧ (old == .boot || old == .safe) = false := by
    rcases ho with rfl | rfl <;> exact ⟨rfl, rfl⟩
  have hmode : (s.mode == .safe) = false ∧ (s.mode == .crank) = false := by
    rcases hm with h | h <;> rw [h] <;> exact ⟨rfl, rfl⟩
  unfold State.entered
  simp only [State.when, hold, hmode, Bool.false_and, Bool.false_eq_true, if_false]

/-- RUN and STANDALONE hand over to each other with `MODE_CHANGE` alone (R25). -/
theorem reselect_usb {m : Mode} (hold : s.mode = .run ∨ s.mode = .standalone) (hm : m = .run ∨ m = .standalone)
    (hc : s.chosenMode = m) (hne : s.mode ≠ m) (reason : Nat) :
    Tells { s with mode := m } (s.reselect reason true)
      [noteOf s.led.tag true 3 blkPower .modeChange 0 (b8 s.mode.code ++ b8 m.code ++ b8 reason)] := by
  have hover : s.mode.handsOver = true := by rcases hold with h | h <;> rw [h] <;> rfl
  have hto := modeTo_tells hne reason
  have hstore : s.store.inMode m = s.store := by rcases hm with rfl | rfl <;> simp [Store.inMode, Mode.charges]
  have henters : (s.modeTo m reason true).entered s.mode = s.modeTo m reason true :=
    entered_usb (by rw [hto.mode]; exact hm) hold
  rw [hstore] at hto
  rw [reselect_handsOver hover (by rw [hc]; exact hne.symm), hc, henters]
  exact hto

theorem chosenMode_usb (hsafe : s.safeCondition = false) (hc : s.pw.crank = false) (hs : s.pw.service = false) :
    s.chosenMode = if s.hub.upVbus = true then .run else .standalone := by
  rw [chosenMode_operates hsafe hc, if_neg (by rw [hs]; exact Bool.false_ne_true)]

theorem plugPin_range (s : State) : s.plugPin = 1 ∨ s.plugPin = 2 := by
  unfold State.plugPin
  omega

theorem evVbusArrival_runs (hm : s.mode = .standalone) (hv : s.hub.upVbus = false) (hsafe : s.safeCondition = false)
    (hc : s.pw.crank = false) (hs : s.pw.service = false) :
    Tells { s with mode := .run, free := s.free + 1, hub := { s.hub with upVbus := true, upPin := s.plugPin } } s.evVbusArrival
      [noteOf s.led.tag true 3 blkPower .modeChange 0 (b8 Mode.standalone.code ++ b8 Mode.run.code ++ b8 1)] := by
  have hchosen : s.vbusUp.chosenMode = .run := chosenMode_usb (s := s.vbusUp) hsafe hc hs
  have hmode : s.vbusUp.mode = .standalone := hm
  have h := reselect_usb (s := s.vbusUp) (.inr hmode) (.inl rfl) hchosen (by rw [hmode]; decide) 1
  rw [hmode] at h
  unfold State.evVbusArrival
  rw [if_neg (by rw [hv]; decide)]
  exact h

/-- The link that is gone leaves RUN for STANDALONE. -/
theorem vbusGone_standalone (hm : v.mode = .run) (hsafe : v.safeCondition = false) (hc : v.pw.crank = false)
    (hs : v.pw.service = false) :
    Tells { v with mode := .standalone, hub := { v.hub with upVbus := false, upPin := 0 } }
      ((v.onHub fun h => { h with upVbus := false, upPin := 0 }).reselect 1 true)
      [noteOf v.led.tag true 3 blkPower .modeChange 0 (b8 Mode.run.code ++ b8 Mode.standalone.code ++ b8 1)] := by
  have hmode : (v.onHub fun h => { h with upVbus := false, upPin := 0 }).mode = .run := hm
  have h := reselect_usb (s := v.onHub fun h => { h with upVbus := false, upPin := 0 }) (.inl hmode) (.inr rfl)
    (chosenMode_usb (s := v.onHub fun h => { h with upVbus := false, upPin := 0 }) hsafe hc hs) (by rw [hmode]; decide) 1
  rw [hmode] at h
  exact h

/-- What changes of the buses of ports leave of one. -/
theorem each_onBus_port {ps : List Nat} (hn : ps.Nodup) (hp : ∀ p ∈ ps, isPort p = true) (f : Bus → Bus) (q : Nat) (s : State) :
    (s.each ps fun p s => s.onBus p f).port q = if q ∈ ps then { s.port q with bus := f (s.port q).bus } else s.port q := by
  induction ps generalizing s with
  | nil => rfl
  | cons p ps ih =>
    rw [List.nodup_cons] at hn
    have hrest := ih hn.2 (fun x hx => hp x (List.mem_cons_of_mem _ hx)) (s.onBus p f)
    have hfirst : (s.onBus p f).port q = if q = p then { s.port q with bus := f (s.port q).bus } else s.port q := by
      rw [State.onBus_eq, State.onPort_port]
      simp [hp p (by simp)]
    rw [State.each, List.foldl_cons]
    refine hrest.trans ?_
    rw [hfirst]
    by_cases hq : q = p
    · rw [hq, if_neg hn.1, if_pos rfl, if_pos (by simp)]
    · simp [hq]

theorem linkDrop_port {p : Nat} (hp : isPort p = true) (s : State) :
    s.linkDrop.port p = { s.port p with bus := (s.port p).bus.dropped } := by
  have h := each_onBus_port (by decide) (fun q hq => (mem_allPorts q).mp hq) Bus.dropped p (s.onHub Hub.disconnect)
  rw [if_pos ((mem_allPorts p).mpr hp)] at h
  exact h

theorem linkDown_tells (hl : s.hub.link ≠ 0) :
    Tells s.linkDrop s.linkDown [noteOf s.led.tag true 0 blkUp .upLink 0 (b8 0 ++ b8 0)] := by
  have htag : s.linkDrop.led.tag = s.led.tag := by
    obtain ⟨ports, h⟩ := linkDrop_hub s
    rw [h]
  unfold State.linkDown State.linked
  rw [if_pos (by simp [hl]), ← htag]
  exact append_tells s.linkDrop ..

theorem evVbusLoss_linked (hm : s.mode = .run) (hv : s.hub.upVbus = true) (hl : s.hub.link ≠ 0) (hsafe : s.safeCondition = false)
    (hc : s.pw.crank = false) (hs : s.pw.service = false) :
    ∃ t, Tells t s.evVbusLoss
        [noteOf s.led.tag true 0 blkUp .upLink 0 (b8 0 ++ b8 0),
         noteOf s.led.tag true 3 blkPower .modeChange 0 (b8 Mode.run.code ++ b8 Mode.standalone.code ++ b8 1)] ∧
      t.mode = .standalone ∧ t.hub.link = 0 ∧ t.hub.upVbus = false ∧ t.hub.configuredM = false ∧ t.chans = s.chans ∧
      ∀ p, isPort p = true → t.port p = { s.port p with bus := (s.port p).bus.dropped } := by
  have hdown := linkDown_tells hl
  obtain ⟨ports, hdrop⟩ := linkDrop_hub s
  have hport := fun p (hp : isPort p = true) => linkDrop_port hp s
  rw [hdrop] at hdown hport
  set w : State := { s with hub := s.hub.disconnect, ports := ports } with hw
  have hsafe' : s.linkDown.safeCondition = false := by
    unfold State.safeCondition at hsafe ⊢
    rw [hdown.die, hdown.link, hdown.spine]
    exact hsafe
  have hgone := vbusGone_standalone (v := s.linkDown) (hdown.mode.trans hm) hsafe' (by rw [hdown.pw]; exact hc) (by rw [hdown.pw]; exact hs)
  rw [hdown.tag] at hgone
  have hbefore : Tells { w with mode := .standalone, hub := { w.hub with upVbus := false, upPin := 0 } }
      { s.linkDown with mode := .standalone, hub := { s.linkDown.hub with upVbus := false, upPin := 0 } }
      [noteOf s.led.tag true 0 blkUp .upLink 0 (b8 0 ++ b8 0)] := by
    refine ⟨hdown.1, ?_⟩
    rw [hdown.2]
    rfl
  have hloss : s.evVbusLoss = (s.linkDown.onHub fun h => { h with upVbus := false, upPin := 0 }).reselect 1 true := if_pos hv
  rw [hloss]
  exact ⟨_, hbefore.trans hgone, rfl, rfl, rfl, rfl, rfl, hport⟩

/-! The upstream link (R165, R166). -/

theorem upLinkUp_eq {state speed lanes : Nat} {warm : Bool} (code : Nat) (trained : Bool)
    (hs : max 2 (min speed (upSpeedMax (s.nat .hubUpMaxSpeed 0))) = code) (hw : s.when warm (fun s => s.onHub fun h =>
      { h with x1 := false, retries := 0 }) = v) (ht : v.upTrained state code warm = trained) :
    s.upLinkUp state speed lanes warm =
      let x := ((v.onHub fun h => { h with link := state, speed := code, lanes := v.upLanes code lanes trained, fullSpeed := speed == 1
        }).upLinkEntry s.hub.link s.hub.speed).upLanesEntry trained
      if state = 4 then x.suspendHub else if state = 1 then x.resumeHub else x := by
  unfold State.upLinkUp
  dsimp only
  rw [hs, hw, ht]

theorem evUpLink_up {state : Nat} (h0 : state ≠ 0) (h5 : state ≤ 5) (hv : s.hub.upVbus = true) (hm : s.mode.presents = true)
    (speed lanes : Nat) (warm : Bool) : s.evUpLink state speed lanes warm = s.upLinkUp state speed lanes warm := by
  unfold State.evUpLink
  rw [if_neg h0, if_neg (by simp [hv, hm, h5])]

theorem upLinkEntry_tells {old oldSpeed : Nat} (h : s.hub.link ≠ old ∨ s.hub.speed ≠ oldSpeed)
    (hl : s.linkLogged old s.hub.link = true) :
    Tells s (s.upLinkEntry old oldSpeed) [noteOf s.led.tag true 0 blkUp .upLink 0 (b8 s.hub.link ++ b8 s.hub.speed)] := by
  unfold State.upLinkEntry
  dsimp only
  rw [if_pos (by simpa [hl] using h)]
  exact append_tells ..

theorem upLinkEntry_none {old oldSpeed : Nat} (h : s.hub.link = old ∧ s.hub.speed = oldSpeed ∨ s.linkLogged old s.hub.link = false) :
    s.upLinkEntry old oldSpeed = s := by
  unfold State.upLinkEntry
  refine if_neg ?_
  rcases h with ⟨h1, h2⟩ | h
  · simp [h1, h2]
  · simp [h]

/-- A count of lanes that is not the last one after training is `UP_LANES`. -/
theorem Tells.upLanesEntry (h : Tells X u l) (hne : X.hub.lastLanes ≠ some X.hub.lanes) :
    Tells (X.onHub fun h => { h with lastLanes := some h.lanes }) (u.upLanesEntry true)
      (l ++ [noteOf X.led.tag true 0 blkUp .upLanes 0 (b8 X.hub.lanes ++ b8 X.hub.retries)]) := by
  have hentry := (h.onHub fun h => { h with lastLanes := some h.lanes }).append true 0 blkUp .upLanes 0
    (b8 X.hub.lanes ++ b8 X.hub.retries)
  unfold State.upLanesEntry
  rw [h.hub, if_pos (by simpa using hne)]
  exact hentry

theorem resumeHub_awake (h : s.hub.suspended = false) : s.resumeHub = s := if_neg (by rw [h]; exact Bool.false_ne_true)

theorem min_upSpeedMax (m : Nat) : 2 ≤ upSpeedMax m := by
  unfold upSpeedMax
  split
  · omega
  · split <;> omega

/-- A USB 2.0 connection (R165; log 85). -/
theorem evUpLink_usb2 (hv : s.hub.upVbus = true) (hm : s.mode.presents = true) (hl : s.hub.link = 0) (hs : s.hub.suspended = false)
    {speed : Nat} (hspeed : speed = 1 ∨ speed = 2) (lanes : Nat) :
    Tells (s.onHub fun h => { h with link := 1, speed := 2, lanes := 0, fullSpeed := speed == 1 }) (s.evUpLink 1 speed lanes false)
      [noteOf s.led.tag true 0 blkUp .upLink 0 (b8 1 ++ b8 2)] := by
  have hcode : max 2 (min speed (upSpeedMax (s.nat .hubUpMaxSpeed 0))) = 2 := by omega
  have hentry := upLinkEntry_tells (s := s.onHub fun h => { h with link := 1, speed := 2, lanes := 0, fullSpeed := speed == 1 })
    (old := 0) (oldSpeed := s.hub.speed) (.inl Nat.one_ne_zero) (by simp [State.linkLogged])
  rw [evUpLink_up (by decide) (by decide) hv hm, upLinkUp_eq (v := s) 2 false hcode rfl rfl, hl]
  dsimp only
  rw [if_neg (by decide), if_pos rfl]
  exact (resumeHub_awake (by rw [hentry.hub]; exact hs)).symm ▸ hentry

/-- The lanes that a trained SuperSpeed link uses (R165). -/
theorem upLanes_trained {speed : Nat} (h3 : 3 ≤ speed) (hx : s.hub.x1 = false) (lanes : Nat) :
    s.upLanes speed lanes true = max 1 (min lanes (upLanesMax (s.nat .hubUpMaxSpeed 0))) := by
  unfold State.upLanes
  rw [if_neg (by omega), if_neg (by rw [hx]; decide), if_pos rfl]

/-- A SuperSpeed connection. -/
theorem evUpLink_super (hv : s.hub.upVbus = true) (hm : s.mode.presents = true) (hl : s.hub.link = 0) (hs : s.hub.suspended = false)
    {speed : Nat} (h3 : 3 ≤ speed) (hmax : speed ≤ upSpeedMax (s.nat .hubUpMaxSpeed 0)) (hx : s.hub.x1 = false) {lanes used : Nat}
    (hu : max 1 (min lanes (upLanesMax (s.nat .hubUpMaxSpeed 0))) = used) (hlast : s.hub.lastLanes ≠ some used) :
    Tells (s.onHub fun h => { h with link := 1, speed := speed, lanes := used, lastLanes := some used, fullSpeed := false })
      (s.evUpLink 1 speed lanes false)
      [noteOf s.led.tag true 0 blkUp .upLink 0 (b8 1 ++ b8 speed), noteOf s.led.tag true 0 blkUp .upLanes 0 (b8 used ++ b8 s.hub.retries)] := by
  have hcode : max 2 (min speed (upSpeedMax (s.nat .hubUpMaxSpeed 0))) = speed := by omega
  have htrained : s.upTrained 1 speed false = true := by simp [State.upTrained, h3, hl]
  have hfull : (speed == 1) = false := beq_false_of_ne (by omega)
  have hentry := (upLinkEntry_tells (s := s.onHub fun h => { h with link := 1, speed := speed, lanes := used, fullSpeed := false })
    (old := 0) (oldSpeed := s.hub.speed) (.inl Nat.one_ne_zero) (by simp [State.linkLogged])).upLanesEntry hlast
  rw [evUpLink_up (by decide) (by decide) hv hm, upLinkUp_eq (v := s) speed true hcode rfl htrained, hl]
  dsimp only
  rw [if_neg (by decide), if_pos rfl, upLanes_trained h3 hx, hu, hfull]
  exact (resumeHub_awake (by rw [hentry.hub]; exact hs)).symm ▸ hentry

/-- A warm reset trains a SuperSpeed link at its full width again (R166). -/
theorem evUpLink_warm (hv : s.hub.upVbus = true) (hm : s.mode.presents = true) (hl : s.hub.link = 1) (hs : s.hub.suspended = false)
    (h3 : 3 ≤ s.hub.speed) (hmax : s.hub.speed ≤ upSpeedMax (s.nat .hubUpMaxSpeed 0)) {lanes used : Nat}
    (hu : max 1 (min lanes (upLanesMax (s.nat .hubUpMaxSpeed 0))) = used) (hlast : s.hub.lastLanes ≠ some used) :
    Tells (s.onHub fun h => { h with x1 := false, retries := 0, lanes := used, lastLanes := some used, fullSpeed := false })
      (s.evUpLink 1 s.hub.speed lanes true)
      [noteOf s.led.tag true 0 blkUp .upLanes 0 (b8 used ++ b8 0)] := by
  have hcode : max 2 (min s.hub.speed (upSpeedMax (s.nat .hubUpMaxSpeed 0))) = s.hub.speed := by omega
  set v := s.onHub fun h => { h with x1 := false, retries := 0 } with hvdef
  have htrained : v.upTrained 1 s.hub.speed true = true := by simp [State.upTrained, h3]
  have hfull : (s.hub.speed == 1) = false := beq_false_of_ne (by omega)
  have hlanes : v.upLanes s.hub.speed lanes true = used := (upLanes_trained h3 rfl lanes).trans hu
  set x := v.onHub fun h => { h with link := 1, speed := s.hub.speed, lanes := used, fullSpeed := false } with hxdef
  have hnone : x.upLinkEntry s.hub.link s.hub.speed = x := upLinkEntry_none (.inl ⟨hl.symm, rfl⟩)
  have hentry : Tells (x.onHub fun h => { h with lastLanes := some h.lanes }) (x.upLanesEntry true)
      [noteOf s.led.tag true 0 blkUp .upLanes 0 (b8 used ++ b8 0)] := by
    have h := append_tells (x.onHub fun h => { h with lastLanes := some h.lanes }) true 0 blkUp .upLanes 0 (b8 used ++ b8 0)
    have hne : x.hub.lastLanes ≠ some x.hub.lanes := hlast
    unfold State.upLanesEntry
    rw [if_pos (by simpa using hne)]
    exact h
  have hx : (x.onHub fun h => { h with lastLanes := some h.lanes })
      = s.onHub fun h => { h with x1 := false, retries := 0, lanes := used, lastLanes := some used, fullSpeed := false } := by
    rw [hxdef, hvdef, ← hl]
    rfl
  rw [evUpLink_up (by decide) (by decide) hv hm, upLinkUp_eq (v := v) s.hub.speed true hcode rfl htrained, hlanes, hfull]
  dsimp only
  rw [if_neg (by decide), if_pos rfl, hnone, ← hx]
  exact (resumeHub_awake (by rw [hentry.hub]; exact hs)).symm ▸ hentry

/-- A power-management state that is not asked for is not recorded (R165). -/
theorem evUpLink_quiet (hv : s.hub.upVbus = true) (hm : s.mode.presents = true) (hlog : s.value .hubLinkPmLog 0 ≠ 1)
    (hspeed : s.hub.speed = 2) :
    s.evUpLink 2 2 0 false = s.onHub fun h => { h with link := 2, lanes := 0, fullSpeed := false } := by
  have hcode : max 2 (min 2 (upSpeedMax (s.nat .hubUpMaxSpeed 0))) = 2 := by omega
  have hoff : (s.value .hubLinkPmLog 0 == 1) = false := beq_false_of_ne hlog
  have hnone := upLinkEntry_none (s := s.onHub fun h => { h with link := 2, speed := 2, lanes := 0, fullSpeed := false })
    (old := s.hub.link) (oldSpeed := s.hub.speed) (.inr hoff)
  rw [evUpLink_up (by decide) (by decide) hv hm, upLinkUp_eq (v := s) 2 false hcode rfl rfl]
  dsimp only
  rw [if_neg (by decide), if_neg (by decide)]
  refine (congrArg (fun x : State => x.upLanesEntry false) hnone).trans ?_
  show _ = s.onHub fun h => { h with link := 2, lanes := 0, fullSpeed := false }
  rw [show (s.onHub fun h => { h with link := 2, lanes := 0, fullSpeed := false })
    = s.onHub fun h => { h with link := 2, speed := 2, lanes := 0, fullSpeed := false } by unfold State.onHub; rw [← hspeed]]
  rfl

/-! The hub's suspend (R181). -/

theorem suspendHub_none (hs : s.hub.suspended = false) (h : ∀ p, isPort p = true → (s.port p).bus.enabled = false) :
    s.suspendHub = s.onHub fun h => { h with suspended := true } := by
  unfold State.suspendHub
  rw [if_neg (by rw [hs]; decide)]
  refine State.each_id _ _ _ fun p hp => if_neg ?_
  rw [State.onHub_port, h p ((mem_allPorts p).mp hp)]
  simp

/-- An action that one member of a list without repetitions alone has an effect for is that member's. -/
theorem each_single {f : Nat → State → State} {ps : List Nat} {p : Nat} (hn : ps.Nodup) (hp : p ∈ ps) (s : State)
    (h : ∀ q ∈ ps, q ≠ p → f q s = s ∧ f q (f p s) = f p s) : s.each ps f = f p s := by
  induction ps with
  | nil => cases hp
  | cons a ps ih =>
    obtain ⟨ha, hnodup⟩ := List.nodup_cons.mp hn
    rw [State.each, List.foldl_cons]
    by_cases hap : a = p
    · subst hap
      exact State.each_id _ ps f fun q hq => (h q (List.mem_cons_of_mem _ hq) fun hqa => ha (hqa ▸ hq)).2
    · rw [(h a (by simp) hap).1]
      exact ih hnodup ((List.mem_cons.mp hp).resolve_left fun he => hap he.symm) fun q hq => h q (List.mem_cons_of_mem _ hq)

theorem suspendHub_one {p : Nat} (hs : s.hub.suspended = false) (hp : isPort p = true) (he : (s.port p).bus.enabled = true)
    (hsus : (s.port p).bus.suspended = false) (h : ∀ q, isPort q = true → q ≠ p → (s.port q).bus.enabled = false) :
    Tells ((s.onHub fun h => { h with suspended := true }).onBus p fun b =>
        { b with suspended := true, busSuspended := true, l1 := false, currentRecorded := false, wakeRecorded := false })
      s.suspendHub [noteOf s.led.tag true 0 blkUsb2 .portSuspend p (b8 3)] := by
  set v := s.onHub fun h => { h with suspended := true } with hv
  have hsuspend := suspendPort_tells v p 3 true
  have hport : ∀ q, q ≠ p → (v.suspendPort p 3 true).port q = s.port q := fun q hq => by
    rw [hsuspend.port, State.onBus_eq, State.onPort_port, if_neg fun hc => hq hc.1]
    rfl
  have heach : s.suspendHub = v.suspendPort p 3 true := by
    unfold State.suspendHub
    rw [if_neg (by rw [hs]; decide)]
    have hself : (if ((v.port p).bus.enabled && !(v.port p).bus.suspended) = true then v.suspendPort p 3 true else v)
        = v.suspendPort p 3 true := if_pos (by rw [hv, State.onHub_port, he, hsus]; rfl)
    refine (each_single (p := p) (by decide) ((mem_allPorts p).mpr hp) v fun q hq hqp => ?_).trans hself
    have hoff := h q ((mem_allPorts q).mp hq) hqp
    rw [hself]
    refine ⟨if_neg ?_, if_neg ?_⟩
    · rw [hv, State.onHub_port, hoff]
      simp
    · rw [hport q hqp, hoff]
      simp
  rw [heach]
  exact hsuspend

/-- U3 with no port enabled suspends the hub alone. -/
theorem evUpLink_u3 (hv : s.hub.upVbus = true) (hm : s.mode.presents = true) (hl : s.hub.link = 1) (hspeed : s.hub.speed = 2)
    (hs : s.hub.suspended = false) (hp : ∀ p, isPort p = true → (s.port p).bus.enabled = false) :
    Tells (s.onHub fun h => { h with link := 4, lanes := 0, fullSpeed := false, suspended := true }) (s.evUpLink 4 2 0 false)
      [noteOf s.led.tag true 0 blkUp .upLink 0 (b8 4 ++ b8 2)] := by
  have hcode : max 2 (min 2 (upSpeedMax (s.nat .hubUpMaxSpeed 0))) = 2 := by omega
  have hfour : (4 : Nat) ≠ s.hub.link := by omega
  have hentry := upLinkEntry_tells (s := s.onHub fun h => { h with link := 4, speed := 2, lanes := 0, fullSpeed := false })
    (old := s.hub.link) (oldSpeed := s.hub.speed) (.inl hfour) (by simp [State.linkLogged])
  have hsuspends := suspendHub_none (s := (s.onHub fun h => { h with link := 4, speed := 2, lanes := 0, fullSpeed := false }).upLinkEntry
    s.hub.link s.hub.speed) (by rw [hentry.hub]; exact hs) (fun p h => by rw [hentry.port]; exact hp p h)
  have hx : s.onHub (fun h => { h with link := 4, lanes := 0, fullSpeed := false, suspended := true })
      = (s.onHub fun h => { h with link := 4, speed := 2, lanes := 0, fullSpeed := false }).onHub fun h => { h with suspended := true } := by
    unfold State.onHub
    rw [← hspeed]
  rw [evUpLink_up (by decide) (by decide) hv hm, upLinkUp_eq (v := s) 2 false hcode rfl rfl, hx]
  dsimp only
  rw [if_pos rfl]
  exact hsuspends ▸ hentry.onHub fun h => { h with suspended := true }

/-! Lane recoveries (R166) and L1 (R167). -/

theorem evLaneRecovery_tries (h3 : 3 ≤ s.hub.speed) (h4 : s.hub.link ≠ 4) (h2 : s.hub.lanes = 2)
    (hr : s.hub.retries + 1 < s.nat .hubUpLaneRetries 0) (lane : Nat) :
    s.evLaneRecovery lane = s.onHub fun h => { h with retries := h.retries + 1 } := by
  unfold State.evLaneRecovery
  rw [if_neg (by simp [h4, h2, h3])]
  exact if_pos hr

theorem evLaneRecovery_ends (h3 : 3 ≤ s.hub.speed) (h4 : s.hub.link ≠ 4) (h2 : s.hub.lanes = 2)
    (hr : s.nat .hubUpLaneRetries 0 ≤ s.hub.retries + 1) (lane : Nat) :
    Tells (s.onHub fun h => { h with retries := h.retries + 1, x1 := true, lanes := 1, lastLanes := some 1 }) (s.evLaneRecovery lane)
      [noteOf s.led.tag true 0 blkUp .upLanes 0 (b8 1 ++ b8 (s.hub.retries + 1))] := by
  unfold State.evLaneRecovery
  rw [if_neg (by simp [h4, h2, h3])]
  dsimp only
  rw [if_neg (by omega)]
  exact append_tells (s.onHub fun h => { h with retries := h.retries + 1, x1 := true, lanes := 1, lastLanes := some 1 }) ..

theorem busy2_eq_false_iff (b : Bus) :
    b.busy2 = false ↔ (b.enabled = true → (∀ v ∈ b.speed, v < 3) → b.suspended = true ∨ b.l1 = true) := by
  unfold Bus.busy2
  cases b.enabled <;> cases b.suspended <;> cases b.l1 <;> cases b.speed <;> simp

theorem evLpm_linked (hl : s.hub.link ≠ 0) (hs : s.hub.suspended = false) :
    s.evLpm = s.answering
      (if (∀ p ∈ allPorts, (s.port p).bus.enabled = true → (∀ v ∈ (s.port p).bus.speed, v < 3) →
            (s.port p).bus.suspended = true ∨ (s.port p).bus.l1 = true) ∧ s.io.part0 = [] ∧ s.io.sent0 = 0
        then .ack else .nyet) := by
  unfold State.evLpm State.linked
  dsimp only
  rw [if_neg (by simp [hl, hs])]
  refine congrArg _ (if_congr ?_ rfl rfl)
  simp only [Bool.and_eq_true, List.all_eq_true, Bool.not_eq_true', busy2_eq_false_iff, List.isEmpty_iff, beq_iff_eq, and_assoc]

theorem evLpm_timeout (h : s.hub.link = 0 ∨ s.hub.suspended = true) : s.evLpm = s.answering .timeout := by
  unfold State.evLpm State.linked
  dsimp only
  rw [if_pos (by simpa using h)]

/-! Requests to the hubs. -/

/-- The Container ID stands at the end of the BOS descriptor. -/
theorem hubBos_container (s : State) :
    (s.hubBos.drop 16).take 16 = leBytes 8 s.ident.serial.toNat ++ [0x4E, 0x58, 0x31, 0x36, 0x36, 0x34, 0x48, 0x42] := rfl

/-- Settles O31: each input's own effect in the state of the link that it finds. -/
theorem upstreamPort : Obligations.UpstreamPort := by
  unfold Obligations.UpstreamPort
  refine ⟨fun s ho hsafe hc hs => ?vbus, fun s ho => ⟨fun hv hm hl hsus lanes hlanes => ?connects, fun hv hm hl => ?stays,
    fun lane hlane h3 h4 h2 => ?recovers, fun hl hsus => acts_of rfl rfl (evLpm_linked hl hsus),
    fun h => acts_of rfl rfl (evLpm_timeout h), fun p hp hl hsus he hps hothers => ?suspends, fun hl hsus => ?requests⟩⟩
  case vbus =>
    have htag : s.led.tag = 0xFFFF := ho.rested.1
    rw [← htag]
    refine ⟨fun hm hv => ⟨plugPin_range s, does_of ho rfl (heard_none rfl) rfl (evVbusArrival_runs hm hv hsafe hc hs)⟩,
      fun hm hv hl => does_of ho rfl (heard_none rfl) rfl ?_,
      fun hm hv hl => does_of ho rfl (heard_none rfl) rfl (evVbusLoss_linked hm hv hl hsafe hc hs)⟩
    have hdown : s.linkDown = s := if_neg (by simp [State.linked, hl])
    have hloss : s.runEvent .upstreamVbusLoss = (s.onHub fun h => { h with upVbus := false, upPin := 0 }).reselect 1 true := by
      refine (if_pos hv).trans ?_
      rw [hdown]
    rw [hloss]
    exact vbusGone_standalone hm hsafe hc hs
  case connects =>
    have htag : s.led.tag = 0xFFFF := ho.rested.1
    have hwf : (Instr.upLink 1 0 ⟨lanes, false⟩).wf = true := decide_eq_true hlanes
    rw [← htag]
    exact ⟨fun speed hspeed _ => does_of ho hwf (heard_none rfl) rfl (evUpLink_usb2 hv hm hl hsus hspeed lanes),
      fun speed h3 hmax hx hlast => does_of ho hwf (heard_none rfl) rfl (evUpLink_super hv hm hl hsus h3 hmax hx rfl hlast)⟩
  case stays =>
    have htag : s.led.tag = 0xFFFF := ho.rested.1
    rw [← htag]
    exact ⟨fun hlog hspeed => does_of ho rfl (heard_none rfl) rfl (evUpLink_quiet hv hm hlog hspeed),
      fun h3 hmax hsus lanes hlanes hlast =>
        does_of ho (decide_eq_true hlanes) (heard_none rfl) rfl (evUpLink_warm hv hm hl hsus h3 hmax rfl hlast),
      fun hspeed hsus hp => does_of ho rfl (heard_none rfl) rfl (evUpLink_u3 hv hm hl hspeed hsus hp)⟩
  case recovers =>
    have htag : s.led.tag = 0xFFFF := ho.rested.1
    rw [← htag]
    exact ⟨fun hr => does_of ho (decide_eq_true hlane) (heard_none rfl) rfl (evLaneRecovery_tries h3 h4 h2 hr lane),
      fun hr => does_of ho (decide_eq_true hlane) (heard_none rfl) rfl (evLaneRecovery_ends h3 h4 h2 hr lane)⟩
  case suspends =>
    have htag : s.led.tag = 0xFFFF := ho.rested.1
    have hlinked : s.runEvent .hubSuspend = s.suspendHub := if_pos (by simp [State.linked, hl])
    refine does_of ho rfl (heard_none rfl) rfl ?_
    rw [hlinked, ← htag]
    exact suspendHub_one hsus hp he hps hothers
  case requests =>
    have hopen : ¬((!s.linked || s.hub.suspended) = true) := by simp [State.linked, hl, hsus]
    have hdoes {ss : Bool} {r : HubRequest} {R : State → Prop} (h : R (s.evHubControl ss r)) : s.Does (.hubControlRequest ss r) R :=
      does_of ho rfl (heard_none rfl) rfl h
    exact ⟨fun v => hdoes (if_neg hopen), fun v => hdoes (if_neg hopen), hdoes (if_neg hopen), hdoes (if_neg hopen),
      fun ss length => hdoes (if_neg hopen), fun ss length => hdoes ⟨if_neg hopen, hubBos_container s⟩,
      fun p hp => hdoes ((if_neg hopen).trans (if_neg (by rw [hp]; decide)))⟩

end Sys2Proof.Machine
end

section
/-! PROOF. Frames as they arrive, the senders, and the lanes of a Spine link (R12, R102 to R108). -/

namespace Sys2Proof.Machine

variable {s : State} {link lane : Nat} {toHive : Bool} {seq : BitVec 16}

/-! Frames as they arrive (R102, R103). -/

/-- What a frame tells its sender: the wire is free, and the acknowledgement up to a number arrives with it or is on its way. -/
def Sender.heard (seq upTo : BitVec 16) (acked : Bool) (credits : Nat) (degraded : Bool) (x : Sender) : Sender :=
  let x := x.arrived seq
  (if acked then { x.acked upTo with credits := x.credits + credits } else x).boundary degraded

theorem evFrame_off (h : s.linkOn link = false) (toHive : Bool) (seq : BitVec 16) (crcOk acked : Bool) (credits : Nat) :
    s.evFrame link toHive seq crcOk acked credits = s := by
  unfold State.evFrame
  exact if_pos (by rw [h]; rfl)

section Open
variable (ho : s.linkOn link = true)
include ho

theorem evFrame_crc (toHive : Bool) (seq : BitVec 16) (acked : Bool) (credits : Nat) :
    s.evFrame link toHive seq false acked credits =
      s.onSpine fun sp => { sp with crcFailed := saturate 0xFFFFFFFF (sp.crcFailed + 1) } := by
  unfold State.evFrame
  dsimp only
  rw [ho]
  rfl

/-- The next frame expected, of which Hive's sender holds no copy for a die, or which came to Hive. -/
theorem evFrame_accepted (hseq : seq = (s.link link).want toHive)
    (hn : toHive = true ∨ ∀ f ∈ ((s.link link).sender false).unacked, f.seq ≠ seq) (acked : Bool) (credits : Nat) :
    s.evFrame link toHive seq true acked credits =
      s.onLink link fun l => (l.expect toHive seq).onSender toHive (Sender.heard seq seq acked credits (s.degraded link)) := by
  unfold State.evFrame
  dsimp only
  rw [ho, if_neg (by decide), if_neg (by decide), if_pos hseq]
  rcases hn with rfl | hn
  · split
    · rfl
    · rfl
  · cases toHive with
    | true =>
      split
      · rfl
      · rfl
    | false =>
      rw [List.find?_eq_none.mpr fun f hf => by simpa using hn f hf]
      rfl

/-- The next frame expected by a die, of which Hive's sender holds the copy. -/
theorem evFrame_taken {f : Frame} (hseq : seq = (s.link link).want false) (hf : ((s.link link).sender false).unacked = [f])
    (hfs : f.seq = seq) :
    s.evFrame link false seq true false 0 =
      (s.onLink link fun l => (l.expect false seq).onSender false (Sender.heard seq seq false 0 (s.degraded link))).takeFrame (link + 1)
        f := by
  unfold State.evFrame
  dsimp only
  rw [ho, if_neg (by decide), if_neg (by decide), if_pos hseq, hf, List.find?_cons_of_pos (by simpa using hfs)]
  rfl

theorem evFrame_duplicate (hseq : seq ≠ (s.link link).want toHive) (h : ((s.link link).want toHive - seq).toNat < 0x8000) :
    s.evFrame link toHive seq true false 0 =
      (s.onSpine fun sp => { sp with duplicates := saturate 0xFFFFFFFF (sp.duplicates + 1) }).onLink link fun l =>
        l.onSender toHive (Sender.heard seq ((s.link link).want toHive - 1) false 0 (s.degraded link)) := by
  unfold State.evFrame
  dsimp only
  rw [ho, if_neg (by decide), if_neg (by decide), if_neg hseq, if_pos h]
  rfl

theorem evFrame_early (h : 0x8000 ≤ ((s.link link).want toHive - seq).toNat) (acked : Bool) (credits : Nat) :
    s.evFrame link toHive seq true acked credits = s := by
  have hseq : seq ≠ (s.link link).want toHive := by
    rintro rfl
    simp at h
  unfold State.evFrame
  dsimp only
  rw [ho, if_neg (by decide), if_neg (by decide), if_neg hseq, if_neg (by omega)]

end Open

theorem takeFrame_tick {f : Frame} {us : Nat} (h : f.body = .tick us) (die : Nat) :
    s.takeFrame die f = s.onDie die fun d => { d with ticks := d.ticks ++ [(us, f.replayed)] } := by
  unfold State.takeFrame
  rw [h]

theorem takeFrame_propose {f : Frame} {epoch : Word} {digest : BitVec 64} {compat : Byte} {set : AgreementSet}
    (h : f.body = .propose epoch digest compat (some set)) (die : Nat) :
    s.takeFrame die f = s.onDie die fun d => { d with set := some set, hasEpoch := true } := by
  unfold State.takeFrame
  rw [h]

/-! What a frame boundary sends (R12, R106). -/

theorem takeClass_none {c : TrafficClass} {q : List (TrafficClass × Payload)} (h : ∀ y ∈ q, y.1 ≠ c) : takeClass c q = none := by
  induction q with
  | nil => rfl
  | cons x q ih =>
    unfold takeClass
    rw [if_neg (h x (by simp)), ih fun y hy => h y (by simp [hy])]

theorem takeClass_head (c : TrafficClass) (p : Payload) (rest : List (TrafficClass × Payload)) :
    takeClass c ((c, p) :: rest) = some (p, rest) := if_pos rfl

/-- A class that waits has a first frame. -/
theorem takeClass_some {c : TrafficClass} {p : Payload} {q : List (TrafficClass × Payload)} (h : (c, p) ∈ q) :
    ∃ p' rest, takeClass c q = some (p', rest) ∧ (c, p') ∈ q := by
  induction q with
  | nil => cases h
  | cons x q ih =>
    unfold takeClass
    by_cases hx : x.1 = c
    · exact ⟨x.2, q, if_pos hx, by rw [← hx]; simp⟩
    · rcases List.mem_cons.mp h with rfl | h
      · exact absurd rfl hx
      · obtain ⟨p', rest, he, hm⟩ := ih h
        exact ⟨p', x :: rest, by rw [if_neg hx, he], by simp [hm]⟩

variable {x : Sender} {degraded : Bool} {c : TrafficClass} {p : Payload} {rest : List (TrafficClass × Payload)}

theorem boundary_busy (h : x.busy = true) : x.boundary degraded = x := if_pos h

theorem boundary_none (h : x.pick (!degraded || decide (0 < x.credits)) = none) : x.boundary degraded = x := by
  unfold Sender.boundary
  rw [h]
  exact ite_self x

/-- A frame boundary on a free wire sends what is picked. -/
theorem boundary_sends (hb : x.busy = false) (h : x.pick (!degraded || decide (0 < x.credits)) = some (c, p, rest)) :
    x.boundary degraded =
      { queue := rest, nextSeq := x.nextSeq + 1, busy := true, unacked := x.unacked ++ [⟨c, x.nextSeq, p, false⟩]
        credits := if degraded = true ∧ c = .async then x.credits - 1 else x.credits } := by
  unfold Sender.boundary
  rw [h, if_neg (by rw [hb]; decide)]
  simp

/-- The head of the queue is picked where nothing of a higher class waits, ASYNC only where it is admitted. -/
theorem pick_head (hq : x.queue = (c, p) :: rest)
    (h : c = .control ∨
      (∀ y ∈ rest, y.1 ≠ .control) ∧
        (c = .periodic ∨ (∀ y ∈ rest, y.1 ≠ .periodic) ∧ (degraded = false ∨ 0 < x.credits))) :
    x.pick (!degraded || decide (0 < x.credits)) = some (c, p, rest) := by
  unfold Sender.pick
  rw [hq]
  cases c with
  | control => rw [takeClass_head]
  | periodic =>
    obtain ⟨hcontrol, -⟩ := h.resolve_left (by decide)
    rw [takeClass_none (c := .control) (by simpa using hcontrol), takeClass_head]
  | async =>
    obtain ⟨hcontrol, hrest⟩ := h.resolve_left (by decide)
    obtain ⟨hperiodic, hadmits⟩ := hrest.resolve_left (by decide)
    have hadmit : (!degraded || decide (0 < x.credits)) = true := by simpa using hadmits
    rw [takeClass_none (c := .control) (by simpa using hcontrol), takeClass_none (c := .periodic) (by simpa using hperiodic), hadmit,
      takeClass_head]
    rfl

theorem pick_control (h : (.control, p) ∈ x.queue) (async : Bool) :
    ∃ q rest, x.pick async = some (.control, q, rest) ∧ (.control, q) ∈ x.queue := by
  obtain ⟨q, rest, he, hm⟩ := takeClass_some h
  refine ⟨q, rest, ?_, hm⟩
  unfold Sender.pick
  rw [he]

theorem pick_async (h : ∀ y ∈ x.queue, y.1 = .async) : x.pick false = none := by
  unfold Sender.pick
  rw [takeClass_none (c := .control) fun y hy => by rw [h y hy]; decide,
    takeClass_none (c := .periodic) fun y hy => by rw [h y hy]; decide]
  rfl

theorem acked_unacked (x : Sender) (seq : BitVec 16) :
    (x.acked seq).unacked = x.unacked.filter fun f => decide (0x8000 ≤ (seq - f.seq).toNat) := by
  unfold Sender.acked seqUpTo
  refine List.filter_congr fun f _ => ?_
  rw [← decide_not]
  exact decide_eq_decide.mpr (by omega)

/-! Lanes (R104, R105, R107, R108). -/

theorem spineOn_of_open (h : s.Open) : s.spineOn = true := by
  have hl := h.listening
  unfold State.listening at hl
  unfold State.spineOn
  cases hm : s.mode <;> simp_all

theorem spineOn_off (h : s.mode.asleep = true ∨ s.mode = .banked) : s.spineOn = false := by
  unfold State.spineOn
  cases hm : s.mode <;> simp_all [Mode.asleep]

theorem evRetrain_off (h : s.spineOn = false) (link lane : Nat) : s.evRetrain link lane = s := if_pos (by simp [h])

theorem evRetrain_tries (h : s.spineOn = true) (hl : lane < laneCount link) (hin : ((s.link link).lane lane).inService = false) :
    s.evRetrain link lane = s.onLane link lane fun l => { l with attempts := l.attempts + 1 } :=
  if_neg (by simp [h, hin]; omega)

/-- A lane comes back into service on a link that is not lost (R107). -/
theorem evRejoin_tells (h : s.spineOn = true) (hl : lane < laneCount link) (hin : ((s.link link).lane lane).inService = false)
    (hlost : (s.link link).lost = false) :
    let back := s.onLane link lane fun l => { l with inService := true, attempts := 0, rejoined := some s.ember.ms }
    Tells back (s.evRejoin link lane)
      [noteOf s.led.tag true 0 blkSpine .laneRejoin link
        (b8 lane ++ b8 (back.link link).count ++ b16 (saturate 0xFFFF ((s.link link).lane lane).attempts))] := by
  intro back
  unfold State.evRejoin
  dsimp only
  rw [if_neg (by simp [h, hin]; omega), hlost]
  exact append_tells back ..

/-- A lane dropped from a link that keeps enough is its entry (R104, R105). -/
theorem evLaneDrop_stays (frames : Word) (hk : link < 3) (hl : lane < 4) (hlost : (s.link link).lost = false)
    (hin : ((s.link link).lane lane).inService = true) (henough : s.nat .spineMinLanes 0 ≤ (s.link link).count - 1) :
    Tells (s.laneOut link lane frames.toNat) (s.evLaneDrop link (1#4 <<< lane) frames)
      [noteOf s.led.tag true 0 blkSpine .laneDrop link (b8 lane ++ b8 ((s.link link).count - 1) ++ b32 frames.toNat)] := by
  have hentry := append_tells (s.laneOut link lane frames.toNat) true 0 blkSpine .laneDrop link
    (b8 lane ++ b8 ((s.laneOut link lane frames.toNat).link link).count ++ b32 frames.toNat)
  have hdrop : s.evLaneDrop link (1#4 <<< lane) frames = (s.laneOut link lane frames.toNat).laneDropEntry link lane frames.toNat := by
    unfold State.evLaneDrop
    rw [hlost, if_neg (by decide), liveLanes_one hl hin, dropLanes_one]
    refine if_neg ?_
    rw [State.laneDropEntry, append_link, append_nat, laneOut_count frames.toNat hk hl hin, laneOut_nat]
    omega
  rw [hdrop]
  rw [laneOut_count frames.toNat hk hl hin, laneOut_led] at hentry
  rw [State.laneDropEntry, laneOut_count frames.toNat hk hl hin]
  exact hentry

/-- A lane taken out of service, as a record: `quick` says that its rejoin is less than 1 s old (R107). -/
def Lane.takenOut (l : Lane) (quick : Bool) : Lane :=
  { l with inService := false, attempts := 0, factor := if quick = true then min 16 (2 * l.factor) else l.factor, rejoined := none }

theorem onLane_congr {f g : Lane → Lane} (h : f ((s.link link).lane lane) = g ((s.link link).lane lane)) :
    s.onLane link lane f = s.onLane link lane g := by
  unfold State.onLane State.onLink
  dsimp only
  rw [h]

section TakenOut
variable {quick : Bool} (hq : ((s.link link).lane lane).removed s.ember.ms = ((s.link link).lane lane).takenOut quick)
include hq

theorem laneOut_eq (hk : link < 3) (frames : Nat) :
    s.laneOut link lane frames =
      (((s.onLink link fun k => { k with toHive := k.toHive.replay, fromHive := k.fromHive.replay }).onLane link lane fun l =>
        l.takenOut quick).onSpine fun sp => { sp with replayed := saturate 0xFFFFFFFF (sp.replayed + frames) }) := by
  unfold State.laneOut
  rw [onLane_congr (g := fun l => l.takenOut quick)]
  · rfl
  · rw [State.onLink_link, if_pos ⟨rfl, hk⟩]
    exact hq

theorem evLaneDrop_lost (hl : lane < 4) (hlost : (s.link link).lost = true) (hin : ((s.link link).lane lane).inService = true)
    (frames : Word) : s.evLaneDrop link (1#4 <<< lane) frames = s.onLane link lane fun l => l.takenOut quick := by
  unfold State.evLaneDrop
  rw [if_pos hlost, liveLanes_one hl hin]
  exact onLane_congr (f := fun l => l.removed s.ember.ms) (g := fun l => l.takenOut quick) hq

end TakenOut

/-- Settles O22: frames by what their receiver expects, senders by what waits, lanes by whether they are in service. -/
theorem spineFramesAndLanes : Obligations.SpineFramesAndLanes := by
  unfold Obligations.SpineFramesAndLanes
  refine ⟨fun s link toHive seq hk ho => ?frames, fun s link hk hlost toHive seq ok acked credits => ?lost,
    fun x degraded seq => ?senders, fun s link lane hk hl => ?lanes⟩
  case frames =>
    have hwf (f : SpineFrame) (ok : Bool) : (Instr.frameReceived link toHive f ok).wf = true := decide_eq_true hk
    intro l next
    refine ⟨fun acked credits => acts_of (hwf _ _) rfl (evFrame_crc ho ..), fun hseq => ⟨fun hn => ?_, fun f hto hf hfs => ?_⟩,
      fun hseq hold => acts_of (hwf _ _) rfl (evFrame_duplicate ho hseq hold),
      fun hearly acked credits => acts_of (hwf _ _) rfl (evFrame_early ho hearly acked credits)⟩
    · exact ⟨acts_of (hwf _ _) rfl (evFrame_accepted ho hseq hn false 0),
        fun credits => acts_of (hwf _ _) rfl (evFrame_accepted ho hseq hn true credits)⟩
    · subst hto
      refine acts_of (hwf _ _) rfl ?_
      intro t
      have htaken := evFrame_taken ho hseq hf hfs
      exact ⟨fun us hb => htaken.trans (takeFrame_tick hb _), fun epoch digest compat set hb => htaken.trans (takeFrame_propose hb _)⟩
  case lost => exact acts_of (decide_eq_true hk) rfl (evFrame_off (by simp [State.linkOn, hlost]) ..)
  case senders =>
    refine ⟨boundary_busy, fun c p rest hb hq h => boundary_sends hb (pick_head hq h), fun p hb hp => ?_, fun _ hc ha => ?_,
      acked_unacked x seq, ?_, fun hu => boundary_busy ?_⟩
    · obtain ⟨q, rest, hpick, hm⟩ := pick_control hp (!degraded || decide (0 < x.credits))
      exact ⟨q, hm, by rw [boundary_sends hb hpick]⟩
    · exact boundary_none (by rw [hc]; exact pick_async ha)
    · simp [Sender.replay]
    · simpa [Sender.replay] using hu
  case lanes =>
    have hk3 : link < 3 := by omega
    have hl4 : lane < 4 := by split at hl <;> omega
    intro l inUse change
    have hwf : (decide (link ≤ 2) && decide (lane ≤ 3)) = true := by simp; omega
    have htag (ho : s.Open) : s.led.tag = 0xFFFF := ho.rested.1
    refine ⟨fun hin => ⟨acts_of hwf rfl (if_pos hin), ?_⟩, fun hin => ⟨fun hon => acts_of hwf rfl (evRetrain_tries hon hl hin),
      fun hoff => acts_of hwf rfl (evRetrain_off (spineOn_off hoff) ..), fun ho hlost => ?_⟩⟩
    · intro quick gone again
      have hq : ((s.link link).lane lane).removed s.ember.ms = ((s.link link).lane lane).takenOut quick := rfl
      have hgone : inUse ((gone s).link link) = (s.link link).count - 1 := by
        show inUse ((s.onLink link _).link link) = _
        rw [State.onLink_link, if_pos ⟨rfl, hk3⟩]
        exact Link.count_remove _ hl4 _ hin rfl
      refine ⟨fun ho hlost henough frames => ?_, fun ho hlost frames =>
        does_of ho (decide_eq_true hk) (heard_none rfl) rfl (evLaneDrop_lost hq hl4 hlost hin frames)⟩
      rw [hgone] at henough ⊢
      have hdrop := evLaneDrop_stays frames hk3 hl4 hlost hin henough
      rw [laneOut_eq hq hk3, htag ho] at hdrop
      exact does_of ho (decide_eq_true hk) (heard_none rfl) rfl hdrop
    · have hback := evRejoin_tells (spineOn_of_open ho) hl hin hlost
      rw [htag ho] at hback
      exact does_of ho hwf (heard_none rfl) rfl hback

end Sys2Proof.Machine
end

section
/-! PROOF. Answers to an agreement round, and state digests (R30, R118, R120 to R123, Table 05-4). -/

namespace Sys2Proof.Machine

variable {s t u : State} {die : Nat} {r : Round} {b : Ballot} {l : List Note}

/-! One answer taken (R120). -/

/-- The answer of the only die of a round, where its judgement is final, closes the round. -/
theorem takeAnswer_only {k : Nat} (hr : r.ballots = [⟨die, k, 0, none⟩]) {a : Response}
    (hj : (s.tagged r.tag).judge r ⟨die, k, 0, none⟩ a = (u, b)) (hd : b.die = die) (hv : b.verdict ≠ 0) :
    s.takeAnswer r die a = u.closeRound { r with ballots := [b] } := by
  have hput (x : Ballot) (hx : x.die = die) (y : Ballot) (hy : y.die = die) (r : Round) (h : r.ballots = [y]) :
      r.put x = { r with ballots := [x] } := by
    simp [Round.put, h, hx, hy]
  have hfind : r.ballots.find? (fun b => b.die == die && b.verdict == 0 && b.early.isNone) = some ⟨die, k, 0, none⟩ := by
    simp [hr]
  have hearly : (s.tagged r.tag).judgeEarly 8 { r with ballots := [⟨die, k, 0, some a⟩] } = (u, { r with ballots := [b] }) := by
    have hnext : Round.next { r with ballots := [⟨die, k, 0, some a⟩] } = some ⟨die, k, 0, some a⟩ := by simp [Round.next]
    have hlast : Round.next { r with ballots := [b] } = none := by simp [Round.next, hv]
    have hjudge : (s.tagged r.tag).judge { r with ballots := [⟨die, k, 0, some a⟩] } ⟨die, k, 0, none⟩ a = (u, b) := hj
    unfold State.judgeEarly
    simp only [hnext, hjudge]
    rw [hput b hd ⟨die, k, 0, some a⟩ rfl _ rfl]
    unfold State.judgeEarly
    simp only [hlast]
  have hlast : Round.next { r with ballots := [b] } = none := by simp [Round.next, hv]
  unfold State.takeAnswer
  simp only [hfind]
  rw [hput ⟨die, k, 0, some a⟩ rfl _ rfl r hr]
  simp only [hearly, hlast]

/-- What waits behind a CFG_APPLY is in the arbiter's lists alone (R136). -/
theorem markBehind_eq (s : State) : ∃ work fires waiting, s.markBehind =
    { s with trig := { s.trig with work := work }, led := { s.led with fires := fires }
             io := { s.io with waiting := waiting } } := by
  unfold State.markBehind
  split
  · exact ⟨_, _, _, rfl⟩
  · exact ⟨_, _, _, rfl⟩

theorem Tells.markBehind (h : Tells s u l) : Tells s.markBehind u.markBehind l := by
  unfold State.markBehind State.opOf
  rw [h.ops]
  split
  · refine ⟨h.1, ?_⟩
    have hu : u = s.told u := h.2
    conv_lhs => rw [hu]
    rfl
  · exact h

/-! What the last answer of a repeated proposal decides (R120 to R122). -/

/-- A die that has agreed holds the set (R118). -/
def Die.holding (set : AgreementSet) (mirror : List (Nat × MirrorWord)) (d : Die) : Die :=
  { d with hasEpoch := true, set := some set, mirror := mirror }

/-- A die in quarantine (R122). -/
def Die.shutOut (d : Die) : Die := { d with quarantined := true }

/-- The state in which the decision of a round is told: no round runs. -/
def State.roundOver (s : State) : State := (s.onSpine fun sp => { sp with round := none }).markBehind

/-- `AGREE_ROUND` of a set proposed again, with the dies that agree. -/
def State.roundNote (s : State) (mask : Nat) : Note :=
  noteOf s.led.tag false 0 blkSpine .agreeRound 0 (b8 3 ++ b8 mask ++ b32 s.spine.epoch.toNat ++
    b32 ((s.setDigest s.cfg.applied s.prm.values).toNat % 2 ^ 32))

theorem agreed_comb (hd : die ≠ 3) (set : AgreementSet) :
    s.agreed set die = s.onDie die (Die.holding set (mirrorOf die s.prm.values)) := by
  have h : (die == 3) = false := beq_eq_false_iff_ne.mpr hd
  unfold State.agreed
  rw [h]
  rfl

theorem setDigest_congr (h : t.flash = s.flash) (c : Loaded) (values : List (Nat × Word)) :
    t.setDigest c values = s.setDigest c values := by
  unfold State.setDigest State.imageBytes State.flashBytes
  rw [h]

theorem Tells.roundNote (h : Tells s u l) (mask : Nat) : u.roundNote mask = s.roundNote mask := by
  unfold State.roundNote
  rw [setDigest_congr h.flash, h.tag, h.spine, h.cfg, h.prm]

theorem Tells.roundOver (h : Tells s u l) : Tells s.roundOver u.roundOver l := (h.onSpine _).markBehind

theorem roundOver_eq (s : State) : ∃ work fires waiting, s.roundOver =
    { s with
      spine := { s.spine with round := none }, trig := { s.trig with work := work }, led := { s.led with fires := fires }
      io := { s.io with waiting := waiting } } := markBehind_eq _

@[simp] theorem roundOver_chosenMode : s.roundOver.chosenMode = s.chosenMode := by
  obtain ⟨work, fires, waiting, h⟩ := roundOver_eq s
  rw [h]
  rfl

@[simp] theorem roundOver_mode : s.roundOver.mode = s.mode := by
  obtain ⟨work, fires, waiting, h⟩ := roundOver_eq s
  rw [h]

@[simp] theorem roundOver_prm : s.roundOver.prm = s.prm := by
  obtain ⟨work, fires, waiting, h⟩ := roundOver_eq s
  rw [h]

@[simp] theorem roundOver_cfg : s.roundOver.cfg = s.cfg := by
  obtain ⟨work, fires, waiting, h⟩ := roundOver_eq s
  rw [h]

@[simp] theorem roundOver_spine : s.roundOver.spine = { s.spine with round := none } := by
  obtain ⟨work, fires, waiting, h⟩ := roundOver_eq s
  rw [h]

@[simp] theorem roundOver_ports : s.roundOver.ports = s.ports := by
  obtain ⟨work, fires, waiting, h⟩ := roundOver_eq s
  rw [h]

@[simp] theorem roundOver_chans : s.roundOver.chans = s.chans := by
  obtain ⟨work, fires, waiting, h⟩ := roundOver_eq s
  rw [h]

@[simp] theorem roundOver_ident : s.roundOver.ident = s.ident := by
  obtain ⟨work, fires, waiting, h⟩ := roundOver_eq s
  rw [h]

@[simp] theorem roundOver_ops : s.roundOver.ops = s.ops := by
  obtain ⟨work, fires, waiting, h⟩ := roundOver_eq s
  rw [h]

@[simp] theorem roundOver_ember : s.roundOver.ember = s.ember := by
  obtain ⟨work, fires, waiting, h⟩ := roundOver_eq s
  rw [h]

@[simp] theorem roundOver_port (p : Nat) : s.roundOver.port p = s.port p := by
  obtain ⟨work, fires, waiting, h⟩ := roundOver_eq s
  rw [h]
  rfl

@[simp] theorem roundOver_tag : s.roundOver.led.tag = s.led.tag := by
  obtain ⟨work, fires, waiting, h⟩ := roundOver_eq s
  rw [h]

@[simp] theorem roundOver_flash : s.roundOver.flash = s.flash := by
  obtain ⟨work, fires, waiting, h⟩ := roundOver_eq s
  rw [h]

theorem roundEntry_tells (hc : r.change = .nothing) (ht : r.trigger = 3) :
    Tells s.roundOver (s.roundOver.roundEntry r) [s.roundNote (1 + dieBits r.agrees)] := by
  have hset : s.roundOver.proposed r.change = s.setDigest s.cfg.applied s.prm.values := by
    rw [hc]
    show s.roundOver.setDigest s.roundOver.cfg.applied s.roundOver.prm.values = _
    rw [setDigest_congr roundOver_flash, roundOver_cfg, roundOver_prm]
  have hepoch : s.roundOver.spine.epoch = s.spine.epoch := by rw [roundOver_spine]
  unfold State.roundEntry State.roundNote
  rw [hset, hepoch, ht]
  exact append_tells_tag _ _ roundOver_tag ..

/-- A round that proposes nothing new changes nothing of its own when it ends. -/
theorem changeOver_nothing (hc : r.change = .nothing) (hop : r.op = none) : s.changeOver r = s := by
  have hfailed : r.failed = false := by simp [Round.failed, hc]
  unfold State.changeOver
  rw [hfailed, hc, hop]
  rfl

/-- The end of a set proposed again: its entry, the dies that it quarantines, and those that hold the set. -/
theorem closeRound_again (hc : r.change = .nothing) (ht : r.trigger = 3) (hop : r.op = none) (hret : r.returning = []) :
    s.closeRound r =
      ([1, 2, 3].filter r.agrees |>.foldl (fun v d => v.agreed ((s.roundOver.roundEntry r).proposedSet r.change) d)
        (r.outs.foldl (fun v x => v.quarantineActs x.1)
          (r.outs.foldl (fun v x => v.quarantineEntry x.1 x.2) (s.roundOver.roundEntry r)))).reselect 1 false := by
  unfold State.closeRound
  rw [ht, hret]
  dsimp only [List.filter_nil, List.foldl_nil]
  rw [if_neg (by decide), changeOver_nothing hc hop]
  rfl

theorem Tells.quarantineEntry (h : Tells s u l) (hd : die ≠ 3) (what : Nat) :
    Tells (s.onDie die Die.shutOut) (u.quarantineEntry die what)
      (l ++ [noteOf s.led.tag false 0 blkSpine .dieQuarantine die (b8 what ++ b8 0)]) := by
  unfold State.quarantineEntry
  rw [if_neg hd]
  exact (h.onDie die Die.shutOut).append ..

theorem beginL2_entry (die bit detail : Nat) (external : Bool) :
    Tells ((s.setCause bit detail).onDie die Die.underL2) (s.beginL2 die bit detail external)
      [noteOf s.led.tag external 3 blkReset .resetBlock die (b8 2 ++ b32 (dieBlocks die) ++ b8 bit)] :=
  (append_tells (s.setCause bit detail) external 3 blkReset .resetBlock die _).onDie die Die.underL2

/-- What a Comb die's state is tells nothing of the modes. -/
theorem Tells.chosenMode_comb {f : Die → Die} (h : Tells (s.onDie die f) u l) (hd : die ≠ 3) : u.chosenMode = s.chosenMode := by
  refine chosenMode_of ?_ (h.link 2) ((congrArg Spine.forgeOff h.spine).trans rfl) h.pw h.hub
  rw [h.die 3, State.onDie_die, if_neg fun e => hd e.1.symm]

/-- The quarantine of a Comb die none of whose ports is attached is its L2 reset. -/
theorem quarantineActs_rest (hd : die ≠ 3) (hr : s.PortsRest) (hw : s.NoneWaits) (hm : s.chosenMode = s.mode) :
    s.quarantineActs die = s.beginL2 die 8 die true := by
  have hbegun := beginL2_entry (s := s) die 8 die true
  have hmode := (hbegun.chosenMode_comb hd).trans (hm.trans hbegun.mode.symm)
  unfold State.quarantineActs
  rw [dieDown_rest 2 false hd (hr.of hbegun.port hbegun.ops), redistribute_none (fun p h => by rw [hbegun.port]; exact hw p h),
    reselect_chosen _ _ hmode]

/-- The state in which a round ends without a Comb die: that is in quarantine and inside its reset. -/
def State.overWithout (s : State) (die : Nat) : State :=
  ((s.roundOver.onDie die Die.shutOut).setCause 8 die).onDie die Die.underL2

theorem Tells.overWithout (h : Tells s u l) (die : Nat) : Tells (s.overWithout die) (u.overWithout die) l :=
  ((h.roundOver.onDie die Die.shutOut).setCause 8 die).onDie die Die.underL2

theorem overWithout_round (die : Nat) : (s.overWithout die).spine.round = none := by
  show s.roundOver.spine.round = none
  rw [roundOver_spine]

theorem overWithout_die (hd : die ≤ 3) : ∃ d : Die, (s.overWithout die).die die = d.shutOut.underL2 := by
  refine ⟨s.roundOver.die die, (onDie_die_self _ hd _).trans (congrArg Die.underL2 ?_)⟩
  exact onDie_die_self s.roundOver hd Die.shutOut

theorem overWithout_cause (die : Nat) : (s.overWithout die).ember.cause = s.ember.cause ||| 0x100 := by
  show s.roundOver.ember.cause ||| 0x100 = _
  rw [roundOver_ember]

section Decided
variable {k : Nat} (hd : die = 1 ∨ die = 2) (hc : r.change = .nothing) (ht : r.trigger = 3) (hop : r.op = none)
  (hret : r.returning = []) (hm : s.chosenMode = s.mode)
include hd hc ht hop hret hm

/-- A round that no longer differs ends with its entry, and the die holds the set. -/
theorem closeRound_agrees (hr : r.ballots = [⟨die, k, 1, none⟩]) :
    Tells (s.roundOver.onDie die (Die.holding ⟨s.cfg.applied, s.prm.values⟩ (mirrorOf die s.prm.values))) (s.closeRound r)
      [s.roundNote (1 + 2 ^ die)] := by
  have hagrees : r.agrees = fun d => die == d := by
    funext d
    simp [Round.agrees, hr]
  have houts : r.outs = [] := by simp [Round.outs, hr]
  have hbits : dieBits r.agrees = 2 ^ die := by
    rw [hagrees]
    rcases hd with rfl | rfl <;> rfl
  have hall : [1, 2, 3].filter r.agrees = [die] := by
    rw [hagrees]
    rcases hd with rfl | rfl <;> rfl
  have hentry := roundEntry_tells (s := s) hc ht
  rw [hbits] at hentry
  have hset : (s.roundOver.roundEntry r).proposedSet r.change = ⟨s.cfg.applied, s.prm.values⟩ := by
    rw [hc, State.proposedSet, hentry.cfg, hentry.prm, roundOver_cfg, roundOver_prm]
  have hdone := hentry.onDie die (Die.holding ⟨s.cfg.applied, s.prm.values⟩ (mirrorOf die s.prm.values))
  have hmode := roundOver_chosenMode.trans (hm.trans roundOver_mode.symm)
  rw [closeRound_again hc ht hop hret, houts, hall, hset]
  dsimp only [List.foldl_cons, List.foldl_nil]
  rw [agreed_comb (by omega), hentry.prm, roundOver_prm, reselect_chosen]
  · exact hdone
  · rw [hdone.mode, hdone.chosenMode_comb (by omega)]
    exact hmode

/-- A die of another stepping: the round ends without it, and it is quarantined and reset. -/
theorem closeRound_quarantines (hr : r.ballots = [⟨die, k, 2, none⟩]) (hw : s.NoneWaits) (hp : s.PortsRest) :
    Tells (s.overWithout die) (s.closeRound r)
      [s.roundNote 1, noteOf s.led.tag false 0 blkSpine .dieQuarantine die (b8 0 ++ b8 0),
       noteOf s.led.tag true 3 blkReset .resetBlock die (b8 2 ++ b32 (dieBlocks die) ++ b8 8)] := by
  have hne : die ≠ 3 := by omega
  have hagrees : r.agrees = fun _ => false := by
    funext d
    simp [Round.agrees, hr]
  have houts : r.outs = [(die, 0)] := by simp [Round.outs, hr]
  have hall : [1, 2, 3].filter r.agrees = [] := by
    rw [hagrees]
    rfl
  have hbits : 1 + dieBits r.agrees = 1 := by
    rw [hagrees]
    rfl
  have hentry := roundEntry_tells (s := s) hc ht
  rw [hbits] at hentry
  have hout := hentry.quarantineEntry hne 0
  have hchosen := roundOver_chosenMode.trans (hm.trans roundOver_mode.symm)
  have hmode := (hout.chosenMode_comb hne).trans (hchosen.trans hout.mode.symm)
  have hrest : s.roundOver.PortsRest := hp.of roundOver_port roundOver_ops
  have hacts := quarantineActs_rest hne (hrest.of hout.port hout.ops)
    (fun p h => by rw [hout.port]; exact (roundOver_port (s := s) p).symm ▸ hw p h) hmode
  have hbegun := beginL2_entry (s := (s.roundOver.roundEntry r).quarantineEntry die 0) die 8 die true
  rw [closeRound_again hc ht hop hret, houts, hall]
  dsimp only [List.foldl_cons, List.foldl_nil]
  rw [hacts, reselect_chosen _ _ ((hbegun.chosenMode_comb hne).trans (hmode.trans hbegun.mode.symm))]
  exact roundOver_tag (s := s) ▸ beginL2_tells hout die 8 die true

end Decided

/-! The answer of a round's only die (R120, Table 05-4). -/

/-- What Hive keeps of an answer: the die's stepping and its microcode version. -/
def State.heardFrom (s : State) (die : Nat) (stepping microcode : Byte) : State :=
  { s with ident := { s.ident with stepping := bankSet s.ident.stepping die stepping
                                   microcode := bankSet s.ident.microcode die microcode } }

/-- The round with its only die judged. -/
def Round.judged (r : Round) (die k verdict : Nat) : Round := { r with ballots := [⟨die, k, verdict, none⟩] }

theorem heardFrom_roundNote (tag : BitVec 16) (stepping microcode : Byte) (mask : Nat) :
    ((s.tagged tag).heardFrom die stepping microcode).roundNote mask =
      noteOf tag false 0 blkSpine .agreeRound 0 (b8 3 ++ b8 mask ++ b32 s.spine.epoch.toNat ++
        b32 ((s.setDigest s.cfg.applied s.prm.values).toNat % 2 ^ 32)) := by
  have hset : ((s.tagged tag).heardFrom die stepping microcode).setDigest s.cfg.applied s.prm.values =
    s.setDigest s.cfg.applied s.prm.values := setDigest_congr (s := s) rfl ..
  exact congrArg (fun d : BitVec 64 => noteOf tag false 0 blkSpine .agreeRound 0
    (b8 3 ++ b8 mask ++ b32 s.spine.epoch.toNat ++ b32 (d.toNat % 2 ^ 32))) hset

theorem judge_answer (r : Round) (b : Ballot) (stepping microcode : Byte) (digest : BitVec 64) :
    s.judge r b (.answer stepping microcode digest) =
      let v := s.heardFrom b.die stepping microcode
      if s.versionBad stepping microcode then (v.agreeFail b.die 0 0 (digest.toNat % 2 ^ 32), { b with verdict := 2 })
      else if digest != v.proposed r.change then v.mismatched r b (digest.toNat % 2 ^ 32)
      else (v, { b with verdict := 1 }) := rfl

section Only
variable {k : Nat} {stepping microcode : Byte} {digest : BitVec 64} (hr : r.ballots = [⟨die, k, 0, none⟩])
include hr

theorem takeAnswer_agrees (hc : r.change = .nothing) (hv : s.versionBad stepping microcode = false)
    (hdig : digest = s.setDigest s.cfg.applied s.prm.values) :
    s.takeAnswer r die (.answer stepping microcode digest) =
      ((s.tagged r.tag).heardFrom die stepping microcode).closeRound (r.judged die k 1) := by
  refine takeAnswer_only (b := ⟨die, k, 1, none⟩) hr ?_ rfl Nat.one_ne_zero
  have hset : ((s.tagged r.tag).heardFrom die stepping microcode).proposed r.change = digest := by
    rw [hc, hdig]
    exact setDigest_congr (s := s) rfl ..
  have hbad : (s.tagged r.tag).versionBad stepping microcode = false := hv
  rw [judge_answer, hbad]
  dsimp only
  rw [hset, bne_self_eq_false]
  rfl

theorem takeAnswer_stepping (hv : s.versionBad stepping microcode = true) :
    s.takeAnswer r die (.answer stepping microcode digest) =
      (((s.tagged r.tag).heardFrom die stepping microcode).agreeFail die 0 0 (digest.toNat % 2 ^ 32)).closeRound
        (r.judged die k 2) := by
  refine takeAnswer_only (b := ⟨die, k, 2, none⟩) hr ?_ rfl (Nat.succ_ne_zero 1)
  exact if_pos hv

end Only

/-! Turns (R120): a die is judged when those before it are. -/

/-- The next die, where a ballot is put for one that is not judged. -/
theorem put_next (h : ∀ x ∈ r.ballots, x.die = b.die → x.verdict = 0) (hb : b.verdict = 0) :
    (r.put b).next = r.next.map fun x => if x.die = b.die then b else x := by
  unfold Round.next Round.put
  rw [List.find?_map]
  congr 1
  refine List.find?_congr fun x hx => ?_
  by_cases hd : x.die = b.die
  · simp [hd, hb, h x hx hd]
  · simp [hd]

theorem put_open (hb : b.verdict = 0) : ∀ x ∈ (r.put b).ballots, x.die = b.die → x.verdict = 0 := by
  intro x hx hd
  obtain ⟨y, -, rfl⟩ := List.mem_map.mp hx
  split at hd
  · rename_i h
    rw [if_pos h, hb]
  · exact absurd hd ‹_›

theorem next_open (h : r.next = some b) : b.verdict = 0 := by
  simpa using List.find?_some h

theorem judgeEarly_waits (n : Nat) (h : r.next = some b) (he : b.early = none) : s.judgeEarly (n + 1) r = (s, r) := by
  unfold State.judgeEarly
  simp only [h, he]

theorem find_only {l : List Ballot} {p : Ballot → Bool} (hb : b ∈ l) (hp : p b = true) (hone : ∀ x ∈ l, p x = true → x = b) :
    l.find? p = some b := by
  cases h : l.find? p with
  | none => exact absurd hp (List.find?_eq_none.mp h b hb)
  | some x => rw [hone x (List.mem_of_find?_eq_some h) (List.find?_some h)]

/-- A ballot whose die's set is proposed once more (Table 05-4). -/
def Ballot.again (b : Ballot) : Ballot := { b with tries := b.tries + 1, early := none }

theorem judge_timeout_again (r : Round) (ht : b.tries < 3) :
    s.judge r b .timeout = ((s.agreeFail b.die 1 b.tries 0).propose 3 r.change b.die, b.again) := by
  show ((if b.tries < 3 then _ else _), b.mismatch) = _
  unfold Ballot.mismatch
  rw [if_pos ht, if_pos ht]
  rfl

/-- A time-out in its die's turn, with a redistribution left (Table 05-4). -/
theorem evAnswerTimeout_turn (hs : s.spine.round = some r) (hn : r.next = some b) (he : b.early = none) (ht : b.tries < 3)
    (hone : ∀ x ∈ r.ballots, x.die = b.die → x = b) :
    ∃ r', s.evAnswerTimeout b.die =
        (((s.tagged r.tag).agreeFail b.die 1 b.tries 0).propose 3 r.change b.die).onSpine (fun sp => { sp with round := some r' }) ∧
      r'.next = some b.again := by
  have hv := next_open hn
  have hfind : r.ballots.find? (fun x => x.die == b.die && x.verdict == 0 && x.early.isNone) = some b :=
    find_only (List.mem_of_find?_eq_some hn) (by simp [hv, he]) fun x hx hp => hone x hx (by simp at hp; exact hp.1.1)
  have hall : ∀ x ∈ r.ballots, x.die = b.die → x.verdict = 0 := fun x hx hd => by rw [hone x hx hd, hv]
  have hnext : (r.put { b with early := some .timeout }).next = some { b with early := some .timeout } := by
    rw [put_next (b := { b with early := some .timeout }) hall hv, hn]
    simp
  have hagain : ((r.put { b with early := some .timeout }).put b.again).next = some b.again := by
    rw [put_next (b := b.again) (put_open (b := { b with early := some .timeout }) hv) hv, hnext]
    simp [Ballot.again]
  have hjudge : (s.tagged r.tag).judge (r.put { b with early := some .timeout }) { b with early := none } .timeout =
      (((s.tagged r.tag).agreeFail b.die 1 b.tries 0).propose 3 r.change b.die, b.again) :=
    judge_timeout_again _ (b := { b with early := none }) ht
  refine ⟨(r.put { b with early := some .timeout }).put b.again, ?_, hagain⟩
  unfold State.evAnswerTimeout
  simp only [hs]
  unfold State.takeAnswer
  simp only [hfind]
  unfold State.judgeEarly
  simp only [hnext, hjudge]
  rw [judgeEarly_waits 6 hagain rfl]
  simp only [hagain]

section Waits
variable {x : Ballot} {a : Response} (hn : r.next = some b) (he : b.early = none)
  (hone : r.ballots.filter (fun y => y.die == x.die) = [x])
include hn he hone

/-- A response before its die's turn waits for it. -/
theorem takeAnswer_early (hb : b.die ≠ x.die) (hv : x.verdict = 0) (hx : x.early = none) :
    s.takeAnswer r x.die a = (s.tagged r.tag).onSpine fun sp => { sp with round := some (r.put { x with early := some a }) } := by
  have hmem (y : Ballot) : y ∈ r.ballots ∧ y.die = x.die ↔ y = x := by
    have h : y ∈ r.ballots.filter (fun y => y.die == x.die) ↔ y = x := by simp [hone]
    simpa using h
  have hfind : r.ballots.find? (fun y => y.die == x.die && y.verdict == 0 && y.early.isNone) = some x :=
    find_only ((hmem x).mpr rfl).1 (by simp [hv, hx]) fun y hy hp => (hmem y).mp ⟨hy, by simp at hp; exact hp.1.1⟩
  have hnext : (r.put { x with early := some a }).next = some b := by
    rw [put_next (b := { x with early := some a }) (fun y hy hd => by rw [(hmem y).mp ⟨hy, hd⟩, hv]) hv, hn]
    simp [hb]
  unfold State.takeAnswer
  simp only [hfind]
  rw [judgeEarly_waits 7 hnext he]
  simp only [hnext]

/-- A response after one that waits counts for nothing. -/
theorem takeAnswer_late (hs : s.spine.round = some r) {w : Response} (hx : x.early = some w) :
    s.takeAnswer r x.die a = s.tagged r.tag := by
  have hfind : r.ballots.find? (fun y => y.die == x.die && y.verdict == 0 && y.early.isNone) = none := by
    rw [List.find?_eq_none]
    intro y hy hp
    have hyx : y ∈ r.ballots.filter (fun y => y.die == x.die) := by simp at hp; simp [hy, hp]
    rw [hone, List.mem_singleton] at hyx
    simp [hyx, hx] at hp
  unfold State.takeAnswer
  simp only [hfind]
  rw [judgeEarly_waits 7 hn he]
  simp only [hn]
  unfold State.onSpine
  rw [← hs]
  rfl

end Waits

/-! State digests (R123, R124). -/

/-- A die that is heard takes part in state agreement. -/
theorem State.Hears.takesPart (h : s.Hears die blkSpine) : (s.dieGone die || (s.die die).resetting) = false := by
  have hdown := h.block
  unfold State.blockDown at hdown
  unfold State.dieGone
  rw [h.absent, h.quarantined]
  simp at hdown ⊢
  exact hdown.1.1

/-- A die in a run of mismatches, one more counted. -/
def Die.mismatched (d : Die) : Die := { d with settleCount := d.settleCount + 1 }

/-- A mismatch told, before its subjects are settled. -/
def State.disagrees (s : State) (die : Nat) (digest : Word) : State :=
  (s.onDie die Die.mismatched).agreeFail die 3 ((s.die die).settleCount + 1) digest.toNat

theorem disagrees_tells (s : State) (die : Nat) (digest : Word) :
    Tells (s.onDie die Die.mismatched) (s.disagrees die digest)
      [noteOf s.led.tag true 0 blkSpine .agreeFail die (b8 3 ++ b8 ((s.die die).settleCount + 1) ++ b32 digest.toNat)] :=
  append_tells ..

theorem evStateExchange_match (h : s.Hears die blkSpine) (digest : Word) :
    s.evStateExchange die digest [] = s.onDie die fun d => { d with settleCount := 0 } := by
  unfold State.evStateExchange
  rw [h.takesPart]
  rfl

/-- A digest with one subject that differs: it is settled, before the eighth mismatch of a run without a reset. -/
theorem evStateExchange_one (hd : die ≤ 3) (h : s.Hears die blkSpine) (hn : (s.die die).settleCount < 7) (digest : Word)
    {d : StateDiff} (ht : Tells t ((s.disagrees die digest).settleOne die d) l) (hw : t.NoneWaits) :
    Tells t (s.evStateExchange die digest [d]) l := by
  have hcount : ((s.onDie die Die.mismatched).die die).settleCount = (s.die die).settleCount + 1 :=
    congrArg Die.settleCount (onDie_die_self s hd Die.mismatched)
  have hevent : s.evStateExchange die digest [d] = ((s.disagrees die digest).settleOne die d).redistribute := by
    unfold State.evStateExchange State.disagrees
    rw [h.takesPart, ← hcount]
    show (if ((s.onDie die Die.mismatched).die die).settleCount < 8 then _ else _) = _
    rw [if_pos (by omega)]
    rfl
  rw [hevent, redistribute_tells ht hw]
  exact ht

/-- A run of mismatches tells nothing of what a port shows. -/
theorem disagrees_connectedPort (digest : Word) (p : Nat) :
    (s.disagrees die digest).connectedPort p = s.connectedPort p := by
  have h := disagrees_tells s die digest
  have hgone (k : Nat) : (s.disagrees die digest).dieGone k = s.dieGone k := by
    unfold State.dieGone
    rw [h.die, State.onDie_die]
    split <;> rfl
  unfold State.connectedPort State.shown State.ssPort
  rw [hgone, h.port, h.value]
  rfl

section Settles
variable {p : Nat} {digest : Word} (hc : combOf p = die) (hp : isPort p = true) (hport : s.connectedPort p = true)
include hc hp hport

theorem settleLink_own (f : State → State) : (s.disagrees die digest).settleLink die p f = f (s.disagrees die digest) :=
  if_pos ⟨hp, hc, (disagrees_connectedPort digest p).trans hport⟩

/-- The data link of a port at another speed (R30). -/
theorem settleOne_linkSpeed {v : Nat} (hv : v ≤ 4) (hs : (s.port p).bus.speed ≠ some v) :
    Tells ((s.onDie die Die.mismatched).onBus p fun b => { b with enabled := true, speed := some v })
      ((s.disagrees die digest).settleOne die (.linkSpeed p v))
      [noteOf s.led.tag true 0 blkSpine .agreeFail die (b8 3 ++ b8 ((s.die die).settleCount + 1) ++ b32 digest.toNat),
       noteOf s.led.tag true 0 blkUsb2 .portSpeed p (b8 v)] := by
  have h := disagrees_tells s die digest
  have hspeed : ((s.disagrees die digest).port p).bus.speed ≠ some v := by
    rw [h.port]
    exact hs
  unfold State.settleOne
  dsimp only
  rw [settleLink_own hc hp hport, if_pos ⟨hv, hspeed⟩]
  have hnote := (h.onBus p fun b => { b with enabled := true, speed := some v }).append true 0 blkUsb2 .portSpeed p (b8 v)
  simpa using hnote

/-- The data link of a port that is awake (R30). -/
theorem settleOne_linkAwake (hs : (s.port p).bus.suspended = true) :
    Tells ((s.onDie die Die.mismatched).onBus p fun b =>
        { b with suspended := false, busSuspended := false, resuming := false, limited := false })
      ((s.disagrees die digest).settleOne die (.linkAwake p))
      [noteOf s.led.tag true 0 blkSpine .agreeFail die (b8 3 ++ b8 ((s.die die).settleCount + 1) ++ b32 digest.toNat),
       noteOf s.led.tag true 0 blkUsb2 .portResume p (b8 0)] := by
  have h := disagrees_tells s die digest
  have hsusp : ((s.disagrees die digest).port p).bus.suspended = true := by
    rw [h.port]
    exact hs
  unfold State.settleOne
  dsimp only
  rw [settleLink_own hc hp hport, if_pos hsusp]
  have hnote := ((h.onBus p fun b => { b with suspended := false, busSuspended := false, resuming := true, limited := false }).append
    true 0 blkUsb2 .portResume p (b8 0)).onBus p fun b => { b with resuming := false }
  rw [onBus_onBus] at hnote
  simpa [State.resumePort] using hnote

end Settles

section SettlesChannel
variable {ch : Nat} {digest : Word} (hch : isAux ch = true)
include hch

/-- A channel that Forge finds unlocked (R30). -/
theorem settleOne_unlocked (hl : (s.chan ch).state = .locked) :
    Tells ((s.onDie 3 Die.mismatched).onChan ch fun c => { c with state := .off, lock := none, retries := 0 })
      ((s.disagrees 3 digest).settleOne 3 (.unlocked ch))
      [noteOf s.led.tag true 0 blkSpine .agreeFail 3 (b8 3 ++ b8 ((s.die 3).settleCount + 1) ++ b32 digest.toNat)] := by
  have h := disagrees_tells s 3 digest
  have hlocked : ((s.disagrees 3 digest).chan ch).state = .locked := by
    rw [h.chan]
    exact hl
  unfold State.settleOne
  dsimp only
  rw [if_pos ⟨rfl, isChan_of_isAux hch, hlocked⟩]
  exact h.onChan ch _

/-- A channel that Forge finds locked (R30). -/
theorem settleOne_locked {reason : Nat} (hr : reason ≤ 2) (hl : (s.chan ch).state ≠ .locked) (hun : s.Unlinked ch) :
    Tells ((s.onDie 3 Die.mismatched).onChan ch (Chan.wentLocked reason))
      ((s.disagrees 3 digest).settleOne 3 (.locked ch reason))
      [noteOf s.led.tag true 0 blkSpine .agreeFail 3 (b8 3 ++ b8 ((s.die 3).settleCount + 1) ++ b32 digest.toNat),
       noteOf s.led.tag false 3 blkChan .chanLocked ch (b8 reason)] := by
  have h := disagrees_tells s 3 digest
  have hopen : ((s.disagrees 3 digest).chan ch).state ≠ .locked := by
    rw [h.chan]
    exact hl
  have hlock : (s.disagrees 3 digest).lockChan ch reason = ((s.disagrees 3 digest).onChan ch (Chan.wentLocked reason)).append
      false 3 blkChan .chanLocked ch (b8 reason) := lockChan_aux _ _ _ (aux_notport hch)
  have hnote := (h.onChan ch (Chan.wentLocked reason)).append false 3 blkChan .chanLocked ch (b8 reason)
  rw [← hlock] at hnote
  unfold State.settleOne
  dsimp only
  rw [if_pos ⟨rfl, isChan_of_isAux hch, hr, hopen⟩, linkTripped_none]
  · simpa using hnote
  · exact hnote.unlinked (unlinked_of hun (by simp) (by simp))

end SettlesChannel

/-- Settles O27: answers and time-outs in their dies' turns, and digests subject by subject. -/
theorem agreementAnswers : Obligations.AgreementAnswers := by
  unfold Obligations.AgreementAnswers
  refine ⟨fun s die hd1 hd2 => ⟨fun r k hs hr ht hc hop hret hm => ?answers, ?turns, ?digests⟩, ?forge⟩
  case answers =>
    have hd : die = 1 ∨ die = 2 := by omega
    have hev (stepping microcode : Byte) (digest : BitVec 64) :
        s.evAnswer die stepping microcode digest = s.takeAnswer r die (.answer stepping microcode digest) := by
      unfold State.evAnswer
      rw [hs]
    have hwf (stepping microcode : Byte) (digest : BitVec 64) : (Instr.answer die stepping microcode digest).wf = true :=
      decide_eq_true (show _ ≤ 3 by omega)
    intro digest ended
    refine ⟨fun microcode hv => acts_of (hwf ..) rfl ?_, fun hw hports htest stepping microcode digest' hv =>
      acts_of (hwf ..) rfl ?_⟩
    · rw [hev, takeAnswer_agrees hr hc hv rfl]
      have hend := closeRound_agrees (s := (s.tagged r.tag).heardFrom die 0x43 microcode) (r := r.judged die k 1) hd hc ht hop
        hret hm rfl
      rw [heardFrom_roundNote] at hend
      refine ⟨_, hend, ?_, ?_, ?_, ?_, ?_, ?_, ?_⟩
      · simp
      · rw [onDie_die_self _ (by omega)]
        rfl
      · rw [onDie_die_self _ (by omega)]
        rfl
      · exact roundOver_mode
      · exact roundOver_ports
      · exact roundOver_chans
      · rw [State.onDie_ident, roundOver_ident]
        show bankGet (bankSet _ die microcode) die 0 = microcode
        rw [bankGet_set, if_pos ⟨rfl, by omega⟩]
    · rw [hev, takeAnswer_stepping hr hv]
      have hfail := append_tells ((s.tagged r.tag).heardFrom die stepping microcode) true 0 blkSpine .agreeFail die
        (b8 0 ++ b8 0 ++ b32 (digest'.toNat % 2 ^ 32))
      have hend := closeRound_quarantines (r := r.judged die k 2) hd hc ht hop hret
        (hfail.chosenMode.trans (hm.trans hfail.mode.symm)) rfl (fun p h => by rw [hfail.port]; exact hw p h)
        (State.PortsRest.of ⟨fun p hp => (hports p hp).1, fun p hp => (hports p hp).2, htest⟩ hfail.port hfail.ops)
      rw [hfail.roundNote, heardFrom_roundNote, hfail.tag] at hend
      obtain ⟨d, hdie⟩ := overWithout_die (s := (s.tagged r.tag).heardFrom die stepping microcode) (show die ≤ 3 by omega)
      refine ⟨_, (hfail.overWithout die).trans hend, overWithout_round die, ?_, ?_, ?_, overWithout_cause die, roundOver_mode,
        roundOver_ports, roundOver_chans⟩ <;> rw [hdie] <;> rfl
  case turns =>
    intro r b hs hn he
    refine ⟨fun hbd htries hone => ?_, fun x hbd hxd hv hone => ⟨fun hx => ?_, fun hx stepping microcode digest => ?_⟩⟩
    · subst hbd
      obtain ⟨r', hrun, hnext⟩ := evAnswerTimeout_turn hs hn he htries hone
      exact acts_of (decide_eq_true (show _ ≤ 3 by omega)) rfl ⟨r', _, append_tells (s.tagged r.tag) .., hrun, hnext⟩
    · subst hxd
      refine acts_of (decide_eq_true (show _ ≤ 3 by omega)) rfl ?_
      unfold State.evAnswerTimeout
      rw [hs]
      exact takeAnswer_early hn he hone hbd hv hx
    · subst hxd
      refine acts_of (decide_eq_true (show _ ≤ 3 by omega)) rfl ?_
      unfold State.evAnswer
      rw [hs]
      exact takeAnswer_late hn he hone hs hx
  case digests =>
    intro ho hears digest run failed
    have hwf (l : List StateDiff) : (Instr.stateDigestExchange die digest l).wf = true := decide_eq_true (show _ ≤ 3 by omega)
    have htag : s.led.tag = 0xFFFF := ho.rested.1
    have hfail := disagrees_tells s die digest
    rw [htag] at hfail
    refine ⟨does_of ho (hwf _) (heard_none rfl) rfl (evStateExchange_match hears digest), fun hw hn => ⟨?_, fun p hc hp hport =>
      ⟨fun v hv hspeed => ?_, fun hsusp => ?_⟩⟩⟩
    · exact does_of ho (hwf _) (heard_none rfl) rfl (evStateExchange_one (by omega) hears hn digest (d := .policy) hfail hw)
    · have h := settleOne_linkSpeed (digest := digest) hc hp hport hv hspeed
      rw [htag] at h
      exact does_of ho (hwf _) (heard_none rfl) rfl (evStateExchange_one (by omega) hears hn digest h
        (noneWaits_onPort (s := run) hw p _ (hw p hp).1 (hw p hp).2))
    · have h := settleOne_linkAwake (digest := digest) hc hp hport hsusp
      rw [htag] at h
      exact does_of ho (hwf _) (heard_none rfl) rfl (evStateExchange_one (by omega) hears hn digest h
        (noneWaits_onPort (s := run) hw p _ (hw p hp).1 (hw p hp).2))
  case forge =>
    intro s ch reason digest ho hears hw hn hch hr run failed
    have htag : s.led.tag = 0xFFFF := ho.rested.1
    refine ⟨fun hl => ?_, fun hl hun => ?_⟩
    · have h := settleOne_unlocked (digest := digest) hch hl
      rw [htag] at h
      exact does_of ho rfl (heard_none rfl) rfl (evStateExchange_one (by decide) hears hn digest h (noneWaits_onChan (s := run) hw _ _))
    · have h := settleOne_locked (digest := digest) hch hr hl hun
      rw [htag] at h
      exact does_of ho rfl (heard_none rfl) rfl (evStateExchange_one (by decide) hears hn digest h (noneWaits_onChan (s := run) hw _ _))

end Sys2Proof.Machine
end

section
/-! PROOF. What every effect of a command keeps: a property that entries and changes outside the ledger's record keep. -/

namespace Sys2Proof.Machine

variable {s t : State}

/-- What no effect changes but by its entries: the phase, the outstanding faults, the entries and the received messages. -/
structure State.Calm (s t : State) : Prop where
  phase : t.phase = s.phase
  faults : t.led.openFaults = s.led.openFaults
  next : t.led.next = s.led.next
  ring : t.led.ring = s.led.ring
  inbox : t.led.q62 = s.led.q62
  drops : t.led.vdmDrops = s.led.vdmDrops

/-- A property that entries keep, and calm changes. -/
structure Steady (P : State → Prop) : Prop where
  calm : ∀ {s t : State}, s.Calm t → P s → P t
  append : ∀ {s : State} (e : Bool) (die block : Nat) (k : Kind) (n : Nat) (d : List Byte), P s → P (s.append e die block k n d)

namespace Steady

theorem ite {P : State → Prop} {b : Prop} [Decidable b] (hs : P s) (ht : P t) : P (if b then s else t) := by
  split
  · exact hs
  · exact ht

variable {P : State → Prop} (c : Steady P) (h : P s)

theorem foldl {α : Type} {l : List α} {f : State → α → State} (h : P s) (hf : ∀ u a, P u → P (f u a)) : P (l.foldl f s) := by
  induction l generalizing s with
  | nil => exact h
  | cons a l ih => exact ih (hf s a h)

theorem each {l : List Nat} {f : Nat → State → State} (h : P s) (hf : ∀ u n, P u → P (f n u)) : P (s.each l f) := foldl h hf

theorem when {b : Bool} {f : State → State} (h : P s) (hf : ∀ u, P u → P (f u)) : P (s.when b f) := ite (hf s h) h

include c h

/-! The state's operations. -/

/-- A change that leaves the ledger and the phase as they are. -/
theorem same (hsame : (t.led, t.phase) = (s.led, s.phase)) : P t := by
  obtain ⟨hled, hphase⟩ := Prod.mk.inj hsame
  exact c.calm ⟨hphase, by rw [hled], by rw [hled], by rw [hled], by rw [hled], by rw [hled]⟩ h

theorem tagged {tag : BitVec 16} : P (s.tagged tag) := c.calm (s := s) ⟨rfl, rfl, rfl, rfl, rfl, rfl⟩ h
theorem onPort {n : Nat} {f : Port → Port} : P (s.onPort n f) := c.same h (by simp)
theorem onBus {n : Nat} {f : Bus → Bus} : P (s.onBus n f) := c.onPort h
theorem onPd {n : Nat} {f : Pd → Pd} : P (s.onPd n f) := c.onPort h
theorem onChan {n : Nat} {f : Chan → Chan} : P (s.onChan n f) := c.same h (by simp)

theorem onSeg {n : Nat} {f : Seg → Seg} : P (s.onSeg n f) := c.same h (by rfl)
theorem onEmber {f : Ember → Ember} : P (s.onEmber f) := c.same h (by rfl)
theorem onStore {f : Store → Store} : P (s.onStore f) := c.same h (by rfl)
theorem onDie {n : Nat} {f : Die → Die} : P (s.onDie n f) := c.same h (by rfl)
theorem sends {p msg : Nat} : P (s.sends p msg) := c.same h (by rfl)

theorem entry {e : Bool} {die block : Nat} {k : Kind} {n : Nat} {d : List Byte} : P (s.append e die block k n d) :=
  c.append _ _ _ _ _ _ h
theorem fault {e : Bool} {die block code n : Nat} {d : List Byte} : P (s.fault e die block code n d) := c.entry h

theorem completion {o : PendingOp} {st : Status} {e : Bool} : P (s.completion o st e) :=
  ite h (c.tagged (c.entry (c.tagged h)))

theorem endOps {subj : Subject} {st : Status} {e : Bool} : P (s.endOps subj st e) := by
  unfold State.endOps
  exact foldl (c.same h (by rfl)) fun _ _ hu => c.completion hu

theorem endOpsOf {subj : Subject} {codes : List Opcode} {st : Status} {e : Bool} : P (s.endOpsOf subj codes st e) := by
  unfold State.endOpsOf
  exact foldl (c.same h (by rfl)) fun _ _ hu => c.completion hu

/-! Grants and reservations (R230). -/

theorem setGrant {p cause new other : Nat} : P (s.setGrant p cause new other) := c.entry (c.onPort h)
theorem releaseGrant {p : Nat} : P (s.releaseGrant p) := ite (c.onPort h) (c.setGrant h)
theorem callCaps {p : Nat} : P (s.callCaps p) := c.onPort h
theorem takeFrom {p : Nat} {d : Nat × Nat} : P (s.takeFrom p d) := c.callCaps (c.setGrant (c.onPort h))

theorem reserve {p : Nat} {reclaim : Bool} (ht : s.reserve p reclaim = some t) : P t := by
  unfold State.reserve at ht
  extract_lets want free plan a at ht
  split at ht
  · cases ht
  · rw [← Option.some.inj ht]
    have hu : P (plan.foldl _ s) := foldl h fun _ d hu => c.takeFrom (p := p) (d := d) hu
    exact ite hu (c.setGrant hu)

theorem reserveForCaps {p : Nat} : P (s.reserveForCaps p) := by
  unfold State.reserveForCaps
  cases ht : s.reserve p true with
  | none => exact h
  | some t => exact c.reserve h ht

theorem reserveAgain {p : Nat} : P (s.reserveAgain p) := by
  unfold State.reserveAgain
  exact c.onPd (ite h (c.setGrant h))

/-! Transfers, and modes with their tethers (R211, R268, R270). -/

theorem surplusEntries {n seg addr : Nat} {l : List Byte} : P (State.surplusEntries n s seg addr l) := by
  induction n generalizing s l with
  | zero => exact h
  | succ n ih =>
    unfold State.surplusEntries
    split
    · exact h
    · exact ih (c.entry h)

theorem endTransfer {seg : Nat} {x : Transfer} {st : Status} {l : List Byte} {e : Bool} : P (s.endTransfer seg x st l e) :=
  c.completion (c.onSeg (c.tagged (c.surplusEntries (c.tagged h))))

theorem failTransfer {seg reason : Nat} {acked : Option Nat} : P (s.failTransfer seg reason acked) := by
  unfold State.failTransfer
  split
  · exact h
  · cases acked with
    | some n => exact c.endTransfer (c.onSeg h)
    | none => exact c.endTransfer (c.same h (by rfl))

theorem exitMode {p : Nat} : P (s.exitMode p) := by
  unfold State.exitMode
  split
  · exact h
  · rename_i m _
    have hentry : P ((s.onPd p fun d => { d with mode := none, sbuClosed := false, sbuClosing := false }).pdEntry p true .pdMode
        (b8 0 ++ b16 m.svid ++ b8 m.mode ++ b8 (m.seg.getD 0xFF))) := c.entry (c.onPd h)
    dsimp only
    split
    · exact ite (c.failTransfer (c.same hentry (by rfl))) (c.same hentry (by rfl))
    · exact hentry

theorem flushAhead {n : Nat} : P (s.flushAhead n) := by
  unfold State.flushAhead
  exact c.tagged (foldl (c.same h (by rfl)) fun _ _ hu => c.surplusEntries (c.tagged hu))

theorem stopSegment {n : Nat} {st : Status} {e : Bool} : P (s.stopSegment n st e) := by
  unfold State.stopSegment
  have hstop : P ((s.seg n).transfers.foldl (fun s t => s.endTransfer n t st [] e) (s.cutInside.2.onSeg n fun g =>
      { g with running := none, queue := [], attention := false, stretched := false, recovery := .none, pulsesDone := 0
               recoverOp := none, midbyte := g.midbyte || (g.running.isSome && s.cutInside.1) })) :=
    foldl (c.same h (by rfl)) fun _ _ hu => c.endTransfer hu
  dsimp only
  split
  · exact c.completion hstop
  · exact hstop

theorem resetSegments {ns : List Nat} {e : Bool} : P (s.resetSegments ns e) := each h fun _ _ hu => c.stopSegment hu

/-! Ports and channels turned on (R186, R198, R226). -/

theorem closeP1 {p grant : Nat} : P (s.closeP1 p grant) := ite (c.entry (c.onPd h)) h

theorem issueP1 {p : Nat} : P (s.issueP1 p) := by
  unfold State.issueP1
  exact ite (c.closeP1 (c.entry (c.onPd h))) (c.entry (c.onPd h))

theorem negotiate {p : Nat} {p1 : Bool} : P (s.negotiate p p1) := by
  unfold State.negotiate
  exact ite (c.issueP1 (c.onPd (c.onPort h))) (c.onPd (c.onPort h))

theorem chanUp {ch cause : Nat} {e : Bool} : P (s.chanUp ch cause e) :=
  c.entry (when (c.onChan h) fun _ hu => c.onBus hu)

theorem powerPort {p cause : Nat} {e p1 : Bool} : P (s.powerPort p cause e p1) := c.negotiate (c.chanUp (c.onPort h))

theorem reserveAndPower {p cause : Nat} {e reclaim p1 : Bool} : P (s.reserveAndPower p cause e reclaim p1) := by
  unfold State.reserveAndPower
  split
  · rename_i ht
    exact c.powerPort (c.reserve h ht)
  · exact c.onPort h

theorem serveWaiting {p : Nat} : P (s.serveWaiting p) := by
  unfold State.serveWaiting
  split
  · split
    · rename_i ht
      exact c.powerPort (c.reserve h ht)
    · exact h
  · exact h

theorem serveClaim {p : Nat} : P (s.serveClaim p) := ite (c.callCaps (c.setGrant h)) h

theorem redistribute : P s.redistribute := each (each h fun _ _ hu => c.serveWaiting hu) fun _ _ hu => c.serveClaim hu

theorem redistributeSince {grant p : Nat} : P (s.redistributeSince grant p) := ite (c.redistribute h) h

/-! Ports and channels turned off (R188, R225). -/

theorem chanDown {ch cause : Nat} {e : Bool} : P (s.chanDown ch cause e) := ite (c.entry (c.onChan (c.onChan h))) h

theorem endPower {p : Nat} : P (s.endPower p) := c.onPort (c.exitMode h)

theorem portOff {p cause : Nat} {e : Bool} {st : Status} {byEvent : Bool} : P (s.portOff p cause e st byEvent) :=
  c.endOps (c.releaseGrant (c.endPower (c.chanDown (c.closeP1 h))))

theorem sbOffAll {st : Status} {byEvent : Bool} : P (s.sbOffAll st byEvent) :=
  each h fun _ _ hu => ite hu (ite (c.portOff hu) (c.chanDown hu))

theorem detach {p cause chanCause : Nat} {e : Bool} {st : Status} {byEvent : Bool} :
    P (s.detach p cause chanCause e st byEvent) := by
  unfold State.detach State.clearAttach
  exact c.same (c.onChan (c.onPort (c.portOff (c.entry (c.exitMode h))))) (by rfl)

theorem dropBus {p : Nat} {e : Bool} : P (s.dropBus p e) := c.endOpsOf (c.onBus h)

/-! The mode (R25, R157 to R161). -/

theorem modeTo {m : Mode} {reason : Nat} {e : Bool} : P (s.modeTo m reason e) := by
  unfold State.modeTo
  exact ite h (c.entry (c.same h (by rfl)))

theorem shedClasses {l : List Nat} : P (s.shedClasses l) :=
  c.redistribute (foldl h fun _ _ hu => each hu fun _ _ hv => c.same (c.onPort (c.portOff hv)) (by rfl))

theorem restoreShed : P s.restoreShed :=
  each (c.same h (by rfl)) fun _ _ hu =>
    ite (c.onPort hu) (ite (ite (c.onBus (c.onPort hu)) (c.onPort hu))
      (ite (c.onPort (c.onPort hu)) (c.reserveAndPower (c.onPort hu))))

theorem auxAuto : P s.auxAuto := each h fun _ _ hu => ite (ite (c.same hu (by rfl)) (c.chanUp hu)) hu

theorem entered {old : Mode} : P (s.entered old) := by
  unfold State.entered
  refine when (when (when (when h fun _ hu => ?_) fun _ hu => ?_) fun _ hu => ?_) fun _ hu => ?_
  · exact c.sbOffAll hu
  · exact c.shedClasses (c.same hu (by rfl))
  · exact c.restoreShed hu
  · exact c.auxAuto hu

theorem reselect {reason : Nat} {e : Bool} : P (s.reselect reason e) := by
  unfold State.reselect
  split
  iterate 5 exact h
  · exact ite (c.entered (c.modeTo h)) h
  · exact ite h (c.entered (c.modeTo h))

/-! Hard Resets and what a port sends (R189, R192, R196, R204). -/

theorem hardReset {p initiator code : Nat} {e : Bool} : P (s.hardReset p initiator code e) := by
  have hopened (u : State) (hu : P u) : P ((((u.exitMode p).endOpsOf (.port p) [.pdModeExit] .done e).onPort p fun q =>
    { q with vconn := false, pd := q.pd.startHardReset }).legsOpen p) := c.onChan (c.onPort (c.endOpsOf (c.exitMode hu)))
  have hentry : P (if initiator = 1 then (s.pdEntry p e .pdHardreset (b8 initiator ++ b16 code)).closeP1 p (s.nextGrant p)
      else (s.closeP1 p (s.nextGrant p)).pdEntry p e .pdHardreset (b8 initiator ++ b16 code)) :=
    ite (c.closeP1 (c.entry h)) (c.entry (c.closeP1 h))
  unfold State.hardReset
  exact c.redistributeSince (c.reserveAgain (ite (hopened _ hentry) (c.sends (hopened _ hentry))))

theorem sendSet {p : Nat} {l : List Pdo} {prov : Bool} : P (s.sendSet p l prov) := c.sends (c.onPd h)

theorem sendDue {p : Nat} : P (s.sendDue p) := by
  unfold State.sendDue
  dsimp only
  split
  · exact ite (c.sendSet h) (c.sendSet h)
  · exact ite (c.sendSet h) (c.onPd h)

theorem pdIdle {p : Nat} : P (s.pdIdle p) := by
  unfold State.pdIdle
  exact ite (c.sendDue (c.onPd h)) (c.onPd h)

/-! Exchanges of vendor-defined messages (R206, R209). -/

theorem exchangeOver {p : Nat} : P (s.exchangeOver p) := by
  unfold State.exchangeOver
  exact ite (c.sends (c.onPd (c.onPd h))) (ite (c.pdIdle (c.onPd h)) (c.onPd h))

theorem vdmOver {p : Nat} {st : Status} {e : Bool} : P (s.vdmOver p st e) := c.endOpsOf (c.exchangeOver h)

theorem modeNext {p svid pos seg : Nat} {e : Bool} : P (s.modeNext p svid pos seg e) := by
  have hask (step : Nat) : P ((s.onPd p fun d => { d with wait := .enter step svid pos seg }).sends p pdVdm) :=
    c.sends (c.onPd h)
  have hends : P (s.vdmOver p .fault e) := c.vdmOver h
  unfold State.modeNext
  refine ite (hask 1) ?_
  split
  · exact hask 2
  · refine ite hends ?_
    split
    · split
      · exact hends
      · exact ite hends (hask 4)
    · exact hask 3

end Steady

end Sys2Proof.Machine
end

section
/-! PROOF. What follows a message on a port appends entries and leaves the received messages as they are (R22). -/

namespace Sys2Proof.Machine

variable {b s t : State}

/-- From one state to a later one entries are appended; the received messages and their count of drops are as they were. -/
structure State.Talks (b t : State) : Prop where
  logs : ∃ l, Logs b t l
  inbox : t.led.q62 = b.led.q62
  drops : t.led.vdmDrops = b.led.vdmDrops

theorem State.Talks.refl (h : s.led.ring.length ≤ 4096) : s.Talks s := ⟨⟨[], Logs.nil s s rfl rfl h⟩, rfl, rfl⟩

theorem talks_steady (b : State) : Steady b.Talks where
  calm hc h := by
    refine ⟨?_, hc.inbox.trans h.inbox, hc.drops.trans h.drops⟩
    obtain ⟨l, hl⟩ := h.logs
    refine ⟨l, ?_⟩
    unfold Logs at hl ⊢
    rwa [hc.next, hc.ring]
  append e die block k n d h := by
    obtain ⟨l, hl⟩ := h.logs
    exact ⟨⟨_, hl.trans (append_logs _ e die block k n d)⟩, (append_led_q62 ..).trans h.inbox,
      (append_led_vdmDrops ..).trans h.drops⟩

namespace Steady

variable {P : State → Prop} (c : Steady P) (h : P s)
include c h

/-! Contracts, violations and the fallback (R195, R205, R212). -/

theorem contract {p : Nat} {x : Contract} : P (s.contract p x) := by
  unfold State.contract
  dsimp only
  have hentry : P (((s.pdEntry p true .pdContract (b8 x.rail ++ b8 x.pos ++ b16 x.op ++ b16 x.max ++ b16 x.power ++
      b8 (s.classOf p) ++ b8 (s.port p).cable5A.toNat)).onPd p fun d => d.contracted x s.led.next).onChan p
        fun y => { y with leg := some x.rail }) := c.onChan (c.onPd (c.entry h))
  refine c.redistributeSince (c.endOpsOf (ite ?_ (c.setGrant ?_))) <;>
    exact ite (ite (c.entry (c.onPd hentry)) (c.closeP1 hentry)) hentry

theorem implicitContract {p : Nat} : P (s.implicitContract p) := by
  unfold State.implicitContract
  exact c.onPd (c.exitMode (c.contract h))

theorem pdDetail {p code msg objs count fall : Nat} {m : BitVec 16} : P (s.pdDetail p code msg objs count fall m) := by
  unfold State.pdDetail State.portViolation
  exact c.onPd (c.onBus (c.entry h))

theorem enterFallback {p code : Nat} : P (s.enterFallback p code) := by
  unfold State.enterFallback
  exact ite (c.hardReset (c.closeP1 h)) (c.implicitContract (c.onChan (c.closeP1 h)))

theorem pdAnswer {p code answer : Nat} : P (s.pdAnswer p code answer) :=
  ite (c.hardReset h) (ite (c.same (c.onPd h) (by rfl)) (c.pdIdle (c.same h (by rfl))))

theorem pdViolation {p code msg objs answer : Nat} : P (s.pdViolation p code msg objs answer) := by
  unfold State.pdViolation
  exact ite (c.enterFallback (c.pdDetail (c.onPd h))) (c.pdAnswer (c.pdDetail (c.onPd h)))

/-! Exchanges of vendor-defined messages (R206, R209, R211). -/

theorem inExchange {p : Nat} {f : State → State} (hf : ∀ u, P u → P (f u)) : P (s.inExchange p f) := c.tagged (hf _ (c.tagged h))

theorem vdmFailed {p msg objs : Nat} : P (s.vdmFailed p msg objs) := by
  unfold State.vdmFailed
  refine ite ?_ (c.vdmOver ?_) <;> exact c.inExchange h fun _ hu => ite (c.exitMode (c.pdDetail hu)) (c.pdDetail hu)

theorem modeEntered {p svid pos seg : Nat} : P (s.modeEntered p svid pos seg) := by
  unfold State.modeEntered
  exact c.vdmOver (c.inExchange (ite (c.onPd h) (c.same (c.onPd h) (by rfl))) fun _ hu => c.entry hu)

theorem enterAnswered {p step svid pos seg : Nat} {ack : Bool} {rest : List Word} :
    P (s.enterAnswered p step svid pos seg ack rest) :=
  ite (c.vdmOver h) (ite (c.modeNext (c.onPd h)) (c.modeEntered h))

end Steady

/-- What follows an answer once it has its entry (R207, R209). -/
theorem Steady.vdmAnswered {P : State → Prop} (c : Steady P) {p sop : Nat} {objects : List Word}
    (h : P (s.inExchange p fun s => s.vdmEntry p sop objects true)) : P (s.vdmAnswered p sop objects) := by
  unfold State.vdmAnswered
  dsimp only
  split
  · exact c.vdmOver (when h fun _ hu => c.onPd hu)
  · exact c.enterAnswered h
  · exact ite (c.vdmOver (c.inExchange h fun _ hu => c.exitMode hu)) h
  · exact h

end Sys2Proof.Machine
end

section
/-! PROOF. Vendor-defined messages (R206, R207, R209, R212). -/

namespace Sys2Proof.Machine

variable {s u v : State} {p : Nat}

/-! The end of an exchange (R206). -/

/-- Nothing that waited for the exchange of an engine goes out when it ends. -/
structure Pd.Idle (d : Pd) : Prop where
  exitDue : d.exitDue = false
  ready : d.phase = .ready → d.readvertise = false ∧ d.owesCaps = false ∧ d.capsProvisional = false ∧ d.provCaps = none

theorem vdmOver_idle (hp : isPort p = true) (hi : (s.port p).pd.Idle) (hop : s.NoOp (.port p)) (st : Status) (e : Bool) :
    s.vdmOver p st e = s.onPd p fun d => { d with wait := .none } := by
  have hpd : ((s.onPd p fun d => { d with wait := .none }).port p).pd = { (s.port p).pd with wait := .none } := onPd_pd_self hp _
  have hover : s.exchangeOver p = s.onPd p fun d => { d with wait := .none } := by
    unfold State.exchangeOver
    dsimp only
    rw [hpd, if_neg (by simp [hi.exitDue])]
    split
    · rename_i hphase
      have hready : (s.port p).pd.phase = .ready := by simpa using hphase
      obtain ⟨hr, ho, hprov, hc⟩ := hi.ready hready
      rw [pdIdle_quiet hp (by rw [hpd]; exact hr) (by rw [hpd]; exact ho) (by rw [hpd]; exact hprov) (by rw [hpd]; exact hc),
        onPd_onPd]
      exact onPd_congr s p _ _ (by rw [hready])
    · rfl
  unfold State.vdmOver
  rw [hover, endOpsOf_none _ _ _ _ (NoOp_of hop (by simp))]

/-- With no operation pending an exchange has the tag of an event. -/
theorem inExchange_rest (hop : s.NoOp (.port p)) (htag : s.led.tag = 0xFFFF) (f : State → State) :
    s.inExchange p f = (f s).tagged 0xFFFF := by
  unfold State.inExchange State.vdmTag
  rw [opTag_none hop, tagged_self htag, htag]

/-- What an answer brings to an exchange, field by field (R209). -/
theorem Pd.answered_eq (d : Pd) (cmd svid : Nat) (l : List Word) :
    d.answered cmd svid l =
      { d with gotIdentity := if cmd = 1 then true else d.gotIdentity, svids := if cmd = 2 then some (svidsOf l) else d.svids
               modes := if cmd = 3 then (d.modes.filter fun x => x.1 != svid) ++ [(svid, l)] else d.modes } := by
  unfold Pd.answered
  split
  · rfl
  · rfl
  · rfl
  · rename_i h1 h2 h3
    rw [if_neg h1, if_neg h2, if_neg h3]

/-- An answer brings nothing that waits. -/
theorem Pd.Idle.answered {d : Pd} (h : d.Idle) (cmd svid : Nat) (l : List Word) : (d.answered cmd svid l).Idle := by
  rw [Pd.answered_eq]
  exact ⟨h.exitDue, h.ready⟩

/-- What an engine gains by the answer to its request, where that is an ACK (R209). -/
def Pd.gained (h : Word) (l : List Word) (d : Pd) : Pd :=
  if vdmType h = 1 then d.answered (vdmCmd h) (vdmSvid h) l else d

theorem Pd.Idle.gained {d : Pd} (hi : d.Idle) (h : Word) (l : List Word) : (d.gained h l).Idle := by
  unfold Pd.gained
  split
  · exact hi.answered ..
  · exact hi

theorem when_onPd (s : State) (c : Bool) (f : Pd → Pd) :
    (s.when c fun s => s.onPd p f) = s.onPd p fun d => if c = true then f d else d := by
  cases c with
  | true => rfl
  | false => exact (onPort_self _ _ _ rfl).symm

/-! Reception (R22, R207). -/

/-- A message of the partner in Q62. -/
def State.received (s : State) (p : Nat) (objects : List Word) (response : Bool) : State :=
  s.onLed fun led =>
    { led with q62 := led.q62 ++ [⟨led.q62Next, led.next, p, 0, !true, response, objects⟩], q62Next := (led.q62Next + 1) % 32 }

/-- `PD_VDM` of a structured message that is stored. -/
def State.vdmNote (s : State) (p : Nat) (h : Word) : Note :=
  noteOf s.led.tag true (combOf p) blkPd .pdVdm p
    (b8 0 ++ b8 (vdmCmd h) ++ b16 (vdmSvid h) ++ b8 (vdmPos h) ++ b8 0 ++ b8 s.led.q62Next)

section Stored
variable {h : Word} {l : List Word} (hfree : s.led.q62.length < 32) (hst : vdmStructured h = true)
include hfree hst

theorem vdmEntry_tells {response : Bool} (hcmd : vdmCmd h ≠ 6 ∨ response = true) :
    Tells (s.received p (h :: l) response) (s.vdmEntry p 0 (h :: l) response) [s.vdmNote p h] := by
  have hfull : decide (32 ≤ s.led.q62.length) = false := decide_eq_false (by omega)
  have hplain : (vdmStructured h && vdmCmd h == 6 && !response) = false := by
    rcases hcmd with hc | hr
    · simp [hc]
    · simp [hr]
  unfold State.vdmEntry
  dsimp only
  rw [hfull, hplain, hst]
  exact pdEntry_tells (s.received p (h :: l) response) ..

/-- A request of the partner under a contract is stored and answered NAK (R207). -/
theorem evVdmReceived_request (hl : l.length ≤ 6) (hlisten : s.listens p = true) (hex : (s.port p).pd.explicit = true)
    (htr : (s.port p).pd.inTransition = false) (ht : vdmType h = 0) (hc : vdmCmd h ≠ 6) :
    Tells ((s.received p (h :: l) false).answering (.pd p 11)) (s.evVdmReceived p 0 (h :: l)) [s.vdmNote p h] := by
  have hasked : s.evVdmReceived p 0 (h :: l) = (s.vdmEntry p 0 (h :: l) false).sends p pdVdmNak := by
    unfold State.evVdmReceived State.vdmAsked
    simp [hlisten, hex, htr, ht, hst, hc]
    omega
  rw [hasked]
  exact (vdmEntry_tells hfree hst (.inl hc)).answering _

/-- The answer that a request of the device waits for (R206, R209). -/
theorem evVdmReceived_answer (hp : isPort p = true) (hop : s.NoOp (.port p)) (htag : s.led.tag = 0xFFFF) (hl : l.length ≤ 6)
    (hlisten : s.listens p = true) (hex : (s.port p).pd.explicit = true) (htr : (s.port p).pd.inTransition = false)
    (ht : vdmType h ≠ 0) (hw : (s.port p).pd.wait = .request 0 (vdmCmd h) (vdmSvid h))
    (hi : (s.port p).pd.Idle) :
    Tells ((s.received p (h :: l) true).onPd p fun d =>
        { d.gained h l with wait := .none })
      (s.evVdmReceived p 0 (h :: l)) [s.vdmNote p h] := by
  have hv := vdmEntry_tells (p := p) (l := l) hfree hst (response := true) (.inr rfl)
  have hrun : s.evVdmReceived p 0 (h :: l) = s.vdmAnswered p 0 (h :: l) := by
    have hmatch : waitMatches (.request 0 (vdmCmd h) (vdmSvid h)) 0 h (s.port p).pd.mode = true := by simp [waitMatches]
    unfold State.evVdmReceived
    simp [hlisten, hex, htr, ht, hst, hw, hmatch]
    omega
  have hgained := hv.onPd p (Pd.gained h l)
  have hwhen : ((s.vdmEntry p 0 (h :: l) true).when (vdmType h == 1 && 0 == 0) fun s =>
      s.onPd p fun d => d.answered (vdmCmd h) (vdmSvid h) l) = (s.vdmEntry p 0 (h :: l) true).onPd p (Pd.gained h l) := by
    rw [when_onPd]
    exact onPd_congr _ _ _ _ (by simp [Pd.gained])
  have hidle : (((s.vdmEntry p 0 (h :: l) true).onPd p (Pd.gained h l)).port p).pd.Idle := by
    rw [onPd_pd_self hp, hv.port]
    exact hi.gained h l
  have hover := vdmOver_idle hp hidle (NoOp_of hop (hgained.ops.trans (by simp [State.received]))) .done true
  rw [hrun]
  unfold State.vdmAnswered
  rw [inExchange_rest hop htag, tagged_self (hv.tag.trans htag), hw]
  show Tells _ ((State.when _ (vdmType h == 1 && 0 == 0) fun s => s.onPd p fun d => d.answered (vdmCmd h) (vdmSvid h) l).vdmOver
    p .done true) _
  rw [hwhen, hover]
  have hall := hgained.onPd p fun d => { d with wait := .none }
  rw [onPd_onPd] at hall
  exact hall

/-- A message without a contract is a violation (R212). -/
theorem evVdmReceived_violates (hp : isPort p = true) (hl : l.length ≤ 6) (hlisten : s.listens p = true)
    (hex : (s.port p).pd.explicit = false) (htr : (s.port p).pd.inTransition = false) (hc : vdmCmd h ≠ 6)
    (hlimit : (s.inWindow p s.ember.ms).length + 1 < s.nat .pdViolLimit p) :
    Tells (((s.received p (h :: l) false).onPort p fun q =>
        { s.countedPort p 0x0202 q with pd := { (s.countedPort p 0x0202 q).pd with phase := .softReset } }).answering (.pd p 6))
      (s.evVdmReceived p 0 (h :: l))
      [s.vdmNote p h, noteOf s.led.tag true (combOf p) blkPd .violation p
        (b16 0x0202 ++ (b8 0x0F ++ b8 (l.length + 1) ++ b8 ((s.inWindow p s.ember.ms).length + 1) ++ b8 0 ++ b16 0))] := by
  have hv := vdmEntry_tells (p := p) (l := l) hfree hst (response := false) (.inl hc)
  have hms : (s.vdmEntry p 0 (h :: l) false).ember.ms = s.ember.ms := (congrArg (fun u => u.ember.ms) hv.2).trans rfl
  have hwindow (now : Nat) : (s.vdmEntry p 0 (h :: l) false).inWindow p now = s.inWindow p now := by
    unfold State.inWindow
    rw [hv.port, hv.nat]
    rfl
  have hcounted : (s.vdmEntry p 0 (h :: l) false).countedPort p 0x0202 = s.countedPort p 0x0202 := by
    funext q
    unfold State.countedPort
    rw [hms, hwindow]
  have hrun : s.evVdmReceived p 0 (h :: l) =
      (s.vdmEntry p 0 (h :: l) false).pdViolation p 0x0202 0x0F (l.length + 1) pdSoftReset := by
    unfold State.evVdmReceived
    simp [hlisten, hex]
    omega
  obtain ⟨t, ht, heq⟩ := pdViolation_below (s := s.vdmEntry p 0 (h :: l) false) (p := p)
    (by rw [hms, hwindow, hv.nat]; exact hlimit) 0x0202 0x0F (l.length + 1) pdSoftReset
  have htrans : (t.port p).pd.inTransition = false := by
    rw [ht.port, onPort_port_self _ _ _ hp, hv.port]
    exact htr
  have hanswer : t.pdAnswer p 0x0202 pdSoftReset = (t.onPd p fun d => { d with phase := .softReset }).sends p pdSoftReset := by
    unfold State.pdAnswer
    rw [htrans]
    rfl
  rw [hcounted, hms, hwindow, hv.tag] at ht
  have hall := (((hv.onPort p (s.countedPort p 0x0202)).trans ht).onPd p fun d => { d with phase := .softReset }).answering (.pd p 6)
  rw [State.onPd_eq, State.onPort_onPort] at hall
  rw [hrun, heq, hanswer]
  exact hall

end Stored

/-- No answer has come to a request of the device (R206). -/
theorem evVdmTimeout_request (hp : isPort p = true) (hop : s.NoOp (.port p)) (htag : s.led.tag = 0xFFFF)
    (hph : (s.port p).pd.phase ≠ .cableAsked) {sop cmd svid : Nat} (hw : (s.port p).pd.wait = .request sop cmd svid)
    (hi : (s.port p).pd.Idle) :
    let n := (s.inWindow p s.ember.ms).length
    Tells (s.onPort p fun q =>
        { q with bus := { q.bus with lastViolation := 0x0204, violations := q.bus.violations + 1 }
                 pd := { q.pd with violCount := n, wait := .none } }) (s.evVdmTimeout p)
      [noteOf 0xFFFF true (combOf p) blkPd .violation p (b16 0x0204 ++ (b8 0xFF ++ b8 0 ++ b8 n ++ b8 0 ++ b16 0))] := by
  intro n
  have hv : Tells (s.onPort p (Port.recorded 0x0204 n)) (s.pdUncounted p 0x0204 0xFF 0 0) _ :=
    pdDetail_tells s p 0x0204 0xFF 0 n 0 0
  have hidle : ((s.pdUncounted p 0x0204 0xFF 0 0).port p).pd.Idle := by
    rw [hv.port, onPort_port_self _ _ _ hp]
    exact ⟨hi.exitDue, hi.ready⟩
  have hwait : ((s.pdUncounted p 0x0204 0xFF 0 0).port p).pd.wait = .request sop cmd svid := by
    rw [hv.port, onPort_port_self _ _ _ hp]
    exact hw
  have hover := vdmOver_idle hp hidle (NoOp_of hop (hv.ops.trans (by simp))) .fault true
  have hin : (s.inExchange p fun s => s.pdUncounted p 0x0204 0xFF 0 0) = s.pdUncounted p 0x0204 0xFF 0 0 := by
    rw [inExchange_rest hop htag]
    exact tagged_self (hv.tag.trans (by simp [htag]))
  have hrun : s.evVdmTimeout p = s.vdmFailed p 0xFF 0 := by
    unfold State.evVdmTimeout
    simp [hph, hw]
  have hfailed : s.vdmFailed p 0xFF 0 = (s.pdUncounted p 0x0204 0xFF 0 0).vdmOver p .fault true := by
    unfold State.vdmFailed
    dsimp only
    rw [hw]
    have hexits : (VdmWait.request sop cmd svid == VdmWait.exit) = false := rfl
    simp only [hexits, Bool.false_eq_true, if_false]
    rw [hin, hwait]
    rfl
  have hall := hv.onPd p fun d => { d with wait := .none }
  rw [State.onPd_eq, State.onPort_onPort, htag] at hall
  rw [hrun, hfailed, hover]
  exact hall

/-! A full Q62 (R22). -/

/-- A message that Q62 has no room for. -/
def State.vdmDropped (s : State) (attention : Bool) : State :=
  s.onLed fun led => { led with vdmDrops := led.vdmDrops + 1, attentions := if attention then led.attentions + 1 else led.attentions }

/-- The data of its `PD_VDM`: d5 bit 0 says that it was dropped (Table 02-3). -/
def vdmDropData (sop : Nat) (h : Word) : List Byte :=
  let st := vdmStructured h
  b8 sop ++ b8 (if st then vdmCmd h else 0) ++ b16 (vdmSvid h) ++ b8 (if st then vdmPos h else 0) ++
    b8 (true.toNat + 2 * (!st).toNat) ++ b8 0xFF

theorem vdmDropData_flag (sop : Nat) (h : Word) : byteOf (vdmDropData sop h) 5 % 2 = 1 := by
  have hbyte : byteOf (vdmDropData sop h) 5 = (BitVec.ofNat 8 (true.toNat + 2 * (!vdmStructured h).toNat)).toNat := rfl
  rw [hbyte]
  cases vdmStructured h <;> rfl

theorem vdmEntry_full (hfull : 32 ≤ s.led.q62.length) (sop : Nat) (h : Word) (l : List Word) (response : Bool) :
    ∃ attention, Tells (s.vdmDropped attention) (s.vdmEntry p sop (h :: l) response)
      [noteOf s.led.tag true (combOf p) blkPd .pdVdm p (vdmDropData sop h)] := by
  have hfull' : decide (32 ≤ s.led.q62.length) = true := decide_eq_true hfull
  refine ⟨vdmStructured h && vdmCmd h == 6 && !response, ?_⟩
  have hentry : s.vdmEntry p sop (h :: l) response =
      (s.vdmDropped (vdmStructured h && vdmCmd h == 6 && !response)).pdEntry p true .pdVdm (vdmDropData sop h) := by
    unfold State.vdmEntry State.vdmDropped
    dsimp only
    rw [hfull']
    cases vdmStructured h && vdmCmd h == 6 && !response <;> rfl
  rw [hentry]
  exact pdEntry_tells ..

/-- While Q62 is full, what follows the entry of a message only appends entries. -/
theorem evVdmReceived_full (hop : s.NoOp (.port p)) (htag : s.led.tag = 0xFFFF) {sop : Nat} {h : Word} {l : List Word}
    (hsop : sop = 0 ∨ (s.port p).vconn = true) (hl : l.length ≤ 6) (hlisten : s.listens p = true)
    (hph : (s.port p).pd.phase ≠ .cableAsked) (hfull : 32 ≤ s.led.q62.length) :
    ∃ response, (s.vdmEntry p sop (h :: l) response).Talks (s.evVdmReceived p sop (h :: l)) := by
  have htalks (response : Bool) : (s.vdmEntry p sop (h :: l) response).Talks (s.vdmEntry p sop (h :: l) response) := by
    obtain ⟨_, hentry⟩ := vdmEntry_full (p := p) hfull sop h l response
    exact .refl hentry.1.bound
  have hin : (s.inExchange p fun s => s.vdmEntry p sop (h :: l) true) = s.vdmEntry p sop (h :: l) true := by
    obtain ⟨_, hentry⟩ := vdmEntry_full (p := p) hfull sop h l true
    rw [inExchange_rest hop htag, tagged_self (hentry.tag.trans htag)]
  unfold State.evVdmReceived
  dsimp only
  rw [if_neg (by rcases hsop with rfl | hv <;> simp [*] <;> omega), if_neg (by simp [hph])]
  have c := talks_steady (s.vdmEntry p sop (h :: l) false)
  split
  · exact ⟨false, c.pdViolation (htalks false)⟩
  · split
    · split
      · refine ⟨true, (talks_steady _).vdmAnswered ?_⟩
        rw [hin]
        exact htalks true
      · exact ⟨false, c.vdmFailed (htalks false)⟩
    · exact ⟨false, Steady.ite (c.same (htalks false) (by rfl)) (htalks false)⟩

/-- Settles O44: messages by the contract and the exchange that they meet. -/
theorem vendorMessages : Obligations.VendorMessages := by
  unfold Obligations.VendorMessages
  intro s p ho hp hears hop d idle heard
  have htag : s.led.tag = 0xFFFF := ho.rested.1
  have hwf {sop : Nat} (hsop : sop ≤ 2) (l : List Word) : (Instr.vdmReceived p sop l).wf = true := by
    show (isPort p && decide (sop ≤ 2)) = true
    simp [hp, hsop]
  refine ⟨fun h l hl hlisten hex htr hph hfree hst => ⟨fun ht hc => ?request, fun ht hw hi => ?answer⟩,
    fun h l hl hlisten hex htr hph hfree hst hc hlimit => ?violates, fun sop cmd svid hw hph hi => ?timeout,
    fun hw hi ok => ?done, fun sop h l hsop hv hl hlisten hph hfull => ?full⟩
  case request =>
    have hrun := evVdmReceived_request hfree hst hl hlisten hex htr ht hc
    unfold State.vdmNote at hrun
    rw [htag] at hrun
    exact does_of ho (hwf (Nat.zero_le 2) _) (heard_of rfl hears) rfl hrun
  case answer =>
    have hrun := evVdmReceived_answer hfree hst hp hop htag hl hlisten hex htr ht hw ⟨hi.1, hi.2⟩
    unfold State.vdmNote at hrun
    rw [htag] at hrun
    have hgained : (s.received p (h :: l) true).onPd p (fun d => { d.gained h l with wait := .none }) =
        (heard h l true true).onPd p fun d =>
          { d with wait := .none, gotIdentity := if vdmType h = 1 ∧ vdmCmd h = 1 then true else d.gotIdentity
                   svids := if vdmType h = 1 ∧ vdmCmd h = 2 then some (svidsOf l) else d.svids
                   modes := if vdmType h = 1 ∧ vdmCmd h = 3 then (d.modes.filter fun x => x.1 != vdmSvid h) ++ [(vdmSvid h, l)]
                     else d.modes } := by
      refine onPd_congr (s.received p (h :: l) true) p _ _ ?_
      unfold Pd.gained
      by_cases hack : vdmType h = 1
      · simp [hack, Pd.answered_eq]
      · simp [hack]
    rw [hgained] at hrun
    exact does_of ho (hwf (Nat.zero_le 2) _) (heard_of rfl hears) rfl hrun
  case violates =>
    have hrun := evVdmReceived_violates hfree hst hp hl hlisten hex htr hc hlimit
    unfold State.vdmNote at hrun
    rw [htag] at hrun
    exact does_of ho (hwf (Nat.zero_le 2) _) (heard_of rfl hears) rfl hrun
  case timeout => exact does_of ho hp (heard_of rfl hears) rfl (evVdmTimeout_request hp hop htag hph hw ⟨hi.1, hi.2⟩)
  case done =>
    have hrun : s.evVdmSendDone p ok = s.onPd p fun d => { d with wait := .none } := by
      unfold State.evVdmSendDone
      rw [if_pos (by simp [d] at hw; simp [hw]), vdmOver_idle hp ⟨hi.1, hi.2⟩ hop]
    exact does_of ho hp (heard_of rfl hears) rfl hrun
  case full =>
    obtain ⟨response, htalks⟩ := evVdmReceived_full hop htag (h := h) hv hl hlisten hph hfull
    obtain ⟨attention, hentry⟩ := vdmEntry_full (p := p) hfull sop h l response
    have hlogs : Logs s _ _ := hentry.1
    rw [htag] at hlogs
    have hbox : (s.vdmEntry p sop (h :: l) response).led.q62 = s.led.q62 := by
      rw [hentry.2]
      rfl
    have hdrops : (s.vdmEntry p sop (h :: l) response).led.vdmDrops = s.led.vdmDrops + 1 := by
      rw [hentry.2]
      rfl
    obtain ⟨rest, hrest⟩ := htalks.logs
    exact does_of ho (hwf hsop _) (heard_of rfl hears) rfl
      ⟨htalks.inbox.trans hbox, htalks.drops.trans hdrops, _, rest, vdmDropData_flag sop h, hlogs.trans hrest⟩

end Sys2Proof.Machine
end

section
/-! PROOF. Every effect of a command and of trigger-list work keeps a steady property (R38 to R40, R70 to R72). -/

namespace Sys2Proof.Machine

variable {s : State}

namespace Steady

variable {P : State → Prop} (c : Steady P) (h : P s)
include c h

/-! Commands on ports, channels and contracts (chapters 08 to 10). -/

theorem policyOff {p : Nat} {e : Bool} {st : Status} {byEvent : Bool} : P (s.policyOff p e st byEvent) := by
  unfold State.policyOff State.clearRetries
  exact c.onChan (c.portOff h)

theorem retry {ch : Nat} {e : Bool} : P (s.retry ch e) := by
  unfold State.retry
  exact ite (c.redistributeSince (c.negotiate (c.reserveAgain (c.chanUp (c.entry (c.onChan h))))))
    (c.chanUp (c.entry (c.onChan h)))

theorem railGone {rail how : Nat} {e : Bool} : P (s.railGone rail how e) := by
  have hchange : P (s.railChange rail how false e) := c.same (c.fault h) (by rfl)
  unfold State.railGone
  refine ite (each hchange fun _ _ hu => ?_) (each hchange fun _ _ hu => ?_)
  · exact ite (c.onPort (c.policyOff hu)) hu
  · exact ite (c.hardReset hu) hu

theorem doChanOn {ch : Nat} : P (s.doChanOn ch) := by
  unfold State.doChanOn
  refine ite h (ite (c.same h (by rfl)) (ite ?_ (c.chanUp h)))
  split
  · rename_i ht
    exact c.powerPort (c.reserve h ht)
  · exact h

theorem doChanOff {ch : Nat} : P (s.doChanOff ch) := by
  have hkept (v : State) (hv : P v) : P (((v.clearRetries ch).keepOff ch).redistribute) := by
    unfold State.clearRetries State.keepOff
    exact c.redistribute (c.same (c.onPort (c.onChan hv)) (by rfl))
  unfold State.doChanOff
  exact ite h (ite (c.same h (by rfl)) (ite (hkept _ (ite (c.portOff h) (c.endOps (c.releaseGrant h)))) (c.endOps (c.onChan (c.chanDown h)))))

theorem doClearTrip {ch : Nat} : P (s.doClearTrip ch) := by
  unfold State.doClearTrip
  split
  · exact c.onChan h
  · exact ite (c.redistribute (c.onChan (c.portOff h))) (c.onChan (c.chanDown h))
  · exact c.onChan h

theorem suspendPort {p i : Nat} {e : Bool} : P (s.suspendPort p i e) := c.entry (c.onBus h)
theorem resumePort {p i : Nat} {e : Bool} : P (s.resumePort p i e) := c.entry (c.onBus h)

theorem doPortSuspend {p : Nat} : P (s.doPortSuspend p) := by
  unfold State.doPortSuspend
  exact c.onBus (ite h (c.suspendPort h))

theorem doPortResume {p : Nat} : P (s.doPortResume p) := by
  unfold State.doPortResume
  exact c.onBus (ite (c.resumePort h) h)

theorem doPortEnable {p : Nat} : P (s.doPortEnable p) := by
  unfold State.doPortEnable
  split
  · exact h
  · exact c.entry (c.onBus h)

theorem doPortDisable {p : Nat} : P (s.doPortDisable p) := by
  have hends : P ((s.dropExchange p).endOps (.port p) .stale false) := c.endOps (c.onPd h)
  unfold State.doPortDisable
  dsimp only
  split
  · exact c.onBus (c.entry (c.onBus hends))
  · exact c.onBus (c.onBus hends)
  · exact c.onBus hends

theorem doRenegotiate {p : Nat} {allow : Bool} : P (s.doRenegotiate p allow) := by
  unfold State.doRenegotiate
  extract_lets before prov closed reserved called issued sent
  have hissued : P issued := ite (c.issueP1 (c.onPort (c.reserveForCaps (ite (c.closeP1 h) h))))
    (c.onPd (c.onPort (c.reserveForCaps (ite (c.closeP1 h) h))))
  have hsent : P sent := by
    unfold sent
    split
    · exact c.sendDue hissued
    · exact ite (c.sendDue hissued) hissued
    · exact ite (c.sendDue hissued) hissued
    · exact c.pdIdle hissued
    · exact hissued
  exact c.redistributeSince hsent

theorem doPdHardReset {p : Nat} : P (s.doPdHardReset p) := by
  unfold State.doPdHardReset
  exact ite (c.onPd h) (c.hardReset (c.onPd h))

theorem doModeExit {p : Nat} : P (s.doModeExit p) := by
  unfold State.doModeExit
  refine ite (c.onPd h) ?_
  dsimp only
  split
  · exact c.sends (c.onPd (c.onSeg h))
  · exact c.sends (c.onPd h)

/-! Commands on parameters (R31, R95, R267, R298). -/

theorem sendFrame {die : Nat} {x : TrafficClass} {p : Payload} : P (s.sendFrame die x p) := ite h (c.same h (by rfl))

theorem mirrored : P s.mirrored := each h fun _ _ hu => ite hu (c.same hu (by rfl))

theorem valueEffect {key : Nat} : P (s.valueEffect key) := by
  unfold State.valueEffect
  dsimp only
  split
  · exact ite (c.flushAhead (c.stopSegment h)) h
  · exact c.same (c.endOps h) (by rfl)
  · exact each h fun _ _ hu => ite (c.railGone hu) hu
  · exact h

theorem withValues {new : List (Nat × Word)} : P (s.withValues new) := each (c.same h (by rfl)) fun _ _ hu => c.valueEffect hu

theorem putValue {p : Param} {i : Nat} {v : Word} : P (s.putValue p i v) := by
  unfold State.putValue
  split <;> exact c.same h (by rfl)

theorem doParamSet {p : Param} {i : Nat} {v : Word} : P (s.doParamSet p i v) := by
  unfold State.doParamSet
  split
  · exact c.same h (by rfl)
  · exact ite (c.same h (by rfl)) h
  · exact ite (c.same h (by rfl)) h
  · unfold State.burnFuses
    split
    · exact c.same h (by rfl)
    · exact h
  · exact ite h (c.putValue h)

theorem doParamStage {p : Param} {i : Nat} {v : Word} : P (s.doParamStage p i v) := ite (c.same h (by rfl)) (ite h (c.same h (by rfl)))

/-! Resets of dies and of blocks (R95 to R98). -/

theorem endPortOps {die : Nat} {byEvent : Bool} : P (s.endPortOps die byEvent) := each h fun _ _ hu => c.endOps hu

theorem detachAll {die cause : Nat} {byEvent : Bool} : P (s.detachAll die cause byEvent) :=
  each h fun _ _ hu => ite (c.detach hu) hu

theorem testReset {die : Nat} {inMask : Nat → Bool} {byEvent : Bool} : P (s.testReset die inMask byEvent) :=
  ite (c.endOps (c.same h (by rfl))) h

theorem dieDown {die cause : Nat} {byEvent : Bool} : P (s.dieDown die cause byEvent) :=
  ite (c.testReset (c.resetSegments (c.endOps (c.onStore (c.sbOffAll h))))) (c.testReset (c.endPortOps (c.detachAll h)))

theorem beginL2 {die bit detail : Nat} {e : Bool} : P (s.beginL2 die bit detail e) := by
  unfold State.beginL2
  exact c.onDie (c.entry (c.onEmber h))

theorem resetDie {die bit detail : Nat} {e byEvent : Bool} : P (s.resetDie die bit detail e byEvent) :=
  c.reselect (c.redistribute (c.dieDown (c.beginL2 h)))

theorem blockEffect {die blk : Nat} {byEvent : Bool} : P (s.blockEffect die blk byEvent) := by
  have hops : P (if blk = blkUsb2 ∨ blk = blkUsb3 ∨ blk = blkPd then s.endPortOps die byEvent else s) := ite (c.endPortOps h) h
  unfold State.blockEffect
  refine ite (each hops fun _ _ hu => ?_) (ite (each hops fun _ _ hu => ?_) (ite (c.detachAll hops)
    (ite (each hops fun _ _ hu => ?_) (ite (c.endOps (c.same hops (by rfl))) (ite (c.resetSegments hops) hops)))))
  · exact ite (c.onBus hu) (c.dropBus (c.onBus hu))
  · exact ite (ite (c.onBus hu) (c.dropBus (c.onBus hu))) hu
  · exact ite hu (ite (c.portOff hu) (c.chanDown hu))

theorem resetBlocks {die mask : Nat} {tag : BitVec 16} {e byEvent : Bool} : P (s.resetBlocks die mask tag e byEvent) :=
  c.redistribute (c.testReset (foldl (c.onDie (c.entry (c.onEmber h))) fun _ _ hu => c.blockEffect hu))

theorem doBlockRst {v : Word} {tag : BitVec 16} {e : Bool} : P (s.doBlockRst v tag e) := by
  unfold State.doBlockRst
  exact ite (c.same h (by rfl)) (c.resetBlocks (c.same h (by rfl)))

/-! Agreement rounds (R119 to R122, R130, R135). -/

theorem openRound {trigger : Nat} {change : Change} {returning : List Nat} {op : Option PendingOp} :
    P (s.openRound trigger change returning op) := foldl (c.same h (by rfl)) fun _ _ hu => c.sendFrame hu

theorem quarantineActs {die : Nat} : P (s.quarantineActs die) := c.reselect (c.redistribute (c.dieDown (c.beginL2 h)))

theorem loadBlockRst {l : Loaded} : P (s.loadBlockRst l) := by
  unfold State.loadBlockRst
  split
  · exact c.doBlockRst h
  · exact h

theorem loadPolicy {l : Loaded} : P (s.loadPolicy l) := by
  unfold State.loadPolicy
  cases l.stretch with
  | none => exact c.loadBlockRst (c.mirrored (c.withValues (c.same h (by rfl))))
  | some v => exact c.loadBlockRst (c.mirrored (c.withValues (c.same h (by rfl))))

theorem applySet {l : Loaded} : P (s.applySet l) := by
  unfold State.applySet
  extract_lets chosen
  have hchosen : P chosen := c.same h (by rfl)
  exact c.endOps (c.loadPolicy (foldl (c.entry hchosen) fun _ _ hu => c.fault hu))

theorem revertSet {l : Loaded} : P (s.revertSet l) := by
  unfold State.revertSet
  extract_lets kept told
  have htold : P told := c.entry (c.same h (by rfl))
  exact ite htold (c.same htold (by rfl))

theorem commitSet : P s.commitSet := c.endOps (c.mirrored (c.withValues (c.same h (by rfl))))

theorem agreed {set : AgreementSet} {die : Nat} : P (s.agreed set die) := by
  unfold State.agreed
  exact when (c.onDie h) fun _ hu => c.same hu (by rfl)

theorem markBehind : P s.markBehind := by
  unfold State.markBehind
  exact ite (c.calm (s := s) ⟨rfl, rfl, rfl, rfl, rfl, rfl⟩ h) h

theorem changeOver {r : Round} : P (s.changeOver r) := by
  unfold State.changeOver
  split
  · refine c.openRound ?_
    split
    · exact c.revertSet h
    · exact c.same h (by rfl)
  · split
    · exact c.applySet h
    · exact c.commitSet h
    · exact ite (c.endOps h) h

theorem closeRound {r : Round} : P (s.closeRound r) := by
  unfold State.closeRound
  extract_lets told set out reset agreed returned ended
  have htold : P told := c.entry (c.markBehind (c.same h (by rfl)))
  have hreset : P reset := foldl (foldl htold fun _ _ hu => c.entry (c.onDie hu)) fun _ _ hu => c.quarantineActs hu
  have hended : P ended := c.changeOver (foldl (foldl hreset fun _ _ hu => c.agreed hu) fun _ _ hu => c.same hu (by rfl))
  exact ite (c.entered (c.modeTo hended)) (c.reselect hended)

theorem startRound {trigger : Nat} {change : Change} {returning : List Nat} : P (s.startRound trigger change returning) := by
  unfold State.startRound
  dsimp only
  split
  · exact ite (c.closeRound (c.openRound h)) (c.openRound h)
  · exact c.openRound h

/-! The other commands, and trigger-list work (R38 to R40, R70 to R72). -/

theorem retried {l : List Nat} : P (s.each l fun ch s => if (s.chan ch).retryWaits then s.retry ch false else s) :=
  each h fun _ _ hu => ite (c.retry hu) hu

theorem releasePads : P s.releasePads := by
  unfold State.releasePads
  refine ite h (c.retried (foldl (c.entry (c.same h (by rfl))) fun _ x hu => ?_))
  exact ite (ite (c.chanUp hu) hu) (c.onChan (c.chanDown hu))

theorem setLevel {n : Nat} : P (s.setLevel n) := by
  unfold State.setLevel
  exact ite h (c.entry (c.same h (by rfl)))

theorem doRecover {n : Nat} {op : PendingOp} : P (s.doRecover n op) := by
  unfold State.doRecover
  extract_lets old ts waits stale
  have hstale : P stale := foldl (c.onSeg h) fun _ _ hu => c.endTransfer hu
  cases old with
  | some o => exact c.completion hstale
  | none => exact hstale

theorem doData {bytes : List Byte} : P (s.doData bytes) := by
  unfold State.doData
  split
  · exact c.same h (by rfl)
  · exact h

theorem doCommitImage : P s.doCommitImage := by
  unfold State.doCommitImage
  split
  · exact ite (c.same h (by rfl)) (c.endOps (c.same h (by rfl)))
  · exact h

theorem doSet {x : Command} {e : Bool} : P (s.doSet x e) := by
  unfold State.doSet
  split
  · exact c.doBlockRst h
  · exact when (c.doParamSet h) fun _ hu => c.mirrored hu
  · exact h

theorem doCommit {discard : Bool} : P (s.doCommit discard) :=
  ite (c.same h (by rfl)) (ite h (ite (c.startRound h) (c.endOps (c.same h (by rfl)))))

theorem doTrigLoad {params : List Byte} : P (s.doTrigLoad params) := by
  unfold State.doTrigLoad
  split
  · exact c.same h (by rfl)
  · exact h

/-- Every command's effect, a LEDGER_MARK's given. -/
theorem effect {cl : Client} {x : Command} {op : PendingOp} (hmark : ∀ n, P (s.doMark n)) : P (s.effect cl x op) := by
  have hbegun : P { s with ops := s.ops ++ [op] } := c.same h (by rfl)
  unfold State.effect
  dsimp only
  split
  · exact ite (c.same h (by rfl)) (ite (c.resetDie (c.onDie hbegun)) (c.resetBlocks (c.onDie hbegun)))
  · exact ite (c.onStore h) (c.reselect (c.same h (by rfl)))
  · exact c.reselect (c.same h (by rfl))
  · exact c.doSet h
  · split
    · exact c.doParamStage h
    · exact h
  · exact ite (c.doCommit hbegun) (c.doCommit h)
  · exact c.doPortEnable h
  · exact c.doPortDisable h
  · exact c.onBus hbegun
  · exact c.doPortSuspend hbegun
  · exact c.doPortResume hbegun
  · exact c.doChanOn h
  · exact c.doChanOff h
  · exact c.doClearTrip h
  · exact c.doRenegotiate hbegun
  · exact c.doPdHardReset (c.same (c.endOps h) (by rfl))
  · exact c.sends (c.onPd hbegun)
  · exact c.modeNext hbegun
  · exact c.doModeExit hbegun
  · exact c.onSeg h
  · exact c.doRecover h
  · exact hmark _
  · exact c.same h (by rfl)
  · exact c.same h (by rfl)
  · exact c.setLevel h
  · exact c.releasePads h
  · exact c.same (s := s.endOps .session .stale false) (c.endOps h) (by rfl)
  · exact c.doData h
  · exact c.doCommitImage hbegun
  · exact c.startRound (c.same hbegun (by rfl))
  · exact c.same h (by rfl)
  · exact c.same hbegun (by rfl)
  · exact c.doTrigLoad h
  · exact c.same h (by rfl)
  · exact c.same h (by rfl)
  · exact h

theorem payload {x : Command} : P (s.payload x).2 := by
  unfold State.payload
  dsimp only
  split
  case h_4 =>
    split
    · exact c.same h (by rfl)
    · exact h
  all_goals exact c.same h (by rfl)

/-- A command taken, whatever comes of it. -/
theorem runCommand {cl : Client} {list : Nat} {x : Command} (hmark : ∀ u n, P u → P (u.doMark n)) :
    P (s.runCommand cl list x) := by
  unfold State.runCommand
  extract_lets tagged admitted answer
  have hadmitted : P admitted := ite (c.tagged h) (c.same (c.tagged h) (by rfl))
  have hanswer (u : State) (st : Status) (l : List Byte) (hu : P u) : P (answer u st l) := c.same hu (by rfl)
  cases admitted.refusal cl x with
  | some st => exact ite (hanswer _ _ _ hadmitted) (hanswer _ _ _ (c.entry (ite (c.same hadmitted (by rfl)) hadmitted)))
  | none =>
    refine ite (hanswer _ _ _ (c.payload hadmitted)) ?_
    have htaken : P (answer (admitted.applied cl list x (admitted.success x)) (admitted.success x) []) :=
      hanswer _ _ _ (c.entry hadmitted)
    have hordered : P ((answer (admitted.applied cl list x (admitted.success x)) (admitted.success x) []).ordered x) := by
      unfold State.ordered
      split
      · exact c.sendFrame htaken
      · exact htaken
    exact c.effect hordered fun n => hmark _ n hordered

theorem pushFires : P s.pushFires := c.calm (s := s) ⟨rfl, rfl, rfl, rfl, rfl, rfl⟩ h

theorem runTask {x : Task} (hmark : ∀ u n, P u → P (u.doMark n)) : P (s.runTask x) := by
  cases x with
  | fire depth f =>
    exact ite (c.fault (c.same (c.tagged h) (by rfl))) (c.entry (c.same (c.tagged h) (by rfl)))
  | packet depth list x => exact c.runCommand (c.same h (by rfl)) hmark

theorem runWork {n : Nat} (hmark : ∀ u n, P u → P (u.doMark n)) : P (s.runWork n) := by
  induction n generalizing s with
  | zero => exact h
  | succ n ih =>
    unfold State.runWork
    refine ite h ?_
    split
    · exact c.same h (by rfl)
    · exact ih (c.pushFires (c.runTask (c.same h (by rfl)) hmark))

theorem finish (hmark : ∀ u n, P u → P (u.doMark n)) : P s.finish :=
  ite (c.tagged (c.runWork (c.pushFires h) hmark)) (c.same (c.tagged (c.runWork (c.pushFires h) hmark)) (by rfl))

end Steady

end Sys2Proof.Machine
end

section
/-! PROOF. POR_ASSERT, and what no power leaves (R94). -/

namespace Sys2Proof.Machine

variable {s : State}

/-- No power, and these faults outstanding. -/
def State.Unpowered (faults : List OpenFault) (s : State) : Prop := s.phase = .unpowered ∧ s.led.openFaults = faults

theorem unpowered_steady (faults : List OpenFault) : Steady (State.Unpowered faults) where
  calm hc h := ⟨hc.phase.trans h.1, hc.faults.trans h.2⟩
  append _ _ _ _ _ _ h := ⟨(append_phase ..).trans h.1, (append_led_openFaults ..).trans h.2⟩

/-- Without power no input is taken. -/
theorem pump_unpowered (h : s.phase = .unpowered) (n : Nat) : s.pump n = s := by
  have hnone : s.takeOne = none := by
    unfold State.takeOne State.listening
    rw [h]
    rfl
  cases n with
  | zero => rfl
  | succ n =>
    unfold State.pump
    rw [hnone]

/-- Without power no fault is opened and none is cleared, whatever list work is left. -/
theorem settled_unpowered (h : s.phase = .unpowered) : s.settled.led.openFaults = s.led.openFaults := by
  have hfinish : State.Unpowered s.led.openFaults s.finish :=
    (unpowered_steady s.led.openFaults).finish ⟨h, rfl⟩ fun u n hu => ⟨hu.1, hu.2⟩
  unfold State.settled State.pumpAll
  rw [pump_unpowered hfinish.1]
  exact hfinish.2

/-- A POR_ASSERT acts at once. -/
theorem exec_porAssert (s : State) : exec .porAssert s = .next s.evPorAssert.settled := by
  show Host.Outcome.next (if Instr.porAssert.wf = true then s.evPorAssert.settled else s) = _
  rw [if_pos (show Instr.porAssert.wf = true from rfl)]

/-- Refutes O17: POR_ASSERT with `FAULT` 0x070C outstanding keeps it (log 109), so the ledger that it leaves is not the initial
one. -/
theorem not_coldStartsAndStartUp : ¬ Obligations.ColdStartsAndStartUp := by
  unfold Obligations.ColdStartsAndStartUp
  intro ⟨hall, _⟩
  obtain ⟨_, _, hassert, _⟩ := hall { State.reset with led := { Ledger.init with openFaults := [⟨0x070C, 0, 0⟩] } }
  obtain ⟨u, hexec, hphase, _, _, hled⟩ := hassert
  rw [exec_porAssert] at hexec
  injection hexec with hsettled
  have hfaults := congrArg (fun v : State => v.led.openFaults) hsettled
  dsimp only at hfaults
  rw [settled_unpowered rfl, settled_unpowered hphase, hled] at hfaults
  exact absurd hfaults (by decide)

end Sys2Proof.Machine
end
